-- ==== Sys2Proof/Word.lean ====
section
/-! DEFINITION. The word types of the JG-720 and its fixed-size tables. -/

namespace Sys2Proof

/-- One byte of host memory, of a staging bank or of a station link frame. -/
abbrev Byte := BitVec 8

/-- A 32-bit word: a register, a module word, an order key, a sequence number, the odometer. -/
abbrev Word := BitVec 32

/-- A host memory address. -/
abbrev Addr := BitVec 64

/-- A value of the line clock, in ticks of 10 µs (R185). -/
abbrev Clock := BitVec 32

/-- A table with a fixed number of entries. -/
abbrev Tbl (n : Nat) (α : Type) := Vector α n

/-- Entry `i` of a table. -/
def Tbl.at {n : Nat} {α : Type} (t : Tbl n α) (i : Fin n) : α := t[i.val]

/-- The table with entry `i` replaced. -/
def Tbl.put {n : Nat} {α : Type} (t : Tbl n α) (i : Fin n) (a : α) : Tbl n α := t.set i.val a

/-- The table with entry `i` changed by `f`. -/
def Tbl.change {n : Nat} {α : Type} (t : Tbl n α) (i : Fin n) (f : α → α) : Tbl n α :=
  Tbl.put t i (f (Tbl.at t i))

/-- The table with every entry equal to `a`. -/
def Tbl.all {n : Nat} {α : Type} (a : α) : Tbl n α := Vector.replicate n a

/-- `v` moved to the nearer end of the range `lo..hi` when it lies outside it (R183). -/
def clampNat (lo hi v : Nat) : Nat := max lo (min hi v)

/-- A count that saturates at `top` (Conventions: every count saturates). -/
def satAdd (top a b : Nat) : Nat := min top (a + b)

end Sys2Proof
end

