-- ==== Sys2Proof/Config.lean ====
section
/-! DEFINITION. The sizes and fixed times that the manual gives the part once and for all.
The manual leaves no value open after which the part goes on, so there is no free value here. -/

namespace Sys2Proof.Config

/-- Places of the incident FIFO (R196). -/
def incidentPlaces : Nat := 16
/-- Places of the nudge FIFO (R194). -/
def nudgePlaces : Nat := 16
/-- Entries of the transfer list (R120). -/
def transferPlaces : Nat := 4
/-- Entries of the belt queue (R123). -/
def beltPlaces : Nat := 16
/-- Entries of the pack queue (R140). -/
def packPlaces : Nat := 4
/-- Entries of the order table (R148). -/
def orderPlaces : Nat := 24
/-- Records of the incident list in host memory (R197). -/
def incidentRecords : Nat := 64
/-- The largest 32-bit count: ink totals, drop counters and doses saturate here (R15, R103). -/
def count32 : Nat := 4294967295
/-- The largest 16-bit count: an order's packed and overflow counts (R148). -/
def count16 : Nat := 65535
/-- The largest line count (R6). -/
def count8 : Nat := 255
/-- The largest level of the pretreatment tank, in µL (R57). -/
def tankMax : Nat := 10000000
/-- Line clock ticks in one millisecond: a tick is 10 µs (R185). -/
def ticksPerMs : Nat := 100
/-- Line clock ticks in one second. -/
def ticksPerSecond : Nat := 100000
/-- Line clock ticks in 0.1 ms (R50). -/
def ticksPerTenth : Nat := 10
/-- The pass guard and swath guard limit, 30 s (R49, R88), in ticks. -/
def guardLimit : Nat := 30 * ticksPerSecond
/-- The time added to a blank's dwell for the press guard (R61), in seconds. -/
def pressMargin : Nat := 10
/-- Bits sent on the station link in one line clock tick: 4 Mbit/s (R200). -/
def linkBitsPerTick : Nat := 40
/-- The time from a probe to the next, one second (R162), in ticks. -/
def probeGap : Nat := ticksPerSecond
/-- The divisor of the pulse computation, 16 × 255 (R47). -/
def pulseDivisor : Nat := 4080
/-- Dose ticks in one cure unit (R104). -/
def dosePerCU : Nat := 10000
/-- The travel beyond the dryer length and the exit tolerance at which a garment is overdue (R130). -/
def overdueMargin : Nat := 500000
/-- Bytes of one staging bank (R75). -/
def bankBytes : Nat := 65536
/-- Bytes of one data burst (R79). -/
def burstBytes : Nat := 256
/-- The value a CHAIN_FAULT carries when no user tag was read (R68). -/
def noUserTag : Nat := 16777216
/-- The most descriptors of a chain (R67). -/
def chainMax : Nat := 4096
/-- The most swaths of a chain (R67). -/
def swathMax : Nat := 64
/-- The format word of the header (R190). -/
def formatWord : Word := 0x00010720#32
/-- The debounce time before the first snapshot after a reset, in ms (R183). -/
def firstDebounceMs : Nat := 20

end Sys2Proof.Config
end

