-- ==== Sys2Proof/Syntax.lean ====
section
/-! DEFINITION. The commands of the JG-720: one constructor of `Instr` per row of the table of
operations and events, with the operands the rules give it, and the names its operands are made of. -/

namespace Sys2Proof

/-- The two directions of an input edge (R183, R186). -/
inductive Edge where
  | rising
  | falling
deriving DecidableEq, Repr

/-- The four capture inputs, in the numbering of CAPTURE_LOST (R186). -/
inductive CaptureInput where
  | indexHome
  | sprayRow
  | beltEntry
  | beltExit
deriving DecidableEq, Repr

/-- The two operator buttons (R187). -/
inductive Button where
  | loadGo
  | unloadGo
deriving DecidableEq, Repr

/-- The two print units: the white unit is unit 0 and the color unit unit 1 (Chapter 5). -/
inductive Printer where
  | white
  | color
deriving DecidableEq, Repr

/-- The 13 roles of the station link, in the order of the table of R155. -/
inductive Role where
  | indexDrive
  | sprayCarriage
  | press
  | whiteCarriage
  | flash
  | colorCarriage
  | zone1
  | zone2
  | zone3
  | zone4
  | beltDrive
  | loadScanner
  | packScanner
deriving DecidableEq, Repr

/-- The ten requesters of the station link, numbered 0 for CAROUSEL to 9 for LINE (R163, R164). -/
inductive Requester where
  | carousel
  | pretreat
  | press
  | white
  | flash
  | color
  | sampler
  | load
  | pack
  | line
deriving DecidableEq, Repr

/-- What waits out a retry gap: the transaction in a requester's place, or the second transfer of the
CONTINUE pair that holds the link (R159, R165). -/
inductive RetryPlace where
  | requester (r : Requester)
  | pair
deriving DecidableEq, Repr

/-- How a read of host memory ends: with an error, or with the bytes read, lowest address first (R83). -/
inductive ReadResult where
  | error
  | data (bytes : List Byte)
deriving DecidableEq, Repr

/-- How a write of host memory ends (R83). -/
inductive WriteResult where
  | error
  | ok
deriving DecidableEq, Repr

/-- The commands of the block: the rows of the table of operations and events, in its order. -/
inductive Instr where
  /-- Power-up (R199). -/
  | powerReset
  /-- An assertion of RESET_N (R199). -/
  | pinReset
  /-- A LINE_CTRL write with the soft reset bit (R189, R199). -/
  | softReset
  /-- The interrupt enable field of a LINE_CTRL write (R189, R198). -/
  | interruptEnable (enable : Bool)
  /-- The MEM clear bit of a LINE_CTRL write (R189). -/
  | memClear
  /-- A RUN request in a LINE_CTRL write (R174). -/
  | runRequest
  /-- A HOLD request in a LINE_CTRL write (R176). -/
  | holdRequest
  /-- An IDLE request in a LINE_CTRL write (R176). -/
  | idleRequest
  /-- A write of EXCH_BASE_HI (R190). -/
  | exchBaseHiWrite (value : Word)
  /-- A write of POST (R194). -/
  | postWrite (value : Word)
  /-- A write of SEQ_ACK (R198). -/
  | seqAckWrite (value : Word)
  /-- A write of EXCH_BASE_LO, or of an offset with no behaviour of its own (R188). -/
  | registerWrite (offset : Word) (value : Word)
  /-- The ESTOP input is asserted (R181, R182). -/
  | estopAssertion
  /-- The ESTOP input is deasserted (R182). -/
  | estopDeassertion
  /-- The release time of the ESTOP monitor passes (R182). -/
  | estopReleaseTimePasses
  /-- The input of a button changes to pressed or released (R187). -/
  | buttonInputChange (button : Button) (pressed : Bool)
  /-- The debounce time of a button unit passes (R187). -/
  | buttonDebounceTimePasses (button : Button)
  /-- A capture input changes in a direction (R186). -/
  | captureEdge (input : CaptureInput) (edge : Edge)
  /-- The carousel controller takes its INDEX_HOME capture (R34). -/
  | indexHomeEdge
  /-- The pretreat unit takes its SPRAY_ROW capture (R50). -/
  | sprayRowEdge
  /-- The dryer tracker takes its BELT_ENTRY capture (R122). -/
  | beltEntryEdge
  /-- The dryer tracker takes its BELT_EXIT capture (R131). -/
  | beltExitEdge
  /-- The input of an attention line changes (R166). -/
  | attentionLineChange (line : Fin 8) (high : Bool)
  /-- The link controller chooses the next thing to put on the link (R164). -/
  | linkChoice
  /-- A response frame ends the try on the link with ACCEPT (R158, R159). -/
  | tryAccept (frame : List Byte)
  /-- A response frame ends the try on the link with DECLINE (R158, R159). -/
  | tryDecline (frame : List Byte)
  /-- The try on the link ends in silence: no frame (the empty list) or a frame taken as silence (R158, R159). -/
  | trySilence (frame : List Byte)
  /-- A retry time passes (R159, R165). -/
  | retryTimeDue (place : RetryPlace)
  /-- The probe time of a role's module passes (R162). -/
  | probeDue (role : Role)
  /-- The decline hold time of an attention line passes (R167). -/
  | declineHoldPasses (line : Fin 8)
  /-- The index gate opens (R32). -/
  | indexStart
  /-- A home that was asked for starts (R37). -/
  | homeStart
  /-- The index timer expires (R34). -/
  | indexTimerExpiry
  /-- A waiting spray pass starts (R49). -/
  | passStart
  /-- The line clock reaches the open time of a valve channel (R51). -/
  | valveOpenTime (valve : Fin 8)
  /-- The line clock reaches the close time of a valve channel (R51). -/
  | valveCloseTime (valve : Fin 8)
  /-- The pass guard timer expires (R54). -/
  | passGuardExpiry
  /-- A waiting press cycle starts (R61). -/
  | pressCycleStart
  /-- The press guard timer expires (R62). -/
  | pressGuardExpiry
  /-- The fetch engine starts a fetch (R77). -/
  | fetchStart
  /-- A descriptor read completes (R78). -/
  | descriptorReadDone (result : ReadResult)
  /-- A data burst completes (R79). -/
  | dataBurstDone (result : ReadResult)
  /-- An arrived print begins (R87). -/
  | printBegin (unit : Printer)
  /-- A swath starts (R88). -/
  | swathStart (unit : Printer)
  /-- The starve limit passes (R89). -/
  | starveTimerExpiry (unit : Printer)
  /-- The last byte of a band leaves a channel's head lane (R91). -/
  | bandEmissionDone (channel : Fin 6)
  /-- The swath guard timer expires (R94). -/
  | swathGuardExpiry (unit : Printer)
  /-- A waiting flash exposure starts (R111). -/
  | exposureStart
  /-- A flash period tick (R113). -/
  | flashPeriodTick
  /-- The flash limit timer expires (R114). -/
  | flashLimitExpiry
  /-- A dryer period tick (R128). -/
  | dryerPeriodTick
  /-- The timeout of a garment's transfer entry expires (R121). -/
  | transferTimeout (garment : Fin 32)
  /-- The timeout of a garment's pack entry expires (R141). -/
  | packTimeout (garment : Fin 32)
  /-- The drain ends (R176). -/
  | drainEnd
  /-- The warm-up timer expires (R177). -/
  | warmupTimerExpiry
  /-- The snapshot read of a RUN request completes (R174). -/
  | snapshotReadDone (result : ReadResult)
  /-- The attach read completes (R190). -/
  | attachReadDone (result : ReadResult)
  /-- The attach write of the header's part-written fields completes (R191). -/
  | attachHeaderWriteDone (result : WriteResult)
  /-- The sweep timer expires (R193). -/
  | sweepTimerExpiry
  /-- The exchange interface serves a snapshot read, a nudge or the sweep (R194). -/
  | exchServe
  /-- The read of a slot's hand count and void request completes (R192). -/
  | handCountReadDone (result : ReadResult)
  /-- The read of a slot's posting fields completes (R192). -/
  | postingReadDone (result : ReadResult)
  /-- The catalog read made with a post completes (R2). -/
  | catalogReadDone (result : ReadResult)
  /-- A recovery read completes (R195). -/
  | recoveryReadDone (result : ReadResult)
  /-- A header refill read completes (R193). -/
  | refillReadDone (result : ReadResult)
  /-- The report writer starts a report (R196). -/
  | reportStart
  /-- The access of a report ends (R197). -/
  | reportWriteDone (result : WriteResult)
deriving DecidableEq, Repr

end Sys2Proof
end

