-- ==== Sys2Proof/WellFormed.lean ====
section
/-! DEFINITION. Which commands are well formed: a read of host memory that succeeds brings exactly the bytes
that were asked for, so each completion carries a fixed number of bytes (a data burst 8 to 256 of them, a multiple of 8). -/

namespace Sys2Proof

/-- A read result that carries exactly `n` bytes, or an error. -/
def ReadResult.hasLength (n : Nat) : ReadResult → Bool
  | .error => true
  | .data bytes => bytes.length == n

/-- A data burst carries 8 to 256 bytes, a multiple of 8 (R79). -/
def ReadResult.isBurst : ReadResult → Bool
  | .error => true
  | .data bytes => 8 ≤ bytes.length && bytes.length ≤ 256 && bytes.length % 8 == 0

/-- Bytes of a descriptor read (R66). -/
def descriptorBytes : Nat := 32
/-- Bytes of a look's first read: the hand count and the void request (R192). -/
def handCountBytes : Nat := 2
/-- Bytes of the posting fields, offsets 0x00 to 0xC7 (R192). -/
def postingBytes : Nat := 0xC8
/-- Bytes of a blank catalog entry (Chapter 11). -/
def catalogEntryBytes : Nat := 16
/-- Bytes of a recovery read, offsets 0x00 to 0xEF (R195). -/
def recoveryBytes : Nat := 0xF0
/-- Bytes of the header refill group, offsets 0x044 to 0x053 (R193). -/
def refillBytes : Nat := 16
/-- Bytes of the header config region, offsets 0x040 to 0x3FF (R190). -/
def headerConfigBytes : Nat := 960
/-- Bytes of a whole snapshot read: the header config region and, after it, the 64 catalog entries (R174). -/
def snapshotBytes : Nat := 960 + 64 * 16

/-- A command is well formed when a read result it carries has the length of the read. -/
def Instr.wf : Instr → Bool
  | .descriptorReadDone r => r.hasLength descriptorBytes
  | .dataBurstDone r => r.isBurst
  | .snapshotReadDone r => r.hasLength headerConfigBytes || r.hasLength catalogEntryBytes
  | .attachReadDone r => r.hasLength headerConfigBytes
  | .handCountReadDone r => r.hasLength handCountBytes
  | .postingReadDone r => r.hasLength postingBytes
  | .catalogReadDone r => r.hasLength catalogEntryBytes
  | .recoveryReadDone r => r.hasLength recoveryBytes
  | .refillReadDone r => r.hasLength refillBytes
  | .powerReset | .pinReset | .softReset | .interruptEnable _ | .memClear | .runRequest | .holdRequest
  | .idleRequest | .exchBaseHiWrite _ | .postWrite _ | .seqAckWrite _ | .registerWrite _ _ | .estopAssertion
  | .estopDeassertion | .estopReleaseTimePasses | .buttonInputChange _ _ | .buttonDebounceTimePasses _
  | .captureEdge _ _ | .indexHomeEdge | .sprayRowEdge | .beltEntryEdge | .beltExitEdge
  | .attentionLineChange _ _ | .linkChoice | .tryAccept _ | .tryDecline _ | .trySilence _ | .retryTimeDue _
  | .probeDue _ | .declineHoldPasses _ | .indexStart | .homeStart | .indexTimerExpiry | .passStart
  | .valveOpenTime _ | .valveCloseTime _ | .passGuardExpiry | .pressCycleStart | .pressGuardExpiry
  | .fetchStart | .printBegin _ | .swathStart _ | .starveTimerExpiry _ | .bandEmissionDone _
  | .swathGuardExpiry _ | .exposureStart | .flashPeriodTick | .flashLimitExpiry | .dryerPeriodTick
  | .transferTimeout _ | .packTimeout _ | .drainEnd | .warmupTimerExpiry | .attachHeaderWriteDone _
  | .sweepTimerExpiry | .exchServe | .reportStart | .reportWriteDone _ => true

end Sys2Proof
end

