-- ==== Sys2Proof/Decode.lean ====
section
/-! DEFINITION. The commands that host register writes spell. The table of operations and events gives no row any bits,
so no word spells a command; a host write of a register is decoded here into the commands it makes, in the order of R189. -/

namespace Sys2Proof

/-- The command that a word of the table's bits spells: the table gives no row any bits, so there is none. -/
def decodeTableWord (_nbits _w : Nat) : Option Instr := none

/-- The commands of a write to LINE_CTRL, in the order of R189: a soft reset alone, or the interrupt enable,
the MEM clear and the mode request. -/
def lineCtrlCommands (value : Word) : List Instr :=
  if value.getLsbD 31 then [.softReset]
  else
    [.interruptEnable (value.getLsbD 4)]
      ++ (if value.getLsbD 8 then [.memClear] else [])
      ++ (if value.extractLsb' 0 2 = 1#2 then [.runRequest]
          else if value.extractLsb' 0 2 = 2#2 then [.holdRequest]
          else if value.extractLsb' 0 2 = 3#2 then [.idleRequest]
          else [])

/-- The commands of a 32-bit host write at an offset of the register window: LINE_CTRL 0x00, LINE_STATUS 0x04,
EXCH_BASE_LO 0x08, EXCH_BASE_HI 0x0C, POST 0x10, SEQ_ACK 0x14 (R188; the order of the offsets is DEDUCED, log entry 6). -/
def registerWriteCommands (offset value : Word) : List Instr :=
  if offset = 0x00#32 then lineCtrlCommands value
  else if offset = 0x0C#32 then [.exchBaseHiWrite value]
  else if offset = 0x10#32 then [.postWrite value]
  else if offset = 0x14#32 then [.seqAckWrite value]
  else [.registerWrite offset value]

end Sys2Proof
end

