-- ==== Sys2Proof/Machine/State.lean ====
section
/-! DEFINITION. The state of the JG-720 as plain data: every register, table, queue, timer, flag and pin the manual
gives its sixteen blocks, the queue of waiting commands, the reasons a command can stop, and the state after reset. -/

namespace Sys2Proof.Machine

/-! ## Numberings -/

/-- The role number of R155: 0 for INDEX_DRIVE to 12 for PACK_SCANNER. -/
def roleNum : Role → Fin 13
  | .indexDrive => 0
  | .sprayCarriage => 1
  | .press => 2
  | .whiteCarriage => 3
  | .flash => 4
  | .colorCarriage => 5
  | .zone1 => 6
  | .zone2 => 7
  | .zone3 => 8
  | .zone4 => 9
  | .beltDrive => 10
  | .loadScanner => 11
  | .packScanner => 12

/-- The requester number of R164: 0 for CAROUSEL to 9 for LINE. -/
def requesterNum : Requester → Fin 10
  | .carousel => 0
  | .pretreat => 1
  | .press => 2
  | .white => 3
  | .flash => 4
  | .color => 5
  | .sampler => 6
  | .load => 7
  | .pack => 8
  | .line => 9

/-- White is unit 0, color unit 1. -/
def printerNum : Printer → Fin 2
  | .white => 0
  | .color => 1

/-- The numbers CAPTURE_LOST gives the capture inputs (R186). -/
def captureNum : CaptureInput → Fin 4
  | .indexHome => 0
  | .sprayRow => 1
  | .beltEntry => 2
  | .beltExit => 3

/-- The two button units. -/
def buttonNum : Button → Fin 2
  | .loadGo => 0
  | .unloadGo => 1

/-- A timer of the part: a start time and a limit in line clock ticks (R185). -/
structure Timer where
  start : Clock
  limit : Nat
deriving DecidableEq, Repr

/-! ## Pins, captures and buttons (Chapter 10) -/

/-- The levels of the input pins: ESTOP, the two buttons (pressed is set), the four capture inputs and the
eight attention lines (high is set). -/
structure Pins where
  estop : Bool
  buttons : Tbl 2 Bool
  captures : Tbl 4 Bool
  attention : Tbl 8 Bool
deriving DecidableEq, Repr

/-- The states of a button unit (R187). -/
inductive ButtonState where
  | settled
  | checking
  | lockout
deriving DecidableEq, Repr

/-- A button unit: its state, its settled level, and the timer of a check or a lockout (R187). -/
structure ButtonUnit where
  state : ButtonState
  level : Bool
  timer : Timer
deriving DecidableEq, Repr

/-! ## The line controller (Chapter 10) -/

/-- The line modes (R173). -/
inductive Mode where
  | idle
  | warming
  | run
  | hold
  | stopped
deriving DecidableEq, Repr

/-- The hold-cause set (R173). -/
structure Causes where
  host : Bool
  indexFault : Bool
  moduleLost : Bool
  warmupTimeout : Bool
  config : Bool
deriving DecidableEq, Repr

/-- The request in progress: absent, a RUN request whose snapshot read is in flight, or one pending on a home (R173). -/
inductive RunRequest where
  | absent
  | reading
  | pendingHome
deriving DecidableEq, Repr

/-- The ESTOP monitor (R182). -/
inductive Monitor where
  | asserted
  | releasing (timer : Timer)
  | clear
deriving DecidableEq, Repr

/-- The kinds of a transaction (Chapter 9, section 9.3). -/
inductive TxnKind where
  | putData
  | putCmd
  | getStatus
  | getData
deriving DecidableEq, Repr

/-- A transaction: the role, the kind and the word. `acted` is clear once the requester has said that it
will not act on the outcome (R159). -/
structure Txn where
  role : Role
  kind : TxnKind
  word : Word
  acted : Bool
deriving DecidableEq, Repr

/-- The line controller (R173). -/
structure LineCtl where
  mode : Mode
  causes : Causes
  warm : Bool
  drain : Bool
  request : RunRequest
  refused : Bool
  warmup : Option Timer
  commands : List Txn
  monitor : Monitor
deriving DecidableEq, Repr

/-! ## Snapshots and link settings (R156, R183, R184) -/

/-- A field map: a width 0..16 and a lowest bit position 0..31 (R169). -/
structure FieldMap where
  width : Nat
  pos : Nat
deriving DecidableEq, Repr

/-- The four field maps of a role (R169). -/
structure RoleMaps where
  ready : FieldMap
  done : FieldMap
  fault : FieldMap
  value : FieldMap
deriving DecidableEq, Repr

/-- The five tag field maps (R169). -/
structure TagMaps where
  kind : FieldMap
  blank : FieldMap
  serial : FieldMap
  slot : FieldMap
  bin : FieldMap
deriving DecidableEq, Repr

/-- An entry of the attention map: a role or none, and the asserted level (R166). -/
structure AttnMap where
  role : Option Role
  high : Bool
deriving DecidableEq, Repr

/-- The link settings (R156): a role's address is absent for 0 and 63..255. -/
structure LinkSettings where
  roles : Tbl 13 (Option Byte)
  attention : Tbl 8 AttnMap
  maps : Tbl 13 RoleMaps
  tags : TagMaps
  window : Nat
  gap : Nat
  retryLimit : Nat
deriving DecidableEq, Repr

/-- The pretreat parameters that a pass latches (R46). -/
structure SprayParams where
  base : Nat
  minPulse : Nat
  dwell : Nat
  delay : Nat
  floor : Nat
  flow : Nat
deriving DecidableEq, Repr

/-- The config snapshot (R183): every value already in its range. -/
structure ConfigSnap where
  sweepPeriod : Nat
  enables : Tbl 12 Bool
  warmupLimit : Nat
  debounce : Nat
  edges : Tbl 4 Edge
  indexTimeout : Nat
  starveLimit : Nat
  runSetpoints : Tbl 4 Nat
  standbySetpoints : Tbl 4 Nat
  flashSetpoint : Nat
  spray : SprayParams
  periodMs : Nat
  holdCount : Nat
  flashLimit : Nat
  flashBase : Nat
  flashCeiling : Nat
  dryerBase : Nat
  dryerCeiling : Nat
  beltSpeed : Nat
  readyTemp : Nat
  transferTimeout : Nat
  packTimeout : Nat
  zoneLengths : Tbl 4 Nat
  exitTolerance : Nat
  refeedLimit : Nat
  quotas : Tbl 6 Nat
  startMarks : Tbl 6 Nat
  link : LinkSettings
deriving DecidableEq, Repr

/-- A blank catalog entry of the catalog snapshot (R184). -/
structure CatalogEntry where
  inUse : Bool
  factor : Nat
  pressTemp : Nat
  dwell : Nat
  scorchTemp : Nat
deriving DecidableEq, Repr

/-! ## Order lines (Chapter 1) -/

/-- The line states (R5). -/
inductive LineState where
  | idle
  | refused
  | queued
  | active
  | closing
  | finished
  | failed
  | voided
deriving DecidableEq, Repr

/-- The reasons of a line state (R2, R5). -/
inductive Reason where
  | none
  | badLine
  | badBlank
  | badQuantity
  | badChainAddr
  | noPlanes
  | orderMismatch
  | dupLine
  | ordersFull
  | failLimit
  | void
  | lostAtReset
deriving DecidableEq, Repr

/-- A slot's snapshot: the posting fields as read at the take, corrected as R3 lays down (R4). -/
structure Snapshot where
  lineNo : Nat
  linesIn : Nat
  key : Word
  blank : Nat
  rush : Bool
  quantity : Nat
  failLimit : Nat
  factor : Option Nat
  cure : Nat
  scorch : Nat
  flash : Nat
  chains : Tbl 6 (Option Addr)
  coverage : Tbl 128 Nat
deriving DecidableEq, Repr

/-- An entry of the open-line table (R4). `bin` is the bin report field: 0 none, 1..12, 0xFF WAITING.
The take count is held here, once, for the line table and the exchange interface alike. -/
structure LineEntry where
  state : LineState
  reason : Reason
  bound : Nat
  finished : Nat
  failed : Nat
  ink : Tbl 6 Nat
  lastDose : Nat
  bin : Byte
  take : Byte
  snap : Option Snapshot
deriving DecidableEq, Repr

/-! ## Garments (Chapter 1) -/

inductive TagKind where
  | stock
  | order
deriving DecidableEq, Repr

/-- The place of a garment (R15). -/
inductive Place where
  | atLoad
  | onCarousel
  | inTransfer
  | onBelt
  | awaitingPack
deriving DecidableEq, Repr

/-- The condition of a garment (R15). -/
inductive Condition where
  | good
  | failed
  | stripped
  | voidPrinted
deriving DecidableEq, Repr

/-- The fault codes of Table 1-1. -/
inductive FaultCode where
  | pretreatCut
  | printStarved
  | printUnderrun
  | chainFault
  | gelShort
  | cutByStop
  | missingAtEntry
  | missingAtPack
  | undercured
  | scorched
  | unverified
deriving DecidableEq, Repr

/-- A step mark (R15). -/
inductive Mark where
  | pending
  | done
  | skipped
  | cut
deriving DecidableEq, Repr

/-- An unload destination (R15, R40). -/
inductive Destination where
  | dryer
  | reject
  | return
deriving DecidableEq, Repr

/-- An exit verdict (R15, R133). -/
inductive Verdict where
  | cured
  | undercured
deriving DecidableEq, Repr

/-- A garment record (R15). -/
structure Garment where
  serial : Nat
  tagKind : TagKind
  blank : Nat
  slot : Fin 128
  stamp : Byte
  platen : Option (Fin 12)
  place : Place
  cond : Condition
  fault : Option FaultCode
  pretreat : Mark
  press : Mark
  white : Mark
  flash : Mark
  color : Mark
  dest : Option Destination
  rowOverlap : Bool
  early : Bool
  overdue : Bool
  refeed : Bool
  unverified : Bool
  flashDose : Nat
  dryerDose : Nat
  peak : Nat
  verdict : Option Verdict
  refeeds : Nat
  ink : Tbl 6 Nat
  bindTime : Clock
  beltEntry : Option Clock
  beltExit : Option Clock
  entryOdo : Option Word
deriving DecidableEq, Repr

/-! ## The carousel (Chapter 2) -/

/-- The seven stations that release their platen (R29). -/
inductive Station where
  | load
  | pretreat
  | press
  | white
  | flash
  | color
  | unload
deriving DecidableEq, Repr

/-- The places of the release flags. -/
def stationNum : Station → Fin 7
  | .load => 0
  | .pretreat => 1
  | .press => 2
  | .white => 3
  | .flash => 4
  | .color => 5
  | .unload => 6

/-- An entry of the platen table (R27). -/
structure Platen where
  garment : Option (Fin 32)
  enabled : Bool
  pending : Option Bool
deriving DecidableEq, Repr

/-- What the carousel is doing: an index or a home, before its INDEX_HOME edge (MOVING) or after it (SETTLING) (R33). -/
inductive CarouselOp where
  | none
  | moving (home : Bool)
  | settling (home : Bool)
deriving DecidableEq, Repr

/-- The carousel controller (R26, R27, R29, R33, R37, R40). `homeAsked` is set while a home is asked for and not yet started. -/
structure Carousel where
  map : Tbl 12 (Fin 12)
  platens : Tbl 12 Platen
  released : Tbl 7 Bool
  homed : Bool
  op : CarouselOp
  timer : Option Timer
  homeAsked : Bool
  lamp : Option Destination
deriving DecidableEq, Repr

/-! ## Pretreat and press (Chapter 3) -/

/-- The garment and platen a station works on. -/
structure Job where
  garment : Fin 32
  platen : Fin 12
deriving DecidableEq, Repr

inductive PassState where
  | idle
  | waiting
  | spraying
  | finishing
deriving DecidableEq, Repr

/-- A valve compare channel (R51): `pulse` is the pulse time in 0.1 ms, `since` the clock at which the valve opened. -/
inductive Valve where
  | closed
  | armed (openAt closeAt : Clock) (pulse : Nat)
  | opened (since closeAt : Clock) (pulse : Nat)
deriving DecidableEq, Repr

inductive TankState where
  | ready
  | low
  | empty
deriving DecidableEq, Repr

/-- The pretreatment tank: level in µL, remainder in nL, and the values of the last refill read (R57, R59). -/
structure Tank where
  level : Nat
  rest : Nat
  state : TankState
  lowMark : Nat
  reserve : Nat
  generation : Option Word
deriving DecidableEq, Repr

/-- The pretreat unit (section 3.2). -/
structure Pretreat where
  state : PassState
  job : Option Job
  factor : Nat
  row : Nat
  latched : SprayParams
  guard : Option Timer
  valves : Tbl 8 Valve
  tank : Tank
deriving DecidableEq, Repr

inductive PressState where
  | idle
  | waiting
  | setpoint
  | command
  | pressing
deriving DecidableEq, Repr

/-- The press unit (section 3.4). -/
structure Press where
  state : PressState
  job : Option Job
  guard : Option Timer
deriving DecidableEq, Repr

/-! ## Band chains and staging (Chapter 4) -/

/-- A garment named by index and take stamp. -/
structure GarmentId where
  index : Fin 32
  stamp : Byte
deriving DecidableEq, Repr

/-- A plane start for a channel: the garment and its slot (R72). -/
structure PlaneStart where
  garment : GarmentId
  slot : Fin 128
deriving DecidableEq, Repr

inductive WalkerState where
  | idle
  | walking
  | cancelling
deriving DecidableEq, Repr

/-- A chain walker (R71). -/
structure Walker where
  state : WalkerState
  work : Option PlaneStart
  next : Addr
  read : Nat
  swaths : Nat
  bands : Nat
  stopSwath : Option Nat
  quota : Option Nat
  startMark : Option Nat
  pending : Option PlaneStart
deriving DecidableEq, Repr

inductive BankState where
  | free
  | filling
  | staged
  | emitting
deriving DecidableEq, Repr

/-- The band record of a bank (R75). -/
structure Band where
  garment : GarmentId
  swath : Nat
  band : Nat
  closes : Bool
  passes : Nat
  length : Nat
  drops : Nat
  tag : Nat
deriving DecidableEq, Repr

/-- A bank: its state, its owning channel, its band record, and a free request kept with it (R75, R76). -/
structure Bank where
  state : BankState
  owner : Option (Fin 6)
  band : Option Band
  freeAsked : Bool
deriving DecidableEq, Repr

/-- A place of a swath tally (R73). -/
structure TallyPlace where
  garment : GarmentId
  channels : List (Fin 6)
  count : Option Nat
deriving DecidableEq, Repr

/-- A band descriptor as read (R66). -/
structure Descriptor where
  dataAddr : Addr
  nextAddr : Addr
  length : Nat
  drops : Nat
  tag : Nat
  swathEnd : Bool
  chainEnd : Bool
  repass : Nat
deriving DecidableEq, Repr

/-- How far the fetch in flight has got: reading the descriptor, or burst `i` (from 1) of an accepted band (R78, R79). -/
inductive FetchPhase where
  | descriptor
  | data (desc : Descriptor) (burst : Nat)
deriving DecidableEq, Repr

/-- The fetch in flight: its channel, its bank, and whether it stops at the end of the access in progress (R80, R81). -/
structure Fetch where
  channel : Fin 6
  bank : Fin 8
  phase : FetchPhase
  stopping : Bool
deriving DecidableEq, Repr

/-- The band fetch engine and the bank pool, but for the banks' bytes (Chapter 4). -/
structure Engine where
  banks : Tbl 8 Bank
  walkers : Tbl 6 Walker
  staged : Tbl 6 (List (Fin 8))
  tallies : Tbl 2 (List TallyPlace)
  fetch : Option Fetch
deriving DecidableEq, Repr

/-- What an access of the host memory port is (R83). -/
inductive AccessKind where
  | report
  | headerWrite
  | handCount
  | posting
  | catalog
  | recovery
  | refill
  | snapshot
  | attach
  | descriptor
  | burst
deriving DecidableEq, Repr

/-- Bytes the part writes to host memory, from an address on. -/
structure HostWrite where
  addr : Addr
  bytes : List Byte
deriving DecidableEq, Repr

/-- An access of the host memory port: its address and length for a read, its writes for a write, and whether its outcome
is discarded (R83, R174, R190). -/
structure Access where
  kind : AccessKind
  discard : Bool
  addr : Addr
  length : Nat
  writes : List HostWrite
deriving DecidableEq, Repr

/-- The host memory port: the access in progress and the waiting accesses, oldest first (R83). `late` is the model's own: the kinds of
the accesses that a reset found in progress and whose outcomes are still to arrive and be discarded (R84; log entry 12). -/
structure Port where
  current : Option Access
  waiting : List Access
  late : List AccessKind
deriving DecidableEq, Repr

/-! ## Print units (Chapter 5) -/

inductive PrintState where
  | idle
  | arrived
  | waiting
  | command
  | printing
deriving DecidableEq, Repr

/-- The garment a print or flash unit works on (R85, R109). -/
structure PrintJob where
  garment : GarmentId
  platen : Fin 12
  slot : Fin 128
deriving DecidableEq, Repr

/-- A print unit (R85). `swath` and `pass` are 0 while absent. -/
structure PrintUnit where
  state : PrintState
  job : Option PrintJob
  active : List (Fin 6)
  swath : Nat
  passes : Nat
  pass : Nat
  graceful : Bool
  starve : Option Timer
  starveLimit : Nat
  guard : Option Timer
deriving DecidableEq, Repr

inductive LaneState where
  | off
  | emitting
  | passEnded
  | stopped
  | complete
deriving DecidableEq, Repr

/-- A channel's lane: its state, its swath drop sum, the bank it emits, and its last pass of the swath (R85, R91). -/
structure Lane where
  state : LaneState
  sum : Nat
  bank : Option (Fin 8)
  lastPass : Nat
deriving DecidableEq, Repr

/-! ## Heat (Chapters 6 and 7) -/

inductive SourceState where
  | fresh
  | held
  | stale
deriving DecidableEq, Repr

/-- A temperature source (R106). -/
structure Source where
  received : Option Nat
  lastGood : Option Nat
  age : Nat
  state : SourceState
deriving DecidableEq, Repr

inductive FlashState where
  | idle
  | waiting
  | heating
  | exposing
  | ending
deriving DecidableEq, Repr

/-- The flash unit (R109). -/
structure Flash where
  state : FlashState
  job : Option PrintJob
  need : Nat
  periodMs : Nat
  nextTick : Clock
  limit : Option Timer
  source : Source
  sampling : Bool
deriving DecidableEq, Repr

/-- An entry of the transfer list (R120) or of the pack queue (R140). -/
structure TimedEntry where
  garment : Fin 32
  entry : Clock
deriving DecidableEq, Repr

/-- An entry of the belt queue (R123): no garment makes it a phantom. `counted` says that it joined before the latest tick
or before ticking started, so that the next tick credits it (R128). -/
structure BeltEntry where
  garment : Option (Fin 32)
  entry : Clock
  odo : Word
  beyond : Bool
  overdue : Bool
  counted : Bool
deriving DecidableEq, Repr

/-- The dryer tracker and its sampler (Chapter 7). -/
structure Dryer where
  transfer : List TimedEntry
  belt : List BeltEntry
  odometer : Word
  running : Bool
  zones : Tbl 4 Source
  ready : Tbl 4 Nat
  ticking : Bool
  periodMs : Option Nat
  nextTick : Clock
  reads : List Role
deriving DecidableEq, Repr

/-! ## Packing (Chapter 8) -/

inductive OrderBin where
  | none
  | bin (b : Fin 12)
  | waiting
deriving DecidableEq, Repr

/-- An item of an order's slot list (R148). -/
structure OrderItem where
  slot : Fin 128
  take : Byte
  lineNo : Nat
  final : Bool
deriving DecidableEq, Repr

/-- An entry of the order table (R148). Lines final is the number of final items (R149). -/
structure Order where
  key : Word
  expected : Nat
  items : List OrderItem
  bin : OrderBin
  packed : Nat
  overflow : Nat
  ready : Bool
deriving DecidableEq, Repr

/-- The pack unit (Chapter 8): bin b of 1..12 is entry b − 1 of `bins`. -/
structure Pack where
  queue : List TimedEntry
  orders : List Order
  bins : Tbl 12 (Option Word)
  waiting : List Word
deriving DecidableEq, Repr

/-! ## The station link (Chapter 9) -/

inductive ModuleState where
  | unknown
  | present
  | lost
deriving DecidableEq, Repr

/-- An entry of the module table (R157). `probeReady` says that the probe time has passed. -/
structure ModuleEntry where
  state : ModuleState
  silences : Nat
  probe : Option Clock
  probeReady : Bool
deriving DecidableEq, Repr

inductive PlaceState where
  | queued
  | retryGap (due : Clock)
  | onLink
deriving DecidableEq, Repr

/-- A transaction in a requester's place: its rank time, the tries so far, and whether it was withdrawn on the link (R163). -/
structure Queued where
  txn : Txn
  rank : Clock
  tries : Nat
  state : PlaceState
  withdrawn : Bool
deriving DecidableEq, Repr

/-- A requester's place, and the transactions the requester keeps to hand in when the place empties (R14, R147, R163). -/
structure LinkPlace where
  now : Option Queued
  kept : List Txn
deriving DecidableEq, Repr

/-- What a try on the link serves. -/
inductive Carrier where
  | requester (r : Requester)
  | probe
  | attention
deriving DecidableEq, Repr

/-- The try on the link: its carrier, the request it puts on the link, and the settings it began with (R156, R158). -/
structure OnLink where
  carrier : Carrier
  role : Role
  addr : Byte
  kind : TxnKind
  continued : Bool
  word : Word
  settings : LinkSettings
deriving DecidableEq, Repr

/-- The attention service in progress (R167, R168). For a scanner's CONTINUE pair: `status` is the first transfer's word,
`tries` the tries of the second transfer, `retryAt` its retry time while it waits out a gap with the link held. -/
structure Service where
  line : Fin 8
  role : Role
  addr : Byte
  settings : LinkSettings
  status : Option Word
  tries : Nat
  retryAt : Option Clock
deriving DecidableEq, Repr

/-- What the controller keeps for an attention line (R166). -/
structure AttnLine where
  hold : Option Clock
  served : Bool
deriving DecidableEq, Repr

/-- The station link controller (Chapter 9). -/
structure Link where
  settings : Option LinkSettings
  modules : Tbl 13 ModuleEntry
  places : Tbl 10 LinkPlace
  onLink : Option OnLink
  service : Option Service
  attention : Tbl 8 AttnLine
deriving DecidableEq, Repr

/-! ## The exchange interface (Chapter 11) -/

inductive AttachState where
  | none
  | reading
  | attached
  | badFormat
deriving DecidableEq, Repr

inductive ResetCause where
  | power
  | pin
  | soft
deriving DecidableEq, Repr

/-- What the exchange interface is doing: a look at a slot (for the sweep or for a nudge, with the posting fields once read),
a refill read (for the sweep or for a nudge), or a snapshot read with the bytes its accesses have brought so far and whether its
result is to be discarded (R174, R192, R193, R194). -/
inductive Activity where
  | look (slot : Fin 128) (ofSweep : Bool) (posting : List Byte)
  | refill (ofSweep : Bool)
  | snapshot (got : List Byte) (dropped : Bool)
deriving DecidableEq, Repr

/-- The exchange interface but for the report writer (R188, R190 to R195). `sweep` is the next thing a sweep in progress does:
0 the refill read, k + 1 the look at slot k. -/
structure Exch where
  attach : AttachState
  base : Option Addr
  baseLo : Word
  baseHi : Word
  seqAck : Word
  intEnable : Bool
  mem : Bool
  cause : ResetCause
  recovery : Tbl 128 Bool
  faults : Tbl 128 Bool
  headerFault : Bool
  nudges : List Byte
  nudgeDrop : Bool
  sweep : Option Nat
  sweepAgain : Bool
  sweepTimer : Option Timer
  activity : Option Activity
  snapWanted : Bool
deriving DecidableEq, Repr

/-- The kinds of incident, in the order of their codes 1..48 (section 11.7). -/
inductive IncidentKind where
  | slotOpen | lineNotReady | tagMismatch | platenDisabled | platenOccupied | withdrawn | duplicateTag | tableFull
  | noOrder | bound | garmentFailed | garmentStripped | indexFault | carouselHomed | passCut | tankLow
  | tankEmpty | tankRefilled | pressSkipped | chainFault | printCut | flashSkipped | flashCut | strayEntry
  | beltFull | zoneStale | zoneFresh | overdue | strayExit | earlyPick | packMissing | stray
  | packed | orderReopened | orderReady | orderFailed | binCleared | binOpen | binFree | moveOverflow
  | moduleLost | moduleBack | lineMode | runRefused | lineCmdFailed | captureLost | memFault | nudgeDropped
deriving DecidableEq, Repr

/-- An incident as it is raised (R196): the slot, garment and place are absent when it does not carry them. -/
structure Incident where
  kind : IncidentKind
  slot : Option (Fin 128)
  garment : Option (Fin 32)
  place : Option Place
  serial : Nat
  detail : Nat
  key : Word
  value : Nat
  time : Clock
deriving DecidableEq, Repr

/-- The report in progress (R196). -/
inductive ReportJob where
  | incident
  | slot (s : Fin 128)
deriving DecidableEq, Repr

/-- The report writer (R196, R197). `headerWriting` is set while the attach write of the header is under way (R191). -/
structure Reports where
  dirty : Tbl 128 Bool
  fifo : List Incident
  drop : Bool
  last : Fin 128
  job : Option ReportJob
  headerWriting : Bool
  chipSeq : Word
  next : Nat
deriving DecidableEq, Repr

/-! ## The whole state -/

/-- An addressed memory as a list of cells in one canonical form: addresses strictly rising, and no cell equal to what an
unlisted address reads as (`Memory.wf` in Machine/Ops.lean). -/
abbrev Memory := List Host.Cell

/-- The state of the JG-720. `pending` is the model's own queue of waiting commands, oldest first. `staging` holds the bytes
of the eight staging banks: bank b's byte at offset o has address 65,536 × b + o. -/
structure State where
  pending : List Instr
  clock : Clock
  pins : Pins
  captures : Tbl 4 (Option Clock)
  buttons : Tbl 2 ButtonUnit
  ctl : LineCtl
  config : ConfigSnap
  catalog : Option (Tbl 64 CatalogEntry)
  lines : Tbl 128 LineEntry
  accepted : List (Fin 128)
  garments : Tbl 32 (Option Garment)
  carousel : Carousel
  pretreat : Pretreat
  press : Press
  engine : Engine
  staging : Memory
  port : Port
  prints : Tbl 2 PrintUnit
  lanes : Tbl 6 Lane
  flash : Flash
  dryer : Dryer
  pack : Pack
  link : Link
  exch : Exch
  reports : Reports
deriving DecidableEq, Repr

/-- Why the machine stops with a fault. -/
inductive Fault where
  /-- Raised by the completion of a host memory read that brings another number of bytes than was asked for: the manual knows no
  such completion (R83), so the command is not one the part can meet. Safe: the model stops. -/
  | readLength
deriving DecidableEq, Repr

/-- Why a command has no meaning. -/
inductive Refusal where
  /-- Raised by `exec` for a command of the table that has no meaning yet; no arm raises it now. Safe: the model stops. -/
  | notModelled (mnemonic : String)
deriving DecidableEq, Repr

/-! ## Reset values -/

/-- A field map that gives 0. -/
def noMap : FieldMap := { width := 0, pos := 0 }

/-- The link settings of the config snapshot before the first snapshot: every role absent, every value at the low end of its range
(DESIGN CHOICE, log entry 1). -/
def LinkSettings.blank : LinkSettings :=
  { roles := Tbl.all none
    attention := Tbl.all { role := none, high := false }
    maps := Tbl.all { ready := noMap, done := noMap, fault := noMap, value := noMap }
    tags := { kind := noMap, blank := noMap, serial := noMap, slot := noMap, bin := noMap }
    window := 20
    gap := 1
    retryLimit := 0 }

/-- The spray parameters before the first snapshot: the low end of each range (DESIGN CHOICE, log entry 1). -/
def SprayParams.blank : SprayParams :=
  { base := 10, minPulse := 5, dwell := 20, delay := 0, floor := 0, flow := 1 }

/-- The config snapshot before the first snapshot after a reset: debounce 20 ms and every capture edge RISING (R183), and every other
value at the low end of its range (DESIGN CHOICE, log entry 1). -/
def ConfigSnap.blank : ConfigSnap :=
  { sweepPeriod := 5
    enables := Tbl.all false
    warmupLimit := 60
    debounce := Config.firstDebounceMs
    edges := Tbl.all .rising
    indexTimeout := 500
    starveLimit := 100
    runSetpoints := Tbl.all 0
    standbySetpoints := Tbl.all 0
    flashSetpoint := 0
    spray := SprayParams.blank
    periodMs := 125
    holdCount := 0
    flashLimit := 1
    flashBase := 0
    flashCeiling := 10
    dryerBase := 0
    dryerCeiling := 10
    beltSpeed := 1
    readyTemp := 0
    transferTimeout := 10
    packTimeout := 10
    zoneLengths := Tbl.all 0
    exitTolerance := 0
    refeedLimit := 0
    quotas := Tbl.all 1
    startMarks := Tbl.all 1
    link := LinkSettings.blank }

/-- No hold cause. -/
def Causes.empty : Causes :=
  { host := false, indexFault := false, moduleLost := false, warmupTimeout := false, config := false }

/-- An entry of the open-line table after a reset (R4). -/
def LineEntry.blank : LineEntry :=
  { state := .idle, reason := .none, bound := 0, finished := 0, failed := 0, ink := Tbl.all 0, lastDose := 0
    bin := 0, take := 0, snap := none }

/-- A temperature source as it starts (R108). -/
def Source.empty : Source := { received := none, lastGood := none, age := 0, state := .stale }

/-- The line controller after a reset with ESTOP deasserted (R173, R182). -/
def LineCtl.reset : LineCtl :=
  { mode := .idle, causes := Causes.empty, warm := false, drain := false, request := .absent, refused := false
    warmup := none, commands := [], monitor := .clear }

/-- The carousel controller after a reset (R45). -/
def Carousel.reset : Carousel :=
  { map := Vector.ofFn id
    platens := Tbl.all { garment := none, enabled := true, pending := none }
    released := Tbl.all false
    homed := false
    op := .none
    timer := none
    homeAsked := false
    lamp := none }

/-- The pretreat unit after a reset (R65). -/
def Pretreat.reset : Pretreat :=
  { state := .idle, job := none, factor := 0, row := 0, latched := SprayParams.blank, guard := none
    valves := Tbl.all .closed
    tank := { level := 0, rest := 0, state := .empty, lowMark := 0, reserve := 0, generation := none } }

/-- The press unit after a reset (R65). -/
def Press.reset : Press := { state := .idle, job := none, guard := none }

/-- A walker after a reset (R71). The next descriptor address of an IDLE walker, to which R71 and R84 give no value, is 0 (DESIGN CHOICE,
log entry 37). -/
def Walker.reset : Walker :=
  { state := .idle, work := none, next := 0, read := 0, swaths := 0, bands := 0, stopSwath := none
    quota := none, startMark := none, pending := none }

/-- A FREE bank (R75). -/
def Bank.freed : Bank := { state := .free, owner := none, band := none, freeAsked := false }

/-- The fetch engine after a reset (R84). -/
def Engine.reset : Engine :=
  { banks := Tbl.all Bank.freed, walkers := Tbl.all Walker.reset, staged := Tbl.all [], tallies := Tbl.all [], fetch := none }

/-- The host memory port after a reset (R84). -/
def Port.reset : Port := { current := none, waiting := [], late := [] }

/-- A print unit after a reset (R101): k and the pass number absent, held as 0. The swath's passes and the starve limit, to which R85, R87
and R101 give no value here, are 0 (DESIGN CHOICE, log entry 37). -/
def PrintUnit.reset : PrintUnit :=
  { state := .idle, job := none, active := [], swath := 0, passes := 0, pass := 0, graceful := false
    starve := none, starveLimit := 0, guard := none }

/-- A lane that is OFF (R101). Its last pass, to which R101 gives no value, is 0 (DESIGN CHOICE, log entry 37). A lane that turns OFF after
a swath or by a cut holds it too: its drop sum, which R88 and R101 set to 0 at a swath start and a reset only, is 0 at once (DESIGN CHOICE,
log entry 37). -/
def Lane.off : Lane := { state := .off, sum := 0, bank := none, lastPass := 0 }

/-- The flash unit after a reset (R118). The requirement, the latched period and the next tick time, which R118 does not give, are 0
(DESIGN CHOICE, log entry 37). -/
def Flash.reset : Flash :=
  { state := .idle, job := none, need := 0, periodMs := 0, nextTick := 0, limit := none, source := Source.empty
    sampling := false }

/-- The dryer tracker after a reset (R138). The time of the next tick, which there is none of while ticking is off, is held as 0 (DESIGN
CHOICE, log entry 37). -/
def Dryer.reset : Dryer :=
  { transfer := [], belt := [], odometer := 0, running := false, zones := Tbl.all Source.empty, ready := Tbl.all 0
    ticking := false, periodMs := none, nextTick := 0, reads := [] }

/-- The pack unit after a reset (R154). -/
def Pack.reset : Pack := { queue := [], orders := [], bins := Tbl.all none, waiting := [] }

/-- A module table entry after a reset (R157). -/
def ModuleEntry.reset : ModuleEntry := { state := .unknown, silences := 0, probe := none, probeReady := false }

/-- The station link controller after a reset (R172). -/
def Link.reset : Link :=
  { settings := none, modules := Tbl.all ModuleEntry.reset, places := Tbl.all { now := none, kept := [] }
    onLink := none, service := none, attention := Tbl.all { hold := none, served := false } }

/-- The exchange interface after a power reset (R199). -/
def Exch.reset : Exch :=
  { attach := .none, base := none, baseLo := 0, baseHi := 0, seqAck := 0, intEnable := false, mem := false
    cause := .power, recovery := Tbl.all true, faults := Tbl.all false, headerFault := false, nudges := []
    nudgeDrop := false, sweep := none, sweepAgain := false, sweepTimer := none, activity := none
    snapWanted := false }

/-- The report writer after a reset (R196, R199). -/
def Reports.reset : Reports :=
  { dirty := Tbl.all false, fifo := [], drop := false, last := 127, job := none, headerWriting := false
    chipSeq := 0, next := 0 }

/-- A button unit after a reset that finds its input at `level` (R187). The timer, to which R187 gives no value while no check or
lockout runs, is 0 (DESIGN CHOICE, log entry 37). -/
def ButtonUnit.reset (level : Bool) : ButtonUnit :=
  { state := .settled, level := level, timer := { start := 0, limit := 0 } }

/-- The machine right after power-up, with every input pin inactive (the pins' levels are a DESIGN CHOICE, log entry 2) and no command
waiting. -/
def State.reset : State :=
  { pending := []
    clock := 0
    pins := { estop := false, buttons := Tbl.all false, captures := Tbl.all false, attention := Tbl.all false }
    captures := Tbl.all none
    buttons := Tbl.all (ButtonUnit.reset false)
    ctl := LineCtl.reset
    config := ConfigSnap.blank
    catalog := none
    lines := Tbl.all LineEntry.blank
    accepted := []
    garments := Tbl.all none
    carousel := Carousel.reset
    pretreat := Pretreat.reset
    press := Press.reset
    engine := Engine.reset
    staging := []
    port := Port.reset
    prints := Tbl.all PrintUnit.reset
    lanes := Tbl.all Lane.off
    flash := Flash.reset
    dryer := Dryer.reset
    pack := Pack.reset
    link := Link.reset
    exch := Exch.reset
    reports := Reports.reset }

end Sys2Proof.Machine
end

