-- ==== Sys2Proof/Machine/Operands.lean ====
section
/-! DEFINITION. The operand bytes of the commands: little-endian fields of host memory, and the layouts of section 11.7 that the
part reads (header config, refill group, blank catalog entry, slot, band descriptor), with every clamp the rules give. -/

namespace Sys2Proof.Machine

/-! ## Little-endian fields -/

/-- The byte at an offset of the bytes read. -/
def byteAt (bs : List Byte) (o : Nat) : Nat := (bs.getD o 0).toNat

/-- The 16-bit field at an offset (Chapter 11: multi-byte fields are little-endian). -/
def half (bs : List Byte) (o : Nat) : Nat := byteAt bs o + 256 * byteAt bs (o + 1)

/-- The 24-bit field at an offset. -/
def triple (bs : List Byte) (o : Nat) : Nat := half bs o + 65536 * byteAt bs (o + 2)

/-- The 32-bit field at an offset. -/
def word (bs : List Byte) (o : Nat) : Nat := half bs o + 65536 * half bs (o + 2)

/-- The 64-bit field at an offset, as an address. -/
def addrAt (bs : List Byte) (o : Nat) : Addr := BitVec.ofNat 64 (word bs o + 4294967296 * word bs (o + 4))

/-- Bit `i` of the byte at an offset. -/
def bitAt (bs : List Byte) (o i : Nat) : Bool := (bs.getD o 0).getLsbD i

/-! ## Roles -/

/-- Every role, in role order (R155). -/
def allRoles : List Role :=
  [.indexDrive, .sprayCarriage, .press, .whiteCarriage, .flash, .colorCarriage, .zone1, .zone2, .zone3, .zone4,
    .beltDrive, .loadScanner, .packScanner]

/-- The role of a role number; outside 0..12 there is none (R156). -/
def roleOf (n : Nat) : Option Role := allRoles[n]?

/-- Every requester, in requester order (R163). -/
def allRequesters : List Requester :=
  [.carousel, .pretreat, .press, .white, .flash, .color, .sampler, .load, .pack, .line]

/-- The roles required for RUN: every role but PRESS and FLASH (R155). -/
def requiredRole : Role → Bool
  | .press => false
  | .flash => false
  | .indexDrive | .sprayCarriage | .whiteCarriage | .colorCarriage | .zone1 | .zone2 | .zone3 | .zone4 | .beltDrive
  | .loadScanner | .packScanner => true

/-- The role of zone 1..4 of the dryer, by place 0..3. -/
def zoneRole (z : Fin 4) : Role :=
  match z with
  | 0 => .zone1
  | 1 => .zone2
  | 2 => .zone3
  | 3 => .zone4

/-! ## The header config region, offsets 0x040 to 0x3FF (R183, section 11.7) -/

/-- The byte at a header offset. -/
def headerByte (hdr : List Byte) (o : Nat) : Nat := byteAt hdr (o - 0x40)
/-- The 16-bit field at a header offset. -/
def headerHalf (hdr : List Byte) (o : Nat) : Nat := half hdr (o - 0x40)
/-- The 32-bit field at a header offset. -/
def headerWord (hdr : List Byte) (o : Nat) : Nat := word hdr (o - 0x40)

/-- The format word of the header (R190). -/
def headerFormat (hdr : List Byte) : Word := BitVec.ofNat 32 (headerWord hdr 0x40)

/-- A role address: 0 and 63..255 mean that the role is absent (R156). -/
def roleAddress (a : Nat) : Option Byte := if 1 ≤ a ∧ a ≤ 62 then some (BitVec.ofNat 8 a) else none

/-- A field map at a header offset: the width clamped to 16, the position to 31 (R156). -/
def headerMap (hdr : List Byte) (o : Nat) : FieldMap :=
  { width := clampNat 0 16 (headerByte hdr o), pos := clampNat 0 31 (headerByte hdr (o + 1)) }

/-- The four field maps of a role (section 11.7). -/
def headerRoleMaps (hdr : List Byte) (r : Nat) : RoleMaps :=
  { ready := headerMap hdr (0x100 + 8 * r)
    done := headerMap hdr (0x102 + 8 * r)
    fault := headerMap hdr (0x104 + 8 * r)
    value := headerMap hdr (0x106 + 8 * r) }

/-- An entry of the attention map; a level byte above its range 0..1 is clamped to 1, high (R156; log entry 7). -/
def headerAttn (hdr : List Byte) (a : Nat) : AttnMap :=
  { role := roleOf (headerByte hdr (0xD0 + 2 * a)), high := headerByte hdr (0xD1 + 2 * a) != 0 }

/-- The link settings read from the header (R156). -/
def parseSettings (hdr : List Byte) : LinkSettings :=
  { roles := Vector.ofFn fun r : Fin 13 => roleAddress (headerByte hdr (0xC0 + r.val))
    attention := Vector.ofFn fun a : Fin 8 => headerAttn hdr a.val
    maps := Vector.ofFn fun r : Fin 13 => headerRoleMaps hdr r.val
    tags :=
      { kind := headerMap hdr 0xE0
        blank := headerMap hdr 0xE2
        serial := headerMap hdr 0xE4
        slot := headerMap hdr 0xE6
        bin := headerMap hdr 0xE8 }
    window := clampNat 20 5000 (headerHalf hdr 0xA6)
    gap := clampNat 1 100 (headerByte hdr 0xA5)
    retryLimit := clampNat 0 15 (headerByte hdr 0xA8) }

/-- The sample period of a period code 0..3, in ms (Conventions). -/
def periodOfCode (code : Nat) : Nat :=
  match code with
  | 0 => 125
  | 1 => 250
  | 2 => 500
  | _ => 1000

/-- A channel's quota in the header, clamped to 1..4 (R72, R183). -/
def headerQuota (hdr : List Byte) (c : Nat) : Nat := clampNat 1 4 (headerByte hdr (0xA9 + c))

/-- The config snapshot taken from the header config region, every value clamped into its range (R183). -/
def parseConfig (hdr : List Byte) : ConfigSnap :=
  { sweepPeriod := clampNat 5 500 (headerHalf hdr 0x54)
    enables := Vector.ofFn fun p : Fin 12 => (headerHalf hdr 0x56).testBit p.val
    warmupLimit := clampNat 60 3600 (headerHalf hdr 0x58)
    debounce := clampNat 5 100 (headerByte hdr 0x5A)
    edges := Vector.ofFn fun i : Fin 4 => if (headerByte hdr 0x5B).testBit i.val then .falling else .rising
    indexTimeout := clampNat 500 10000 (headerHalf hdr 0x5C)
    starveLimit := clampNat 100 10000 (headerHalf hdr 0x5E)
    runSetpoints := Vector.ofFn fun z : Fin 4 => clampNat 0 5000 (headerHalf hdr (0x60 + 2 * z.val))
    standbySetpoints := Vector.ofFn fun z : Fin 4 => clampNat 0 5000 (headerHalf hdr (0x68 + 2 * z.val))
    flashSetpoint := clampNat 0 5000 (headerHalf hdr 0x70)
    spray :=
      { base := clampNat 10 2000 (headerHalf hdr 0x72)
        minPulse := clampNat 5 100 (headerHalf hdr 0x74)
        dwell := clampNat 20 2000 (headerHalf hdr 0x76)
        delay := clampNat 0 2000 (headerHalf hdr 0x78)
        flow := clampNat 1 1000 (headerHalf hdr 0x7A)
        floor := headerByte hdr 0x7C }
    periodMs := periodOfCode (clampNat 0 3 (headerByte hdr 0x7D))
    holdCount := clampNat 0 15 (headerByte hdr 0x7E)
    flashLimit := clampNat 1 120 (headerByte hdr 0x7F)
    flashBase := clampNat 0 5000 (headerHalf hdr 0x80)
    flashCeiling := clampNat 10 1000 (headerHalf hdr 0x82)
    dryerBase := clampNat 0 5000 (headerHalf hdr 0x84)
    dryerCeiling := clampNat 10 1000 (headerHalf hdr 0x86)
    beltSpeed := clampNat 1 1000 (headerHalf hdr 0x88)
    readyTemp := clampNat 0 5000 (headerHalf hdr 0x8A)
    transferTimeout := clampNat 10 600 (headerHalf hdr 0x8C)
    packTimeout := clampNat 10 600 (headerHalf hdr 0x8E)
    zoneLengths := Vector.ofFn fun z : Fin 4 => clampNat 0 4000000 (headerWord hdr (0x90 + 4 * z.val))
    exitTolerance := clampNat 0 500000 (headerWord hdr 0xA0)
    refeedLimit := clampNat 0 2 (headerByte hdr 0xA4)
    quotas := Vector.ofFn fun c : Fin 6 => headerQuota hdr c.val
    startMarks := Vector.ofFn fun c : Fin 6 => clampNat 1 (headerQuota hdr c.val) (headerByte hdr (0xAF + c.val))
    link := parseSettings hdr }

/-! ## The refill group, offsets 0x044 to 0x053 (R59) -/

/-- The refill group as read: each level clamped to 0..10,000,000 (R59). -/
structure RefillGroup where
  generation : Word
  level : Nat
  lowMark : Nat
  reserve : Nat
deriving DecidableEq, Repr

/-- The refill group in the 16 bytes of its read. -/
def parseRefill (bs : List Byte) : RefillGroup :=
  { generation := BitVec.ofNat 32 (word bs 0)
    level := clampNat 0 Config.tankMax (word bs 4)
    lowMark := clampNat 0 Config.tankMax (word bs 8)
    reserve := clampNat 0 Config.tankMax (word bs 12) }

/-! ## The blank catalog (R184) -/

/-- A blank catalog entry in its 16 bytes. -/
def parseCatalogEntry (bs : List Byte) : CatalogEntry :=
  { inUse := byteAt bs 0 != 0
    factor := clampNat 0 31 (byteAt bs 1)
    pressTemp := clampNat 0 5000 (half bs 2)
    dwell := clampNat 1 60 (byteAt bs 4)
    scorchTemp := clampNat 0 5000 (half bs 6) }

/-- The 64 entries of the catalog. -/
def parseCatalog (bs : List Byte) : Tbl 64 CatalogEntry :=
  Vector.ofFn fun b : Fin 64 => parseCatalogEntry (bs.drop (16 * b.val))

/-! ## Slots (R3, R4, section 11.7) -/

/-- The hand count of a slot. -/
def slotHand (bs : List Byte) : Byte := bs.getD 0 0

/-- The void request of a slot: non-zero voids. -/
def slotVoid (bs : List Byte) : Bool := byteAt bs 1 != 0

/-- A plane chain address: absent when zero (R4). -/
def chainAddress (a : Addr) : Option Addr := if a = 0 then none else some a

/-- The pretreat override: a factor 0..31, or absent (R3). -/
def overrideOf (v : Nat) : Option Nat := if v ≤ 31 then some v else none

/-- The snapshot of a slot's posting fields, with the three corrections of R3. -/
def parsePosting (bs : List Byte) : Snapshot :=
  { lineNo := byteAt bs 0x02
    linesIn := byteAt bs 0x03
    key := BitVec.ofNat 32 (word bs 0x04)
    blank := byteAt bs 0x08
    rush := byteAt bs 0x09 == 1
    quantity := byteAt bs 0x0A
    failLimit := clampNat 0 15 (byteAt bs 0x0B)
    factor := overrideOf (byteAt bs 0x0C)
    cure := half bs 0x10
    scorch := half bs 0x12
    flash := half bs 0x14
    chains := Vector.ofFn fun c : Fin 6 => chainAddress (addrAt bs (0x18 + 8 * c.val))
    coverage := Vector.ofFn fun i : Fin 128 => byteAt bs (0x48 + i.val) }

/-- The take count report field of a slot. -/
def slotTake (bs : List Byte) : Byte := bs.getD 0xC8 0

/-- The state report field of a slot shows an open line: QUEUED, ACTIVE or CLOSING (R195). -/
def slotShowsOpen (bs : List Byte) : Bool := 2 ≤ byteAt bs 0xC9 && byteAt bs 0xC9 ≤ 4

/-- The six ink totals of a slot's report fields. -/
def slotInk (bs : List Byte) : Tbl 6 Nat := Vector.ofFn fun c : Fin 6 => word bs (0xD0 + 4 * c.val)

/-- The last exit dose of a slot's report fields. -/
def slotDose (bs : List Byte) : Nat := word bs 0xE8

/-- The bin report field of a slot. -/
def slotBin (bs : List Byte) : Byte := bs.getD 0xEC 0

/-! ## Band descriptors (R66, section 11.7) -/

/-- A band descriptor in its 32 bytes. -/
def parseDescriptor (bs : List Byte) : Descriptor :=
  { dataAddr := addrAt bs 0
    nextAddr := addrAt bs 8
    length := word bs 0x10
    drops := word bs 0x14
    tag := triple bs 0x18
    swathEnd := bitAt bs 0x1B 0
    chainEnd := bitAt bs 0x1B 1
    repass := if bitAt bs 0x1B 0 then (byteAt bs 0x1B / 4) % 4 else 0 }

/-! ## Words of modules and tags (R169) -/

/-- The value a field map extracts from a word: bits p to p + w − 1, bits above 31 reading as 0 (R169). -/
def extractField (m : FieldMap) (w : Word) : Nat := (w.toNat / 2 ^ m.pos) % 2 ^ m.width

/-- The four fields of a status word (R169). -/
structure StatusFields where
  ready : Nat
  done : Nat
  fault : Nat
  value : Nat
deriving DecidableEq, Repr

/-- The fields of a role's status word under its maps (R169). -/
def statusFields (m : RoleMaps) (w : Word) : StatusFields :=
  { ready := extractField m.ready w
    done := extractField m.done w
    fault := extractField m.fault w
    value := extractField m.value w }

/-- The five fields of a tag word (R8, R169). -/
structure TagFields where
  kind : Nat
  blank : Nat
  serial : Nat
  slot : Nat
  bin : Nat
deriving DecidableEq, Repr

/-- The fields of a tag word under the tag maps (R169). -/
def tagFields (m : TagMaps) (w : Word) : TagFields :=
  { kind := extractField m.kind w
    blank := extractField m.blank w
    serial := extractField m.serial w
    slot := extractField m.slot w
    bin := extractField m.bin w }

/-- The slot a 16-bit number names, if it is 0..127. -/
def slotOf (n : Nat) : Option (Fin 128) := if h : n < 128 then some ⟨n, h⟩ else none

end Sys2Proof.Machine
end

