-- ==== Sys2Proof/Machine/Formats.lean ====
section
/-! DEFINITION. The bytes the part writes to host memory and puts on the station link: codes, incident records, slot reports, header
fields (section 11.7), command words (R170), request frames, the frame check and the reading of response frames (R158, R200). -/

namespace Sys2Proof.Machine

/-- The `n` low bytes of a number, lowest first. -/
def leBytes : Nat → Nat → List Byte
  | 0, _ => []
  | n + 1, v => BitVec.ofNat 8 v :: leBytes n (v / 256)

/-! ## Codes -/

/-- The code of an incident kind (section 11.7). -/
def incidentCode : IncidentKind → Nat
  | .slotOpen => 1 | .lineNotReady => 2 | .tagMismatch => 3 | .platenDisabled => 4
  | .platenOccupied => 5 | .withdrawn => 6 | .duplicateTag => 7 | .tableFull => 8
  | .noOrder => 9 | .bound => 10 | .garmentFailed => 11 | .garmentStripped => 12
  | .indexFault => 13 | .carouselHomed => 14 | .passCut => 15 | .tankLow => 16
  | .tankEmpty => 17 | .tankRefilled => 18 | .pressSkipped => 19 | .chainFault => 20
  | .printCut => 21 | .flashSkipped => 22 | .flashCut => 23 | .strayEntry => 24
  | .beltFull => 25 | .zoneStale => 26 | .zoneFresh => 27 | .overdue => 28
  | .strayExit => 29 | .earlyPick => 30 | .packMissing => 31 | .stray => 32
  | .packed => 33 | .orderReopened => 34 | .orderReady => 35 | .orderFailed => 36
  | .binCleared => 37 | .binOpen => 38 | .binFree => 39 | .moveOverflow => 40
  | .moduleLost => 41 | .moduleBack => 42 | .lineMode => 43 | .runRefused => 44
  | .lineCmdFailed => 45 | .captureLost => 46 | .memFault => 47 | .nudgeDropped => 48

/-- The place code of an incident record (section 11.7). -/
def placeCode : Place → Nat
  | .atLoad => 0
  | .onCarousel => 1
  | .inTransfer => 2
  | .onBelt => 3
  | .awaitingPack => 4

/-- The state code of a slot report (section 11.7). -/
def lineStateCode : LineState → Nat
  | .idle => 0
  | .refused => 1
  | .queued => 2
  | .active => 3
  | .closing => 4
  | .finished => 5
  | .failed => 6
  | .voided => 7

/-- The reason code of a slot report (section 11.7). -/
def reasonCode : Reason → Nat
  | .none => 0
  | .badLine => 1
  | .badBlank => 2
  | .badQuantity => 3
  | .badChainAddr => 4
  | .noPlanes => 5
  | .orderMismatch => 6
  | .dupLine => 7
  | .ordersFull => 8
  | .failLimit => 9
  | .void => 10
  | .lostAtReset => 11

/-- The mode code (section 10.1). -/
def modeCode : Mode → Nat
  | .idle => 0
  | .warming => 1
  | .run => 2
  | .hold => 3
  | .stopped => 4

/-- The hold-cause set as a number (R173). -/
def causesCode (c : Causes) : Nat :=
  c.host.toNat + 2 * c.indexFault.toNat + 4 * c.moduleLost.toNat + 8 * c.warmupTimeout.toNat + 16 * c.config.toNat

/-- The fault code as the detail of GARMENT_FAILED (section 11.7). -/
def faultCode : FaultCode → Nat
  | .pretreatCut => 1
  | .printStarved => 2
  | .printUnderrun => 3
  | .chainFault => 4
  | .gelShort => 5
  | .cutByStop => 6
  | .missingAtEntry => 7
  | .missingAtPack => 8
  | .undercured => 9
  | .scorched => 10
  | .unverified => 11

/-- The unload destination as the detail of GARMENT_STRIPPED (section 11.7). -/
def destinationCode : Destination → Nat
  | .dryer => 0
  | .reject => 1
  | .return => 2

/-- The tank state as the detail of TANK_REFILLED (R59). -/
def tankCode : TankState → Nat
  | .ready => 0
  | .low => 1
  | .empty => 2

/-- The attach state of LINE_STATUS (section 11.7). -/
def attachCode : AttachState → Nat
  | .none => 0
  | .reading => 1
  | .attached => 2
  | .badFormat => 3

/-- The reset cause of LINE_STATUS (section 11.7). -/
def resetCauseCode : ResetCause → Nat
  | .power => 0
  | .pin => 1
  | .soft => 2

/-! ## Reports (R197, section 11.7) -/

/-- A field that is 0xFF when absent. -/
def orNone (v : Option Nat) : Nat := v.getD 0xFF

/-- The 32 bytes of an incident record with sequence `n`. -/
def incidentBytes (i : Incident) (n : Word) (dropBefore : Bool) : List Byte :=
  leBytes 4 n.toNat ++ leBytes 4 i.time.toNat ++ leBytes 1 (incidentCode i.kind)
    ++ leBytes 1 (orNone (i.slot.map Fin.val)) ++ leBytes 1 (orNone (i.garment.map Fin.val)) ++ leBytes 1 dropBefore.toNat
    ++ leBytes 2 i.serial ++ leBytes 1 (orNone (i.place.map placeCode)) ++ leBytes 1 0
    ++ leBytes 4 i.detail ++ leBytes 4 i.key.toNat ++ leBytes 4 i.value ++ leBytes 4 0

/-- The 40 bytes of a slot's report fields, offsets 0xC8 to 0xEF. -/
def reportBytes (l : LineEntry) : List Byte :=
  [l.take] ++ leBytes 1 (lineStateCode l.state) ++ leBytes 1 (reasonCode l.reason)
    ++ leBytes 1 l.bound ++ leBytes 1 l.finished ++ leBytes 1 l.failed ++ leBytes 2 0
    ++ (l.ink.toList.map (leBytes 4)).flatten ++ leBytes 4 l.lastDose ++ [l.bin] ++ leBytes 3 0

/-- The write of the header's part-written fields: the chip sequence at 0x000 and the incident next-index at 0x004. -/
def headerWrite (base : Addr) (seq : Word) (next : Nat) : HostWrite :=
  { addr := base, bytes := leBytes 4 seq.toNat ++ leBytes 1 next }

/-- The address of slot `s` (Chapter 11). -/
def slotAddr (base : Addr) (s : Fin 128) : Addr := base + BitVec.ofNat 64 (0x1000 + 256 * s.val)

/-- The writes of an incident report: the record at the next-index, then the header (R197). -/
def incidentWrites (base : Addr) (i : Incident) (n : Word) (next : Nat) (dropBefore : Bool) : List HostWrite :=
  [{ addr := base + BitVec.ofNat 64 (0x800 + 32 * next), bytes := incidentBytes i n dropBefore },
    headerWrite base n ((next + 1) % Config.incidentRecords)]

/-- The writes of a slot report: the report fields and the change sequence, then the header (R197). -/
def slotWrites (base : Addr) (s : Fin 128) (l : LineEntry) (n : Word) (next : Nat) : List HostWrite :=
  [{ addr := slotAddr base s + 0xC8, bytes := reportBytes l ++ leBytes 4 n.toNat }, headerWrite base n next]

/-! ## Command and data words (R170) -/

/-- A command of R170. -/
inductive Command where
  | index
  | home
  | stop
  | pass
  | press
  | heatOn
  | heatOff
  | beltRun
  | show
deriving DecidableEq, Repr

/-- The code of a command (R170). -/
def commandCode : Command → Nat
  | .index => 1
  | .home => 2
  | .stop => 3
  | .pass => 4
  | .press => 5
  | .heatOn => 6
  | .heatOff => 7
  | .beltRun => 8
  | .show => 9

/-- The word of a PUT_CMD: the code in the low 8 bits, the argument, at most 16,777,215, above it (R170). -/
def commandWord (c : Command) (arg : Nat) : Word := BitVec.ofNat 32 (commandCode c + 256 * min 16777215 arg)

/-- A PUT_CMD whose outcome its requester acts on. -/
def putCmd (r : Role) (c : Command) (arg : Nat) : Txn :=
  { role := r, kind := .putCmd, word := commandWord c arg, acted := true }

/-- A PUT_CMD whose outcome is not acted on (the STOP of R36, R54, R62, R95). -/
def putQuiet (r : Role) (c : Command) : Txn :=
  { role := r, kind := .putCmd, word := commandWord c 0, acted := false }

/-- A PUT_DATA with a setpoint in its low 16 bits (R170). -/
def putData (r : Role) (setpoint : Nat) : Txn :=
  { role := r, kind := .putData, word := BitVec.ofNat 32 (setpoint % 65536), acted := true }

/-- A GET_STATUS (section 9.3). -/
def getStatus (r : Role) : Txn := { role := r, kind := .getStatus, word := 0, acted := true }

/-! ## Frames (R158, R200) -/

/-- The kind code of a frame's control byte (R200). -/
def kindCode : TxnKind → Nat
  | .putData => 0
  | .putCmd => 1
  | .getStatus => 2
  | .getData => 3

/-- One bit of the frame check: polynomial 0x1021, not reflected (R200). -/
def crcBit (c : BitVec 16) (b : Bool) : BitVec 16 :=
  if c.msb != b then (c <<< 1) ^^^ 0x1021#16 else c <<< 1

/-- One byte of the frame check, most significant bit first (R200). -/
def crcByte (c : BitVec 16) (b : Byte) : BitVec 16 :=
  [7, 6, 5, 4, 3, 2, 1, 0].foldl (fun acc i => crcBit acc (b.getLsbD i)) c

/-- The frame check: initial value 0xFFFF and no final XOR (R200). -/
def frameCheck (bs : List Byte) : BitVec 16 := bs.foldl crcByte 0xFFFF#16

/-- A frame with its check added, low byte first (R200). -/
def withCheck (bs : List Byte) : List Byte := bs ++ leBytes 2 (frameCheck bs).toNat

/-- The request frame of a try (R200): the part sends the word of a get as 0. -/
def requestFrame (o : OnLink) : List Byte :=
  withCheck ([0xA5#8, o.addr] ++ leBytes 1 (kindCode o.kind + 128 * o.continued.toNat) ++ leBytes 4 o.word.toNat)

/-- How a try ends (R158). -/
inductive TryEnd where
  | accept (word : Word)
  | decline
  | silence
deriving DecidableEq, Repr

/-- A get returns a word and a put returns none (section 9.3). -/
def returnsWord : TxnKind → Bool
  | .putData => false
  | .putCmd => false
  | .getStatus => true
  | .getData => true

/-- What a response frame says of the try on the link (R158, R200). No frame, a wrong first byte, length, check, address or kind, an
ACCEPT to a put with a word and one to a get without are all taken as silence; a DECLINE counts with or without a word. -/
def classify (o : OnLink) (frame : List Byte) : TryEnd :=
  let control := frame.getD 2 0
  let hasWord := control.getLsbD 5
  let size := if hasWord then 9 else 5
  if frame.length = size
      ∧ frame.getD 0 0 = 0x5A#8
      ∧ frame.getD 1 0 = o.addr
      ∧ control.toNat % 4 = kindCode o.kind
      ∧ frame = withCheck (frame.take (size - 2)) then
    if control.getLsbD 6 then .decline
    else if hasWord = returnsWord o.kind then .accept (if hasWord then BitVec.ofNat 32 (word frame 3) else 0)
    else .silence
  else .silence

end Sys2Proof.Machine
end

