-- ==== Sys2Proof/Machine/Update.lean ====
section
/-! DEFINITION. The named updates of the state, one per field: every operation changes the state through them, so that
a proof never unfolds a record update (their lemmas stand in Laws/State.lean). -/

namespace Sys2Proof.Machine

/-- The state with its `pending` replaced. -/
def State.setPending (s : State) (v : List Instr) : State := { s with pending := v }
/-- The state with its `clock` replaced. -/
def State.setClock (s : State) (v : Clock) : State := { s with clock := v }
/-- The state with its `pins` replaced. -/
def State.setPins (s : State) (v : Pins) : State := { s with pins := v }
/-- The state with its `captures` replaced. -/
def State.setCaptures (s : State) (v : Tbl 4 (Option Clock)) : State := { s with captures := v }
/-- The state with its `buttons` replaced. -/
def State.setButtons (s : State) (v : Tbl 2 ButtonUnit) : State := { s with buttons := v }
/-- The state with its `ctl` replaced. -/
def State.setCtl (s : State) (v : LineCtl) : State := { s with ctl := v }
/-- The state with its `config` replaced. -/
def State.setConfig (s : State) (v : ConfigSnap) : State := { s with config := v }
/-- The state with its `catalog` replaced. -/
def State.setCatalog (s : State) (v : Option (Tbl 64 CatalogEntry)) : State := { s with catalog := v }
/-- The state with its `lines` replaced. -/
def State.setLines (s : State) (v : Tbl 128 LineEntry) : State := { s with lines := v }
/-- The state with its `accepted` replaced. -/
def State.setAccepted (s : State) (v : List (Fin 128)) : State := { s with accepted := v }
/-- The state with its `garments` replaced. -/
def State.setGarments (s : State) (v : Tbl 32 (Option Garment)) : State := { s with garments := v }
/-- The state with its `carousel` replaced. -/
def State.setCarousel (s : State) (v : Carousel) : State := { s with carousel := v }
/-- The state with its `pretreat` replaced. -/
def State.setPretreat (s : State) (v : Pretreat) : State := { s with pretreat := v }
/-- The state with its `press` replaced. -/
def State.setPress (s : State) (v : Press) : State := { s with press := v }
/-- The state with its `engine` replaced. -/
def State.setEngine (s : State) (v : Engine) : State := { s with engine := v }
/-- The state with its `staging` replaced. -/
def State.setStaging (s : State) (v : Memory) : State := { s with staging := v }
/-- The state with its `port` replaced. -/
def State.setPort (s : State) (v : Port) : State := { s with port := v }
/-- The state with its `prints` replaced. -/
def State.setPrints (s : State) (v : Tbl 2 PrintUnit) : State := { s with prints := v }
/-- The state with its `lanes` replaced. -/
def State.setLanes (s : State) (v : Tbl 6 Lane) : State := { s with lanes := v }
/-- The state with its `flash` replaced. -/
def State.setFlash (s : State) (v : Flash) : State := { s with flash := v }
/-- The state with its `dryer` replaced. -/
def State.setDryer (s : State) (v : Dryer) : State := { s with dryer := v }
/-- The state with its `pack` replaced. -/
def State.setPack (s : State) (v : Pack) : State := { s with pack := v }
/-- The state with its `link` replaced. -/
def State.setLink (s : State) (v : Link) : State := { s with link := v }
/-- The state with its `exch` replaced. -/
def State.setExch (s : State) (v : Exch) : State := { s with exch := v }
/-- The state with its `reports` replaced. -/
def State.setReports (s : State) (v : Reports) : State := { s with reports := v }

end Sys2Proof.Machine
end

