-- ==== Sys2Proof/Machine/Ops.lean ====
section
/-! DEFINITION. The named operations over the state that every block uses: the line clock and timers, the incident FIFO and the dirty
set, the staging memory, the host memory port, and the tables of lines and garments. -/

namespace Sys2Proof.Machine

/-! ## The line clock and timers (R185) -/

/-- The ticks from a clock value to the present, modulo 2^32. -/
def elapsed (s : State) (t : Clock) : Nat := (s.clock - t).toNat

/-- A clock value `n` ticks after another. -/
def later (t : Clock) (n : Nat) : Clock := t + BitVec.ofNat 32 n

/-- The line clock has reached a value that lay ahead of it: no interval the part measures reaches 2^31 ticks (R185). -/
def reached (s : State) (t : Clock) : Bool := elapsed s t < 2 ^ 31

/-- A timer that starts now. -/
def timerFrom (s : State) (limit : Nat) : Timer := { start := s.clock, limit := limit }

/-- A running timer has expired (R185). -/
def expired (s : State) (t : Timer) : Bool := t.limit ≤ elapsed s t.start

/-- A timer that may be stopped runs and has expired. -/
def ranOut (s : State) : Option Timer → Bool
  | none => false
  | some t => expired s t

/-! ## Incidents and dirty slots (R196) -/

/-- An incident that carries no field but its kind. -/
def incident (k : IncidentKind) : Incident :=
  { kind := k, slot := none, garment := none, place := none, serial := 0, detail := 0, key := 0, value := 0, time := 0 }

/-- The incident FIFO with an incident at its tail, or the drop flag set when all 16 places are taken (R196). -/
def pushIncident (r : Reports) (i : Incident) : Reports :=
  if r.fifo.length < Config.incidentPlaces then { r with fifo := r.fifo ++ [i] } else { r with drop := true }

/-- Raise an incident: it is stamped with the line clock (R196). -/
def raise (i : Incident) (s : State) : State :=
  s.setReports (pushIncident s.reports { i with time := s.clock })

/-- Mark a slot dirty (R196). -/
def markDirty (slot : Fin 128) (s : State) : State :=
  s.setReports { s.reports with dirty := Tbl.put s.reports.dirty slot true }

/-! ## The staging memory (R75) -/

/-- What a byte of a staging bank that nothing has written reads as (DESIGN CHOICE, log entry 3): no rule reads one. -/
def unlistedByte : Byte := 0

/-- Read one byte. -/
def Memory.read : Memory → Nat → Byte
  | [], _ => unlistedByte
  | (a, b) :: m, x => if a = x then b else Memory.read m x

/-- Write one byte, keeping the canonical form. -/
def Memory.write (x : Nat) (v : Byte) : Memory → Memory
  | [] => if v = unlistedByte then [] else [(x, v)]
  | (a, b) :: m =>
    if x < a then (if v = unlistedByte then (a, b) :: m else (x, v) :: (a, b) :: m)
    else if x = a then (if v = unlistedByte then m else (x, v) :: m)
    else (a, b) :: Memory.write x v m

/-- Write bytes from an address on. -/
def Memory.writeAll (x : Nat) : List Byte → Memory → Memory
  | [], m => m
  | b :: bs, m => Memory.writeAll (x + 1) bs (Memory.write x b m)

/-- The canonical form: addresses strictly rising from `low` on, and no cell that an unlisted address would read as. -/
def Memory.wfFrom (low : Nat) : Memory → Bool
  | [] => true
  | (a, b) :: m => low ≤ a && b != unlistedByte && Memory.wfFrom (a + 1) m

/-- The canonical form of a memory. -/
def Memory.wf (m : Memory) : Bool := Memory.wfFrom 0 m

/-- The staging address of an offset of a bank. -/
def bankAddr (b : Fin 8) (offset : Nat) : Nat := Config.bankBytes * b.val + offset

/-- The bytes a bank's band puts on its head lane, from offset 0 to its length less one (R91). -/
def bankData (s : State) (b : Fin 8) (length : Nat) : List Byte :=
  (List.range length).map fun o => Memory.read s.staging (bankAddr b o)

/-! ## The host memory port (R83) -/

/-- The priority of an access: 1 report writer, 2 slot and header reads, 3 band fetch (R83). -/
def accessPriority : AccessKind → Nat
  | .report => 1
  | .headerWrite => 1
  | .handCount => 2
  | .posting => 2
  | .catalog => 2
  | .recovery => 2
  | .refill => 2
  | .snapshot => 2
  | .attach => 2
  | .descriptor => 3
  | .burst => 3

/-- A read access. -/
def readAccess (k : AccessKind) (addr : Addr) (length : Nat) : Access :=
  { kind := k, discard := false, addr := addr, length := length, writes := [] }

/-- A write access. -/
def writeAccess (k : AccessKind) (writes : List HostWrite) : Access :=
  { kind := k, discard := false, addr := 0, length := 0, writes := writes }

/-- Ask for an access: it starts at once when the port is free (R83). -/
def askPort (a : Access) (s : State) : State :=
  match s.port.current with
  | none => s.setPort { s.port with current := some a }
  | some _ => s.setPort { s.port with waiting := s.port.waiting ++ [a] }

/-- The first waiting access of a priority. -/
def firstOfPriority (p : Nat) (waiting : List Access) : Option Access :=
  waiting.find? fun a => accessPriority a.kind == p

/-- The waiting access that gets the port next: highest priority first (R83). R83 ranks requesters alone: of two waiting accesses of one
requester or of one rank the oldest goes first (DESIGN CHOICE, log entry 23). -/
def nextAccess (waiting : List Access) : Option Access :=
  ((firstOfPriority 1 waiting).or (firstOfPriority 2 waiting)).or (firstOfPriority 3 waiting)

/-- The access in progress ends and the port goes to the next one (R83). -/
def endAccess (s : State) : State :=
  match nextAccess s.port.waiting with
  | none => s.setPort { s.port with current := none }
  | some a => s.setPort { s.port with current := some a, waiting := s.port.waiting.erase a }

/-- The port after a reset (R84): free with no access waiting. The outcome of the access that was in progress is still to arrive. -/
def Port.freed (p : Port) : Port :=
  { current := none, waiting := [], late := p.late ++ p.current.toList.map Access.kind }

/-- The outcome of an access from before a reset arrives and is discarded (R84). -/
def dropLate (k : AccessKind) (s : State) : State := s.setPort { s.port with late := s.port.late.erase k }

/-- The access in progress, when it is of a kind. -/
def inProgress (k : AccessKind) (s : State) : Option Access :=
  match s.port.current with
  | none => none
  | some a => if a.kind = k then some a else none

/-- Discard the outcome of an access of a kind, wherever it stands. -/
def discardAccess (ks : List AccessKind) (a : Access) : Access :=
  if a.kind ∈ ks then { a with discard := true } else a

/-- Discard the outcomes of the accesses of some kinds: each runs to its end (R190). -/
def discardAccesses (ks : List AccessKind) (s : State) : State :=
  s.setPort
    { s.port with
      current := s.port.current.map (discardAccess ks)
      waiting := s.port.waiting.map (discardAccess ks) }

/-- The base address in use; before any base is taken no access is asked for. -/
def baseAddr (s : State) : Addr := s.exch.base.getD 0

/-! ## Lines and garments -/

/-- The open-line entry of a slot. -/
def lineAt (s : State) (i : Fin 128) : LineEntry := Tbl.at s.lines i

/-- Replace the open-line entry of a slot. -/
def putLine (i : Fin 128) (l : LineEntry) (s : State) : State := s.setLines (Tbl.put s.lines i l)

/-- Replace the open-line entry of a slot and mark the slot dirty, since its report fields change (R196). -/
def reportLine (i : Fin 128) (l : LineEntry) (s : State) : State := markDirty i (putLine i l s)

/-- An open line: QUEUED, ACTIVE or CLOSING. -/
def openState : LineState → Bool
  | .queued => true
  | .active => true
  | .closing => true
  | .idle | .refused | .finished | .failed | .voided => false

/-- The order key in a slot's snapshot, or 0 where there is none. -/
def keyOf (s : State) (i : Fin 128) : Word :=
  match (lineAt s i).snap with
  | none => 0
  | some p => p.key

/-- The quantity of a line. -/
def quantityOf (l : LineEntry) : Nat :=
  match l.snap with
  | none => 0
  | some p => p.quantity

/-- The garment record of an index, if it is live. -/
def garmentAt (s : State) (g : Fin 32) : Option Garment := Tbl.at s.garments g

/-- Replace a garment record. -/
def putGarment (g : Fin 32) (r : Garment) (s : State) : State := s.setGarments (Tbl.put s.garments g (some r))

/-- Change a live garment record. -/
def changeGarment (g : Fin 32) (f : Garment → Garment) (s : State) : State :=
  match garmentAt s g with
  | none => s
  | some r => putGarment g (f r) s

/-- No garment record is live. -/
def noGarment (s : State) : Bool := s.garments.toList.all Option.isNone

/-- A garment counts for its slot's line: its take stamp equals the slot's take count (R6). -/
def stampMatches (s : State) (r : Garment) : Bool := (lineAt s r.slot).take == r.stamp

/-- The snapshot of a garment's line. -/
def snapOf (s : State) (r : Garment) : Option Snapshot := (lineAt s r.slot).snap

/-- A garment by index and take stamp. -/
def garmentId (g : Fin 32) (r : Garment) : GarmentId := { index := g, stamp := r.stamp }

/-- The catalog entry of a blank code, from the catalog snapshot (R184). No garment moves before the first snapshot is taken. -/
def catalogAt (s : State) (blank : Nat) : CatalogEntry :=
  match s.catalog with
  | none => parseCatalogEntry []
  | some c => if h : blank < 64 then Tbl.at c ⟨blank, h⟩ else parseCatalogEntry []

/-- An incident that carries a garment's slot, index and serial. -/
def shirtIncident (k : IncidentKind) (g : Fin 32) (r : Garment) : Incident :=
  { incident k with slot := some r.slot, garment := some g, serial := r.serial }

/-- An incident that carries a garment's slot, index, serial and order key. -/
def garmentIncident (k : IncidentKind) (g : Fin 32) (r : Garment) (s : State) : Incident :=
  { shirtIncident k g r with key := keyOf s r.slot }

/-- A dose in cure units, rounded down (R104). -/
def doseCU (dose : Nat) : Nat := dose / Config.dosePerCU

/-- A dose meets a requirement in cure units (R104). -/
def doseMeets (dose need : Nat) : Bool := need * Config.dosePerCU ≤ dose

/-- A dose passes a limit in cure units (R104). -/
def dosePasses (dose limit : Nat) : Bool := limit * Config.dosePerCU < dose

/-! ## Line mode tests -/

/-- An index or a home is in flight. -/
def opInFlight (s : State) : Bool := s.carousel.op != .none

/-- A station may start work: the line is in RUN, the carousel is homed, and no index or home is in flight (R30). -/
def mayWork (s : State) : Bool := s.ctl.mode == .run && s.carousel.homed && !opInFlight s

/-- The part is attached (R190). -/
def attached (s : State) : Bool := s.exch.attach == .attached

end Sys2Proof.Machine
end

