-- ==== Sys2Proof/Machine/LinkOps.lean ====
section
/-! DEFINITION. What the blocks ask of the station link: handing in, replacing and withdrawing transactions (R161, R163), the sampler's
read list (R125), and the line command list (R180). A transaction for a role that cannot be reached completes LOST at the moment it
is handed in, so each caller asks `lostAtOnce` first and applies its own rule for LOST. -/

namespace Sys2Proof.Machine

/-! ## Roles and modules -/

/-- The address of a role under the link settings; absent before the first attach (R156). -/
def roleAddr (s : State) (r : Role) : Option Byte :=
  match s.link.settings with
  | none => none
  | some c => Tbl.at c.roles (roleNum r)

/-- The module table entry of a role. -/
def moduleAt (s : State) (r : Role) : ModuleEntry := Tbl.at s.link.modules (roleNum r)

/-- A transaction for the role puts nothing on the link: the part is not attached, the role is absent, or its module is LOST (R161, R171). -/
def unreachable (s : State) (r : Role) : Bool :=
  !attached s || (roleAddr s r).isNone || (moduleAt s r).state == .lost

/-! ## Requester places (R163) -/

/-- The place of a requester. -/
def placeAt (s : State) (q : Requester) : LinkPlace := Tbl.at s.link.places (requesterNum q)

/-- Replace the place of a requester. -/
def putPlace (q : Requester) (p : LinkPlace) (s : State) : State :=
  s.setLink { s.link with places := Tbl.put s.link.places (requesterNum q) p }

/-- A transaction as it is handed in now: rank time the line clock, no try yet (R163). -/
def queuedNow (t : Txn) (s : State) : Queued :=
  { txn := t, rank := s.clock, tries := 0, state := .queued, withdrawn := false }

/-- Put a transaction in a requester's empty place. -/
def enqueue (q : Requester) (t : Txn) (s : State) : State :=
  putPlace q { placeAt s q with now := some (queuedNow t s) } s

/-- A transaction handed in now completes LOST at once: the requester's place is empty and the role is unreachable (R161). -/
def lostAtOnce (q : Requester) (r : Role) (s : State) : Bool := (placeAt s q).now.isNone && unreachable s r

/-- A transaction whose outcome its requester will not act on (R159). -/
def quiet (t : Txn) : Txn := { t with acted := false }

/-- Hand in a transaction. With the place still taken the requester keeps it until the place empties (R163); what stands before it
belongs to work that is over, so its outcome is not acted on. The caller has dealt with `lostAtOnce`: a transaction
that completes LOST at once leaves the link as it was. -/
def handIn (q : Requester) (t : Txn) (s : State) : State :=
  match (placeAt s q).now with
  | none => if unreachable s t.role then s else enqueue q t s
  | some w =>
    putPlace q { now := some { w with txn := quiet w.txn }, kept := (placeAt s q).kept.map quiet ++ [t] } s

/-- Replace a requester's transaction: one not yet on the link gives up its place and its rank time to the new one, one on the link
is let finish with its outcome not acted on, and the new one is kept until then (R163). An empty place takes it as `handIn` does. -/
def replaceTxn (q : Requester) (t : Txn) (s : State) : State :=
  match (placeAt s q).now with
  | none => handIn q t s
  | some w =>
    match w.state with
    | .onLink => putPlace q { now := some { w with txn := quiet w.txn }, kept := [t] } s
    | .queued | .retryGap _ => putPlace q { now := some { w with txn := t, tries := 0, state := .queued, withdrawn := false }, kept := [] } s

/-- Withdraw a requester's transaction: one not yet on the link leaves its place, one on the link finishes its try and its
outcome is discarded (R163). -/
def withdrawTxn (q : Requester) (s : State) : State :=
  match (placeAt s q).now with
  | none => putPlace q { now := none, kept := [] } s
  | some w =>
    match w.state with
    | .onLink => putPlace q { now := some { w with txn := quiet w.txn, withdrawn := true }, kept := [] } s
    | .queued | .retryGap _ => putPlace q { now := none, kept := [] } s

/-! ## The sampler (R125) -/

/-- A read that completes LOST brings no value: for FLASH it clears the sample flag (R112, R126, R127). -/
def readLost (r : Role) (s : State) : State :=
  if r = .flash then s.setFlash { s.flash with sampling := false } else s

/-- Serve a read list from its head with the SAMPLER place empty: reads of unreachable roles complete LOST at once. -/
def serveReadList : List Role → State → State
  | [], s => s.setDryer { s.dryer with reads := [] }
  | r :: rs, s =>
    if unreachable s r then serveReadList rs (readLost r s)
    else enqueue .sampler (getStatus r) (s.setDryer { s.dryer with reads := r :: rs })

/-- Serve the read list when the SAMPLER requester has no transaction (R125). -/
def serveReads (s : State) : State :=
  if (placeAt s .sampler).now.isNone then serveReadList s.dryer.reads s else s

/-- The read list with targets added at its tail, each that does not stand in it already. -/
def withReads (reads : List Role) (targets : List Role) : List Role :=
  reads ++ targets.filter fun r => !(reads.contains r)

/-- Ask the sampler for reads (R125). -/
def askReads (targets : List Role) (s : State) : State :=
  serveReads (s.setDryer { s.dryer with reads := withReads s.dryer.reads targets })

/-- The reads of a dryer tick, in their order (R125). -/
def tickReads : List Role := [.zone1, .zone2, .zone3, .zone4, .beltDrive]

/-! ## The line command list (R180) -/

/-- The command code of a transaction's word: 0 for a PUT_DATA (R180). -/
def txnCode (t : Txn) : Nat :=
  match t.kind with
  | .putCmd => t.word.toNat % 256
  | .putData | .getStatus | .getData => 0

/-- LINE_CMD_FAILED for a command of the list (R180). -/
def commandFailed (t : Txn) (s : State) : State :=
  raise { incident .lineCmdFailed with detail := (roleNum t.role).val, value := txnCode t } s

/-- A command that completes LOST at once: no incident while the part is not attached (R180). -/
def commandLost (t : Txn) (s : State) : State := if attached s then commandFailed t s else s

/-- Serve a command list from its head with the LINE place empty: commands to unreachable roles complete LOST at once. -/
def serveCommandList : List Txn → State → State
  | [], s => s.setCtl { s.ctl with commands := [] }
  | t :: ts, s =>
    if unreachable s t.role then serveCommandList ts (commandLost t s)
    else enqueue .line t (s.setCtl { s.ctl with commands := ts })

/-- Serve the command list when the LINE requester's place is empty (R180). -/
def serveCommands (s : State) : State :=
  if (placeAt s .line).now.isNone then serveCommandList s.ctl.commands s else s

/-- The head of a new list takes over a queued transaction's place and rank time (R163, R180). When the head completes LOST at once, the
next command takes the place with the same rank time (DESIGN CHOICE, log entry 14). -/
def takeOverList (w : Queued) : List Txn → State → State
  | [], s => putPlace .line { now := none, kept := [] } (s.setCtl { s.ctl with commands := [] })
  | t :: ts, s =>
    if unreachable s t.role then takeOverList w ts (commandLost t s)
    else
      putPlace .line { now := some { w with txn := t, tries := 0, state := .queued, withdrawn := false }, kept := [] }
        (s.setCtl { s.ctl with commands := ts })

/-- Put a new list on the command list: it replaces what remains of the old one (R180). -/
def putCommands (ts : List Txn) (s : State) : State :=
  match (placeAt s .line).now with
  | none => serveCommandList ts s
  | some w =>
    match w.state with
    | .onLink => withdrawTxn .line (s.setCtl { s.ctl with commands := ts })
    | .queued | .retryGap _ => takeOverList w ts s

/-- Leave out the commands of absent roles (R180). -/
def presentOnly (s : State) (ts : List Txn) : List Txn := ts.filter fun t => (roleAddr s t.role).isSome

/-- For each zone its setpoint and HEAT_ON (R180). -/
def zoneCommands (setpoints : Tbl 4 Nat) : List Txn :=
  [0, 1, 2, 3].flatMap fun z : Fin 4 => [putData (zoneRole z) (Tbl.at setpoints z), putCmd (zoneRole z) .heatOn 0]

/-- The standby list (R180). -/
def standbyList (s : State) : List Txn :=
  presentOnly s (zoneCommands s.config.standbySetpoints ++ [putCmd .flash .heatOff 0, putCmd .beltDrive .stop 0])

/-- The run list (R180). -/
def runList (s : State) : List Txn :=
  presentOnly s
    (zoneCommands s.config.runSetpoints
      ++ [putData .flash s.config.flashSetpoint, putCmd .beltDrive .beltRun s.config.beltSpeed])

/-- The e-stop list (R180). -/
def estopList (s : State) : List Txn :=
  presentOnly s
    ([Role.indexDrive, .sprayCarriage, .whiteCarriage, .colorCarriage, .press, .beltDrive].map (fun r => putCmd r .stop 0)
      ++ [Role.flash, .zone1, .zone2, .zone3, .zone4].map (fun r => putCmd r .heatOff 0))

end Sys2Proof.Machine
end

