-- ==== Sys2Proof/Machine/ModeOps.lean ====
section
/-! DEFINITION. The line controller's shared operations (Chapter 10): mode and hold-cause changes with all they bring about, the start and
end of dryer ticking, and the refusal and acceptance of a RUN request. -/

namespace Sys2Proof.Machine

/-! ## Ticking (R124) -/

/-- A belt entry that the next tick credits (R128). -/
def BeltEntry.credited (e : BeltEntry) : BeltEntry := { e with counted := true }

/-- The start of ticking (R124): the period is latched, the zone sources are emptied, the readiness counts cleared, the first tick set
one period ahead, and every zone and the belt drive read. Entries already on the belt joined before the start (R128). -/
def startTicking (s : State) : State :=
  askReads tickReads
    (s.setDryer
      { s.dryer with
        ticking := true
        periodMs := some s.config.periodMs
        zones := Tbl.all Source.empty
        ready := Tbl.all 0
        nextTick := later s.clock (s.config.periodMs * Config.ticksPerMs)
        belt := s.dryer.belt.map BeltEntry.credited })

/-- The end of ticking (R124): the next tick is cleared, and reads already asked for run to their end. The latched period, of which R124 speaks
at a start and at a reset only, is absent again (DESIGN CHOICE, log entry 37). -/
def stopTicking (s : State) : State :=
  s.setDryer { s.dryer with ticking := false, periodMs := none, nextTick := 0 }

/-- Ticking starts when it is off (R124). -/
def ensureTicking (s : State) : State := if s.dryer.ticking then s else startTicking s

/-! ## Mode and hold-cause changes (R173, R177, R178, R179) -/

/-- Set the line mode and the hold-cause set: any change raises one LINE_MODE (R173). -/
def setLine (m : Mode) (c : Causes) (s : State) : State :=
  if s.ctl.mode = m ∧ s.ctl.causes = c then s
  else
    raise { incident .lineMode with detail := modeCode m, value := causesCode c }
      (s.setCtl { s.ctl with mode := m, causes := c })

/-- Entry to WARMING (R177): the warm-up timer starts afresh, and ticking starts or the readiness counts are cleared (R135). -/
def enterWarming (s : State) : State :=
  let timed := s.setCtl { s.ctl with warmup := some (timerFrom s (s.config.warmupLimit * Config.ticksPerSecond)) }
  if timed.dryer.ticking then timed.setDryer { timed.dryer with ready := Tbl.all 0 } else startTicking timed

/-- The warm-up timer stops when the line leaves WARMING (R177). -/
def stopWarmup (s : State) : State := s.setCtl { s.ctl with warmup := none }

/-- A home is in flight. -/
def homing (s : State) : Bool :=
  match s.carousel.op with
  | .none => false
  | .moving h => h
  | .settling h => h

/-- Ask for a home (R37): a home in flight is the home asked for. -/
def askHome (s : State) : State := if homing s then s else s.setCarousel { s.carousel with homeAsked := true }

/-- No home is asked for in IDLE and STOPPED (R44). -/
def dropHome (s : State) : State := s.setCarousel { s.carousel with homeAsked := false }

/-- Entry to RUN: a home is asked for when the carousel is unhomed (R37). -/
def enterRun (s : State) : State :=
  let ticked := ensureTicking (stopWarmup s)
  if ticked.carousel.homed then ticked else askHome ticked

/-- Entry to HOLD. -/
def enterHold (s : State) : State := ensureTicking (stopWarmup s)

/-- A RUN request pending on a home is dropped in IDLE, where no home is asked for (R44; log entry 21). -/
def requestInIdle : RunRequest → RunRequest
  | .pendingHome => .absent
  | .absent => .absent
  | .reading => .reading

/-- Entry to IDLE (R178), the hold-cause set already emptied: flags cleared, standby list put on, ticking ended. -/
def enterIdle (s : State) : State :=
  let cleared :=
    dropHome
      (s.setCtl { s.ctl with warm := false, drain := false, warmup := none, request := requestInIdle s.ctl.request })
  stopTicking (putCommands (standbyList cleared) cleared)

/-- Entry to STOPPED: ticking goes on (R124), and no home is asked for (R44). -/
def enterStopped (s : State) : State := dropHome (stopWarmup s)

/-- What entering a mode brings about. -/
def enterMode (m : Mode) (s : State) : State :=
  match m with
  | .idle => enterIdle s
  | .warming => enterWarming s
  | .run => enterRun s
  | .hold => enterHold s
  | .stopped => enterStopped s

/-- Change the mode and the hold-cause set in one step, with what entering the mode brings about. -/
def changeLine (m : Mode) (c : Causes) (s : State) : State :=
  if s.ctl.mode = m then setLine m c s else enterMode m (setLine m c s)

/-- The mode after a hold cause is added: RUN and WARMING go to HOLD (R179). -/
def heldMode : Mode → Mode
  | .run => .hold
  | .warming => .hold
  | .idle => .idle
  | .hold => .hold
  | .stopped => .stopped

/-- Add hold causes: the line goes to HOLD from RUN and WARMING (R179). -/
def holdWith (c : Causes) (s : State) : State := changeLine (heldMode s.ctl.mode) c s

/-- At least one required role's module is LOST (R179). -/
def requiredLost (s : State) : Bool :=
  allRoles.any fun r => requiredRole r && (moduleAt s r).state == .lost

/-- Keep MODULE_LOST from the module states, in every mode except IDLE (R179). -/
def followModules (s : State) : State :=
  if s.ctl.mode = .idle then s
  else if requiredLost s then holdWith { s.ctl.causes with moduleLost := true } s
  else setLine s.ctl.mode { s.ctl.causes with moduleLost := false } s

/-- Change the mode, and let MODULE_LOST follow the module states in the new mode (R177, R179). -/
def moveLine (m : Mode) (c : Causes) (s : State) : State := followModules (changeLine m c s)

/-! ## RUN requests (R174, R175) -/

/-- Add CONFIG to the hold-cause set (R179). -/
def addConfig (s : State) : State := holdWith { s.ctl.causes with config := true } s

/-- Refuse a RUN request (R174): the refused flag and RUN_REFUSED, and CONFIG where the refusal adds it. -/
def refuseRun (detail value : Nat) (config : Bool) (s : State) : State :=
  let refused :=
    raise { incident .runRefused with detail := detail, value := value }
      (s.setCtl { s.ctl with refused := true, request := .absent })
  if config then addConfig refused else refused

/-- Accept a RUN request (R175): HOST and WARMUP_TIMEOUT are removed, the drain flag is cleared (R176), and the line enters RUN
when the warm flag is set and WARMING otherwise. A required module that is LOST by then puts MODULE_LOST in the set
again after RUN is entered and the line goes straight on to HOLD, as R177 has it for WARMING only (DESIGN CHOICE, log entry 19). -/
def acceptRun (s : State) : State :=
  moveLine (if s.ctl.warm then .run else .warming) { s.ctl.causes with host := false, warmupTimeout := false }
    (s.setCtl { s.ctl with request := .absent, drain := false })

/-- A request pending on a home settles with the home's success (R175). -/
def settleHomed (s : State) : State := if s.ctl.request = .pendingHome then acceptRun s else s

/-- A request pending on a home is refused when the home faults (R175). -/
def settleFaulted (s : State) : State :=
  if s.ctl.request = .pendingHome then refuseRun 6 (causesCode s.ctl.causes) false s else s

/-- A zones-ready notice ends the warm-up (R177). -/
def zonesReady (s : State) : State :=
  if s.ctl.mode = .warming then moveLine .run s.ctl.causes (s.setCtl { s.ctl with warm := true }) else s

end Sys2Proof.Machine
end

