-- ==== Sys2Proof/Machine/LineOps.lean ====
section
/-! DEFINITION. The order table and its bins (R148 to R152), and the counts and final states of order lines (R6, R19, R22, R23). -/

namespace Sys2Proof.Machine

/-! ## The order table (R148, R149, R151) -/

/-- The entry of an order key. -/
def orderAt (s : State) (key : Word) : Option Order := s.pack.orders.find? fun o => o.key == key

/-- Replace the entry of an order's key. -/
def putOrder (o : Order) (s : State) : State :=
  s.setPack { s.pack with orders := s.pack.orders.map fun x => if x.key = o.key then o else x }

/-- Delete the entry of an order key. -/
def deleteOrder (key : Word) (s : State) : State :=
  s.setPack { s.pack with orders := s.pack.orders.filter fun x => x.key != key }

/-- Lines final: the number of items whose final flag is set (R149). -/
def linesFinal (o : Order) : Nat := (o.items.filter fun i => i.final).length

/-- An order's bin as the slot's bin report field (R151, section 11.7). -/
def binField : OrderBin → Byte
  | .none => 0
  | .bin b => BitVec.ofNat 8 (b.val + 1)
  | .waiting => 0xFF

/-- An order's bin as an incident's detail: 0 for none or WAITING (R148, R149). -/
def binDetail : OrderBin → Nat
  | .none => 0
  | .bin b => b.val + 1
  | .waiting => 0

/-- Write the bin field of one item's slot, when the take counts agree (R151). -/
def writeItemBin (bin : OrderBin) (s : State) (i : OrderItem) : State :=
  if (lineAt s i.slot).take = i.take then reportLine i.slot { lineAt s i.slot with bin := binField bin } s else s

/-- Hand the line table an order's bin for every item of its slot list (R151). -/
def writeBins (o : Order) (s : State) : State := o.items.foldl (writeItemBin o.bin) s

/-- An incident that carries an order key. -/
def orderIncident (k : IncidentKind) (key : Word) : Incident := { incident k with key := key }

/-- A fresh order entry with one item (R148). -/
def newOrder (key : Word) (expected : Nat) (item : OrderItem) : Order :=
  { key := key, expected := expected, items := [item], bin := .none, packed := 0, overflow := 0, ready := false }

/-- An order with an item joined: every item with the same slot or the same line number is removed first (R148). -/
def joinItem (item : OrderItem) (o : Order) : Order :=
  { o with items := (o.items.filter fun i => i.slot != item.slot && i.lineNo != item.lineNo) ++ [item] }

/-- The pack unit takes an accepted line (R148): the order entry is created or joined, a READY order is OPEN again, and the slot's
bin field is written. -/
def acceptOrder (key : Word) (expected : Nat) (item : OrderItem) (s : State) : State :=
  match orderAt s key with
  | none =>
    writeItemBin .none (s.setPack { s.pack with orders := s.pack.orders ++ [newOrder key expected item] }) item
  | some o =>
    let joined := putOrder { joinItem item o with ready := false } s
    let reopened :=
      if o.ready then
        raise { orderIncident .orderReopened key with detail := binDetail o.bin, value := o.packed } joined
      else joined
    writeItemBin o.bin reopened item

/-- An order after its lines final were recounted (R149): READY, failed and deleted, or as it was. -/
def judgeOrder (o : Order) (s : State) : State :=
  if linesFinal o = o.expected then
    if 1 ≤ o.packed then
      raise { orderIncident .orderReady o.key with detail := binDetail o.bin, value := o.overflow }
        (putOrder { o with ready := true } s)
    else deleteOrder o.key (raise (orderIncident .orderFailed o.key) s)
  else if o.items.all (fun i => i.final) && o.bin == .none then
    deleteOrder o.key (raise { orderIncident .orderFailed o.key with detail := 1, value := o.items.length } s)
  else s

/-- The item of a slot at a take count. -/
def isItem (slot : Fin 128) (take : Byte) (i : OrderItem) : Bool := i.slot == slot && i.take == take

/-- An order with the item of a slot and take count final. -/
def finalItem (slot : Fin 128) (take : Byte) (o : Order) : Order :=
  { o with items := o.items.map fun i => if isItem slot take i then { i with final := true } else i }

/-- The pack unit takes a line's final state (R149): a final state with no matching entry or item changes nothing. -/
def finalOrder (slot : Fin 128) (take : Byte) (key : Word) (s : State) : State :=
  match orderAt s key with
  | none => s
  | some o =>
    if o.items.any (isItem slot take) then
      judgeOrder (finalItem slot take o) (putOrder (finalItem slot take o) s)
    else s

/-! ## Line states and counts (R6, R19, R22, R23) -/

/-- A line becomes final after having been accepted (R23): it leaves the acceptance order list, its slot is dirty, and the pack
unit is told. -/
def finishLine (i : Fin 128) (st : LineState) (r : Reason) (s : State) : State :=
  finalOrder i (lineAt s i).take (keyOf s i)
    (reportLine i { lineAt s i with state := st, reason := r }
      (s.setAccepted (s.accepted.filter fun j => j != i)))

/-- The final state of a CLOSING line's reason (R22). -/
def finalOfReason : Reason → LineState
  | .void => .voided
  | .none | .badLine | .badBlank | .badQuantity | .badChainAddr | .noPlanes | .orderMismatch | .dupLine | .ordersFull
  | .failLimit | .lostAtReset => .failed

/-- The check for a final state, made at every event that lowers bound or closes the line (R22). -/
def settleCounts (i : Fin 128) (s : State) : State :=
  let l := lineAt s i
  if (l.state = .active ∨ l.state = .closing) ∧ quantityOf l ≤ l.finished then finishLine i .finished .none s
  else if l.state = .closing ∧ l.bound = 0 then finishLine i (finalOfReason l.reason) l.reason s
  else s

/-- A withdrawal, a strip or a SPARE pack: bound falls by one (R6). -/
def lowerBound (i : Fin 128) (s : State) : State :=
  settleCounts i (reportLine i { lineAt s i with bound := (lineAt s i).bound - 1 } s)

/-- A pack to a bin or to OVERFLOW: bound falls and finished rises by one (R6). -/
def countFinished (i : Fin 128) (s : State) : State :=
  let l := lineAt s i
  settleCounts i (reportLine i { l with bound := l.bound - 1, finished := satAdd Config.count8 l.finished 1 } s)

/-- The failure limit of a line. -/
def failLimitOf (l : LineEntry) : Nat :=
  match l.snap with
  | none => 0
  | some p => p.failLimit

/-- A line whose failed count has risen, closed with FAIL_LIMIT when it is ACTIVE and above its limit (R19). -/
def limitFailures (l : LineEntry) : LineEntry :=
  if l.state = .active ∧ failLimitOf l < l.failed then { l with state := .closing, reason := .failLimit } else l

/-- A failure: bound falls and failed rises by one, and the failure limit is checked (R6, R18, R19). -/
def countFailed (i : Fin 128) (s : State) : State :=
  let l := lineAt s i
  settleCounts i
    (reportLine i (limitFailures { l with bound := l.bound - 1, failed := satAdd Config.count8 l.failed 1 }) s)

/-- An event of a garment on its line's counts: nothing when the line has been replaced by a new post (R6). -/
def ifCurrent (r : Garment) (f : Fin 128 → State → State) (s : State) : State :=
  if stampMatches s r then f r.slot s else s

/-- The slot's last exit dose (R132). -/
def setLastDose (dose : Nat) (i : Fin 128) (s : State) : State := reportLine i { lineAt s i with lastDose := dose } s

/-- The ink totals of a line with a garment's counters added, saturating (R99). -/
def addedInk (totals counters : Tbl 6 Nat) : Tbl 6 Nat :=
  Vector.ofFn fun c : Fin 6 => satAdd Config.count32 (Tbl.at totals c) (Tbl.at counters c)

/-- The end-of-garment ink accounting on a line: the slot is dirty when a total changed (R99). -/
def addInk (counters : Tbl 6 Nat) (i : Fin 128) (s : State) : State :=
  let l := lineAt s i
  if addedInk l.ink counters = l.ink then s else reportLine i { l with ink := addedInk l.ink counters } s

end Sys2Proof.Machine
end

