-- ==== Sys2Proof/Machine/CarouselOps.lean ====
section
/-! DEFINITION. The carousel's shared operations (Chapter 2): platens and positions, station releases, the unload destination and its lamp, and
the deletion of a garment record with its accounting (R17, R99). -/

namespace Sys2Proof.Machine

/-- The position a station stands at (R25). -/
def stationPos : Station → Fin 12
  | .load => 0
  | .pretreat => 1
  | .press => 2
  | .white => 4
  | .flash => 5
  | .color => 7
  | .unload => 9

/-- The white approach position (R25, R43). -/
def whiteApproach : Fin 12 := 3
/-- The color approach position (R25, R43). -/
def colorApproach : Fin 12 := 6

/-- The platen at a position now (R26). -/
def platenAt (s : State) (pos : Fin 12) : Fin 12 := Tbl.at s.carousel.map pos

/-- An entry of the platen table (R27). -/
def platenOf (s : State) (p : Fin 12) : Platen := Tbl.at s.carousel.platens p

/-- The garment on the platen at a position. -/
def garmentAtPos (s : State) (pos : Fin 12) : Option (Fin 32) := (platenOf s (platenAt s pos)).garment

/-- Replace an entry of the platen table. -/
def putPlaten (p : Fin 12) (e : Platen) (s : State) : State :=
  s.setCarousel { s.carousel with platens := Tbl.put s.carousel.platens p e }

/-- Record a garment on a platen (R27). -/
def loadPlaten (p : Fin 12) (g : Fin 32) (s : State) : State := putPlaten p { platenOf s p with garment := some g } s

/-- A garment leaves its platen: the entry is empty and takes its pending enable value (R27, R28). -/
def emptyPlaten (p : Fin 12) (s : State) : State :=
  let e := platenOf s p
  putPlaten p { garment := none, enabled := e.pending.getD e.enabled, pending := none } s

/-- A platen's entry with a new enable value: at once when empty, pending when it holds a garment (R28). -/
def enablePlaten (enabled : Bool) (e : Platen) : Platen :=
  match e.garment with
  | none => { e with enabled := enabled, pending := none }
  | some _ => { e with pending := some enabled }

/-- Hand the carousel controller the twelve enable values (R28). -/
def takeEnables (enables : Tbl 12 Bool) (s : State) : State :=
  s.setCarousel
    { s.carousel with
      platens := Vector.ofFn fun p : Fin 12 => enablePlaten (Tbl.at enables p) (Tbl.at s.carousel.platens p) }

/-! ## Releases (R29) -/

/-- A station's release flag. -/
def released (s : State) (st : Station) : Bool := Tbl.at s.carousel.released (stationNum st)

/-- Set a station's release flag. -/
def setReleased (st : Station) (s : State) : State :=
  s.setCarousel { s.carousel with released := Tbl.put s.carousel.released (stationNum st) true }

/-- A station block's release request: taken when it names the platen now at the station and no index or home is in flight (R29). -/
def releaseStation (st : Station) (p : Fin 12) (s : State) : State :=
  if platenAt s (stationPos st) = p ∧ opInFlight s = false then setReleased st s else s

/-- All seven release flags are set (R32). -/
def allReleased (s : State) : Bool := s.carousel.released.toList.all id

/-- The flag due at arrival (R29): an empty or disabled platen is released, but an empty enabled one at LOAD is not. -/
def releasedAtArrival (s : State) (st : Station) : Bool :=
  let e := platenOf s (platenAt s (stationPos st))
  if st = .load then !e.enabled else e.garment.isNone || !e.enabled

/-! ## The unload destination (R40) -/

/-- The unload destination of a garment: a CUT pretreat mark is read as DONE (R40, R56). A strip turns a PENDING mark into SKIPPED (R21), so no
STRIPPED garment has one; the function reads it as SKIPPED. -/
def unloadDestination (r : Garment) : Destination :=
  match r.cond with
  | .good => .dryer
  | .voidPrinted => .dryer
  | .failed => .reject
  | .stripped =>
    match r.pretreat with
    | .done => .reject
    | .cut => .reject
    | .skipped => .return
    | .pending => .return

/-- Decide the destination of the garment at UNLOAD, if there is one, and light its lamp; with none all lamps are off (R40). -/
def decideUnload (s : State) : State :=
  match garmentAtPos s (stationPos .unload) with
  | none => s.setCarousel { s.carousel with lamp := none }
  | some g =>
    match garmentAt s g with
    | none => s.setCarousel { s.carousel with lamp := none }
    | some r =>
      (putGarment g { r with dest := some (unloadDestination r) } s).setCarousel
        { s.carousel with lamp := some (unloadDestination r) }

/-- A change of a garment's condition is decided again at UNLOAD while it waits there (R40). -/
def noticeUnload (g : Fin 32) (s : State) : State :=
  if garmentAtPos s (stationPos .unload) = some g then decideUnload s else s

/-! ## Deletion (R17, R99) -/

/-- Free a garment record. -/
def clearGarment (g : Fin 32) (s : State) : State := s.setGarments (Tbl.put s.garments g none)

/-- Delete a garment record: the end-of-garment ink accounting, then the record is free; a platen that carried it is empty (R17). -/
def deleteGarment (g : Fin 32) (s : State) : State :=
  match garmentAt s g with
  | none => s
  | some r =>
    let freed := clearGarment g (ifCurrent r (addInk r.ink) s)
    match r.platen with
    | none => freed
    | some p => emptyPlaten p freed

/-! ## The transfer list (R120) -/

/-- The transfer list has room. -/
def transferRoom (s : State) : Bool := s.dryer.transfer.length < Config.transferPlaces

/-- A garment joins the tail of the transfer list, with the line clock as entry time and place IN_TRANSFER; a full list refuses it (R120). -/
def appendTransfer (g : Fin 32) (s : State) : State :=
  if transferRoom s then
    changeGarment g (fun r => { r with place := .inTransfer })
      (s.setDryer { s.dryer with transfer := s.dryer.transfer ++ [{ garment := g, entry := s.clock }] })
  else s

end Sys2Proof.Machine
end

