-- ==== Sys2Proof/Machine/FetchOps.lean ====
section
/-! DEFINITION. The band fetch engine's shared operations (Chapter 4): walkers and plane starts, the swath tallies, bank frees, the choice of a
channel, the descriptor checks, and the abrupt and graceful cancels. -/

namespace Sys2Proof.Machine

/-! ## Access to the tables -/

/-- The walker of a channel. -/
def walkerAt (s : State) (c : Fin 6) : Walker := Tbl.at s.engine.walkers c
/-- Replace the walker of a channel. -/
def putWalker (c : Fin 6) (w : Walker) (s : State) : State :=
  s.setEngine { s.engine with walkers := Tbl.put s.engine.walkers c w }
/-- A bank. -/
def bankAt (s : State) (b : Fin 8) : Bank := Tbl.at s.engine.banks b
/-- Replace a bank. -/
def putBank (b : Fin 8) (k : Bank) (s : State) : State :=
  s.setEngine { s.engine with banks := Tbl.put s.engine.banks b k }
/-- The staged queue of a channel, oldest band first (R76). -/
def stagedAt (s : State) (c : Fin 6) : List (Fin 8) := Tbl.at s.engine.staged c
/-- Replace the staged queue of a channel. -/
def putStaged (c : Fin 6) (q : List (Fin 8)) (s : State) : State :=
  s.setEngine { s.engine with staged := Tbl.put s.engine.staged c q }
/-- The swath tally of a print unit, places in order of creation (R73). -/
def tallyAt (s : State) (u : Printer) : List TallyPlace := Tbl.at s.engine.tallies (printerNum u)
/-- Replace the swath tally of a print unit. -/
def putTally (u : Printer) (ps : List TallyPlace) (s : State) : State :=
  s.setEngine { s.engine with tallies := Tbl.put s.engine.tallies (printerNum u) ps }
/-- The fetch in flight. -/
def putFetch (f : Option Fetch) (s : State) : State := s.setEngine { s.engine with fetch := f }
/-- A print unit (R85). -/
def unitAt (s : State) (u : Printer) : PrintUnit := Tbl.at s.prints (printerNum u)
/-- Replace a print unit. -/
def putUnit (u : Printer) (p : PrintUnit) (s : State) : State := s.setPrints (Tbl.put s.prints (printerNum u) p)

/-- The channels of a print unit (Chapter 4). -/
def unitChannels : Printer → List (Fin 6)
  | .white => [0, 1]
  | .color => [2, 3, 4, 5]

/-- The print unit of a channel. -/
def channelUnit (c : Fin 6) : Printer := if c.val < 2 then .white else .color

/-- Every channel, in channel order. -/
def allChannels : List (Fin 6) := [0, 1, 2, 3, 4, 5]

/-- Every bank, in bank order. -/
def allBanks : List (Fin 8) := [0, 1, 2, 3, 4, 5, 6, 7]

/-! ## Banks (R75, R76) -/

/-- The banks a channel holds: FILLING, STAGED or EMITTING (R75). -/
def heldBy (s : State) (c : Fin 6) : Nat := (allBanks.filter fun b => (bankAt s b).owner == some c).length

/-- A bank returns to FREE and leaves its channel's staged queue (R76). -/
def freeBank (b : Fin 8) (s : State) : State :=
  match (bankAt s b).owner with
  | none => putBank b Bank.freed s
  | some c => putStaged c ((stagedAt s c).filter fun x => x != b) (putBank b Bank.freed s)

/-- A free request: taken at once for a STAGED bank, kept with an EMITTING or FILLING one, nothing for a FREE one (R76). -/
def requestFree (b : Fin 8) (s : State) : State :=
  match (bankAt s b).state with
  | .free => s
  | .staged => freeBank b s
  | .filling => putBank b { bankAt s b with freeAsked := true } s
  | .emitting => putBank b { bankAt s b with freeAsked := true } s

/-- A bank of channel `c` whose band record names the garment and a swath that `p` picks. -/
def bankNames (s : State) (c : Fin 6) (g : GarmentId) (p : Nat → Bool) (b : Fin 8) : Bool :=
  (bankAt s b).owner == some c
    && match (bankAt s b).band with
      | none => false
      | some r => r.garment == g && p r.swath

/-- Free requests for every bank of a channel that names the garment and a swath that `p` picks. -/
def requestFrees (c : Fin 6) (g : GarmentId) (p : Nat → Bool) (s : State) : State :=
  (allBanks.filter (bankNames s c g p)).foldl (fun t b => requestFree b t) s

/-! ## Walkers (R71, R72, R74) -/

/-- The chain address of a channel in the snapshot of a slot (R72): a plane start is handed only where one is present. -/
def chainStart (s : State) (slot : Fin 128) (c : Fin 6) : Addr :=
  match (lineAt s slot).snap with
  | none => 0
  | some p => (Tbl.at p.chains c).getD 0

/-- A walker takes a plane start (R72): quota and start mark come from the config snapshot when the channel holds no bank. -/
def takeStart (c : Fin 6) (ps : PlaneStart) (s : State) : State :=
  let w := walkerAt s c
  let fresh := heldBy s c == 0
  putWalker c
    { state := .walking
      work := some ps
      next := chainStart s ps.slot c
      read := 0
      swaths := 0
      bands := 0
      stopSwath := none
      quota := if fresh then some (Tbl.at s.config.quotas c) else w.quota
      startMark := if fresh then some (Tbl.at s.config.startMarks c) else w.startMark
      pending := none }
    s

/-- A walker becomes IDLE and takes its pending start, if any (R72, R74, R80). The next address, the counts and the stop swath, to which
these rules give no value in IDLE, become 0 and absent (DESIGN CHOICE, log entry 37). -/
def idleWalker (c : Fin 6) (s : State) : State :=
  let w := walkerAt s c
  let idled :=
    putWalker c { w with state := .idle, work := none, next := 0, read := 0, swaths := 0, bands := 0, stopSwath := none } s
  match w.pending with
  | none => idled
  | some ps => takeStart c ps idled

/-- The walker of a channel works on a garment. -/
def walksOn (w : Walker) (g : GarmentId) : Bool :=
  match w.work with
  | none => false
  | some ps => ps.garment == g

/-- The fetch in flight is for a channel. -/
def fetchFor (s : State) (c : Fin 6) : Bool :=
  match s.engine.fetch with
  | none => false
  | some f => f.channel == c

/-- Stop a walker at the end of the access in progress, or at once with no fetch in flight for its channel (R80, R81). An access of the
fetch that still waits for the port is left to run and is discarded at its end (DESIGN CHOICE, log entry 39). -/
def stopWalker (c : Fin 6) (s : State) : State :=
  match s.engine.fetch with
  | none => idleWalker c s
  | some f =>
    if f.channel = c then
      putFetch (some { f with stopping := true }) (putWalker c { walkerAt s c with state := .cancelling } s)
    else idleWalker c s

/-! ## Swath tallies (R73) -/

/-- The tally place of a garment at a unit. -/
def tallyFor (s : State) (u : Printer) (g : GarmentId) : Option TallyPlace :=
  (tallyAt s u).find? fun p => p.garment == g

/-- Empty a garment's tally place at a unit. -/
def dropTally (u : Printer) (g : GarmentId) (s : State) : State :=
  putTally u ((tallyAt s u).filter fun p => p.garment != g) s

/-- A print has begun in WAITING, COMMAND and PRINTING (R85). -/
def begunState : PrintState → Bool
  | .waiting => true
  | .command => true
  | .printing => true
  | .idle => false
  | .arrived => false

/-- The current garment of a unit is the one named. -/
def unitHas (s : State) (u : Printer) (g : GarmentId) : Bool :=
  match (unitAt s u).job with
  | none => false
  | some j => j.garment == g

/-- A garment's print at a unit has begun (R85). -/
def printBegun (s : State) (u : Printer) (g : GarmentId) : Bool := begunState (unitAt s u).state && unitHas s u g

/-- A plane start entered in a tally of places (R73): joined to the garment's place, or a new place; with both in use the place of the
garment whose print has not begun, the one created earlier, is reused. -/
def enterTally (begun : GarmentId → Bool) (g : GarmentId) (c : Fin 6) (places : List TallyPlace) : List TallyPlace :=
  let fresh : TallyPlace := { garment := g, channels := [c], count := none }
  if places.any (fun p => p.garment == g) then
    places.map fun p =>
      if p.garment = g ∧ p.channels.contains c = false then { p with channels := p.channels ++ [c] } else p
  else if places.length < 2 then places ++ [fresh]
  else
    match places.find? (fun p => !begun p.garment) with
    | none => places
    | some old => places.erase old ++ [fresh]

/-- Set a garment's swath count at a unit when it is still absent (R69, R73). -/
def setCount (u : Printer) (g : GarmentId) (n : Nat) (s : State) : State :=
  putTally u
    ((tallyAt s u).map fun p => if p.garment = g ∧ p.count = none then { p with count := some n } else p) s

/-- The fetch engine takes a plane start (R72, R73): entered in the tally, and taken by an IDLE walker or kept pending. -/
def planeStart (c : Fin 6) (ps : PlaneStart) (s : State) : State :=
  let u := channelUnit c
  let entered := putTally u (enterTally (printBegun s u) ps.garment c (tallyAt s u)) s
  match (walkerAt entered c).state with
  | .idle => takeStart c ps entered
  | .walking => putWalker c { walkerAt entered c with pending := some ps } entered
  | .cancelling => putWalker c { walkerAt entered c with pending := some ps } entered

/-! ## Cancels (R80, R81) -/

/-- A pending plane start that names the garment is dropped (R80). -/
def dropPending (c : Fin 6) (g : GarmentId) (s : State) : State :=
  let w := walkerAt s c
  match w.pending with
  | none => s
  | some ps => if ps.garment = g then putWalker c { w with pending := none } s else s

/-- An abrupt cancel of a garment on one channel (R80). -/
def cancelChannel (g : GarmentId) (s : State) (c : Fin 6) : State :=
  let dropped := requestFrees c g (fun _ => true) (dropPending c g s)
  let w := walkerAt dropped c
  if w.state = .walking ∧ walksOn w g = true then stopWalker c dropped else dropped

/-- An abrupt cancel of a garment at a print unit (R80). -/
def abruptCancel (u : Printer) (g : GarmentId) (s : State) : State :=
  dropTally u g ((unitChannels u).foldl (cancelChannel g) s)

/-- A swath that a graceful cancel drops: one after the keep swath, or every swath when none is kept (R81). -/
def afterKeep (keep : Option Nat) (swath : Nat) : Bool :=
  match keep with
  | none => true
  | some k => k < swath

/-- The fetch in flight for a channel is for an accepted band of swath `k`. -/
def fetchInSwath (s : State) (c : Fin 6) (k : Nat) : Bool :=
  match s.engine.fetch with
  | none => false
  | some f =>
    match f.phase with
    | .descriptor => false
    | .data _ _ =>
      f.channel == c
        && match (bankAt s f.bank).band with
          | none => false
          | some r => r.swath == k

/-- A graceful cancel of a garment on one channel (R81). A walk that has not staged swath `k` whole goes on with stop swath `k`. So does one
that has accepted the closing descriptor of swath `k` and has that band's data still in flight: R81 makes the walker IDLE there and lets
the fetch run, and the model keeps it WALKING until the band is staged (DESIGN CHOICE, log entry 30). -/
def fadeChannel (g : GarmentId) (keep : Option Nat) (s : State) (c : Fin 6) : State :=
  let freed := requestFrees c g (afterKeep keep) s
  let w := walkerAt freed c
  if w.state = .walking ∧ walksOn w g = true then
    match keep with
    | none => stopWalker c freed
    | some k =>
      if w.swaths < k ∨ fetchInSwath freed c k = true then putWalker c { w with stopSwath := some k } freed
      else stopWalker c freed
  else freed

/-- A graceful cancel of a garment at a print unit (R81): the tally place stays until the print is over. -/
def gracefulCancel (u : Printer) (g : GarmentId) (keep : Option Nat) (s : State) : State :=
  (unitChannels u).foldl (fadeChannel g keep) s

/-- The garment table's notice of a change to FAILED or STRIPPED (R82): each unit whose tally holds the garment and whose
print has not begun gets an abrupt cancel. -/
def noticeEngine (g : GarmentId) (s : State) : State :=
  [Printer.white, .color].foldl
    (fun t u => if (tallyFor t u g).isSome ∧ printBegun t u g = false then abruptCancel u g t else t) s

/-! ## The choice of a channel and a bank (R77, R78) -/

/-- The most banks a channel may hold. -/
def quotaOf (s : State) (c : Fin 6) : Nat := (walkerAt s c).quota.getD 1

/-- A channel can use a bank (R77). -/
def eligible (s : State) (c : Fin 6) : Bool :=
  (walkerAt s c).state == .walking && heldBy s c < quotaOf s c && !fetchFor s c

/-- The better of two channels for the next bank: the one that holds fewer, the lower number first (R77). -/
def betterChannel (s : State) (best : Option (Fin 6)) (c : Fin 6) : Option (Fin 6) :=
  if eligible s c then
    match best with
    | none => some c
    | some b => if heldBy s c < heldBy s b then some c else some b
  else best

/-- The channel the next bank goes to (R77). -/
def chooseChannel (s : State) : Option (Fin 6) := allChannels.foldl (betterChannel s) none

/-- The lowest-numbered FREE bank (R77). -/
def lowestFree (s : State) : Option (Fin 8) := allBanks.find? fun b => (bankAt s b).state == .free

/-! ## Descriptor checks (R66 to R69) -/

/-- The kinds of chain fault. -/
inductive ChainFault where
  | misaligned
  | badLength
  | noChainEnd
  | tooManyBands
  | tooManySwaths
  | memError
  | badRepass
  | swathCount
deriving DecidableEq, Repr

/-- The fault code of a chain fault (R68). -/
def chainFaultCode : ChainFault → Nat
  | .misaligned => 1
  | .badLength => 2
  | .noChainEnd => 3
  | .tooManyBands => 4
  | .tooManySwaths => 5
  | .memError => 6
  | .badRepass => 7
  | .swathCount => 8

/-- A multiple of 8. -/
def aligned8 (a : Addr) : Bool := a.toNat % 8 == 0

/-- The descriptor closes a swath (R67). -/
def closesSwath (d : Descriptor) : Bool := d.swathEnd || d.chainEnd

/-- The passes of the swath a descriptor closes: repass count + 1, and 1 when its SWATH_END flag is clear (R67). -/
def descriptorPasses (d : Descriptor) : Nat := d.repass + 1

/-- The print unit has already started swath `n` of a garment (R69, R85). -/
def swathStartedAt (s : State) (u : Printer) (g : GarmentId) (n : Nat) : Bool :=
  unitHas s u g
    && match (unitAt s u).state with
      | .command => n ≤ (unitAt s u).swath
      | .printing => n ≤ (unitAt s u).swath
      | .waiting => n < (unitAt s u).swath
      | .idle => false
      | .arrived => false

/-- Check 7: a repass swath longer than the quota, or already started (R69). -/
def badRepass (s : State) (c : Fin 6) (g : GarmentId) (d : Descriptor) : Bool :=
  let w := walkerAt s c
  d.swathEnd && 1 ≤ d.repass
    && (quotaOf s c < w.bands + 1 || swathStartedAt s (channelUnit c) g (w.swaths + 1))

/-- Check 8: the swath count of the unit's tally is passed, or missed at the chain's end (R69). -/
def badSwathCount (s : State) (c : Fin 6) (g : GarmentId) (d : Descriptor) : Bool :=
  closesSwath d
    && match (tallyFor s (channelUnit c) g).bind TallyPlace.count with
      | none => false
      | some m => m < (walkerAt s c).swaths + 1 || (d.chainEnd && (walkerAt s c).swaths + 1 != m)

/-- The checks of R68 on a descriptor that was read, in their order; the first that fails gives the fault. -/
def checkDescriptor (s : State) (c : Fin 6) (g : GarmentId) (d : Descriptor) : Option ChainFault :=
  if !aligned8 d.dataAddr || (!d.chainEnd && !aligned8 d.nextAddr) then some .misaligned
  else if d.length < 64 ∨ 65536 < d.length ∨ d.length % 8 ≠ 0 then some .badLength
  else if !d.chainEnd && d.nextAddr == 0 then some .noChainEnd
  else if !d.chainEnd && (walkerAt s c).read + 1 == Config.chainMax then some .tooManyBands
  else if !d.chainEnd && d.swathEnd && (walkerAt s c).swaths + 1 == Config.swathMax then some .tooManySwaths
  else if badRepass s c g d then some .badRepass
  else if badSwathCount s c g d then some .swathCount
  else none

/-- Bytes of burst `i` of a band of length `L`: 256, or what is left (R79). -/
def burstLength (length i : Nat) : Nat := min Config.burstBytes (length - Config.burstBytes * (i - 1))

/-- Bursts of a band of length `L`: L ÷ 256 rounded up (R79). -/
def burstCount (length : Nat) : Nat := (length + (Config.burstBytes - 1)) / Config.burstBytes

/-- Ask the host memory port for burst `i` of a band (R79). -/
def askBurst (d : Descriptor) (i : Nat) (s : State) : State :=
  askPort
    (readAccess .burst (d.dataAddr + BitVec.ofNat 64 (Config.burstBytes * (i - 1))) (burstLength d.length i)) s

end Sys2Proof.Machine
end

