-- ==== Sys2Proof/Machine/PrintOps.lean ====
section
/-! DEFINITION. The print units' shared operations (Chapter 5): lanes and emission, the swath start condition, the end of a print without a
failure of its own, and a unit's answer to the notices of the garment table and the fetch engine (R96, R97). -/

namespace Sys2Proof.Machine

/-! ## The unit's own carriage, requester, station and mark -/

/-- The carriage of a unit. -/
def printRole : Printer → Role
  | .white => .whiteCarriage
  | .color => .colorCarriage

/-- The requester of a unit. -/
def printRequester : Printer → Requester
  | .white => .white
  | .color => .color

/-- The station of a unit. -/
def printStation : Printer → Station
  | .white => .white
  | .color => .color

/-- The unit's own step mark. -/
def printMark (u : Printer) (r : Garment) : Mark :=
  match u with
  | .white => r.white
  | .color => r.color

/-- Write the unit's own step mark. -/
def withPrintMark (u : Printer) (m : Mark) (r : Garment) : Garment :=
  match u with
  | .white => { r with white := m }
  | .color => { r with color := m }

/-- A swath is in flight in COMMAND and PRINTING (R85). -/
def swathInFlight (p : PrintUnit) : Bool :=
  match p.state with
  | .command => true
  | .printing => true
  | .idle => false
  | .arrived => false
  | .waiting => false

/-! ## Station work in flight (R32, R37) -/

/-- A pretreat pass is in flight (section 3.2). -/
def passInFlight (s : State) : Bool :=
  match s.pretreat.state with
  | .spraying => true
  | .finishing => true
  | .idle => false
  | .waiting => false

/-- A press cycle is in flight (section 3.4). -/
def cycleInFlight (s : State) : Bool :=
  match s.press.state with
  | .setpoint => true
  | .command => true
  | .pressing => true
  | .idle => false
  | .waiting => false

/-- A flash exposure is in flight (R109). -/
def exposureInFlight (s : State) : Bool :=
  match s.flash.state with
  | .heating => true
  | .exposing => true
  | .ending => true
  | .idle => false
  | .waiting => false

/-- A pretreat pass, press cycle, swath or flash exposure is in flight. -/
def stationWork (s : State) : Bool :=
  passInFlight s || cycleInFlight s || exposureInFlight s || s.prints.toList.any swathInFlight

/-! ## Lanes (R85, R91) -/

/-- The lane of a channel. -/
def laneAt (s : State) (c : Fin 6) : Lane := Tbl.at s.lanes c
/-- Replace the lane of a channel. -/
def putLane (c : Fin 6) (l : Lane) (s : State) : State := s.setLanes (Tbl.put s.lanes c l)

/-- An emission of a bank ends: a kept free request is taken, and otherwise the bank is STAGED again (R76, R91). -/
def endEmission (b : Fin 8) (s : State) : State :=
  if (bankAt s b).freeAsked then freeBank b s else putBank b { bankAt s b with state := .staged } s

/-- A lane stops at once and is OFF, its drop sum 0 (log entry 37); a bank it emits ends its emission with it (R95). -/
def stopLane (s : State) (c : Fin 6) : State :=
  match (laneAt s c).bank with
  | none => putLane c Lane.off s
  | some b => putLane c Lane.off (endEmission b s)

/-- Every lane of a unit stops (R95). -/
def stopLanes (u : Printer) (s : State) : State := (unitChannels u).foldl stopLane s

/-- The bank holds a band of a garment's swath, with the band number that `p` picks. -/
def bandOfSwath (s : State) (g : GarmentId) (k : Nat) (p : Band → Bool) (b : Fin 8) : Bool :=
  match (bankAt s b).band with
  | none => false
  | some r => r.garment == g && r.swath == k && p r

/-- The banks on a channel's staged queue that hold bands of a garment's swath, oldest first. -/
def swathBanks (s : State) (c : Fin 6) (g : GarmentId) (k : Nat) : List (Fin 8) :=
  (stagedAt s c).filter (bandOfSwath s g k fun _ => true)

/-- The bank of a channel that holds the closing band of a garment's swath. -/
def closingBank (s : State) (c : Fin 6) (g : GarmentId) (k : Nat) : Option (Fin 8) :=
  (stagedAt s c).find? (bandOfSwath s g k fun r => r.closes)

/-- The passes a channel has for a garment's swath: those of its closing band, and 1 while that is not staged (R88, R91). -/
def channelPasses (s : State) (g : GarmentId) (k : Nat) (c : Fin 6) : Nat :=
  match (closingBank s c g k).bind fun b => (bankAt s b).band with
  | none => 1
  | some r => r.passes

/-- A lane begins to emit a bank: the bank is EMITTING (R91). -/
def emitBank (c : Fin 6) (b : Fin 8) (s : State) : State :=
  putLane c { laneAt s c with state := .emitting, bank := some b }
    (putBank b { bankAt s b with state := .emitting } s)

/-- A lane emits a bank, or stops when there is none (R91, R92). -/
def emitOrStop (c : Fin 6) (b : Option (Fin 8)) (s : State) : State :=
  match b with
  | none => putLane c { laneAt s c with state := .stopped, bank := none } s
  | some x => emitBank c x s

/-- A channel begins a pass from band 1 of the swath, the oldest band of it in the staged queue (R90, R91). -/
def beginPass (g : GarmentId) (k : Nat) (s : State) (c : Fin 6) : State := emitOrStop c (swathBanks s c g k).head? s

/-- The bank that holds the band after band `n` of a swath (R91). -/
def nextBank (s : State) (c : Fin 6) (g : GarmentId) (k n : Nat) : Option (Fin 8) :=
  (stagedAt s c).find? (bandOfSwath s g k fun r => r.band == n + 1)

/-- The lane has ended the pass or the swath: PASS_ENDED, COMPLETE or STOPPED (R91). -/
def restingLane (l : Lane) : Bool :=
  match l.state with
  | .passEnded => true
  | .complete => true
  | .stopped => true
  | .off => false
  | .emitting => false

/-- The passes run in lockstep: with every active channel at rest and passes left, the pass number rises by one and every
PASS_ENDED channel begins the new pass (R91). -/
def stepPass (u : Printer) (g : GarmentId) (s : State) : State :=
  let p := unitAt s u
  if p.active.all (fun c => restingLane (laneAt s c)) ∧ p.pass < p.passes then
    (p.active.filter fun c => (laneAt s c).state == .passEnded).foldl (beginPass g p.swath)
      (putUnit u { p with pass := p.pass + 1 } s)
  else s

/-- A channel may start swath `k` of a garment (R88). -/
def channelReady (s : State) (g : GarmentId) (k : Nat) (c : Fin 6) : Bool :=
  (walkerAt s c).startMark.getD 1 ≤ (swathBanks s c g k).length || (closingBank s c g k).isSome

/-! ## Ends of a print -/

/-- A unit with no garment: IDLE, its timers stopped. Its active channel set is emptied and its graceful cancel flag cleared, which the
rules do only at a reset (R101) and at a print's beginning (R87) (DESIGN CHOICE, log entry 37). -/
def idleUnit (u : Printer) (s : State) : State := putUnit u PrintUnit.reset s

/-- The unit releases its platen and enters IDLE. -/
def leaveUnit (u : Printer) (j : PrintJob) (s : State) : State :=
  idleUnit u (releaseStation (printStation u) j.platen s)

/-- The print is over: the tally place is emptied, the platen is released and the unit is IDLE (R93, R97). -/
def printOver (u : Printer) (j : PrintJob) (s : State) : State :=
  leaveUnit u j (dropTally u j.garment s)

/-- The carriage's STOP, whose outcome is not acted on (R95). -/
def stopCarriage (u : Printer) (s : State) : State :=
  replaceTxn (printRequester u) (putQuiet (printRole u) .stop) s

/-- The cut of a print without steps 4 and 5 of the cut procedure (R96): the failure was raised by the failing block. -/
def quietCut (u : Printer) (j : PrintJob) (s : State) : State :=
  let marked := changeGarment j.garment.index (withPrintMark u .cut) (stopLanes u s)
  let dropped := abruptCancel u j.garment marked
  leaveUnit u j (if swathInFlight (unitAt s u) then stopCarriage u dropped else dropped)

/-- A graceful cancel with no keep swath, from WAITING (R97). -/
def fadeOut (u : Printer) (j : PrintJob) (s : State) : State :=
  printOver u j (gracefulCancel u j.garment none s)

/-- A graceful cancel that keeps the swath in flight (R97). -/
def fadeAfter (u : Printer) (j : PrintJob) (s : State) : State :=
  let p := unitAt s u
  gracefulCancel u j.garment (some p.swath) (putUnit u { p with graceful := true } s)

/-! ## Notices (R96) -/

/-- What a notice to a unit says of the garment. -/
inductive Notice where
  | failed
  | stripped
  | voidPrinted
  | chainFault
deriving DecidableEq, Repr

/-- A failure or a chain fault. -/
def abruptNotice : Notice → Bool
  | .failed => true
  | .chainFault => true
  | .stripped => false
  | .voidPrinted => false

/-- A unit acts on a notice of its current garment by its state (R96). -/
def noticeCurrent (u : Printer) (j : PrintJob) (n : Notice) (s : State) : State :=
  match (unitAt s u).state with
  | .idle => s
  | .arrived => if n = .chainFault then s else leaveUnit u j s
  | .waiting => if abruptNotice n then quietCut u j s else fadeOut u j s
  | .command | .printing =>
    if abruptNotice n then quietCut u j s
    else if n = .voidPrinted then fadeAfter u j s
    else s

/-- The tally row of R96: a VOID_PRINTED garment whose print has not begun is cancelled gracefully and its print is over. -/
def noticeTallied (u : Printer) (g : GarmentId) (n : Notice) (s : State) : State :=
  if n = .voidPrinted ∧ (tallyFor s u g).isSome ∧ printBegun s u g = false then
    dropTally u g (gracefulCancel u g none s)
  else s

/-- A unit acts on a notice that names a garment (R96). -/
def noticePrint (u : Printer) (g : GarmentId) (n : Notice) (s : State) : State :=
  let tallied := noticeTallied u g n s
  match (unitAt s u).job with
  | none => tallied
  | some j => if j.garment = g then noticeCurrent u j n tallied else tallied

end Sys2Proof.Machine
end

