-- ==== Sys2Proof/Machine/StationOps.lean ====
section
/-! DEFINITION. Shared operations of the pretreat, press and flash units: the tank and the valve channels (R51, R57, R58), the units' IDLE
states, and their answers to a change of a garment's condition (R56, R60, R110, R116). -/

namespace Sys2Proof.Machine

/-! ## The pretreatment tank (R57, R58) -/

/-- The tank state of a level (R58). -/
def tankStateOf (level lowMark reserve : Nat) : TankState :=
  if level ≤ reserve then .empty else if level ≤ lowMark then .low else .ready

/-- A tank incident: it carries the level in µL (R58). -/
def tankIncident (k : IncidentKind) (t : Tank) (s : State) : State := raise { incident k with value := t.level } s

/-- The incidents of a change of the tank state by use (R58). -/
def tankFall (old : TankState) (t : Tank) (s : State) : State :=
  match old, t.state with
  | .ready, .low => tankIncident .tankLow t s
  | .ready, .empty => tankIncident .tankEmpty t (tankIncident .tankLow t s)
  | .low, .empty => tankIncident .tankEmpty t s
  | .ready, .ready => s
  | .low, .ready => s
  | .low, .low => s
  | .empty, .ready => s
  | .empty, .low => s
  | .empty, .empty => s

/-- Fluid in nL taken from a tank (R57). -/
def drawTank (fluid : Nat) (t : Tank) : Tank :=
  let left := t.level * 1000 + t.rest - fluid
  { t with
    level := left / 1000
    rest := left % 1000
    state := tankStateOf (left / 1000) t.lowMark t.reserve }

/-- Replace the tank. -/
def putTank (t : Tank) (s : State) : State := s.setPretreat { s.pretreat with tank := t }

/-- A valve close hands the tank the fluid used, in nL, and the tank state is evaluated (R57, R58). -/
def useFluid (fluid : Nat) (s : State) : State :=
  let t := drawTank fluid s.pretreat.tank
  tankFall s.pretreat.tank.state t (putTank t s)

/-! ## Valve channels (R51) -/

/-- Valve channel `z`, 0 for zone 1. -/
def valveAt (s : State) (z : Fin 8) : Valve := Tbl.at s.pretreat.valves z
/-- Replace a valve channel. -/
def putValve (z : Fin 8) (v : Valve) (s : State) : State :=
  s.setPretreat { s.pretreat with valves := Tbl.put s.pretreat.valves z v }

/-- Every valve channel, in zone order. -/
def allValves : List (Fin 8) := [0, 1, 2, 3, 4, 5, 6, 7]

/-- The open time in tenths of a millisecond of a valve closed early (R51). -/
def openTenths (s : State) (since : Clock) : Nat := elapsed s since / Config.ticksPerTenth

/-- Close a channel at once: an OPEN channel hands its fluid for the time it was open, an ARMED one is dropped (R51, R52, R54, R55). -/
def closeValve (s : State) (z : Fin 8) : State :=
  match valveAt s z with
  | .closed => s
  | .armed _ _ _ => putValve z .closed s
  | .opened since _ _ => useFluid (openTenths s since * s.pretreat.latched.flow) (putValve z .closed s)

/-- Close every channel at once. R57 gives no order in which the fluid of several OPEN channels is subtracted, and the level that
TANK_LOW and TANK_EMPTY carry depends on it; the lowest zone goes first (DESIGN CHOICE, log entry 43). -/
def closeValves (s : State) : State := allValves.foldl closeValve s

/-- A channel that is not CLOSED. -/
def valveBusy : Valve → Bool
  | .closed => false
  | .armed _ _ _ => true
  | .opened _ _ _ => true

/-- A channel is OPEN or ARMED. -/
def anyValve (s : State) : Bool := s.pretreat.valves.toList.any valveBusy

/-! ## IDLE states -/

/-- The pretreat unit with no pass: IDLE, the guard timer stopped (R53, R54). The row counter and the factor, which these rules do not
name, become 0 (DESIGN CHOICE, log entry 37). -/
def idlePretreat (s : State) : State :=
  s.setPretreat { s.pretreat with state := .idle, job := none, factor := 0, row := 0, guard := none }

/-- The pretreat unit releases its platen and enters IDLE. -/
def leavePretreat (j : Job) (s : State) : State := idlePretreat (releaseStation .pretreat j.platen s)

/-- The press unit with no cycle: IDLE, the guard timer stopped (R61, R62). -/
def idlePress (s : State) : State := s.setPress Press.reset

/-- The press unit releases its platen and enters IDLE. -/
def leavePress (j : Job) (s : State) : State := idlePress (releaseStation .press j.platen s)

/-- The flash unit with no garment: IDLE, its limit timer stopped. The sample flag stays until the read completes (R115). The requirement,
the latched period and the next tick time become 0 (DESIGN CHOICE, log entry 37). -/
def idleFlash (s : State) : State :=
  s.setFlash { s.flash with state := .idle, job := none, need := 0, periodMs := 0, nextTick := 0, limit := none }

/-- The exposure is over: the flash unit releases its platen and enters IDLE (R115). -/
def leaveFlash (j : PrintJob) (s : State) : State := idleFlash (releaseStation .flash j.platen s)

/-- The exposure leaves ENDING, whatever the outcome of its HEAT_OFF (R115). -/
def flashOver (s : State) : State :=
  match s.flash.job with
  | none => idleFlash s
  | some j => leaveFlash j s

/-- The exposure enters ENDING with its limit timer stopped (R113, R114). -/
def enterEnding (s : State) : State := s.setFlash { s.flash with state := .ending, limit := none }

/-- Hand a HEAT_OFF for FLASH through the FLASH requester (R114); with FLASH out of reach it completes LOST at once and the exposure
is over (R115, R161). -/
def heatOff (s : State) : State :=
  if lostAtOnce .flash .flash s then flashOver s else replaceTxn .flash (putCmd .flash .heatOff 0) s

/-- The exposure ends: ENDING with a HEAT_OFF (R113, R114). -/
def endExposure (s : State) : State := heatOff (enterEnding s)

/-! ## Notices of a garment's condition -/

/-- The pretreat unit's answer: WAITING for the garment, it leaves for IDLE and releases (R56). -/
def noticePretreat (g : Fin 32) (s : State) : State :=
  match s.pretreat.state, s.pretreat.job with
  | .waiting, some j => if j.garment = g then leavePretreat j s else s
  | .waiting, none => s
  | .idle, _ => s
  | .spraying, _ => s
  | .finishing, _ => s

/-- The press unit's answer: WAITING for the garment, it leaves for IDLE and releases (R60). -/
def noticePress (g : Fin 32) (s : State) : State :=
  match s.press.state, s.press.job with
  | .waiting, some j => if j.garment = g then leavePress j s else s
  | .waiting, none => s
  | .idle, _ => s
  | .setpoint, _ => s
  | .command, _ => s
  | .pressing, _ => s

/-- A notice that ends an exposure under way: VOID_PRINTED leaves the mark, FAILED makes it CUT (R116). -/
def noticeExposure (g : Fin 32) (n : Notice) (s : State) : State :=
  match n with
  | .voidPrinted => endExposure s
  | .failed => endExposure (changeGarment g (fun r => { r with flash := .cut }) s)
  | .stripped => s
  | .chainFault => s

/-- The flash unit's answer to a notice of its garment (R110, R116). -/
def noticeFlash (g : GarmentId) (n : Notice) (s : State) : State :=
  match s.flash.job with
  | none => s
  | some j =>
    if j.garment = g then
      match s.flash.state with
      | .waiting => leaveFlash j s
      | .heating | .exposing => noticeExposure g.index n s
      | .idle => s
      | .ending => s
    else s

end Sys2Proof.Machine
end

