-- ==== Sys2Proof/Machine/GarmentOps.lean ====
section
/-! DEFINITION. The garment table's fail operation (R18) and the line table's handling of a void (R20, R21), with the notices that a change of
a garment's condition sends to the blocks. -/

namespace Sys2Proof.Machine

/-- The engine is told of FAILED and STRIPPED and not of VOID_PRINTED (R82). -/
def noticeFetch (g : GarmentId) (n : Notice) (s : State) : State :=
  match n with
  | .failed => noticeEngine g s
  | .stripped => noticeEngine g s
  | .voidPrinted => s
  | .chainFault => s

/-- Notice of a change of a garment's condition to every block that acts on one (R40, R56, R60, R82, R96, R116). -/
def noticeAll (g : Fin 32) (r : Garment) (n : Notice) (s : State) : State :=
  let id := garmentId g r
  let stations := noticePress g (noticePretreat g (noticeFetch id n s))
  noticeUnload g (noticePrint .color id n (noticeFlash id n (noticePrint .white id n stations)))

/-- The condition still counts for the line: GOOD or VOID_PRINTED (R6, R18). -/
def counted : Condition → Bool
  | .good => true
  | .voidPrinted => true
  | .failed => false
  | .stripped => false

/-- A counted garment becomes FAILED (R18): the counts, the incident and the notices. What the counts lead to for the line and its order
comes first, with its incidents (DESIGN CHOICE of the order, log entry 26). -/
def failCounted (g : Fin 32) (r : Garment) (code : FaultCode) (s : State) : State :=
  let failed := ifCurrent r countFailed (putGarment g { r with cond := .failed, fault := some code } s)
  noticeAll g r .failed (raise { garmentIncident .garmentFailed g r failed with detail := faultCode code } failed)

/-- The fail operation (R18): a garment already FAILED or STRIPPED is left as it is. -/
def failOp (g : Fin 32) (code : FaultCode) (s : State) : State :=
  match garmentAt s g with
  | none => s
  | some r => if counted r.cond then failCounted g r code s else s

/-! ## Voids (R20, R21) -/

/-- A spray pass has started on a garment: it is in flight or the mark is DONE or CUT (R21). -/
def sprayStarted (s : State) (g : Fin 32) (r : Garment) : Bool :=
  r.pretreat == .done || r.pretreat == .cut
    || (passInFlight s && match s.pretreat.job with
      | none => false
      | some j => j.garment == g)

/-- A swath of a unit's current print has started (R85). -/
def unitSwathStarted (p : PrintUnit) : Bool :=
  match p.state with
  | .command => true
  | .printing => true
  | .waiting => 1 < p.swath
  | .idle => false
  | .arrived => false

/-- A swath of one unit has started for a garment: its print there is done, or a swath of the current print has begun (R21). -/
def swathStartedAtUnit (s : State) (g : Fin 32) (r : Garment) (u : Printer) : Bool :=
  printMark u r == .done || (unitHas s u (garmentId g r) && unitSwathStarted (unitAt s u))

/-- A print swath, white or color, has started for a garment (R21). -/
def swathStarted (s : State) (g : Fin 32) (r : Garment) : Bool :=
  swathStartedAtUnit s g r .white || swathStartedAtUnit s g r .color

/-- A PENDING mark becomes SKIPPED (R21). -/
def skipPending : Mark → Mark
  | .pending => .skipped
  | .done => .done
  | .skipped => .skipped
  | .cut => .cut

/-- Every PENDING mark of a garment becomes SKIPPED (R21). -/
def skipMarks (r : Garment) : Garment :=
  { r with
    pretreat := skipPending r.pretreat
    press := skipPending r.press
    white := skipPending r.white
    flash := skipPending r.flash
    color := skipPending r.color }

/-- The destination a strip leads to: REJECT once a pass has started, RETURN otherwise (R21). -/
def stripDestination (s : State) (g : Fin 32) (r : Garment) : Destination :=
  if sprayStarted s g r then .reject else .return

/-- A garment is stripped (R21): bound falls by one, and GARMENT_STRIPPED carries the destination; incidents of the line's order come
first, as in `failCounted` (log entry 26). -/
def stripGarment (g : Fin 32) (r : Garment) (s : State) : State :=
  let stripped := ifCurrent r lowerBound (putGarment g { skipMarks r with cond := .stripped } s)
  noticeAll g r .stripped
    (raise { shirtIncident .garmentStripped g r with detail := destinationCode (stripDestination s g r) }
      stripped)

/-- A garment with print on it is carried as VOID_PRINTED (R21). -/
def carryGarment (g : Fin 32) (r : Garment) (s : State) : State :=
  noticeAll g r .voidPrinted (putGarment g { skipMarks r with cond := .voidPrinted } s)

/-- A live GOOD garment of a voided line: stripped, or carried once a swath has started (R21). -/
def voidGarment (slot : Fin 128) (take : Byte) (s : State) (g : Fin 32) : State :=
  match garmentAt s g with
  | none => s
  | some r =>
    if r.slot = slot ∧ r.stamp = take ∧ r.cond = .good then
      if swathStarted s g r then carryGarment g r s else stripGarment g r s
    else s

/-- Every garment record index, lowest first. -/
def allGarments : List (Fin 32) := List.ofFn id

/-- Every live GOOD garment of a line is handled (R21), the lowest record first (DESIGN CHOICE, log entry 43). -/
def voidGarments (slot : Fin 128) (s : State) : State :=
  allGarments.foldl (voidGarment slot (lineAt s slot).take) s

/-- The line is CLOSING with reason VOID (R20). -/
def closeVoid (slot : Fin 128) (s : State) : State :=
  reportLine slot { lineAt s slot with state := .closing, reason := .void } s

/-- The line table acts on a void request reported on a slot (R20). -/
def voidLine (slot : Fin 128) (s : State) : State :=
  match (lineAt s slot).state with
  | .queued => settleCounts slot (closeVoid slot s)
  | .active => voidGarments slot (settleCounts slot (closeVoid slot s))
  | .closing =>
    if (lineAt s slot).reason = .failLimit then voidGarments slot (closeVoid slot s) else s
  | .idle => s
  | .refused => s
  | .finished => s
  | .failed => s
  | .voided => s

end Sys2Proof.Machine
end

