-- ==== Sys2Proof/Machine/CutOps.lean ====
section
/-! DEFINITION. How work in flight ends: a spray pass (R53, R54), a press cycle (R61, R62), a print (R93 to R95), a flash exposure (R113, R114),
a chain fault (R70), and an index or a home (R36). A unit leaves its working state before its own fail request, so
that the notice of that failure finds nothing more to cut. -/

namespace Sys2Proof.Machine

/-! ## Spray passes -/

/-- The PASS_CUT incident: the detail and the row count (R53, R54). -/
def raisePassCut (detail row : Nat) (s : State) : State := raise { incident .passCut with detail := detail, value := row } s

/-- Write the pretreat mark of a garment. -/
def markPretreat (g : Fin 32) (m : Mark) (s : State) : State := changeGarment g (fun r => { r with pretreat := m }) s

/-- The failure of a pass that was cut or ended short: mark CUT, PRETREAT_CUT, PASS_CUT, release (R53, R54). -/
def failPass (j : Job) (detail row : Nat) (s : State) : State :=
  releaseStation .pretreat j.platen
    (raisePassCut detail row (failOp j.garment .pretreatCut (markPretreat j.garment .cut (idlePretreat s))))

/-- The SPRAY_CARRIAGE STOP, whose outcome is not acted on (R54). -/
def stopSpray (s : State) : State := replaceTxn .pretreat (putQuiet .sprayCarriage .stop) s

/-- A pass is cut (R54). -/
def passCut (detail : Nat) (s : State) : State :=
  match s.pretreat.job with
  | none => s
  | some j => stopSpray (failPass j detail s.pretreat.row (closeValves s))

/-- A pass completes (R53): DONE after 16 rows, and otherwise cut with detail 5 and no STOP. -/
def passComplete (s : State) : State :=
  match s.pretreat.job with
  | none => s
  | some j =>
    if s.pretreat.row = 16 then
      releaseStation .pretreat j.platen (markPretreat j.garment .done (idlePretreat s))
    else failPass j 5 s.pretreat.row s

/-- The carriage's part of a pass ends (R53): complete with every channel CLOSED, FINISHING otherwise. -/
def passDone (s : State) : State :=
  if anyValve s then s.setPretreat { s.pretreat with state := .finishing } else passComplete s

/-! ## Press cycles -/

/-- PRESS_SKIPPED for a garment: it carries the slot, the garment index and the serial (R60, R62, R63). -/
def raisePressSkipped (g : Fin 32) (detail : Nat) (s : State) : State :=
  match garmentAt s g with
  | none => s
  | some r => raise { shirtIncident .pressSkipped g r with detail := detail } s

/-- The press mark becomes CUT, and the unit reports the skipped press and releases, IDLE (R62). -/
def skipPress (j : Job) (detail : Nat) (s : State) : State :=
  releaseStation .press j.platen
    (raisePressSkipped j.garment detail
      (idlePress (changeGarment j.garment (fun r => { r with press := .cut }) s)))

/-- A cycle is cut (R62): with detail 4 or 5 a STOP follows. -/
def pressCut (detail : Nat) (s : State) : State :=
  match s.press.job with
  | none => s
  | some j =>
    let cut := skipPress j detail s
    if detail = 4 ∨ detail = 5 then replaceTxn .press (putQuiet .press .stop) cut else cut

/-- A cycle completes (R61). -/
def pressComplete (s : State) : State :=
  match s.press.job with
  | none => s
  | some j => leavePress j (changeGarment j.garment (fun r => { r with press := .done }) s)

/-! ## Prints -/

/-- The fault code of a print cut's cause (R95). -/
def printFault (cause : Nat) : FaultCode :=
  if cause = 4 ∨ cause = 5 ∨ cause = 6 ∨ cause = 7 then .printUnderrun else .printStarved

/-- Causes 4 to 7 stop the carriage (R95). -/
def cutStops (cause : Nat) : Bool := cause == 4 || cause == 5 || cause == 6 || cause == 7

/-- PRINT_CUT for a garment (R95). -/
def raisePrintCut (u : Printer) (g : Fin 32) (cause swath : Nat) (s : State) : State :=
  match garmentAt s g with
  | none => s
  | some r =>
    raise { garmentIncident .printCut g r s with detail := 16 * (printerNum u).val + cause, value := swath } s

/-- Steps 1 to 3 of the cut procedure (R95): lanes and timers stop, the mark is CUT. The unit has left its working state. -/
def haltPrint (u : Printer) (j : PrintJob) (s : State) : State :=
  idleUnit u (changeGarment j.garment.index (withPrintMark u .cut) (stopLanes u s))

/-- Steps 5 and 6 of the cut procedure: the fail request and the abrupt cancel (R95). -/
def dropPrint (u : Printer) (j : PrintJob) (code : FaultCode) (s : State) : State :=
  abruptCancel u j.garment (failOp j.garment.index code s)

/-- A print is cut with a cause (R95). -/
def printCut (u : Printer) (cause : Nat) (s : State) : State :=
  match (unitAt s u).job with
  | none => s
  | some j =>
    let dropped :=
      dropPrint u j (printFault cause)
        (raisePrintCut u j.garment.index cause (unitAt s u).swath (haltPrint u j s))
    releaseStation (printStation u) j.platen (if cutStops cause then stopCarriage u dropped else dropped)

/-- The starve timer of the swath that a unit waits for (R87, R93). -/
def starveTimer (s : State) (limitMs : Nat) : Timer := timerFrom s (limitMs * Config.ticksPerMs)

/-- A garment with a channel's swath drop sum added to its ink counter (R93). -/
def inkedChannel (s : State) (r : Garment) (c : Fin 6) : Garment :=
  { r with ink := Tbl.put r.ink c (satAdd Config.count32 (Tbl.at r.ink c) (laneAt s c).sum) }

/-- A garment with the swath drop sums of a unit's active channels added (R93). -/
def inkedGarment (s : State) (active : List (Fin 6)) (r : Garment) : Garment := active.foldl (inkedChannel s) r

/-- The lanes of a unit are OFF (R93), their drop sums 0 (log entry 37). -/
def lanesOff (u : Printer) (s : State) : State := (unitChannels u).foldl (fun t c => putLane c Lane.off t) s

/-- The next swath: k rises by one and the starve timer starts (R93). Its passes are 0 until the swath's command fixes them (DESIGN
CHOICE, log entry 37). -/
def nextSwath (u : Printer) (s : State) : State :=
  let p := unitAt s u
  putUnit u
    { p with
      state := .waiting
      swath := p.swath + 1
      passes := 0
      pass := 0
      guard := none
      starve := some (starveTimer s p.starveLimit) }
    s

/-- A swath succeeded (R93): its ink is added, and the print is over or goes on to the next swath. -/
def swathDone (u : Printer) (j : PrintJob) (s : State) : State :=
  let p := unitAt s u
  let inked := lanesOff u (changeGarment j.garment.index (inkedGarment s p.active) s)
  if p.graceful then printOver u j inked
  else if (tallyFor inked u j.garment).bind TallyPlace.count = some p.swath then
    printOver u j (changeGarment j.garment.index (withPrintMark u .done) inked)
  else nextSwath u inked

/-- The carriage's DONE is judged (R93). -/
def judgeSwath (u : Printer) (s : State) : State :=
  match (unitAt s u).job with
  | none => s
  | some j =>
    if (unitAt s u).active.all fun c => (laneAt s c).state == .complete then swathDone u j s else printCut u 5 s

/-! ## Flash exposures -/

/-- FLASH_CUT for a garment (R114). -/
def raiseFlashCut (g : Fin 32) (cause : Nat) (s : State) : State :=
  match garmentAt s g with
  | none => s
  | some r =>
    raise { garmentIncident .flashCut g r s with detail := cause, value := doseCU r.flashDose } s

/-- Write the flash mark of a garment. -/
def markFlash (g : Fin 32) (m : Mark) (s : State) : State := changeGarment g (fun r => { r with flash := m }) s

/-- An exposure ends in fault (R114). -/
def flashCut (cause : Nat) (s : State) : State :=
  match s.flash.job with
  | none => s
  | some j =>
    heatOff
      (failOp j.garment.index .gelShort
        (raiseFlashCut j.garment.index cause (markFlash j.garment.index .cut (enterEnding s))))

/-- An exposure succeeds: the mark is DONE and the heater is told to stop (R113). -/
def flashDone (s : State) : State :=
  match s.flash.job with
  | none => s
  | some j => endExposure (markFlash j.garment.index .done s)

/-! ## Chain faults (R70) -/

/-- CHAIN_FAULT for a garment (R70). -/
def raiseChainFault (c : Fin 6) (f : ChainFault) (tag : Nat) (g : Fin 32) (s : State) : State :=
  match garmentAt s g with
  | none => s
  | some r =>
    raise { garmentIncident .chainFault g r s with detail := 16 * c.val + chainFaultCode f, value := tag } s

/-- A chain fault on a channel while a garment is walked, its fetch ended and its bank free (R70). -/
def chainFaulted (c : Fin 6) (f : ChainFault) (tag : Nat) (g : GarmentId) (s : State) : State :=
  let u := channelUnit c
  noticePrint u g .chainFault
    (abruptCancel u g (failOp g.index .chainFault (raiseChainFault c f tag g.index s)))

/-! ## Index and home faults (R36, R38) -/

/-- The end of an index or a home: the timer stops and the operation is over. -/
def endOp (s : State) : State := s.setCarousel { s.carousel with op := .none, timer := none }

/-- An index or a home faults with a cause (R36, R38); a RUN request pending on a home is refused (R175). -/
def indexFault (cause : Nat) (s : State) : State :=
  let home := homing s
  let ended := endOp s
  let unhomed := ended.setCarousel { ended.carousel with homed := false }
  let held := holdWith { unhomed.ctl.causes with indexFault := true } unhomed
  let told := raise { incident .indexFault with detail := cause, value := home.toNat } held
  let stopped := replaceTxn .carousel (putQuiet .indexDrive .stop) told
  if home then settleFaulted stopped else stopped

end Sys2Proof.Machine
end

