-- ==== Sys2Proof/Machine/ArrivalOps.lean ====
section
/-! DEFINITION. The completion of an index or a home (R30, R35, R38): the rotation of the map, the releases, the arrivals at the five work
stations (R48, R60, R86, R110) and the plane starts (R43). -/

namespace Sys2Proof.Machine

/-! ## Arrivals -/

/-- The pretreat factor of a garment: the line's override, or the catalog's (R46). -/
def factorOf (s : State) (r : Garment) : Nat :=
  match (snapOf s r).bind Snapshot.factor with
  | some f => f
  | none => (catalogAt s r.blank).factor

/-- An arrival at PRETREAT (R48). -/
def arrivePretreat (p : Fin 12) (g : Fin 32) (r : Garment) (s : State) : State :=
  if r.cond = .good ∧ r.pretreat = .pending then
    if factorOf s r = 0 then
      releaseStation .pretreat p (putGarment g { r with pretreat := .skipped, press := .skipped } s)
    else
      s.setPretreat
        { s.pretreat with state := .waiting, job := some { garment := g, platen := p }, factor := factorOf s r }
  else releaseStation .pretreat p s

/-- An arrival at PRESS (R60). -/
def arrivePress (p : Fin 12) (g : Fin 32) (r : Garment) (s : State) : State :=
  if r.cond = .good ∧ r.press = .pending then
    if r.pretreat ≠ .done then releaseStation .press p (putGarment g { r with press := .skipped } s)
    else if (roleAddr s .press).isNone then
      releaseStation .press p (raisePressSkipped g 0 (putGarment g { r with press := .cut } s))
    else s.setPress { s.press with state := .waiting, job := some { garment := g, platen := p } }
  else releaseStation .press p s

/-- A plane chain of one of a unit's channels is present in a garment's line (R43, R86). -/
def hasPlane (s : State) (r : Garment) (c : Fin 6) : Bool :=
  match snapOf s r with
  | none => false
  | some p => (Tbl.at p.chains c).isSome

/-- The garment a print or flash unit keeps. -/
def jobOf (p : Fin 12) (g : Fin 32) (r : Garment) : PrintJob :=
  { garment := garmentId g r, platen := p, slot := r.slot }

/-- An arrival at WHITE or COLOR (R86). -/
def arrivePrint (u : Printer) (p : Fin 12) (g : Fin 32) (r : Garment) (s : State) : State :=
  if r.cond = .good ∧ printMark u r = .pending then
    if (unitChannels u).any (hasPlane s r) then
      putUnit u { unitAt s u with state := .arrived, job := some (jobOf p g r) } s
    else releaseStation (printStation u) p (putGarment g (withPrintMark u .skipped r) s)
  else releaseStation (printStation u) p s

/-- The flash requirement of a garment's line, in cure units. -/
def flashNeed (s : State) (r : Garment) : Nat :=
  match snapOf s r with
  | none => 0
  | some p => p.flash

/-- FLASH is passed by: the mark is SKIPPED and the platen released (R110). -/
def skipFlash (p : Fin 12) (g : Fin 32) (r : Garment) (s : State) : State :=
  releaseStation .flash p (putGarment g { r with flash := .skipped } s)

/-- An arrival at FLASH (R110). -/
def arriveFlash (p : Fin 12) (g : Fin 32) (r : Garment) (s : State) : State :=
  if r.cond = .good ∧ r.flash = .pending then
    if r.white ≠ .done ∨ flashNeed s r = 0 then skipFlash p g r s
    else if (roleAddr s .flash).isNone then
      skipFlash p g r (raise (garmentIncident .flashSkipped g r s) s)
    else s.setFlash { s.flash with state := .waiting, job := some (jobOf p g r), need := flashNeed s r }
  else releaseStation .flash p s

/-- Hand a station the arrival of a garment. -/
def arriveAt (st : Station) (p : Fin 12) (g : Fin 32) (r : Garment) (s : State) : State :=
  match st with
  | .pretreat => arrivePretreat p g r s
  | .press => arrivePress p g r s
  | .white => arrivePrint .white p g r s
  | .flash => arriveFlash p g r s
  | .color => arrivePrint .color p g r s
  | .load => s
  | .unload => s

/-- The arrival at a station: an empty platen is not acted on (R48, R60, R86, R110). -/
def arrive (s : State) (st : Station) : State :=
  match garmentAtPos s (stationPos st) with
  | none => s
  | some g =>
    match garmentAt s g with
    | none => s
    | some r => arriveAt st (platenAt s (stationPos st)) g r s

/-- The five work stations, in the order of their positions: the order in which step 5 of R30 hands the arrivals of one completion, for
which it gives none (DESIGN CHOICE, log entry 43). -/
def workStations : List Station := [.pretreat, .press, .white, .flash, .color]

/-! ## Plane starts (R43) -/

/-- The plane start of one channel, when the line has its plane. -/
def startPlane (g : Fin 32) (r : Garment) (s : State) (c : Fin 6) : State :=
  if hasPlane s r c then planeStart c { garment := garmentId g r, slot := r.slot } s else s

/-- The plane starts of the garment at an approach position, lowest channel first (R43; the order is a DESIGN CHOICE, log entry 43). -/
def startPlanes (u : Printer) (pos : Fin 12) (s : State) : State :=
  match garmentAtPos s pos with
  | none => s
  | some g =>
    match garmentAt s g with
    | none => s
    | some r =>
      if r.cond = .good ∧ printMark u r = .pending then (unitChannels u).foldl (startPlane g r) s else s

/-! ## Completion (R30) -/

/-- The map after one rotation: the platen at position q stands at q + 1, the one at 11 at 0 (R26). -/
def rotateMap (m : Tbl 12 (Fin 12)) : Tbl 12 (Fin 12) := Vector.ofFn fun q : Fin 12 => Tbl.at m (q + 11)

/-- Step 1: the platen map rotates. -/
def rotate (s : State) : State := s.setCarousel { s.carousel with map := rotateMap s.carousel.map }

/-- Step 2: the garment that has left LOAD stands at position 1 and is ON_CAROUSEL (R27). -/
def leaveLoad (s : State) : State :=
  match garmentAtPos s 1 with
  | none => s
  | some g => changeGarment g (fun r => { r with place := .onCarousel }) s

/-- The release flags due at arrival, by station number (R29). -/
def arrivalFlags (s : State) : Tbl 7 Bool :=
  #v[releasedAtArrival s .load, releasedAtArrival s .pretreat, releasedAtArrival s .press, releasedAtArrival s .white,
    releasedAtArrival s .flash, releasedAtArrival s .color, releasedAtArrival s .unload]

/-- Step 3: the release set is cleared and the flags due at arrival are set (R29). -/
def clearReleases (s : State) : State := s.setCarousel { s.carousel with released := arrivalFlags s }

/-- Step 5: each work station takes its arrival. -/
def handArrivals (s : State) : State := workStations.foldl arrive s

/-- Step 6: the plane starts of the garments at the approach positions. -/
def handStarts (s : State) : State := startPlanes .color colorApproach (startPlanes .white whiteApproach s)

/-- The completion steps of R30, in their order. -/
def completion (s : State) : State := handStarts (handArrivals (decideUnload (clearReleases (leaveLoad (rotate s)))))

/-- An index completes: the carousel stays homed (R35). -/
def indexComplete (s : State) : State := completion (endOp s)

/-- A home completes (R38): homed, the completion steps, INDEX_FAULT cleared, CAROUSEL_HOMED, and a pending RUN request settled.
The request goes before the drain's test at the end of a home (R176), for which R175 and R176 give no order: an accepted request clears
the drain flag, so that the drain does not end there (DESIGN CHOICE, log entry 21). -/
def homeComplete (s : State) : State :=
  let ended := endOp s
  let arrived := completion (ended.setCarousel { ended.carousel with homed := true })
  let cleared := setLine arrived.ctl.mode { arrived.ctl.causes with indexFault := false } arrived
  settleHomed (raise (incident .carouselHomed) cleared)

/-- The DONE status that ends the operation in flight (R35, R38). -/
def opComplete (s : State) : State := if homing s then homeComplete s else indexComplete s

end Sys2Proof.Machine
end

