-- ==== Sys2Proof/Machine/DryerOps.lean ====
section
/-! DEFINITION. The cure calculator and temperature sources (Chapter 6), and the dryer tracker's shared operations (Chapter 7): zones, doses, the
odometer and the overdue test, readiness, the exit procedure with its verdict, refeed, and the pack queue it feeds (R140, R141). -/

namespace Sys2Proof.Machine

/-! ## The cure calculator (R102, R103) -/

/-- The excess of a temperature over the base, at most the ceiling (R102). -/
def excess (t base ceiling : Nat) : Nat := min ceiling (t - base)

/-- One dose increment, in dose ticks (R102). -/
def increment (t base ceiling period : Nat) : Nat := excess t base ceiling * period

/-- A dose accumulator with an increment added, saturating (R103). -/
def addDose (dose inc : Nat) : Nat := satAdd Config.count32 dose inc

/-! ## Temperature sources (R106, R107) -/

/-- A VALUE field taken by a source: clamped to 5000, it replaces any earlier one received since the last tick (R106). -/
def receive (value : Nat) (c : Source) : Source := { c with received := some (min 5000 value) }

/-- A source one tick older without a fresh value (R107). -/
def ageSource (hold : Nat) (c : Source) : Source :=
  { c with
    age := satAdd 255 c.age 1
    state := if c.lastGood.isSome ∧ c.age + 1 ≤ hold then .held else .stale }

/-- A source after a period tick (R107). -/
def tickSource (hold : Nat) (c : Source) : Source :=
  match c.received with
  | some v => { received := none, lastGood := some v, age := 0, state := .fresh }
  | none => ageSource hold c

/-- The temperature a source yields at the tick it has just taken: none when it is STALE (R107). -/
def yielded (c : Source) : Option Nat :=
  match c.state with
  | .fresh => c.lastGood
  | .held => c.lastGood
  | .stale => none

/-! ## Zones (R126, R129, R135) -/

/-- Zone `z`, 0 for zone 1. -/
def zoneAt (s : State) (z : Fin 4) : Source := Tbl.at s.dryer.zones z
/-- Replace a zone's source. -/
def putZone (z : Fin 4) (c : Source) (s : State) : State :=
  s.setDryer { s.dryer with zones := Tbl.put s.dryer.zones z c }
/-- Every zone, in order. -/
def allZones : List (Fin 4) := [0, 1, 2, 3]

/-- The incident of a zone's change of state at a tick (R126). -/
def zoneIncident (z : Fin 4) (old new : Source) (s : State) : State :=
  if new.state = .stale ∧ old.state ≠ .stale then
    raise { incident .zoneStale with detail := z.val + 1, value := new.lastGood.getD 0 } s
  else if new.state = .fresh ∧ old.state = .stale then
    raise { incident .zoneFresh with detail := z.val + 1, value := new.lastGood.getD 0 } s
  else s

/-- A zone's source yields its result for a tick (R126, R128 step 1). -/
def tickZone (s : State) (z : Fin 4) : State :=
  let new := tickSource s.config.holdCount (zoneAt s z)
  zoneIncident z (zoneAt s z) new (putZone z new s)

/-- A zone's readiness count after a tick (R135). -/
def readyAfter (s : State) (z : Fin 4) : Nat :=
  let c := zoneAt s z
  if c.state = .fresh ∧ s.config.readyTemp ≤ c.lastGood.getD 0 then min 2 (Tbl.at s.dryer.ready z + 1) else 0

/-- Every readiness count is 2. -/
def zonesAreReady (s : State) : Bool := s.dryer.ready.toList.all fun n => n == 2

/-- The readiness counts of a tick taken in WARMING, and the zones-ready notice (R135). -/
def tickReadiness (s : State) : State :=
  if s.ctl.mode = .warming then
    let counted := s.setDryer { s.dryer with ready := Vector.ofFn fun z : Fin 4 => readyAfter s z }
    if zonesAreReady counted then zonesReady counted else counted
  else s

/-- The sum of the lengths of the zones before zone `z`. -/
def zoneStart (s : State) (z : Fin 4) : Nat :=
  ((allZones.filter fun y => y.val < z.val).map fun y => Tbl.at s.config.zoneLengths y).sum

/-- The dryer length (R119). -/
def dryerLength (s : State) : Nat := (s.config.zoneLengths.toList).sum

/-- The distance travelled since an entry odometer, modulo 2^32 (R129). -/
def travelled (s : State) (odo : Word) : Nat := (s.dryer.odometer - odo).toNat

/-- A zone holds a travelled distance (R129). -/
def zoneHolds (s : State) (d : Nat) (z : Fin 4) : Bool :=
  zoneStart s z ≤ d && d < zoneStart s z + Tbl.at s.config.zoneLengths z

/-- A garment credited from a zone's result at a tick (R129). -/
def creditGarment (s : State) (period : Nat) (temp : Option Nat) (r : Garment) : Garment :=
  match temp with
  | none => { r with unverified := true }
  | some t =>
    { r with
      dryerDose := addDose r.dryerDose (increment t s.config.dryerBase s.config.dryerCeiling period)
      peak := max r.peak t }

/-- Replace the belt queue. -/
def putBelt (b : List BeltEntry) (s : State) : State := s.setDryer { s.dryer with belt := b }

/-- The beyond mark of an entry after a dose step (R129): it stays set, and it is set at or above the dryer length. -/
def beyondAfter (s : State) (e : BeltEntry) : Bool := e.beyond || dryerLength s ≤ travelled s e.odo

/-- The dose step of a garment on the belt (R129). -/
def doseStep (period : Nat) (e : BeltEntry) (g : Fin 32) (s : State) : State :=
  if beyondAfter s e then s
  else
    match allZones.find? (zoneHolds s (travelled s e.odo)) with
    | none => s
    | some z => changeGarment g (creditGarment s period (yielded (zoneAt s z))) s

/-- An entry as a tick leaves it: its beyond mark set by its dose step, and credited from the next tick on (R128). -/
def steppedEntry (s : State) (e : BeltEntry) : BeltEntry :=
  if e.counted ∧ e.garment.isSome then { e with beyond := beyondAfter s e } else { e with counted := true }

/-- The dose step of one belt entry (R128 step 3). -/
def stepEntry (period : Nat) (s : State) (e : BeltEntry) : State :=
  match e.garment with
  | none => s
  | some g => if e.counted then doseStep period e g s else s

/-- Every belt entry takes its dose step (R128 step 3). -/
def stepBelt (period : Nat) (s : State) : State :=
  putBelt (s.dryer.belt.map (steppedEntry s)) (s.dryer.belt.foldl (stepEntry period) s)

/-- The odometer advances by belt speed times period while the belt runs (R130). -/
def advance (period : Nat) (s : State) : State :=
  if s.dryer.running then
    s.setDryer { s.dryer with odometer := s.dryer.odometer + BitVec.ofNat 32 (s.config.beltSpeed * period) }
  else s

/-- A garment entry is overdue from now on (R130). That the distance has wrapped below the dryer length is tested as the beyond mark
set and the distance below the dryer length now, so that a snapshot with longer zones can make an entry overdue whose distance has not
wrapped (DESIGN CHOICE, log entry 38). -/
def fallsOverdue (s : State) (e : BeltEntry) : Bool :=
  e.garment.isSome && !e.overdue
    && (dryerLength s + s.config.exitTolerance + Config.overdueMargin < travelled s e.odo
      || (e.beyond && travelled s e.odo < dryerLength s))

/-- The OVERDUE flag and incident of a garment (R130). -/
def raiseOverdue (s : State) (e : BeltEntry) : State :=
  match e.garment with
  | none => s
  | some g =>
    match garmentAt s g with
    | none => s
    | some r =>
      if fallsOverdue s e then
        raise { garmentIncident .overdue g r s with value := travelled s e.odo } (putGarment g { r with overdue := true } s)
      else s

/-- An entry with its overdue mark after the test. -/
def markedEntry (s : State) (e : BeltEntry) : BeltEntry := { e with overdue := e.overdue || fallsOverdue s e }

/-- The overdue test of a tick (R130). R130 gives no order among the OVERDUE incidents of one tick; they are raised from the head of the
belt queue to its tail (DESIGN CHOICE, log entry 43). -/
def testOverdue (s : State) : State :=
  putBelt (s.dryer.belt.map (markedEntry s)) (s.dryer.belt.foldl raiseOverdue s)

/-! ## The pack queue (R140, R141) -/

/-- Replace the pack queue. -/
def putQueue (q : List TimedEntry) (s : State) : State := s.setPack { s.pack with queue := q }

/-- A list without the entry of a garment. -/
def withoutGarment (g : Fin 32) (q : List TimedEntry) : List TimedEntry := q.filter fun e => e.garment != g

/-- PACK_MISSING for a garment (R141). -/
def raiseMissing (g : Fin 32) (detail : Nat) (s : State) : State :=
  match garmentAt s g with
  | none => s
  | some r =>
    raise { garmentIncident .packMissing g r s with detail := detail, value := doseCU r.dryerDose } s

/-- A pack entry is removed as missing (R141): detail 0 for expiry, 1 for overflow. -/
def packMissing (g : Fin 32) (detail : Nat) (s : State) : State :=
  deleteGarment g
    (raiseMissing g detail (failOp g .missingAtPack (putQueue (withoutGarment g s.pack.queue) s)))

/-- The head of a full pack queue is removed as missing (R140). -/
def makeRoom (s : State) : State :=
  if s.pack.queue.length < Config.packPlaces then s
  else
    match s.pack.queue with
    | [] => s
    | e :: _ => packMissing e.garment 1 s

/-- The pack unit takes a garment at a belt exit (R140). -/
def packAppend (g : Fin 32) (exit : Clock) (s : State) : State :=
  let ready := makeRoom s
  putQueue (ready.pack.queue ++ [{ garment := g, entry := exit }]) ready

/-! ## Exit and verdict (R132, R133) -/

/-- The rows of the verdict table (R133). -/
inductive ExitRow where
  | unverified
  | scorched
  | cured
  | refeed
  | undercured
deriving DecidableEq, Repr

/-- The peak is above the blank's scorch temperature, 0 being no limit (R133). -/
def peakScorched (s : State) (r : Garment) : Bool :=
  (catalogAt s r.blank).scorchTemp != 0 && (catalogAt s r.blank).scorchTemp < r.peak

/-- The scorch limit of a garment's line, 0 being no limit (R133). -/
def scorchLimit (s : State) (r : Garment) : Nat :=
  match snapOf s r with
  | none => 0
  | some p => p.scorch

/-- The cure requirement of a garment's line. -/
def cureNeed (s : State) (r : Garment) : Nat :=
  match snapOf s r with
  | none => 0
  | some p => p.cure

/-- The dose passes the line's scorch limit. -/
def doseScorched (s : State) (r : Garment) : Bool :=
  scorchLimit s r != 0 && dosePasses r.dryerDose (scorchLimit s r)

/-- The row of the verdict table that decides a garment (R133). -/
def exitRow (s : State) (r : Garment) : ExitRow :=
  if r.unverified then .unverified
  else if peakScorched s r || doseScorched s r then .scorched
  else if doseMeets r.dryerDose (cureNeed s r) then .cured
  else if r.refeeds < s.config.refeedLimit ∧ r.cond = .good then .refeed
  else .undercured

/-- The exit verdict field of a row (R133). -/
def rowVerdict : ExitRow → Option Verdict
  | .unverified => none
  | .scorched => none
  | .cured => some .cured
  | .refeed => some .undercured
  | .undercured => some .undercured

/-- The fail request of a row (R133). -/
def rowFault : ExitRow → Option FaultCode
  | .unverified => some .unverified
  | .scorched => some .scorched
  | .cured => none
  | .refeed => none
  | .undercured => some .undercured

/-- The fields a row writes (R133). -/
def withVerdict (row : ExitRow) (r : Garment) : Garment :=
  { r with verdict := rowVerdict row, refeed := row == .refeed }

/-- The fail request of a row for a GOOD garment (R133). -/
def failByRow (g : Fin 32) (row : ExitRow) (s : State) : State :=
  match rowFault row with
  | none => s
  | some code => failOp g code s

/-- The verdict of a garment at its exit (R133): a FAILED or STRIPPED garment gets none. -/
def reachVerdict (g : Fin 32) (s : State) : State :=
  match garmentAt s g with
  | none => s
  | some r =>
    match r.cond with
    | .good => failByRow g (exitRow s r) (putGarment g (withVerdict (exitRow s r) r) s)
    | .voidPrinted => putGarment g (withVerdict (exitRow s r) r) s
    | .failed => s
    | .stripped => s

/-- An exit is early: the beyond mark clear and the distance below the dryer length less the tolerance (R132). -/
def exitsEarly (s : State) (e : BeltEntry) : Bool :=
  !e.beyond && travelled s e.odo < dryerLength s - s.config.exitTolerance

/-- Steps 1 and 2 of the exit procedure on the record (R132). -/
def withExit (exit : Clock) (early : Bool) (r : Garment) : Garment :=
  { r with beltExit := some exit, early := r.early || early }

/-- Step 4: the last exit dose goes to the line (R132). -/
def reportDose (g : Fin 32) (s : State) : State :=
  match garmentAt s g with
  | none => s
  | some r => ifCurrent r (setLastDose (doseCU r.dryerDose)) s

/-- Steps 1 to 4 of the exit procedure for a garment whose entry has left the belt queue (R132). -/
def exitGarment (e : BeltEntry) (g : Fin 32) (exit : Clock) (s : State) : State :=
  reportDose g (reachVerdict g (changeGarment g (withExit exit (exitsEarly s e)) s))

/-- The whole exit procedure for an exit edge (R132): the garment goes on to the pack queue. -/
def exitToPack (e : BeltEntry) (g : Fin 32) (exit : Clock) (s : State) : State :=
  packAppend g exit (changeGarment g (fun r => { r with place := .awaitingPack }) (exitGarment e g exit s))

/-! ## Refeed (R134) -/

/-- The fields that a refeed clears (R134). -/
def refedGarment (r : Garment) : Garment :=
  { r with
    early := false
    overdue := false
    refeed := false
    verdict := none
    beltEntry := none
    beltExit := none
    entryOdo := none }

/-- A refeed append that finds room (R134). -/
def refeedAppend (g : Fin 32) (s : State) : State := appendTransfer g (changeGarment g refedGarment s)

/-! ## Samples (R106, R112, R126, R127) -/

/-- A temperature status: with FAULT zero its VALUE is a reading for the source (R106). -/
def takeReading (f : StatusFields) (c : Source) : Source := if f.fault = 0 then receive f.value c else c

/-- A zone's status (R126). -/
def zoneStatus (z : Fin 4) (f : StatusFields) (s : State) : State := putZone z (takeReading f (zoneAt s z)) s

/-- The belt drive's status (R127). -/
def beltStatus (f : StatusFields) (s : State) : State :=
  s.setDryer { s.dryer with running := f.fault == 0 && f.ready != 0 }

/-- A status of FLASH, from a sample or after an attention service (R112): FAULT ends an exposure in EXPOSING, and a VALUE is a reading
for the source. Outside EXPOSING a status is not acted on: R112 says so of FAULT, and that the VALUE of a status taken in another state is
no reading either is the model's choice (DESIGN CHOICE, log entry 31). -/
def flashStatus (f : StatusFields) (s : State) : State :=
  match s.flash.state with
  | .exposing =>
    if f.fault = 0 then s.setFlash { s.flash with source := receive f.value s.flash.source } else flashCut 4 s
  | .idle => s
  | .waiting => s
  | .heating => s
  | .ending => s

end Sys2Proof.Machine
end

