-- ==== Sys2Proof/Machine/MatchOps.lean ====
section
/-! DEFINITION. The match unit (section 1.3): the screening of a load scan, withdrawal, STOCK and ORDER matching, and the bind
(R8 to R14, R16). -/

namespace Sys2Proof.Machine

/-- A tag kind read from KIND (R8). -/
inductive TagClass where
  | stock
  | order
  | bin
  | invalid
deriving DecidableEq, Repr

/-- The tag kind of a tag (R8). -/
def tagClass (t : TagFields) : TagClass :=
  match t.kind with
  | 0 => .stock
  | 1 => .order
  | 2 => .bin
  | _ => .invalid

/-- An incident of a scan: it carries the serial (R9). -/
def scanIncident (k : IncidentKind) (t : TagFields) : Incident := { incident k with serial := t.serial }

/-- An incident of a scan that names a slot: with its order key (R9). -/
def slotScanIncident (k : IncidentKind) (t : TagFields) (slot : Fin 128) (s : State) : Incident :=
  { scanIncident k t with slot := some slot, key := keyOf s slot }

/-- An incident of a scan that names a live garment: with its slot and order key (R9). -/
def garmentScanIncident (k : IncidentKind) (t : TagFields) (g : Fin 32) (r : Garment) (s : State) : Incident :=
  { slotScanIncident k t r.slot s with garment := some g }

/-- The live record that carries a serial. -/
def findSerial (s : State) (serial : Nat) : Option (Fin 32) :=
  allGarments.find? fun g =>
    match garmentAt s g with
    | none => false
    | some r => r.serial == serial

/-- The lowest-numbered free garment record (R13). -/
def freeRecord (s : State) : Option (Fin 32) := allGarments.find? fun g => (garmentAt s g).isNone

/-! ## Binding (R11 to R13, R16) -/

/-- The line may take another garment: QUEUED or ACTIVE (R11, R12). -/
def takesBinds (st : LineState) : Bool :=
  match st with
  | .queued => true
  | .active => true
  | .idle | .refused | .closing | .finished | .failed | .voided => false

/-- The line has room: bound + finished is below its quantity (R11, R12). -/
def hasRoom (l : LineEntry) : Bool := l.bound + l.finished < quantityOf l

/-- The line's snapshot names a blank code (R11, R12). -/
def blankIs (l : LineEntry) (blank : Nat) : Bool :=
  match l.snap with
  | none => false
  | some p => p.blank == blank

/-- The line is RUSH. -/
def isRush (l : LineEntry) : Bool :=
  match l.snap with
  | none => false
  | some p => p.rush

/-- A candidate of a STOCK tag (R11). -/
def candidate (s : State) (blank : Nat) (i : Fin 128) : Bool :=
  takesBinds (lineAt s i).state && blankIs (lineAt s i) blank && hasRoom (lineAt s i)

/-- The first-ranked candidate: RUSH before NORMAL, then the nearest the head of the acceptance order list (R11). -/
def stockMatch (s : State) (blank : Nat) : Option (Fin 128) :=
  (s.accepted.find? fun i => candidate s blank i && isRush (lineAt s i)).or (s.accepted.find? (candidate s blank))

/-- The record that a bind fills (R16). -/
def boundGarment (s : State) (t : TagFields) (k : TagKind) (i : Fin 128) : Garment :=
  { serial := t.serial
    tagKind := k
    blank := t.blank
    slot := i
    stamp := (lineAt s i).take
    platen := some (platenAt s (stationPos .load))
    place := .atLoad
    cond := .good
    fault := none
    pretreat := .pending
    press := .pending
    white := .pending
    flash := .pending
    color := .pending
    dest := none
    rowOverlap := false
    early := false
    overdue := false
    refeed := false
    unverified := false
    flashDose := 0
    dryerDose := 0
    peak := 0
    verdict := none
    refeeds := 0
    ink := Tbl.all 0
    bindTime := s.clock
    beltEntry := none
    beltExit := none
    entryOdo := none }

/-- A bind's effect on the line: bound rises by one, and QUEUED becomes ACTIVE (R13). -/
def boundLine (l : LineEntry) : LineEntry := { l with state := .active, bound := satAdd Config.count8 l.bound 1 }

/-- The line number in a slot's snapshot. -/
def lineNumber (l : LineEntry) : Nat :=
  match l.snap with
  | none => 0
  | some p => p.lineNo

/-- The load scanner's SHOW: 16 × slot + line number (R14, R170). -/
def showLoad (i : Fin 128) (lineNo : Nat) (s : State) : State :=
  replaceTxn .load (putCmd .loadScanner .show (16 * i.val + lineNo)) s

/-- BOUND (R13). -/
def raiseBound (t : TagFields) (i : Fin 128) (g : Fin 32) (s : State) : State :=
  raise
    { slotScanIncident .bound t i s with garment := some g, detail := lineNumber (lineAt s i), value := t.blank } s

/-- Bind a scanned blank to a line in a free record (R13). -/
def bind (t : TagFields) (k : TagKind) (i : Fin 128) (g : Fin 32) (s : State) : State :=
  let filled := loadPlaten (platenAt s (stationPos .load)) g (putGarment g (boundGarment s t k i) s)
  let counted := reportLine i (boundLine (lineAt filled i)) filled
  raiseBound t i g (showLoad i (lineNumber (lineAt counted i)) counted)

/-- A STOCK tag is matched (R11). -/
def matchStock (t : TagFields) (g : Fin 32) (s : State) : State :=
  match stockMatch s t.blank with
  | none => raise { scanIncident .noOrder t with value := t.blank } s
  | some i => bind t .stock i g s

/-- TAG_MISMATCH of an ORDER tag with the detail of its first failing test (R12). -/
def orderMismatch (t : TagFields) (detail : Nat) (i : Fin 128) (s : State) : State :=
  raise { slotScanIncident .tagMismatch t i s with detail := detail, value := t.slot } s

/-- An ORDER tag is matched (R12). -/
def matchOrder (t : TagFields) (g : Fin 32) (s : State) : State :=
  match slotOf t.slot with
  | none => raise { scanIncident .tagMismatch t with detail := 65536, value := t.slot } s
  | some i =>
    if takesBinds (lineAt s i).state = false then orderMismatch t 65537 i s
    else if blankIs (lineAt s i) t.blank = false then orderMismatch t 65538 i s
    else if hasRoom (lineAt s i) = false then orderMismatch t 65539 i s
    else bind t .order i g s

/-! ## Withdrawal (R10) -/

/-- A GOOD garment leaves bound at a withdrawal (R6, R10). -/
def withdrawnCount (r : Garment) (s : State) : State :=
  if r.cond = .good then ifCurrent r lowerBound s else s

/-- The garment on the LOAD platen is withdrawn (R10). -/
def withdraw (t : TagFields) (g : Fin 32) (r : Garment) (s : State) : State :=
  raise (garmentScanIncident .withdrawn t g r s) (withdrawnCount r (deleteGarment g s))

/-! ## Screening (R9) -/

/-- The line takes load scans: it is neither IDLE nor STOPPED (R9). -/
def scanMode (m : Mode) : Bool :=
  match m with
  | .idle => false
  | .stopped => false
  | .warming => true
  | .run => true
  | .hold => true

/-- Checks 6 to 8: the serial, a free record, and the match by kind (R9). -/
def matchTag (t : TagFields) (k : TagKind) (s : State) : State :=
  match findSerial s t.serial with
  | some g =>
    match garmentAt s g with
    | none => s
    | some r => raise (garmentScanIncident .duplicateTag t g r s) s
  | none =>
    match freeRecord s with
    | none => raise (scanIncident .tableFull t) s
    | some g =>
      match k with
      | .stock => matchStock t g s
      | .order => matchOrder t g s

/-- Check 5: the garment held by the LOAD platen is withdrawn by its own serial and reported otherwise (R9). -/
def occupied (t : TagFields) (g : Fin 32) (s : State) : State :=
  match garmentAt s g with
  | none => s
  | some r =>
    if r.serial = t.serial then withdraw t g r s else raise (garmentScanIncident .platenOccupied t g r s) s

/-- Checks 4 to 8 of a STOCK or ORDER tag (R9). -/
def screenPlaten (t : TagFields) (k : TagKind) (s : State) : State :=
  let e := platenOf s (platenAt s (stationPos .load))
  if e.enabled = false then raise (scanIncident .platenDisabled t) s
  else
    match e.garment with
    | some g => occupied t g s
    | none => matchTag t k s

/-- A load scan is screened and dealt with (R9). -/
def loadScan (t : TagFields) (s : State) : State :=
  if scanMode s.ctl.mode = false then raise (scanIncident .lineNotReady t) s
  else if opInFlight s then raise { scanIncident .lineNotReady t with detail := 1 } s
  else
    match tagClass t with
    | .stock => screenPlaten t .stock s
    | .order => screenPlaten t .order s
    | .bin => raise { scanIncident .tagMismatch t with detail := t.kind } s
    | .invalid => raise { scanIncident .tagMismatch t with detail := t.kind } s

end Sys2Proof.Machine
end

