-- ==== Sys2Proof/Machine/PackOps.lean ====
section
/-! DEFINITION. The pack unit (Chapter 8): pack scans, destinations, bins and the overflow waiting list (R142 to R147, R150 to R152). -/

namespace Sys2Proof.Machine

/-! ## Destinations (R144, R147) -/

/-- A pack-table destination or answer (R147). -/
inductive PackCode where
  | bin (b : Fin 12)
  | overflow
  | spare
  | refeed
  | reject
  | cleared
  | refused
deriving DecidableEq, Repr

/-- The destination code of R147. -/
def packCodeNum : PackCode → Nat
  | .bin b => b.val + 1
  | .overflow => 13
  | .spare => 14
  | .refeed => 15
  | .reject => 16
  | .cleared => 17
  | .refused => 18

/-- Hand the display place a SHOW with a destination code (R147). -/
def showPack (c : PackCode) (s : State) : State := replaceTxn .pack (putCmd .packScanner .show (packCodeNum c)) s

/-! ## Bins (R150, R151) -/

/-- Every bin, lowest first: bin 1 is 0. -/
def allBins : List (Fin 12) := [0, 1, 2, 3, 4, 5, 6, 7, 8, 9, 10, 11]

/-- The lowest-numbered free bin (R150). -/
def freeBin (s : State) : Option (Fin 12) := allBins.find? fun b => (Tbl.at s.pack.bins b).isNone

/-- Record an order in a bin, or make the bin free. -/
def putBin (b : Fin 12) (key : Option Word) (s : State) : State :=
  s.setPack { s.pack with bins := Tbl.put s.pack.bins b key }

/-- Replace the overflow waiting list. -/
def putWaiting (w : List Word) (s : State) : State := s.setPack { s.pack with waiting := w }

/-- An order's bin changes: the entry, and the bin field of every item's slot (R151). -/
def changeBin (o : Order) (b : OrderBin) (s : State) : State :=
  writeBins { o with bin := b } (putOrder { o with bin := b } s)

/-- The first garment of an order is given a bin, or OVERFLOW when none is free (R150). -/
def assignBin (o : Order) (s : State) : State :=
  match freeBin s with
  | some b => changeBin o (.bin b) (putBin b (some o.key) s)
  | none => changeBin o .waiting (putWaiting (s.pack.waiting ++ [o.key]) s)

/-- The order of a key has a bin or waits for one (R150). -/
def ensureBin (key : Word) (s : State) : State :=
  match orderAt s key with
  | none => s
  | some o => if o.bin = .none then assignBin o s else s

/-- An order with a garment packed to its bin (R150). -/
def packedToBin (o : Order) : Order := { o with packed := satAdd Config.count16 o.packed 1 }

/-- An order with a garment packed to OVERFLOW (R150). -/
def packedToOverflow (o : Order) : Order :=
  { packedToBin o with overflow := satAdd Config.count16 o.overflow 1 }

/-- The destination of a garment of an order whose bin is settled. -/
def orderDestination (s : State) (key : Word) : PackCode :=
  match orderAt s key with
  | none => .overflow
  | some o =>
    match o.bin with
    | .bin b => .bin b
    | .none => .overflow
    | .waiting => .overflow

/-- The packed count of an order rises, and the overflow count with it at OVERFLOW (R150). -/
def countPacked (key : Word) (c : PackCode) (s : State) : State :=
  match orderAt s key with
  | none => s
  | some o =>
    match c with
    | .bin _ => putOrder (packedToBin o) s
    | .overflow => putOrder (packedToOverflow o) s
    | .spare | .refeed | .reject | .cleared | .refused => s

/-! ## The end of a garment at the pack table (R145, R146) -/

/-- PACKED (R145). -/
def raisePacked (g : Fin 32) (c : PackCode) (s : State) : State :=
  match garmentAt s g with
  | none => s
  | some r =>
    raise { garmentIncident .packed g r s with detail := packCodeNum c, value := doseCU r.dryerDose } s

/-- The pack accounting of a garment on its line (R145 step 4). -/
def packCounts (r : Garment) (c : PackCode) (s : State) : State :=
  match c with
  | .bin _ => ifCurrent r countFinished s
  | .overflow => ifCurrent r countFinished s
  | .spare => ifCurrent r lowerBound s
  | .refeed | .reject | .cleared | .refused => s

/-- Steps 2 to 4 of R145. -/
def packTold (g : Fin 32) (r : Garment) (c : PackCode) (s : State) : State :=
  packCounts r c (raisePacked g c (showPack c s))

/-- A garment leaves for a destination other than REFEED: steps 2 to 5 of R145. -/
def packOut (g : Fin 32) (r : Garment) (c : PackCode) (s : State) : State := deleteGarment g (packTold g r c s)

/-- A CURED garment goes to its order's bin or to OVERFLOW (R145, R150). -/
def packToOrder (g : Fin 32) (r : Garment) (s : State) : State :=
  let binned := ensureBin (keyOf s r.slot) s
  let c := orderDestination binned (keyOf s r.slot)
  packOut g r c (countPacked (keyOf s r.slot) c binned)

/-- The refeed count rises by one (R146). -/
def countRefeed (g : Fin 32) (s : State) : State := changeGarment g (fun r => { r with refeeds := r.refeeds + 1 }) s

/-- A garment goes to REFEED, or to REJECT when the transfer list is full (R146). -/
def packRefeed (g : Fin 32) (r : Garment) (s : State) : State :=
  let raised := countRefeed g s
  if transferRoom raised then packTold g r .refeed (refeedAppend g raised)
  else packOut g r .reject (failOp g .undercured raised)

/-- A garment found by a pack scan gets its destination (R144). A GOOD garment has either its REFEED flag or the verdict CURED, and
a STRIPPED one does not reach the pack table (R132). -/
def packGarment (g : Fin 32) (s : State) : State :=
  match garmentAt s g with
  | none => s
  | some r =>
    match r.cond with
    | .failed => packOut g r .reject s
    | .voidPrinted => packOut g r .spare s
    | .good => if r.refeed then packRefeed g r s else packToOrder g r s
    | .stripped => packOut g r .reject s

/-! ## Scans (R142, R143) -/

/-- The record of a garment carries a serial. -/
def hasSerial (s : State) (serial : Nat) (g : Fin 32) : Bool :=
  match garmentAt s g with
  | none => false
  | some r => r.serial == serial

/-- The pack entry whose garment carries a serial. -/
def packEntry (s : State) (serial : Nat) : Option TimedEntry :=
  s.pack.queue.find? fun e => hasSerial s serial e.garment

/-- A garment entry of the belt queue that carries a serial. -/
def beltHas (s : State) (serial : Nat) (e : BeltEntry) : Bool :=
  match e.garment with
  | none => false
  | some g => hasSerial s serial g

/-- EARLY_PICK with the entry's travelled distance (R143). -/
def raiseEarlyPick (e : BeltEntry) (g : Fin 32) (s : State) : State :=
  match garmentAt s g with
  | none => s
  | some r => raise { garmentIncident .earlyPick g r s with value := travelled s e.odo } s

/-- The belt queue without a garment's entry. -/
def withoutEntry (g : Fin 32) (b : List BeltEntry) : List BeltEntry := b.filter fun e => e.garment != some g

/-- An early pick (R143): the entry leaves the belt queue, the exit procedure runs, and the garment gets its destination at once. -/
def earlyPick (e : BeltEntry) (g : Fin 32) (s : State) : State :=
  let told := raiseEarlyPick e g s
  packGarment g (exitGarment e g s.clock (putBelt (withoutEntry g told.dryer.belt) told))

/-- STRAY: with the garment's index and place when a live record carries the serial elsewhere (R143). -/
def strayIncident (s : State) (t : TagFields) : Incident :=
  match findSerial s t.serial with
  | none => scanIncident .stray t
  | some g =>
    { scanIncident .stray t with detail := 1, garment := some g, place := (garmentAt s g).map Garment.place }

/-- A scan of a shirt found nowhere at the pack table (R143). -/
def strayScan (t : TagFields) (s : State) : State := showPack .spare (raise (strayIncident s t) s)

/-- A STOCK or ORDER scan (R143). -/
def shirtScan (t : TagFields) (s : State) : State :=
  match packEntry s t.serial with
  | some e => packGarment e.garment (putQueue (withoutGarment e.garment s.pack.queue) s)
  | none =>
    match s.dryer.belt.find? (beltHas s t.serial) with
    | none => strayScan t s
    | some e =>
      match e.garment with
      | none => s
      | some g => earlyPick e g s

/-! ## Bin clears (R152) -/

/-- The head of the waiting list takes a freed bin, with MOVE_OVERFLOW and, for a READY order, ORDER_READY again (R152). -/
def moveOverflow (b : Fin 12) (s : State) : State :=
  match s.pack.waiting with
  | [] => s
  | key :: rest =>
    match orderAt s key with
    | none => putWaiting rest s
    | some o =>
      let moved := changeBin o (.bin b) (putBin b (some key) (putWaiting rest s))
      let told := raise { orderIncident .moveOverflow key with detail := b.val + 1, value := o.overflow } moved
      if o.ready then
        raise { orderIncident .orderReady key with detail := b.val + 1, value := o.overflow } told
      else told

/-- A bin held by a READY order is cleared (R152). -/
def clearReady (b : Fin 12) (o : Order) (s : State) : State :=
  let freed := deleteOrder o.key (putBin b none s)
  let told := raise { orderIncident .binCleared o.key with detail := b.val + 1, value := o.packed } freed
  showPack .cleared (moveOverflow b told)

/-- A bin clear (R152). -/
def binClear (b : Fin 12) (s : State) : State :=
  match (Tbl.at s.pack.bins b).bind (orderAt s) with
  | none => showPack .refused (raise { incident .binFree with detail := b.val + 1 } s)
  | some o =>
    if o.ready then clearReady b o s
    else
      showPack .refused
        (raise { orderIncident .binOpen o.key with detail := b.val + 1, value := linesFinal o } s)

/-- The bin a BIN field names, if it is 1..12. -/
def binOf (n : Nat) : Option (Fin 12) := if h : 1 ≤ n ∧ n ≤ 12 then some ⟨n - 1, by omega⟩ else none

/-- A BIN tag (R142). -/
def binScan (t : TagFields) (s : State) : State :=
  match binOf t.bin with
  | none => showPack .refused (raise { incident .tagMismatch with detail := 2, value := t.bin } s)
  | some b => binClear b s

/-- A pack scan (R142): acted on in every line mode. -/
def packScan (t : TagFields) (s : State) : State :=
  match tagClass t with
  | .stock => shirtScan t s
  | .order => shirtScan t s
  | .bin => binScan t s
  | .invalid => showPack .refused (raise { incident .tagMismatch with detail := t.kind } s)

end Sys2Proof.Machine
end

