-- ==== Sys2Proof/Machine/DeliverOps.lean ====
section
/-! DEFINITION. What the blocks do with what the station link brings them: the outcome of a requester's transaction (R34, R49, R61, R90, R111,
R125, R180), the status of an owned module (R167), the LOST report (R160), and the module table's changes (R157, R159 to R162). -/

namespace Sys2Proof.Machine

/-! ## Outcomes -/

/-- The outcome of a transaction (R159, R161): an ACCEPT carries the word of a get and the four fields of a GET_STATUS. -/
inductive TxnOutcome where
  | accept (fields : StatusFields)
  | declined
  | silent
  | lost
deriving DecidableEq, Repr

/-- The causes 1, 2, 3 that DECLINED, SILENT and LOST give an index fault, a pass, press, print or flash cut; ACCEPT gives none. -/
def failCause : TxnOutcome → Option Nat
  | .accept _ => none
  | .declined => some 1
  | .silent => some 2
  | .lost => some 3

/-- The outcome of an INDEX or HOME command (R34). -/
def carouselOutcome (o : TxnOutcome) (s : State) : State :=
  match failCause o with
  | none => s
  | some c => if opInFlight s then indexFault c s else s

/-- The outcome of a spray PASS command: acted on in SPRAYING only (R49, R54). -/
def pretreatOutcome (o : TxnOutcome) (s : State) : State :=
  match failCause o with
  | none => s
  | some c => if s.pretreat.state = .spraying then passCut c s else s

/-- The press takes its PUT_CMD with the blank's dwell (R61): COMMAND, or cut with detail 3 when it completes LOST at once. -/
def commandPress (s : State) : State :=
  match s.press.job with
  | none => s
  | some j =>
    match garmentAt s j.garment with
    | none => s
    | some r =>
      let command := s.setPress { s.press with state := .command }
      if lostAtOnce .press .press command then pressCut 3 command
      else handIn .press (putCmd .press .press (catalogAt s r.blank).dwell) command

/-- The outcome of the press unit's transaction (R61, R62). -/
def pressOutcome (o : TxnOutcome) (s : State) : State :=
  match s.press.state with
  | .setpoint =>
    match failCause o with
    | none => commandPress s
    | some c => pressCut c s
  | .command =>
    match failCause o with
    | none => s.setPress { s.press with state := .pressing }
    | some c => pressCut c s
  | .idle => s
  | .waiting => s
  | .pressing => s

/-- The carriage took swath k: PRINTING, and pass 1 begins on every active channel (R90). -/
def beginSwath (u : Printer) (j : PrintJob) (s : State) : State :=
  let p := unitAt s u
  p.active.foldl (beginPass j.garment p.swath) (putUnit u { p with state := .printing } s)

/-- The outcome of a print unit's PASS command: acted on in COMMAND only (R90). -/
def printOutcome (u : Printer) (o : TxnOutcome) (s : State) : State :=
  match (unitAt s u).state, (unitAt s u).job with
  | .command, some j =>
    match failCause o with
    | none => beginSwath u j s
    | some c => printCut u c s
  | .command, none => s
  | .idle, _ => s
  | .arrived, _ => s
  | .waiting, _ => s
  | .printing, _ => s

/-- A sample read is asked for when the sample flag is clear (R112). -/
def askSample (s : State) : State :=
  if s.flash.sampling then s else askReads [.flash] (s.setFlash { s.flash with sampling := true })

/-- The module accepted HEAT_ON (R111): EXPOSING, the first tick one period ahead, a sample read asked for. -/
def beginExposing (s : State) : State :=
  askSample
    (s.setFlash
      { s.flash with state := .exposing, nextTick := later s.clock (s.flash.periodMs * Config.ticksPerMs) })

/-- The outcome of the flash unit's transaction (R111, R115). -/
def flashOutcome (o : TxnOutcome) (s : State) : State :=
  match s.flash.state with
  | .heating =>
    match failCause o with
    | none => beginExposing s
    | some c => flashCut c s
  | .ending => flashOver s
  | .idle => s
  | .waiting => s
  | .exposing => s

/-- The zone of a role. -/
def roleZone : Role → Option (Fin 4)
  | .zone1 => some 0
  | .zone2 => some 1
  | .zone3 => some 2
  | .zone4 => some 3
  | .indexDrive | .sprayCarriage | .press | .whiteCarriage | .flash | .colorCarriage | .beltDrive | .loadScanner
  | .packScanner => none

/-- The fields of an accepted dryer read reach their owner while ticking is on (R124, R126, R127). -/
def dryerSample (r : Role) (f : StatusFields) (s : State) : State :=
  if s.dryer.ticking then
    match roleZone r with
    | some z => zoneStatus z f s
    | none => beltStatus f s
  else s

/-- The outcome of a sampler read goes to its owner (R112, R125 to R127). -/
def sampleOutcome (r : Role) (o : TxnOutcome) (s : State) : State :=
  let cleared := if r = .flash then s.setFlash { s.flash with sampling := false } else s
  match o with
  | .accept f => if r = .flash then flashStatus f cleared else dryerSample r f cleared
  | .declined => cleared
  | .silent => cleared
  | .lost => cleared

/-- The sampler's transaction is complete: its target leaves the read list, and the outcome goes to its owner (R125). -/
def samplerOutcome (t : Txn) (o : TxnOutcome) (s : State) : State :=
  sampleOutcome t.role o (s.setDryer { s.dryer with reads := s.dryer.reads.filter fun r => r != t.role })

/-- The outcome of a line command (R180): no incident for an ACCEPT, or for LOST while the part is not attached. -/
def lineOutcome (t : Txn) (o : TxnOutcome) (s : State) : State :=
  match o with
  | .accept _ => s
  | .declined => commandFailed t s
  | .silent => commandFailed t s
  | .lost => commandLost t s

/-- An outcome that its requester acts on only while it has not said otherwise (R159). -/
def ifActed (t : Txn) (f : State → State) (s : State) : State := if t.acted then f s else s

/-- Hand a completed transaction's outcome to its requester, whose place is empty (R159). -/
def deliver (q : Requester) (t : Txn) (o : TxnOutcome) (s : State) : State :=
  match q with
  | .carousel => ifActed t (carouselOutcome o) s
  | .pretreat => ifActed t (pretreatOutcome o) s
  | .press => ifActed t (pressOutcome o) s
  | .white => ifActed t (printOutcome .white o) s
  | .flash => ifActed t (flashOutcome o) s
  | .color => ifActed t (printOutcome .color o) s
  | .sampler => serveReads (samplerOutcome t o s)
  | .load => s
  | .pack => s
  | .line => serveCommands (ifActed t (lineOutcome t o) s)

/-- Set the transactions a requester keeps. -/
def keep (q : Requester) (ts : List Txn) (s : State) : State := putPlace q { placeAt s q with kept := ts } s

/-- Hand in what a requester kept, oldest first, its place being empty; one for an unreachable role completes LOST at once (R161, R163). -/
def drainKept (q : Requester) : List Txn → State → State
  | [], s => s
  | t :: ts, s =>
    if (placeAt s q).now.isSome then s
    else if unreachable s t.role then drainKept q ts (deliver q t .lost (keep q ts s))
    else enqueue q t (keep q ts s)

/-- A requester's transaction completes with an outcome (R159, R163): the place is empty, the outcome goes to the requester, and what
it kept is handed in. -/
def complete (q : Requester) (t : Txn) (o : TxnOutcome) (s : State) : State :=
  let emptied := putPlace q { placeAt s q with now := none } s
  drainKept q (placeAt s q).kept (deliver q t o emptied)

/-! ## Statuses after an attention service (R167) -/

/-- An INDEX_DRIVE status (R34). -/
def driveStatus (f : StatusFields) (s : State) : State :=
  match s.carousel.op with
  | .none => s
  | .moving _ => if f.fault = 0 then s else indexFault 4 s
  | .settling _ => if f.fault ≠ 0 then indexFault 4 s else if f.done ≠ 0 then opComplete s else s

/-- A SPRAY_CARRIAGE status (R53, R54). -/
def sprayStatus (f : StatusFields) (s : State) : State :=
  if s.pretreat.state = .spraying then
    if f.fault ≠ 0 then passCut 4 s else if f.done ≠ 0 then passDone s else s
  else s

/-- A PRESS status (R61, R62). -/
def pressStatus (f : StatusFields) (s : State) : State :=
  if s.press.state = .pressing then
    if f.fault ≠ 0 then pressCut 4 s else if f.done ≠ 0 then pressComplete s else s
  else s

/-- A carriage status (R93, R94). -/
def printStatus (u : Printer) (f : StatusFields) (s : State) : State :=
  if (unitAt s u).state = .printing then
    if f.fault ≠ 0 then printCut u 4 s else if f.done ≠ 0 then judgeSwath u s else s
  else s

/-- A status goes to the owner block of its role (R155, R167). A scanner's status goes to no block (R168). -/
def ownerStatus (r : Role) (f : StatusFields) (s : State) : State :=
  match r with
  | .indexDrive => driveStatus f s
  | .sprayCarriage => sprayStatus f s
  | .press => pressStatus f s
  | .whiteCarriage => printStatus .white f s
  | .flash => flashStatus f s
  | .colorCarriage => printStatus .color f s
  | .zone1 => zoneStatus 0 f s
  | .zone2 => zoneStatus 1 f s
  | .zone3 => zoneStatus 2 f s
  | .zone4 => zoneStatus 3 f s
  | .beltDrive => beltStatus f s
  | .loadScanner => s
  | .packScanner => s

/-! ## The module table (R157, R159 to R162) -/

/-- Replace a module table entry. -/
def putModule (r : Role) (m : ModuleEntry) (s : State) : State :=
  s.setLink { s.link with modules := Tbl.put s.link.modules (roleNum r) m }

/-- The owner block's answer to a LOST report (R54, R62, R94, R127): the other owners list none (R160). -/
def lostReport (r : Role) (s : State) : State :=
  match r with
  | .sprayCarriage => if s.pretreat.state = .spraying then passCut 6 s else s
  | .press => if s.press.state = .pressing then pressCut 7 s else s
  | .whiteCarriage => if (unitAt s .white).state = .printing then printCut .white 7 s else s
  | .colorCarriage => if (unitAt s .color).state = .printing then printCut .color 7 s else s
  | .beltDrive => s.setDryer { s.dryer with running := false }
  | .indexDrive | .flash | .zone1 | .zone2 | .zone3 | .zone4 | .loadScanner | .packScanner => s

/-- A requester's transaction that stands queued or in retry gap and that `p` picks completes LOST (R161). -/
def loseQueued (p : Txn → Bool) (s : State) (q : Requester) : State :=
  match (placeAt s q).now with
  | none => s
  | some w =>
    match w.state with
    | .onLink => s
    | .queued | .retryGap _ => if p w.txn then complete q w.txn .lost s else s

/-- Every transaction that stands queued, in any requester's place, and that `p` picks completes LOST (R160, R161), in the order of the
requesters' numbers (DESIGN CHOICE, log entry 43). -/
def loseAll (p : Txn → Bool) (s : State) : State := allRequesters.foldl (loseQueued p) s

/-- A module becomes LOST, in the order of R160. -/
def moduleLost (r : Role) (addr : Byte) (s : State) : State :=
  let marked :=
    putModule r { state := .lost, silences := 3, probe := some (later s.clock Config.probeGap), probeReady := false } s
  let told := raise { incident .moduleLost with detail := (roleNum r).val, value := addr.toNat } marked
  loseAll (fun t => t.role == r) (lostReport r (followModules told))

/-- A silence of a module: its count rises by one, and at 3 it becomes LOST; a LOST module's count stays (R160, R162). -/
def silence (r : Role) (addr : Byte) (s : State) : State :=
  let m := moduleAt s r
  if m.state = .lost then s
  else if 3 ≤ m.silences + 1 then moduleLost r addr s
  else putModule r { m with silences := m.silences + 1 } s

/-- MODULE_BACK: value 1 when the module was LOST (R162). It is raised before PRESENT is handed to the line controller, and so before
the LINE_MODE incident that this may raise; R162 gives no order of the two (DESIGN CHOICE, log entry 43). -/
def moduleBack (r : Role) (value : Nat) (s : State) : State :=
  followModules
    (raise { incident .moduleBack with detail := (roleNum r).val, value := value }
      (putModule r { state := .present, silences := 0, probe := none, probeReady := false } s))

/-- A module accepts a request: its silence count is 0, and it is PRESENT (R159, R162). -/
def moduleAccept (r : Role) (s : State) : State :=
  match (moduleAt s r).state with
  | .present => putModule r { moduleAt s r with silences := 0 } s
  | .unknown => moduleBack r 0 s
  | .lost => moduleBack r 1 s

/-- The next probe of a module that is not PRESENT falls due one second after the try (R162; log entry 18). -/
def probeLater (r : Role) (s : State) : State :=
  if (moduleAt s r).state = .present then s
  else putModule r { moduleAt s r with probe := some (later s.clock Config.probeGap), probeReady := false } s

/-- A module table entry that is UNKNOWN, with a probe due at once when its role has an address (R157). -/
def freshModule (present : Bool) (s : State) : ModuleEntry :=
  { state := .unknown, silences := 0, probe := if present then some s.clock else none, probeReady := present }

/-! ## New link settings (R156, R157) -/

/-- The module entry of a role under new settings: kept when its address has not changed (R157). -/
def resettledModule (new : LinkSettings) (s : State) (r : Fin 13) : ModuleEntry :=
  let addr := Tbl.at new.roles r
  let old := match s.link.settings with
    | none => none
    | some c => Tbl.at c.roles r
  if addr = old then Tbl.at s.link.modules r else freshModule addr.isSome s

/-- New link settings by a config snapshot (R156, R157). A queued transaction whose role has become absent completes LOST (R161). -/
def takeSettings (new : LinkSettings) (s : State) : State :=
  let settled :=
    s.setLink { s.link with settings := some new, modules := Vector.ofFn fun r : Fin 13 => resettledModule new s r }
  followModules (loseAll (fun t => (Tbl.at new.roles (roleNum t.role)).isNone) settled)

/-- The link settings of an attach: every entry UNKNOWN with a probe due at once (R157, R171). -/
def attachSettings (new : LinkSettings) (s : State) : State :=
  followModules
    (s.setLink
      { s.link with
        settings := some new
        modules := Vector.ofFn fun r : Fin 13 => freshModule (Tbl.at new.roles r).isSome s })

end Sys2Proof.Machine
end

