-- ==== Sys2Proof/Machine/TryOps.lean ====
section
/-! DEFINITION. The station link's choice and tries (R158, R159, R162, R164 to R168): what goes on the link, and what each end of a try does to a
requester's transaction, a probe, an attention service and a CONTINUE pair. -/

namespace Sys2Proof.Machine

/-! ## Attention lines (R166) -/

/-- What the controller keeps for an attention line. -/
def attnAt (s : State) (a : Fin 8) : AttnLine := Tbl.at s.link.attention a
/-- Replace what the controller keeps for an attention line. -/
def putAttn (a : Fin 8) (l : AttnLine) (s : State) : State :=
  s.setLink { s.link with attention := Tbl.put s.link.attention a l }

/-- The role of an attention line in the link settings. -/
def attnRole (c : LinkSettings) (a : Fin 8) : Option Role := (Tbl.at c.attention a).role

/-- A line is pending while its input is at the asserted level (R166). -/
def linePending (s : State) (c : LinkSettings) (a : Fin 8) : Bool :=
  Tbl.at s.pins.attention a == (Tbl.at c.attention a).high

/-- A decline hold time that is absent or has passed (R166). -/
def holdPassed (s : State) (a : Fin 8) : Bool :=
  match (attnAt s a).hold with
  | none => true
  | some t => reached s t

/-- A line eligible for a choice (R166): pending, its role with an address and a module that is not LOST, no decline hold, and its served
mark clear. -/
def lineEligible (s : State) (c : LinkSettings) (a : Fin 8) : Bool :=
  attached s && linePending s c a && holdPassed s a && !(attnAt s a).served
    && match attnRole c a with
      | none => false
      | some r => (roleAddr s r).isSome && (moduleAt s r).state != .lost

/-- The attention lines, highest number first (R164). -/
def linesDown : List (Fin 8) := [7, 6, 5, 4, 3, 2, 1, 0]

/-- The highest-numbered eligible line (R164). -/
def chosenLine (s : State) (c : LinkSettings) : Option (Fin 8) := linesDown.find? (lineEligible s c)

/-! ## The queue (R164) -/

/-- The transaction that a requester has ready to go on the link: queued and not waiting out a retry gap. -/
def readyTxn (s : State) (q : Requester) : Option Queued :=
  match (placeAt s q).now with
  | none => none
  | some w => if w.state = .queued then some w else none

/-- At least one requester's transaction is ready (R164). -/
def anyReady (s : State) : Bool := allRequesters.any fun q => (readyTxn s q).isSome

/-- A piece of queued work: what it is for, and its rank time. -/
structure Work where
  carrier : Carrier
  role : Role
  txn : Txn
  rank : Clock
deriving DecidableEq, Repr

/-- The ready transaction of a requester as a piece of work. -/
def requesterWork (s : State) (q : Requester) : Option Work :=
  (readyTxn s q).map fun w => { carrier := .requester q, role := w.txn.role, txn := w.txn, rank := w.rank }

/-- A probe that is due, with its due time as its rank time (R162). -/
def probeWork (s : State) (r : Role) : Option Work :=
  match (moduleAt s r).probe with
  | none => none
  | some t =>
    if (moduleAt s r).probeReady then some { carrier := .probe, role := r, txn := getStatus r, rank := t } else none

/-- The work that may go on the link: requester transactions in requester order, then probes in role order, of roles with an address
(R161, R162, R164). -/
def readyWork (s : State) : List Work :=
  (allRequesters.filterMap (requesterWork s) ++ allRoles.filterMap (probeWork s)).filter fun w => (roleAddr s w.role).isSome

/-- The older of two pieces of work; of two with one rank time, the earlier one in the list (R164). -/
def olderWork (s : State) (best : Option Work) (w : Work) : Option Work :=
  match best with
  | none => some w
  | some b => if elapsed s b.rank < elapsed s w.rank then some w else some b

/-- The work with the oldest rank time (R164). -/
def oldestWork (s : State) : Option Work := (readyWork s).foldl (olderWork s) none

/-! ## Starting a try (R158, R164) -/

/-- The station link is free and no pair or service holds it. -/
def linkFree (s : State) : Bool := s.link.onLink.isNone && s.link.service.isNone

/-- Put a request on the link. -/
def putOnLink (o : OnLink) (s : State) : State := s.setLink { s.link with onLink := some o }

/-- A requester's place is on the link. -/
def placeOnLink (q : Requester) (s : State) : State :=
  match (placeAt s q).now with
  | none => s
  | some w => putPlace q { placeAt s q with now := some { w with state := .onLink } } s

/-- Every served mark is cleared when a queued transaction goes on the link (R166). -/
def clearServed (s : State) : State :=
  s.setLink
    { s.link with
      attention := Vector.ofFn fun a : Fin 8 => { Tbl.at s.link.attention a with served := false } }

/-- What a piece of work's carrier notes as it goes on the link. -/
def carrierStarts (w : Work) (s : State) : State :=
  match w.carrier with
  | .requester q => clearServed (placeOnLink q s)
  | .probe => putModule w.role { moduleAt s w.role with probeReady := false } s
  | .attention => s

/-- Start the try of a piece of work (R158). -/
def startWork (c : LinkSettings) (w : Work) (s : State) : State :=
  match Tbl.at c.roles (roleNum w.role) with
  | none => s
  | some addr =>
    putOnLink
      { carrier := w.carrier, role := w.role, addr := addr, kind := w.txn.kind, continued := false, word := w.txn.word
        settings := c }
      (carrierStarts w s)

/-- The role is one of the two scanners (R168). -/
def isScanner : Role → Bool
  | .loadScanner => true
  | .packScanner => true
  | .indexDrive | .sprayCarriage | .press | .whiteCarriage | .flash | .colorCarriage | .zone1 | .zone2 | .zone3 | .zone4
  | .beltDrive => false

/-- Start the service of an attention line (R167, R168): a GET_STATUS, with CONTINUE for a scanner. -/
def startService (c : LinkSettings) (a : Fin 8) (r : Role) (addr : Byte) (s : State) : State :=
  putOnLink
    { carrier := .attention, role := r, addr := addr, kind := .getStatus, continued := isScanner r, word := 0, settings := c }
    (s.setLink
      { s.link with
        service :=
          some { line := a, role := r, addr := addr, settings := c, status := none, tries := 0, retryAt := none } })

/-- Serve an eligible line. -/
def serveLine (c : LinkSettings) (a : Fin 8) (s : State) : State :=
  match attnRole c a with
  | none => s
  | some r =>
    match Tbl.at c.roles (roleNum r) with
    | none => s
    | some addr => startService c a r addr s

/-- Make a choice under the link settings (R164). After an attach too the order is R164's, so an attention and a transaction handed in at
the same moment go before the probes, which R172 calls the first traffic of an attach after a soft reset (DESIGN CHOICE,
log entry 42). -/
def chooseWork (c : LinkSettings) (s : State) : State :=
  match chosenLine s c with
  | some a => serveLine c a s
  | none =>
    match oldestWork s with
    | none => s
    | some w => startWork c w s

/-- The link has something to put on it (R164). -/
def choiceReady (s : State) : Bool :=
  attached s && linkFree s
    && match s.link.settings with
      | none => false
      | some c => (chosenLine s c).isSome || (oldestWork s).isSome

/-! ## The end of a service (R166 to R168) -/

/-- A service ends (R166): the link is free of it, and its line's served mark is set when a requester's transaction is ready. -/
def endService (v : Service) (s : State) : State :=
  let freed := s.setLink { s.link with service := none }
  putAttn v.line { attnAt freed v.line with served := anyReady freed } freed

/-- A service ends with a DECLINE: the decline hold time is set (R167, R168). -/
def endDeclined (v : Service) (s : State) : State :=
  let ended := endService v s
  putAttn v.line
    { attnAt ended v.line with hold := some (later s.clock (v.settings.gap * Config.ticksPerMs)) } ended

/-- The second transfer of a pair goes on the link: a GET_DATA to the same address with CONTINUE clear (R165). -/
def secondTransfer (v : Service) (s : State) : State :=
  putOnLink
    { carrier := .attention, role := v.role, addr := v.addr, kind := .getData, continued := false, word := 0
      settings := v.settings } s

/-- Replace the service in progress. -/
def putService (v : Service) (s : State) : State := s.setLink { s.link with service := some v }

/-- The status of a scanner allows its scan (R168). -/
def scanReady (v : Service) (status : Word) : Bool :=
  let m := Tbl.at v.settings.maps (roleNum v.role)
  (statusFields m status).fault == 0 && ((statusFields m status).ready != 0 || m.ready.width == 0)

/-- A scan goes to its owner: the match unit or the pack unit (R168). -/
def handScan (r : Role) (t : TagFields) (s : State) : State :=
  match r with
  | .loadScanner => loadScan t s
  | .packScanner => packScan t s
  | .indexDrive | .sprayCarriage | .press | .whiteCarriage | .flash | .colorCarriage | .zone1 | .zone2 | .zone3 | .zone4
  | .beltDrive => s

/-- A pair is whole (R168): the scan is handed over when the scanner's status allows it. -/
def pairWhole (v : Service) (status tag : Word) (s : State) : State :=
  let ended := endService v s
  if scanReady v status then handScan v.role (tagFields v.settings.tags tag) ended else ended

/-- An attention service's transfer ends with ACCEPT (R165, R167, R168). -/
def serviceAccepted (v : Service) (w : Word) (s : State) : State :=
  if isScanner v.role then
    match v.status with
    | none => secondTransfer v (putService { v with status := some w } s)
    | some status => pairWhole v status w s
  else ownerStatus v.role (statusFields (Tbl.at v.settings.maps (roleNum v.role)) w) (endService v s)

/-- An attention service's transfer ends with DECLINE (R165, R167, R168). -/
def serviceDeclined (v : Service) (s : State) : State :=
  match v.status with
  | none => endDeclined v s
  | some _ =>
    if v.tries + 1 ≤ v.settings.retryLimit then
      putService
        { v with tries := v.tries + 1, retryAt := some (later s.clock (v.settings.gap * Config.ticksPerMs)) } s
    else endService v s

/-! ## The end of a try (R158, R159, R162) -/

/-- The link is free of its try. -/
def freeLink (s : State) : State := s.setLink { s.link with onLink := none }

/-- The fields that go with an ACCEPT of a transaction (R159, R169). -/
def acceptedFields (o : OnLink) (w : Word) : StatusFields := statusFields (Tbl.at o.settings.maps (roleNum o.role)) w

/-- A requester's try ended with DECLINE (R159, R163): it waits out a retry gap while its tries so far number no more than the retry
limit and it was not withdrawn, and completes DECLINED otherwise. A retry for a role that can no longer be reached completes LOST
in place of the wait (R161; log entry 17). -/
def requesterDeclined (q : Requester) (w : Queued) (c : LinkSettings) (s : State) : State :=
  if w.tries + 1 ≤ c.retryLimit ∧ w.withdrawn = false then
    if unreachable s w.txn.role then complete q w.txn .lost s
    else putPlace q
      { placeAt s q with
        now :=
          some { w with tries := w.tries + 1, state := .retryGap (later s.clock (c.gap * Config.ticksPerMs)) } } s
  else complete q w.txn .declined s

/-- The role still has the address that the try went to. An answer from an address that the role has left since is no answer of its
module, which R157 counts from the last change of its address (DEDUCED, log entry 41). -/
def answersForRole (s : State) (o : OnLink) : Bool := roleAddr s o.role == some o.addr

/-- What a try's end does to the module table entry of its role (R159, R160, R162). -/
def onModule (o : OnLink) (f : State → State) (s : State) : State := if answersForRole s o then f s else s

/-- A try ended with ACCEPT and, for a get, a word (R158, R159). -/
def tryAccepted (o : OnLink) (word : Word) (s : State) : State :=
  let taken := onModule o (moduleAccept o.role) (freeLink s)
  match o.carrier with
  | .requester q =>
    match (placeAt taken q).now with
    | none => taken
    | some w => complete q w.txn (.accept (acceptedFields o word)) taken
  | .probe => taken
  | .attention =>
    match taken.link.service with
    | none => taken
    | some v => serviceAccepted v word taken

/-- A try ended with DECLINE (R158, R159). -/
def tryDeclined (o : OnLink) (s : State) : State :=
  let freed := freeLink s
  match o.carrier with
  | .requester q =>
    match (placeAt freed q).now with
    | none => freed
    | some w => requesterDeclined q w o.settings freed
  | .probe => onModule o (probeLater o.role) freed
  | .attention =>
    match freed.link.service with
    | none => freed
    | some v => serviceDeclined v freed

/-- What ends with a silence before the module's silence count rises (R159, R160, R165, R167). -/
def silentEnd (o : OnLink) (s : State) : State :=
  match o.carrier with
  | .requester q =>
    match (placeAt s q).now with
    | none => s
    | some w => complete q w.txn .silent s
  | .probe => onModule o (probeLater o.role) s
  | .attention =>
    match s.link.service with
    | none => s
    | some v => endService v s

/-- A try ended in silence (R158 to R160). -/
def trySilent (o : OnLink) (s : State) : State := onModule o (silence o.role o.addr) (silentEnd o (freeLink s))

/-- The try on the link ends with a response frame, when the frame says what the command says (R158, R200). -/
def endTry (frame : List Byte) (wanted : TryEnd → Bool) (s : State) : State :=
  match s.link.onLink with
  | none => s
  | some o =>
    if wanted (classify o frame) then
      match classify o frame with
      | .accept w => tryAccepted o w s
      | .decline => tryDeclined o s
      | .silence => trySilent o s
    else s

/-- The end is an ACCEPT. -/
def isAccept : TryEnd → Bool
  | .accept _ => true
  | .decline => false
  | .silence => false

/-- The end is a DECLINE. -/
def isDecline : TryEnd → Bool
  | .accept _ => false
  | .decline => true
  | .silence => false

/-- The end is a silence. -/
def isSilence : TryEnd → Bool
  | .accept _ => false
  | .decline => false
  | .silence => true

end Sys2Proof.Machine
end

