-- ==== Sys2Proof/Machine/ExchOps.lean ====
section
/-! DEFINITION. The exchange interface's shared operations (Chapter 11): looks, sweeps and refill reads (R192, R193), recovery (R195), the taking of
a post with its validation (R1 to R3), attach (R190, R191), and the choice of the report writer (R196). -/

namespace Sys2Proof.Machine

/-! ## Refills (R59) -/

/-- The tank after a refill group with a new generation is taken (R59). -/
def refilledTank (r : RefillGroup) : Tank :=
  { level := r.level
    rest := 0
    state := tankStateOf r.level r.lowMark r.reserve
    lowMark := r.lowMark
    reserve := r.reserve
    generation := some r.generation }

/-- The pretreat unit takes the refill group read: nothing when the generation is the last seen (R59). The state is evaluated, with the
incidents of a fall (R58), before TANK_REFILLED is raised. -/
def takeRefill (r : RefillGroup) (s : State) : State :=
  if s.pretreat.tank.generation = some r.generation then s
  else
    raise { incident .tankRefilled with detail := tankCode (refilledTank r).state, value := r.level }
      (tankFall s.pretreat.tank.state (refilledTank r) (putTank (refilledTank r) s))

/-! ## Sweeps (R193) -/

/-- Replace what the exchange interface is doing. -/
def putActivity (a : Option Activity) (s : State) : State := s.setExch { s.exch with activity := a }

/-- A sweep starts at once: its timer restarts, and the refill read comes first (R193). -/
def beginSweep (s : State) : State :=
  s.setExch
    { s.exch with
      sweep := some 0
      sweepTimer := some (timerFrom s (s.config.sweepPeriod * Config.ticksPerMs)) }

/-- A sweep start: at once, or kept in the sweep-again flag while a sweep is in progress (R193). -/
def startSweep (s : State) : State :=
  match s.exch.sweep with
  | none => beginSweep s
  | some _ => s.setExch { s.exch with sweepAgain := true }

/-- A sweep ends: a new one starts at once when the sweep-again flag is set (R193). -/
def endSweep (s : State) : State :=
  let ended := s.setExch { s.exch with sweep := none, sweepAgain := false }
  if s.exch.sweepAgain then beginSweep ended else ended

/-- The sweep goes on after its refill read or a look: slot 127 is the last (R193). -/
def advanceSweep (s : State) : State :=
  match s.exch.sweep with
  | none => s
  | some k => if k < 128 then s.setExch { s.exch with sweep := some (k + 1) } else endSweep s

/-- A look or a refill read ends. -/
def endActivity (ofSweep : Bool) (s : State) : State :=
  let idle := putActivity none s
  if ofSweep then advanceSweep idle else idle

/-! ## Looks (R192) -/

/-- Replace a slot's fault mark. -/
def putFaultMark (slot : Fin 128) (v : Bool) (s : State) : State :=
  s.setExch { s.exch with faults := Tbl.put s.exch.faults slot v }

/-- MEM_FAULT of a slot, once until a read of it succeeds (R192). -/
def slotReadError (slot : Fin 128) (s : State) : State :=
  if Tbl.at s.exch.faults slot then s
  else
    putFaultMark slot true
      (raise { incident .memFault with slot := some slot, value := 0x1000 + 256 * slot.val } s)

/-- A read of a look ends in error, and the look with it (R192). -/
def lookError (slot : Fin 128) (ofSweep : Bool) (s : State) : State := endActivity ofSweep (slotReadError slot s)

/-- Set the take count of a slot. -/
def setTake (slot : Fin 128) (hand : Byte) (s : State) : State := putLine slot { lineAt s slot with take := hand } s

/-! ## Validation (R2) -/

/-- The line number and lines-in-order are in range (check 1). -/
def badLine (p : Snapshot) : Bool :=
  p.lineNo < 1 || 15 < p.lineNo || p.linesIn < 1 || 15 < p.linesIn || p.linesIn < p.lineNo

/-- The blank code is not defined in the catalog snapshot, or in the entry read with the post (check 2). -/
def badBlank (s : State) (entry : Option CatalogEntry) (p : Snapshot) : Bool :=
  if 64 ≤ p.blank then true
  else
    match s.catalog with
    | some _ => !(catalogAt s p.blank).inUse
    | none =>
      match entry with
      | none => true
      | some e => !e.inUse

/-- A plane chain address is not a multiple of 8 (check 4). -/
def badChain (p : Snapshot) : Bool :=
  p.chains.toList.any fun a =>
    match a with
    | none => false
    | some x => !aligned8 x

/-- All six plane chain addresses are zero (check 5). -/
def noPlanes (p : Snapshot) : Bool := p.chains.toList.all Option.isNone

/-- The order table holds the key with another lines-expected (check 6). -/
def orderDiffers (s : State) (p : Snapshot) : Bool :=
  match orderAt s p.key with
  | none => false
  | some o => o.expected != p.linesIn

/-- A slot holds an open line with the same order key and line number. -/
def holdsLine (s : State) (p : Snapshot) (j : Fin 128) : Bool :=
  openState (lineAt s j).state
    && match (lineAt s j).snap with
      | none => false
      | some q => q.key == p.key && q.lineNo == p.lineNo

/-- Every slot. -/
def allSlots : List (Fin 128) := List.ofFn id

/-- Another slot holds an open line with the same order key and line number (check 7). -/
def duplicateLine (s : State) (slot : Fin 128) (p : Snapshot) : Bool :=
  allSlots.any fun j => j != slot && holdsLine s p j

/-- The order table is full and does not hold the key (check 8). -/
def ordersFull (s : State) (p : Snapshot) : Bool :=
  (orderAt s p.key).isNone && Config.orderPlaces ≤ s.pack.orders.length

/-- The reason of the first check that a snapshot fails (R2). -/
def validate (s : State) (slot : Fin 128) (entry : Option CatalogEntry) (p : Snapshot) : Option Reason :=
  if badLine p then some .badLine
  else if badBlank s entry p then some .badBlank
  else if p.quantity < 1 || 50 < p.quantity then some .badQuantity
  else if badChain p then some .badChainAddr
  else if noPlanes p then some .noPlanes
  else if orderDiffers s p then some .orderMismatch
  else if duplicateLine s slot p then some .dupLine
  else if ordersFull s p then some .ordersFull
  else none

/-! ## Posts (R1, R3) -/

/-- The entry of a slot whose post is taken: report fields cleared, snapshot as read (R1). -/
def takenEntry (st : LineState) (reason : Reason) (hand : Byte) (p : Snapshot) : LineEntry :=
  { LineEntry.blank with state := st, reason := reason, take := hand, snap := some p }

/-- The item an accepted line adds to its order (R3, R148). -/
def itemOf (slot : Fin 128) (hand : Byte) (p : Snapshot) : OrderItem :=
  { slot := slot, take := hand, lineNo := p.lineNo, final := false }

/-- A valid post (R3): the acceptance order list, the order table, and the slot QUEUED and dirty. -/
def acceptPost (slot : Fin 128) (hand : Byte) (p : Snapshot) (s : State) : State :=
  let queued := reportLine slot (takenEntry .queued .none hand p) s
  acceptOrder p.key p.linesIn (itemOf slot hand p) (queued.setAccepted (queued.accepted ++ [slot]))

/-- A post on an open line is dropped (R1). The take count is set as R1 says, so the stamps of the line's live garments and its order
item no longer match it, and by R6 and R149 their events count for the line no more, though R1 has the line go on unchanged: the
model lets the stamp rule stand (DESIGN CHOICE, log entry 24). -/
def dropPost (slot : Fin 128) (hand : Byte) (s : State) : State :=
  raise { incident .slotOpen with slot := some slot, key := keyOf s slot, value := hand.toNat } (setTake slot hand s)

/-- The line table takes a post on a slot with its posting fields (R1). -/
def takePost (slot : Fin 128) (bytes : List Byte) (entry : Option CatalogEntry) (s : State) : State :=
  let p := parsePosting bytes
  if openState (lineAt s slot).state then dropPost slot (slotHand bytes) s
  else
    match validate s slot entry p with
    | none => acceptPost slot (slotHand bytes) p s
    | some r => reportLine slot (takenEntry .refused r (slotHand bytes) p) s

/-- The take of a post reads the blank's catalog entry: no catalog snapshot yet, a code below 64, and a slot whose post is not dropped
(R2). -/
def needsCatalog (s : State) (slot : Fin 128) (bytes : List Byte) : Bool :=
  s.catalog.isNone && (parsePosting bytes).blank < 64 && !openState (lineAt s slot).state

/-- The address of a blank's catalog entry. -/
def catalogAddr (s : State) (blank : Nat) : Addr := baseAddr s + BitVec.ofNat 64 (0x400 + 16 * blank)

/-- A look found a post: its catalog entry is read first where R2 asks for it, and otherwise the line table acts (R1, R2, R192). -/
def foundPost (slot : Fin 128) (ofSweep : Bool) (bytes : List Byte) (s : State) : State :=
  if needsCatalog s slot bytes then
    askPort (readAccess .catalog (catalogAddr s (parsePosting bytes).blank) catalogEntryBytes)
      (putActivity (some (.look slot ofSweep (bytes.take postingBytes))) s)
  else endActivity ofSweep (takePost slot bytes none s)

/-- A look found no post: a void request is handed on (R192). -/
def foundNoPost (slot : Fin 128) (ofSweep : Bool) (bytes : List Byte) (s : State) : State :=
  endActivity ofSweep (if slotVoid bytes then voidLine slot s else s)

/-- A successful first read of a look (R192). -/
def lookRead (slot : Fin 128) (ofSweep : Bool) (bytes : List Byte) (s : State) : State :=
  let clear := putFaultMark slot false s
  if slotHand bytes = (lineAt clear slot).take then foundNoPost slot ofSweep bytes clear
  else askPort (readAccess .posting (slotAddr (baseAddr s) slot) postingBytes) clear

/-- A successful read of the posting fields (R192). -/
def postRead (slot : Fin 128) (ofSweep : Bool) (bytes : List Byte) (s : State) : State :=
  if slotHand bytes = (lineAt s slot).take then endActivity ofSweep s else foundPost slot ofSweep bytes s

/-! ## Recovery (R24, R195) -/

/-- The entry of a slot that host memory showed open at a reset (R24, R195). -/
def lostEntry (bytes : List Byte) : LineEntry :=
  { LineEntry.blank with
    state := .failed
    reason := .lostAtReset
    ink := slotInk bytes
    lastDose := slotDose bytes
    bin := slotBin bytes
    take := slotHand bytes }

/-- A successful recovery read (R195). It clears the slot's fault mark with the recovery mark, also where it finds the line open, of which
R195 says only the recovery mark (DESIGN CHOICE, log entry 24). -/
def recoveryRead (slot : Fin 128) (ofSweep : Bool) (bytes : List Byte) (s : State) : State :=
  let clear :=
    putFaultMark slot false (s.setExch { s.exch with recovery := Tbl.put s.exch.recovery slot false })
  if slotShowsOpen bytes then endActivity ofSweep (reportLine slot (lostEntry bytes) clear)
  else
    let counted := setTake slot (slotTake bytes) clear
    if slotHand bytes = slotTake bytes then foundNoPost slot ofSweep bytes counted
    else foundPost slot ofSweep bytes counted

/-- A look at a slot begins (R192, R195). -/
def beginLook (slot : Fin 128) (ofSweep : Bool) (s : State) : State :=
  let looking := putActivity (some (.look slot ofSweep [])) s
  if Tbl.at s.exch.recovery slot then
    askPort (readAccess .recovery (slotAddr (baseAddr s) slot) recoveryBytes) looking
  else askPort (readAccess .handCount (slotAddr (baseAddr s) slot) handCountBytes) looking

/-! ## Refill reads (R193) -/

/-- A refill read begins (R193). -/
def beginRefill (ofSweep : Bool) (s : State) : State :=
  askPort (readAccess .refill (baseAddr s + 0x44) refillBytes) (putActivity (some (.refill ofSweep)) s)

/-- A refill read ends in error (R193). -/
def refillError (s : State) : State :=
  if s.exch.headerFault then s
  else
    (raise { incident .memFault with detail := 1 } s).setExch { s.exch with headerFault := true }

/-- A refill read succeeds (R193). -/
def refillRead (bytes : List Byte) (s : State) : State :=
  takeRefill (parseRefill bytes) (s.setExch { s.exch with headerFault := false })

/-! ## Attach (R190, R191) -/

/-- The accesses of the exchange interface and the report writer, whose outcomes a new attach discards (R190). The header write of an
attach (R191), which R190 does not name, is one of them: its error no longer sets MEM (DESIGN CHOICE, log entry 23). -/
def exchAccesses : List AccessKind :=
  [.report, .headerWrite, .handCount, .posting, .catalog, .recovery, .refill, .snapshot, .attach]

/-- The staged base address: EXCH_BASE_HI and EXCH_BASE_LO with bits 11..0 taken as 0 (R190). -/
def stagedBase (s : State) : Addr := s.exch.baseHi ++ (s.exch.baseLo &&& 0xFFFFF000#32)

/-- The exchange interface as an attach starts (R190): not attached, no look, nudge or sweep left. -/
def readingExch (base : Addr) (e : Exch) : Exch :=
  { e with
    attach := .reading
    base := some base
    nudges := []
    nudgeDrop := false
    sweep := none
    sweepAgain := false
    sweepTimer := none
    activity := none
    snapWanted := false }

/-- Ask for the attach read of the header's config region (R190). -/
def askAttach (s : State) : State := askPort (readAccess .attach (baseAddr s + 0x40) headerConfigBytes) s

/-- A RUN request whose snapshot read is in flight is refused with detail 0 (R174, R190). -/
def refuseReading (s : State) : State := if s.ctl.request = .reading then refuseRun 0 0 true s else s

/-- A write of EXCH_BASE_HI is taken and starts an attach (R190). -/
def startAttach (s : State) : State :=
  let begun :=
    (discardAccesses exchAccesses s).setExch (readingExch (stagedBase s) s.exch)
  let freed := begun.setReports { begun.reports with job := none, headerWriting := false }
  askAttach (loseAll (fun _ => true) (refuseReading freed))

/-- The MEM flag is set. -/
def setMem (s : State) : State := s.setExch { s.exch with mem := true }

/-- The attach state changes. -/
def setAttach (a : AttachState) (s : State) : State := s.setExch { s.exch with attach := a }

/-- The write of the header's part-written fields at an attach (R191 step 5). -/
def writeHeader (s : State) : State :=
  askPort (writeAccess .headerWrite [headerWrite (baseAddr s) s.reports.chipSeq s.reports.next])
    (s.setReports { s.reports with headerWriting := true })

/-- Steps 2 to 4 of R191: link settings, refill group, standby list in IDLE. -/
def attachBlocks (hdr : List Byte) (s : State) : State :=
  let settled := takeRefill (parseRefill (hdr.drop 4)) (attachSettings s.config.link s)
  if settled.ctl.mode = .idle then putCommands (standbyList settled) settled else settled

/-- An attach ends ATTACHED (R191). -/
def attachDone (hdr : List Byte) (s : State) : State :=
  startSweep (writeHeader (attachBlocks hdr ((setAttach .attached s).setConfig (parseConfig hdr))))

/-- A successful attach read (R190). -/
def attachRead (hdr : List Byte) (s : State) : State :=
  if headerFormat hdr = Config.formatWord then attachDone hdr s else setAttach .badFormat s

/-! ## The report writer (R196, R197) -/

/-- The dirty slot with the lowest number above the slot written last, going round from 127 to 0 (R196). -/
def nextDirty (r : Reports) : Option (Fin 128) :=
  (allSlots.find? fun i => r.last.val < i.val && Tbl.at r.dirty i).or (allSlots.find? fun i => Tbl.at r.dirty i)

/-- The sequence of the report to be written: the chip sequence plus 1 (R197). -/
def nextSeq (s : State) : Word := s.reports.chipSeq + 1

/-- The writer writes the head incident (R196, R197). R197 gives no moment at which the drop flag is read for DROP_BEFORE: it is read here, as
the report starts, also while its access waits for the port (DESIGN CHOICE, log entry 24). -/
def writeIncident (i : Incident) (rest : List Incident) (s : State) : State :=
  askPort
    (writeAccess .report (incidentWrites (baseAddr s) i (nextSeq s) s.reports.next s.reports.drop))
    (s.setReports { s.reports with fifo := rest, job := some .incident })

/-- The writer writes a slot report: the mark is cleared and the fields are taken as they stand (R196, R197). -/
def writeSlot (i : Fin 128) (s : State) : State :=
  askPort (writeAccess .report (slotWrites (baseAddr s) i (lineAt s i) (nextSeq s) s.reports.next))
    (s.setReports { s.reports with dirty := Tbl.put s.reports.dirty i false, last := i, job := some (.slot i) })

/-- A report succeeds (R197). -/
def reportOk (j : ReportJob) (r : Reports) : Reports :=
  match j with
  | .incident =>
    { r with job := none, chipSeq := r.chipSeq + 1, next := (r.next + 1) % Config.incidentRecords, drop := false }
  | .slot _ => { r with job := none, chipSeq := r.chipSeq + 1 }

/-- A report ends in error: it is discarded (R197). -/
def reportFailed (j : ReportJob) (r : Reports) : Reports :=
  match j with
  | .incident => { r with job := none, drop := true }
  | .slot i => { r with job := none, dirty := Tbl.put r.dirty i true }

end Sys2Proof.Machine
end

