-- ==== Sys2Proof/Machine/ResetOps.lean ====
section
/-! DEFINITION. The three resets (R199): every block returns to the state its chapter gives, with the input pins and the queue of waiting
commands as they are, and the outcome of an access in progress left to be discarded (R84). -/

namespace Sys2Proof.Machine

/-- The line controller after a reset (R173, R182): STOPPED with the monitor ASSERTED while ESTOP is asserted. -/
def resetCtl (estop : Bool) : LineCtl :=
  if estop then { LineCtl.reset with mode := .stopped, monitor := .asserted } else LineCtl.reset

/-- The button units after a reset: SETTLED at the level each input shows (R187). -/
def resetButtons (pins : Pins) : Tbl 2 ButtonUnit :=
  Vector.ofFn fun b : Fin 2 => ButtonUnit.reset (Tbl.at pins.buttons b)

/-- The whole part after a reset of a kind, before a soft reset keeps its base (R199). -/
def resetPart (cause : ResetCause) (s : State) : State :=
  (((((State.reset.setPending s.pending).setPins s.pins).setPort s.port.freed).setCtl (resetCtl s.pins.estop)).setButtons
    (resetButtons s.pins)).setExch { Exch.reset with cause := cause }

/-- A power reset. -/
def powerUp (s : State) : State := resetPart .power s

/-- A pin reset: the bytes of the staging banks stay, since no rule of a reset changes them (R84; log entry 3). -/
def pinResets (s : State) : State := (resetPart .pin s).setStaging s.staging

/-- A soft reset keeps the registers EXCH_BASE_LO and EXCH_BASE_HI and the base taken (R199). -/
def keptExch (e : Exch) : Exch :=
  { Exch.reset with cause := .soft, baseLo := e.baseLo, baseHi := e.baseHi, base := e.base }

/-- A soft reset (R199): with a base taken, the part attaches again at once at that base (R191). -/
def softResets (s : State) : State :=
  let fresh := ((resetPart .soft s).setStaging s.staging).setExch (keptExch s.exch)
  if s.exch.base.isSome then askAttach (setAttach .reading fresh) else fresh

end Sys2Proof.Machine
end

