-- ==== Sys2Proof/Machine/Flags.lean ====
section
/-! DEFINITION. What is computed from the state: the outputs (INT, the registers, valves, lamps, head lanes) and, for each event of the part's own,
whether it is due. A command that is not due changes nothing (log entry 8). -/

namespace Sys2Proof.Machine

/-! ## Outputs -/

/-- INT is asserted: the interrupt enable is set and the chip sequence differs from SEQ_ACK (R198). -/
def intAsserted (s : State) : Bool := s.exch.intEnable && s.reports.chipSeq != s.exch.seqAck

/-- The INT pin is driven low while INT is asserted (R198). -/
def intPinLow (s : State) : Bool := intAsserted s

/-- LINE_STATUS (R188, section 11.7). -/
def lineStatus (s : State) : Word :=
  BitVec.ofNat 32
    (modeCode s.ctl.mode + 8 * causesCode s.ctl.causes + 256 * s.ctl.refused.toNat + 512 * attachCode s.exch.attach
      + 2048 * resetCauseCode s.exch.cause + 8192 * s.pins.estop.toNat + 16384 * s.exch.mem.toNat
      + 65536 * (s.reports.chipSeq.toNat % 65536))

/-- What a read of the register window returns (R188): the offsets are those of `registerWriteCommands` (log entry 6). -/
def readRegister (s : State) (offset : Word) : Word :=
  if offset = 0x00#32 then BitVec.ofNat 32 (16 * s.exch.intEnable.toNat)
  else if offset = 0x04#32 then lineStatus s
  else if offset = 0x08#32 then s.exch.baseLo
  else if offset = 0x0C#32 then s.exch.baseHi
  else if offset = 0x14#32 then s.exch.seqAck
  else 0

/-- The valve outputs: VALVE(z) is open exactly while channel z + 1 is OPEN (R51). -/
def valveOutput (s : State) (z : Fin 8) : Bool :=
  match valveAt s z with
  | .opened _ _ _ => true
  | .closed => false
  | .armed _ _ _ => false

/-- An unload lamp is lit (R40). -/
def lampLit (s : State) (d : Destination) : Bool := s.carousel.lamp == some d

/-- The bytes that a channel's head lane carries: those of the band it emits, and none otherwise (R85, R91). -/
def laneData (s : State) (c : Fin 6) : List Byte :=
  match (laneAt s c).bank with
  | none => []
  | some b =>
    match (bankAt s b).band with
    | none => []
    | some r => bankData s b r.length

/-- The frame of the request on the link (R158, R200). -/
def frameOnLink (s : State) : List Byte :=
  match s.link.onLink with
  | none => []
  | some o => requestFrame o

/-- A byte of a frame as a ten-bit character: a start bit, eight data bits with the least significant first, a stop bit (R200). That the
start bit is low and the stop bit high is PRESUMED (log entry 33). -/
def linkCharacter (b : Byte) : List Bool := false :: List.ofFn (fun i : Fin 8 => b.getLsbD i.val) ++ [true]

/-- The bits of the request frame on the link, in the order they are sent (R158, R200). -/
def linkBits (s : State) : List Bool := (frameOnLink s).flatMap linkCharacter

/-- The driver enable output LINK_DE in bit time `n` of the try on the link, bit time 0 being the start bit of the frame's first byte: on
to the last stop bit of the check, off after it, and off while nothing is on the link (R171, R172, R200). -/
def linkDriverEnable (s : State) (n : Nat) : Bool := n < (linkBits s).length

/-- What the part drives on the link pair in bit time `n` of the try on the link: nothing while the driver enable is off (R200). -/
def linkDriven (s : State) (n : Nat) : Option Bool := (linkBits s)[n]?

/-! ## Inputs (R182, R186, R187) -/

/-- The release time has passed in RELEASING (R182). -/
def releaseDue (s : State) : Bool :=
  match s.ctl.monitor with
  | .releasing t => expired s t
  | .asserted => false
  | .clear => false

/-- A button unit. -/
def buttonAt (s : State) (b : Button) : ButtonUnit := Tbl.at s.buttons (buttonNum b)

/-- The level of a button's input: pressed or released. -/
def buttonLevel (s : State) (b : Button) : Bool := Tbl.at s.pins.buttons (buttonNum b)

/-- The debounce time of a unit in CHECKING or LOCKOUT has passed (R187). -/
def debounceDue (s : State) (b : Button) : Bool :=
  (buttonAt s b).state != .settled && expired s (buttonAt s b).timer

/-- The time a capture unit holds (R186). -/
def captureAt (s : State) (i : CaptureInput) : Option Clock := Tbl.at s.captures (captureNum i)

/-! ## The station link (R159, R162, R165, R167) -/

/-- A clock value that has been reached, when there is one. -/
def timeDue (s : State) : Option Clock → Bool
  | none => false
  | some t => reached s t

/-- The retry time of a place in retry gap. -/
def retryAt (w : Queued) : Option Clock :=
  match w.state with
  | .retryGap t => some t
  | .queued => none
  | .onLink => none

/-- A retry time has passed (R159, R165). -/
def retryDue (s : State) (p : RetryPlace) : Bool :=
  match p with
  | .requester q => timeDue s ((placeAt s q).now.bind retryAt)
  | .pair => timeDue s (s.link.service.bind Service.retryAt)

/-- The probe time of a module whose role has an address has passed (R162). -/
def probePassed (s : State) (r : Role) : Bool :=
  attached s && (roleAddr s r).isSome && !(moduleAt s r).probeReady && timeDue s (moduleAt s r).probe

/-- The decline hold time of a line has passed (R167). -/
def holdDue (s : State) (a : Fin 8) : Bool := timeDue s (attnAt s a).hold

/-! ## The carousel (R32, R34, R37) -/

/-- The index gate is open (R32). -/
def indexDue (s : State) : Bool := mayWork s && allReleased s

/-- A home may start (R37, R44). -/
def homeDue (s : State) : Bool :=
  s.carousel.homeAsked && !s.carousel.homed && !opInFlight s && !stationWork s
    && (s.ctl.mode == .run || s.ctl.mode == .hold)

/-- The index timer has expired (R34). -/
def indexTimerDue (s : State) : Bool := opInFlight s && ranOut s s.carousel.timer

/-! ## Pretreat and press (R49, R51, R54, R61, R62) -/

/-- A pass may start (R49). -/
def passDue (s : State) : Bool := s.pretreat.state == .waiting && mayWork s && s.pretreat.tank.state != .empty

/-- The open time of an ARMED channel is reached (R51). -/
def openDue (s : State) (z : Fin 8) : Bool :=
  match valveAt s z with
  | .armed t _ _ => reached s t
  | .closed => false
  | .opened _ _ _ => false

/-- The close time of an OPEN channel is reached (R51). -/
def closeDue (s : State) (z : Fin 8) : Bool :=
  match valveAt s z with
  | .opened _ t _ => reached s t
  | .closed => false
  | .armed _ _ _ => false

/-- The pass guard timer has expired (R54). -/
def passGuardDue (s : State) : Bool := passInFlight s && ranOut s s.pretreat.guard

/-- A press cycle may start (R61). -/
def cycleDue (s : State) : Bool := s.press.state == .waiting && mayWork s

/-- The press guard timer has expired (R62). -/
def pressGuardDue (s : State) : Bool := cycleInFlight s && ranOut s s.press.guard

/-! ## Fetching and printing (R77, R87 to R89, R91, R94) -/

/-- A fetch may start (R77, R84). R84 has the engine act in every line mode and says that nothing is fetched in IDLE and WARMING, where no plane
start arrives; a walker that is still WALKING there, from a start taken before, is fetched for (DESIGN CHOICE, log entry 44). -/
def fetchDue (s : State) : Bool :=
  attached s && s.engine.fetch.isNone && (lowestFree s).isSome && (chooseChannel s).isSome

/-- An arrived print may begin (R87). -/
def beginDue (s : State) (u : Printer) : Bool := (unitAt s u).state == .arrived && mayWork s

/-- Every active channel of a unit's garment may start swath k (R88). -/
def channelsReady (s : State) (u : Printer) : Bool :=
  match (unitAt s u).job with
  | none => false
  | some j => (unitAt s u).active.all (channelReady s j.garment (unitAt s u).swath)

/-- A swath may start (R88). -/
def swathDue (s : State) (u : Printer) : Bool := (unitAt s u).state == .waiting && channelsReady s u

/-- The starve limit has passed, and the unit still waits for its bands (R89): once the band that meets the start condition has been
reported staged, the swath starts and the timer is stopped. -/
def starveDue (s : State) (u : Printer) : Bool :=
  (unitAt s u).state == .waiting && ranOut s (unitAt s u).starve && !channelsReady s u

/-- The swath guard timer has expired (R94). -/
def swathGuardDue (s : State) (u : Printer) : Bool :=
  swathInFlight (unitAt s u) && ranOut s (unitAt s u).guard

/-- A lane is emitting a band (R91). -/
def emitting (s : State) (c : Fin 6) : Bool :=
  (unitAt s (channelUnit c)).state == .printing && (laneAt s c).state == .emitting

/-! ## Heat and packing (R111 to R114, R121, R128, R141) -/

/-- An exposure may start (R111). -/
def exposureDue (s : State) : Bool := s.flash.state == .waiting && mayWork s

/-- A flash period tick is due (R113). -/
def flashTickDue (s : State) : Bool := s.flash.state == .exposing && reached s s.flash.nextTick

/-- An exposure that the flash limit ends (R114). -/
def limitedState : FlashState → Bool
  | .heating => true
  | .exposing => true
  | .idle => false
  | .waiting => false
  | .ending => false

/-- The flash limit timer has expired (R114). -/
def flashLimitDue (s : State) : Bool := limitedState s.flash.state && ranOut s s.flash.limit

/-- A dryer period tick is due (R124). -/
def dryerTickDue (s : State) : Bool := s.dryer.ticking && reached s s.dryer.nextTick

/-- An entry has stood for a timeout in seconds (R121, R141). -/
def entryExpired (s : State) (timeout : Nat) (e : TimedEntry) : Bool :=
  timeout * Config.ticksPerSecond ≤ elapsed s e.entry

/-- A garment's transfer entry has expired (R121). -/
def transferDue (s : State) (g : Fin 32) : Bool :=
  s.ctl.mode != .stopped
    && s.dryer.transfer.any fun e => e.garment == g && entryExpired s s.config.transferTimeout e

/-- A garment's pack entry has expired (R141). -/
def packDue (s : State) (g : Fin 32) : Bool :=
  s.ctl.mode != .stopped && s.pack.queue.any fun e => e.garment == g && entryExpired s s.config.packTimeout e

/-! ## Modes (R176, R177) -/

/-- The drain ends (R176). -/
def drainDue (s : State) : Bool := s.ctl.drain && noGarment s && !opInFlight s

/-- The warm-up timer has expired (R177). -/
def warmupDue (s : State) : Bool := s.ctl.mode == .warming && ranOut s s.ctl.warmup

/-! ## The exchange area (R193, R194, R196) -/

/-- The sweep timer has expired (R193). -/
def sweepDue (s : State) : Bool := attached s && ranOut s s.exch.sweepTimer

/-- The exchange interface has something to serve (R194). -/
def serveDue (s : State) : Bool :=
  attached s && s.exch.activity.isNone
    && (s.exch.snapWanted || !s.exch.nudges.isEmpty || s.exch.sweep.isSome)

/-- The report writer has a report to start (R191, R196). -/
def reportDue (s : State) : Bool :=
  attached s && s.reports.job.isNone && !s.reports.headerWriting
    && (!s.reports.fifo.isEmpty || (nextDirty s.reports).isSome)

/-! ## Answers of a command -/

/-- A command whose event acts when it is due and changes nothing otherwise. -/
def whenDue (due : Bool) (f : State → State) (s : State) : Host.Outcome State Fault Refusal :=
  .next (if due then f s else s)

/-- The bytes of a read result number what the access asked for; an error brings none (R83). -/
def readFits (a : Access) : ReadResult → Bool
  | .error => true
  | .data bytes => bytes.length == a.length

/-- A read of host memory completes (R83): the port goes to the next access, and the outcome to its requester unless it is discarded.
An outcome that is still to arrive from before a reset comes first and is discarded (R84; log entry 12). With no such access in
progress nothing happens. -/
def readDone (k : AccessKind) (r : ReadResult) (f : State → State) (s : State) : Host.Outcome State Fault Refusal :=
  if k ∈ s.port.late then .next (dropLate k s)
  else
    match inProgress k s with
    | none => .next s
    | some a => if readFits a r then .next (if a.discard then endAccess s else f (endAccess s)) else .fault .readLength

/-- A write of host memory completes (R83); outcomes from before a reset are dealt with as in `readDone`. -/
def writeDone (k : AccessKind) (f : State → State) (s : State) : Host.Outcome State Fault Refusal :=
  if k ∈ s.port.late then .next (dropLate k s)
  else
    match inProgress k s with
    | none => .next s
    | some a => .next (if a.discard then endAccess s else f (endAccess s))

end Sys2Proof.Machine
end

