-- ==== Sys2Proof/Machine/Resets.lean ====
section
/-! DEFINITION. The meanings of POWER_RESET, PIN_RESET and SOFT_RESET (R199). -/

namespace Sys2Proof.Machine

/-- POWER_RESET (R199). -/
def execPowerReset (s : State) : Host.Outcome State Fault Refusal := .next (powerUp s)

/-- PIN_RESET (R199). -/
def execPinReset (s : State) : Host.Outcome State Fault Refusal := .next (pinResets s)

/-- SOFT_RESET (R189, R199). -/
def execSoftReset (s : State) : Host.Outcome State Fault Refusal := .next (softResets s)

end Sys2Proof.Machine
end

