-- ==== Sys2Proof/Machine/HostRegs.lean ====
section
/-! DEFINITION. The meanings of the host's register writes: INTERRUPT_ENABLE, MEM_CLEAR, RUN_REQUEST, HOLD_REQUEST, IDLE_REQUEST,
EXCH_BASE_HI_WRITE, POST_WRITE, SEQ_ACK_WRITE and REGISTER_WRITE (R174, R176, R188 to R190, R194, R198). -/

namespace Sys2Proof.Machine

/-! ## LINE_CTRL (R189) -/

/-- INTERRUPT_ENABLE: the interrupt enable takes the value written (R189, R198). -/
def execInterruptEnable (enable : Bool) (s : State) : Host.Outcome State Fault Refusal :=
  .next (s.setExch { s.exch with intEnable := enable })

/-- MEM_CLEAR: the MEM flag is cleared (R189). -/
def execMemClear (s : State) : Host.Outcome State Fault Refusal := .next (s.setExch { s.exch with mem := false })

/-! ## Mode requests (R174, R176) -/

/-- Set or clear the refused flag. -/
def setRefused (v : Bool) (s : State) : State := s.setCtl { s.ctl with refused := v }

/-- A snapshot read in progress runs to its end with its result discarded (R174). -/
def droppedSnapshot : Activity → Activity
  | .snapshot got _ => .snapshot got true
  | .look slot ofSweep posting => .look slot ofSweep posting
  | .refill ofSweep => .refill ofSweep

/-- A RUN request whose snapshot read is in flight is replaced: the read runs to its end and its result is discarded (R174). A read that
was asked for and has not begun is withdrawn and never made: R174 speaks only of a read in progress (DESIGN CHOICE, log entry 22). -/
def dropReading (s : State) : State :=
  if s.ctl.request = .reading then
    (s.setCtl { s.ctl with request := .absent }).setExch
      { s.exch with snapWanted := false, activity := s.exch.activity.map droppedSnapshot }
  else s

/-- Each mode request clears the refused flag and replaces a RUN request whose read is in flight (R174, R189). -/
def newRequest (s : State) : State := dropReading (setRefused false s)

/-- A RUN request in IDLE or HOLD (R174): refused while not attached, and otherwise a snapshot read is asked for. -/
def askRun (s : State) : State :=
  if s.ctl.request = .pendingHome then s
  else if attached s then
    (s.setCtl { s.ctl with request := .reading }).setExch { s.exch with snapWanted := true }
  else refuseRun 0 0 true s

/-- A RUN request by the mode in which it is written (R174). In STOPPED it is refused with detail 5, and CONFIG is not added, also while
the part is not attached, where R189 gives a refused RUN request detail 0 (DESIGN CHOICE, log entry 20). -/
def runByMode (s : State) : State :=
  match s.ctl.mode with
  | .stopped => refuseRun 5 0 false s
  | .warming => s
  | .run => s
  | .idle => askRun s
  | .hold => askRun s

/-- RUN_REQUEST (R174). -/
def execRunRequest (s : State) : Host.Outcome State Fault Refusal := .next (runByMode (newRequest s))

/-- HOST is added to the hold-cause set, and RUN and WARMING go to HOLD (R176, R179). -/
def addHost (s : State) : State := holdWith { s.ctl.causes with host := true } s

/-- A RUN request pending on a home is dropped (R175). The home it asked for stays asked for when it has not started yet, and starts in
HOLD: R175 speaks only of a home in flight (DESIGN CHOICE, log entry 21). -/
def dropPendingRun (s : State) : State :=
  if s.ctl.request = .pendingHome then s.setCtl { s.ctl with request := .absent } else s

/-- A HOLD request by the mode in which it is written (R176). -/
def holdByMode (s : State) : State :=
  match s.ctl.mode with
  | .run => addHost s
  | .warming => addHost s
  | .hold => dropPendingRun (addHost s)
  | .idle => setRefused true s
  | .stopped => setRefused true s

/-- HOLD_REQUEST (R176). -/
def execHoldRequest (s : State) : Host.Outcome State Fault Refusal := .next (holdByMode (newRequest s))

/-- Set the drain flag. -/
def setDrain (s : State) : State := s.setCtl { s.ctl with drain := true }

/-- The line enters IDLE with the hold-cause set emptied (R178). -/
def toIdle (s : State) : State := changeLine .idle Causes.empty s

/-- An IDLE request by the mode in which it is written (R176). -/
def idleByMode (s : State) : State :=
  match s.ctl.mode with
  | .warming => if noGarment s then toIdle s else setDrain (addHost s)
  | .run => setDrain (addHost s)
  | .hold => dropPendingRun (setDrain (addHost s))
  | .idle => s
  | .stopped => setRefused true s

/-- IDLE_REQUEST (R176). -/
def execIdleRequest (s : State) : Host.Outcome State Fault Refusal := .next (idleByMode (newRequest s))

/-! ## The other registers -/

/-- EXCH_BASE_HI_WRITE (R190): the register takes the value, and in IDLE an attach starts. -/
def execExchBaseHiWrite (value : Word) (s : State) : Host.Outcome State Fault Refusal :=
  let stored := s.setExch { s.exch with baseHi := value }
  .next (if s.ctl.mode = .idle then startAttach stored else stored)

/-- A value that is a nudge: 0..127, 0xFE or 0xFF (R194). -/
def isNudge (v : Nat) : Bool := v < 128 || v == 0xFE || v == 0xFF

/-- A nudge joins the FIFO and clears the nudge-drop flag (R194). -/
def pushNudge (v : Nat) (s : State) : State :=
  s.setExch { s.exch with nudges := s.exch.nudges ++ [BitVec.ofNat 8 v], nudgeDrop := false }

/-- A value written to POST is dropped: NUDGE_DROPPED once until the FIFO next takes a nudge (R194). -/
def dropNudge (v : Nat) (s : State) : State :=
  if s.exch.nudgeDrop then s
  else
    (raise { incident .nudgeDropped with value := v } s).setExch { s.exch with nudgeDrop := true }

/-- The value of a POST write: its low 8 bits (R194). -/
def postValue (value : Word) : Nat := value.toNat % 256

/-- POST_WRITE (R194): a write before attach is dropped in silence. -/
def execPostWrite (value : Word) (s : State) : Host.Outcome State Fault Refusal :=
  .next
    (if attached s then
      if isNudge (postValue value) && s.exch.nudges.length < Config.nudgePlaces then pushNudge (postValue value) s
      else dropNudge (postValue value) s
    else s)

/-- SEQ_ACK_WRITE (R198). -/
def execSeqAckWrite (value : Word) (s : State) : Host.Outcome State Fault Refusal :=
  .next (s.setExch { s.exch with seqAck := value })

/-- The offset of EXCH_BASE_LO (log entry 6). -/
def baseLoOffset : Word := 0x08#32

/-- REGISTER_WRITE (R188): EXCH_BASE_LO takes bits 31..12; a write to an offset with no behaviour of its own is ignored. -/
def execRegisterWrite (offset value : Word) (s : State) : Host.Outcome State Fault Refusal :=
  .next (if offset = baseLoOffset then s.setExch { s.exch with baseLo := value &&& 0xFFFFF000#32 } else s)

end Sys2Proof.Machine
end

