-- ==== Sys2Proof/Machine/Inputs.lean ====
section
/-! DEFINITION. The meanings of the direct inputs: ESTOP (R39, R55, R63, R98, R117, R181, R182), the buttons (R31, R41, R42, R187), the
captures and their owners (R34, R50, R122, R131, R186), and the attention lines (R166). -/

namespace Sys2Proof.Machine

/-! ## E-stop (R181) -/

/-- The carousel's e-stop (R39): an operation in flight is cut without rotating the map. -/
def estopCarousel (s : State) : State :=
  if opInFlight s then
    let ended := endOp s
    withdrawTxn .carousel (ended.setCarousel { ended.carousel with homed := false })
  else s

/-- A pass in flight is cut by e-stop (R55). -/
def estopPass (s : State) : State :=
  match s.pretreat.job with
  | none => s
  | some j =>
    if passInFlight s then
      releaseStation .pretreat j.platen
        (failOp j.garment .cutByStop (markPretreat j.garment .cut (idlePretreat s)))
    else s

/-- The pretreat unit's e-stop (R55). -/
def estopPretreat (s : State) : State := withdrawTxn .pretreat (estopPass (closeValves s))

/-- A press cycle in flight is cut by e-stop with PRESS_SKIPPED detail 6 (R63). -/
def estopCycle (s : State) : State :=
  match s.press.job with
  | none => s
  | some j => if cycleInFlight s then skipPress j 6 s else s

/-- The press unit's e-stop (R63). -/
def estopPress (s : State) : State := withdrawTxn .press (estopCycle s)

/-- A begun print with a started swath is cut by e-stop (R98). -/
def estopCut (u : Printer) (j : PrintJob) (s : State) : State :=
  withdrawTxn (printRequester u)
    (releaseStation (printStation u) j.platen (dropPrint u j .cutByStop (haltPrint u j s)))

/-- A print unit's e-stop (R98): before swath 1 the unit returns to ARRIVED with its staged bands. The active channel set, the graceful
cancel flag and the latched starve limit of the print it leaves, of which R98 does not speak, are emptied, cleared and 0 there
(DESIGN CHOICE, log entry 37). -/
def estopPrint (u : Printer) (s : State) : State :=
  let p := unitAt s u
  match p.job with
  | none => s
  | some j =>
    if begunState p.state then
      if p.state = .waiting ∧ p.swath ≤ 1 then putUnit u { PrintUnit.reset with state := .arrived, job := some j } s
      else estopCut u j s
    else s

/-- The flash unit's e-stop (R117). -/
def estopFlash (s : State) : State :=
  match s.flash.job with
  | none => s
  | some j =>
    match s.flash.state with
    | .heating | .exposing =>
      withdrawTxn .flash
        (releaseStation .flash j.platen
          (failOp j.garment.index .cutByStop (idleFlash (markFlash j.garment.index .cut s))))
    | .ending => leaveFlash j s
    | .idle => s
    | .waiting => s

/-- The assertion reaches every block (R181). -/
def estopBlocks (s : State) : State :=
  estopFlash (estopPrint .color (estopPrint .white (estopPress (estopPretreat (estopCarousel s)))))

/-- A request in progress is dropped, and the refused flag is set (R174, R175, R181). -/
def estopRequest (s : State) : State :=
  match s.ctl.request with
  | .absent => s
  | .reading => setRefused true (dropReading s)
  | .pendingHome => setRefused true (dropPendingRun s)

/-- The line controller's steps at ESTOP assertion (R181). -/
def estopLine (s : State) : State :=
  let stopped := moveLine .stopped s.ctl.causes s
  let cleared := estopRequest (stopped.setCtl { stopped.ctl with warm := false, drain := false })
  putCommands (estopList cleared) cleared

/-- The level of the ESTOP input. -/
def setEstopPin (v : Bool) (s : State) : State := s.setPins { s.pins with estop := v }

/-- The state of the ESTOP monitor. -/
def setMonitor (m : Monitor) (s : State) : State := s.setCtl { s.ctl with monitor := m }

/-- ESTOP_ASSERTION (R181, R182): a line already STOPPED stays as it is. -/
def execEstopAssertion (s : State) : Host.Outcome State Fault Refusal :=
  let asserted := setMonitor .asserted (setEstopPin true s)
  .next (if s.ctl.mode = .stopped then asserted else estopBlocks (estopLine asserted))

/-- ESTOP_DEASSERTION (R182): the release time starts. -/
def execEstopDeassertion (s : State) : Host.Outcome State Fault Refusal :=
  let low := setEstopPin false s
  .next
    (if s.ctl.monitor = .asserted then
      setMonitor (.releasing (timerFrom low (low.config.debounce * Config.ticksPerMs))) low
    else low)

/-- An entry whose time starts afresh (R137, R141). -/
def restartEntry (now : Clock) (e : TimedEntry) : TimedEntry := { e with entry := now }

/-- The transfer and pack timeouts run afresh (R137, R141). -/
def restartEntries (s : State) : State :=
  (s.setDryer { s.dryer with transfer := s.dryer.transfer.map (restartEntry s.clock) }).setPack
    { s.pack with queue := s.pack.queue.map (restartEntry s.clock) }

/-- The line leaves STOPPED for HOLD with HOST added (R182). -/
def leaveStopped (s : State) : State :=
  moveLine .hold { s.ctl.causes with host := true } (restartEntries (setMonitor .clear s))

/-- ESTOP_RELEASE_TIME_PASSES (R182). -/
def execEstopReleaseTimePasses (s : State) : Host.Outcome State Fault Refusal :=
  whenDue (releaseDue s) leaveStopped s

/-! ## Buttons (R31, R41, R42, R187) -/

/-- A LOAD_GO edge is taken (R31). -/
def loadGo (s : State) : State :=
  if scanMode s.ctl.mode ∧ opInFlight s = false ∧ released s .load = false then setReleased .load s else s

/-- UNLOAD releases, and the lamps go off (R40, R42). -/
def releaseUnload (s : State) : State :=
  let set := setReleased .unload s
  set.setCarousel { set.carousel with lamp := none }

/-- A garment goes to the dryer (R42): onto the transfer list and off its platen. -/
def unloadToDryer (g : Fin 32) (s : State) : State :=
  emptyPlaten (platenAt s (stationPos .unload)) (changeGarment g (fun r => { r with platen := none }) (appendTransfer g s))

/-- An UNLOAD_GO edge acts on the destination (R41, R42). -/
def unloadTo (g : Fin 32) (d : Destination) (s : State) : State :=
  match d with
  | .dryer =>
    if s.ctl.mode ≠ .warming ∧ transferRoom s then releaseUnload (unloadToDryer g s) else s
  | .reject => releaseUnload (deleteGarment g s)
  | .return => releaseUnload (deleteGarment g s)

/-- An UNLOAD_GO edge is taken (R41). -/
def unloadGo (s : State) : State :=
  if scanMode s.ctl.mode ∧ opInFlight s = false ∧ released s .unload = false then
    match garmentAtPos s (stationPos .unload) with
    | none => s
    | some g =>
      match (garmentAt s g).bind Garment.dest with
      | none => s
      | some d => unloadTo g d s
  else s

/-- An accepted press goes to the carousel controller (R187). -/
def pressed (b : Button) (s : State) : State :=
  match b with
  | .loadGo => loadGo s
  | .unloadGo => unloadGo s

/-- Replace a button unit. -/
def putButton (b : Button) (u : ButtonUnit) (s : State) : State := s.setButtons (Tbl.put s.buttons (buttonNum b) u)

/-- The debounce timer of a check or a lockout that starts now (R187). -/
def debounceTimer (s : State) : Timer := timerFrom s (s.config.debounce * Config.ticksPerMs)

/-- A button unit that starts a check (R187). -/
def checkingUnit (s : State) (b : Button) : ButtonUnit :=
  { buttonAt s b with state := .checking, timer := debounceTimer s }

/-- A button unit at a change of its input (R187). -/
def changedUnit (s : State) (b : Button) : ButtonUnit :=
  match (buttonAt s b).state with
  | .settled => checkingUnit s b
  | .checking => { buttonAt s b with state := .settled }
  | .lockout => buttonAt s b

/-- BUTTON_INPUT_CHANGE (R187). -/
def execButtonInputChange (b : Button) (level : Bool) (s : State) : Host.Outcome State Fault Refusal :=
  .next
    (if buttonLevel s b = level then s
    else
      putButton b (changedUnit s b) (s.setPins { s.pins with buttons := Tbl.put s.pins.buttons (buttonNum b) level }))

/-- An edge is accepted: LOCKOUT at the new level, and a press is handed on (R187). -/
def acceptEdge (b : Button) (s : State) : State :=
  let locked := putButton b { state := .lockout, level := buttonLevel s b, timer := debounceTimer s } s
  if buttonLevel s b then pressed b locked else locked

/-- The debounce time passes in CHECKING (R187). -/
def endCheck (b : Button) (s : State) : State :=
  if buttonLevel s b = (buttonAt s b).level then putButton b { buttonAt s b with state := .settled } s
  else acceptEdge b s

/-- The debounce time passes in LOCKOUT (R187). -/
def endLockout (b : Button) (s : State) : State :=
  if buttonLevel s b = (buttonAt s b).level then putButton b { buttonAt s b with state := .settled } s
  else putButton b (checkingUnit s b) s

/-- The debounce time of a unit passes (R187). -/
def endDebounce (b : Button) (s : State) : State :=
  match (buttonAt s b).state with
  | .settled => s
  | .checking => endCheck b s
  | .lockout => endLockout b s

/-- BUTTON_DEBOUNCE_TIME_PASSES (R187). -/
def execButtonDebounceTimePasses (b : Button) (s : State) : Host.Outcome State Fault Refusal :=
  whenDue (debounceDue s b) (endDebounce b) s

/-! ## Captures (R186) -/

/-- Replace what a capture unit holds. -/
def putCapture (i : CaptureInput) (t : Option Clock) (s : State) : State :=
  s.setCaptures (Tbl.put s.captures (captureNum i) t)

/-- An edge in the capture direction: recorded, or lost while an earlier time is held (R186). -/
def capture (i : CaptureInput) (s : State) : State :=
  match captureAt s i with
  | none => putCapture i (some s.clock) s
  | some _ => raise { incident .captureLost with detail := (captureNum i).val, value := s.clock.toNat } s

/-- The level an edge leads to. -/
def edgeLevel : Edge → Bool
  | .rising => true
  | .falling => false

/-- CAPTURE_EDGE (R186). -/
def execCaptureEdge (i : CaptureInput) (e : Edge) (s : State) : Host.Outcome State Fault Refusal :=
  let level := s.setPins { s.pins with captures := Tbl.put s.pins.captures (captureNum i) (edgeLevel e) }
  .next (if Tbl.at s.config.edges (captureNum i) = e then capture i level else level)

/-- An owner takes the event its capture unit holds (R186). -/
def takeCapture (i : CaptureInput) (f : Clock → State → State) (s : State) : Host.Outcome State Fault Refusal :=
  match captureAt s i with
  | none => .next s
  | some t => .next (f t (putCapture i none s))

/-- The INDEX_HOME edge: MOVING goes to SETTLING, and otherwise it is ignored (R34). -/
def homeEdge (s : State) : State :=
  match s.carousel.op with
  | .moving h => s.setCarousel { s.carousel with op := .settling h }
  | .none => s
  | .settling _ => s

/-- INDEX_HOME_EDGE (R34). -/
def execIndexHomeEdge (s : State) : Host.Outcome State Fault Refusal := takeCapture .indexHome (fun _ => homeEdge) s

/-! ## Spray rows (R47, R50, R52) -/

/-- The effective min pulse (R46). -/
def effectiveMin (p : SprayParams) : Nat := min p.minPulse p.dwell

/-- The quotient by 4,080, rounded to the nearest (R47). -/
def roundedPulse (q : Nat) : Nat :=
  q / Config.pulseDivisor + (if Config.pulseDivisor ≤ 2 * (q % Config.pulseDivisor) then 1 else 0)

/-- A pulse time in 0.1 ms from the factor and the coverage (R47). -/
def pulseTime (p : SprayParams) (factor cover : Nat) : Nat :=
  if cover < p.floor ∨ factor = 0 then 0
  else min p.dwell (max (effectiveMin p) (roundedPulse (p.base * factor * cover)))

/-- The coverage of row `row` (1..16) and zone `z` (0 for zone 1) of the garment that is sprayed (R46), from the snapshot that its slot
holds at the row, be it of a later post (DESIGN CHOICE, log entry 40). -/
def coverageAt (s : State) (row : Nat) (z : Fin 8) : Nat :=
  match s.pretreat.job.bind fun j => (garmentAt s j.garment).bind (snapOf s) with
  | none => 0
  | some p => p.coverage.toList.getD ((row - 1) * 8 + z.val) 0

/-- Arm a zone's channel for a row whose edge was at `edge`; a pulse time of 0 leaves it CLOSED (R50). -/
def armZone (edge : Clock) (row : Nat) (s : State) (z : Fin 8) : State :=
  let p := s.pretreat.latched
  let t := pulseTime p s.pretreat.factor (coverageAt s row z)
  let opens := later edge (p.delay * Config.ticksPerTenth)
  if t = 0 then s else putValve z (.armed opens (later opens (t * Config.ticksPerTenth)) t) s

/-- A row overlap sets the garment's ROW_OVERLAP flag (R52). -/
def noteOverlap (s : State) : State :=
  match s.pretreat.job with
  | none => s
  | some j => if anyValve s then changeGarment j.garment (fun r => { r with rowOverlap := true }) s else s

/-- The edge is the next row of the pass (R50, R52). -/
def nextRow (edge : Clock) (s : State) : State :=
  let closed := closeValves (noteOverlap s)
  let counted := closed.setPretreat { closed.pretreat with row := s.pretreat.row + 1 }
  allValves.foldl (armZone edge (s.pretreat.row + 1)) counted

/-- A SPRAY_ROW edge: the next row in SPRAYING with a row counter below 16, and otherwise not acted on (R50). -/
def rowEdge (edge : Clock) (s : State) : State :=
  if s.pretreat.state = .spraying ∧ s.pretreat.row < 16 then nextRow edge s else s

/-- SPRAY_ROW_EDGE (R50). -/
def execSprayRowEdge (s : State) : Host.Outcome State Fault Refusal := takeCapture .sprayRow rowEdge s

/-! ## Belt edges (R122, R131) -/

/-- An entry at the tail of the belt queue (R122, R123). -/
def joinBelt (g : Option (Fin 32)) (edge : Clock) (s : State) : State :=
  putBelt
    (s.dryer.belt
      ++ [{ garment := g, entry := edge, odo := s.dryer.odometer, beyond := false, overdue := false, counted := false }])
    s

/-- A garment record on the belt (R122). -/
def onBelt (edge : Clock) (odo : Word) (r : Garment) : Garment :=
  { r with beltEntry := some edge, entryOdo := some odo, place := .onBelt }

/-- The head transfer entry moves onto the belt (R122). -/
def enterBelt (g : Fin 32) (rest : List TimedEntry) (edge : Clock) (s : State) : State :=
  changeGarment g (onBelt edge s.dryer.odometer)
    (joinBelt (some g) edge (s.setDryer { s.dryer with transfer := rest }))

/-- A phantom joins the belt queue (R122). -/
def enterPhantom (edge : Clock) (s : State) : State :=
  let joined := joinBelt none edge s
  raise { incident .strayEntry with value := joined.dryer.belt.length } joined

/-- A BELT_ENTRY edge (R122). -/
def beltEntryAt (edge : Clock) (s : State) : State :=
  if s.dryer.belt.length < Config.beltPlaces then
    match s.dryer.transfer with
    | e :: rest => enterBelt e.garment rest edge s
    | [] => enterPhantom edge s
  else raise { incident .beltFull with value := s.dryer.transfer.length } s

/-- BELT_ENTRY_EDGE (R122). -/
def execBeltEntryEdge (s : State) : Host.Outcome State Fault Refusal := takeCapture .beltEntry beltEntryAt s

/-- A BELT_EXIT edge (R131). -/
def beltExitAt (edge : Clock) (s : State) : State :=
  match s.dryer.belt with
  | [] => raise (incident .strayExit) s
  | e :: rest =>
    match e.garment with
    | none => raise { incident .strayExit with detail := 1 } (putBelt rest s)
    | some g => exitToPack e g edge (putBelt rest s)

/-- BELT_EXIT_EDGE (R131). -/
def execBeltExitEdge (s : State) : Host.Outcome State Fault Refusal := takeCapture .beltExit beltExitAt s

/-! ## Attention lines (R166) -/

/-- ATTENTION_LINE_CHANGE (R166): no debounce, the level is what counts when a choice is made. -/
def execAttentionLineChange (line : Fin 8) (high : Bool) (s : State) : Host.Outcome State Fault Refusal :=
  .next (s.setPins { s.pins with attention := Tbl.put s.pins.attention line high })

end Sys2Proof.Machine
end

