-- ==== Sys2Proof/Machine/LinkCmds.lean ====
section
/-! DEFINITION. The meanings of the station link's events: LINK_CHOICE, TRY_ACCEPT, TRY_DECLINE, TRY_SILENCE, RETRY_TIME_DUE, PROBE_DUE and
DECLINE_HOLD_PASSES (R158 to R168). -/

namespace Sys2Proof.Machine

/-- Make the choice under the settings in force (R156, R164). -/
def makeChoice (s : State) : State :=
  match s.link.settings with
  | none => s
  | some c => chooseWork c s

/-- LINK_CHOICE (R164). -/
def execLinkChoice (s : State) : Host.Outcome State Fault Refusal := whenDue (choiceReady s) makeChoice s

/-- TRY_ACCEPT (R159): the frame is one that R158 reads as ACCEPT. -/
def execTryAccept (frame : List Byte) (s : State) : Host.Outcome State Fault Refusal :=
  .next (endTry frame isAccept s)

/-- TRY_DECLINE (R159): the frame is one that R158 reads as DECLINE. -/
def execTryDecline (frame : List Byte) (s : State) : Host.Outcome State Fault Refusal :=
  .next (endTry frame isDecline s)

/-- TRY_SILENCE (R159): no frame, or one that R158 takes as silence. -/
def execTrySilence (frame : List Byte) (s : State) : Host.Outcome State Fault Refusal :=
  .next (endTry frame isSilence s)

/-- A transaction in retry gap is ready for a choice again (R159). -/
def endGap (q : Requester) (s : State) : State :=
  match (placeAt s q).now with
  | none => s
  | some w => putPlace q { placeAt s q with now := some { w with state := .queued } } s

/-- The second transfer of a pair is tried again (R165). -/
def retryPair (s : State) : State :=
  match s.link.service with
  | none => s
  | some v => secondTransfer v (putService { v with retryAt := none } s)

/-- A retry time has passed (R159, R165). -/
def endRetry (p : RetryPlace) (s : State) : State :=
  match p with
  | .requester q => endGap q s
  | .pair => retryPair s

/-- RETRY_TIME_DUE (R159, R165). -/
def execRetryTimeDue (p : RetryPlace) (s : State) : Host.Outcome State Fault Refusal :=
  whenDue (retryDue s p) (endRetry p) s

/-- A probe is ready for a choice (R162). -/
def readyProbe (r : Role) (s : State) : State := putModule r { moduleAt s r with probeReady := true } s

/-- PROBE_DUE (R162). -/
def execProbeDue (r : Role) (s : State) : Host.Outcome State Fault Refusal :=
  whenDue (probePassed s r) (readyProbe r) s

/-- A decline hold time is over (R167). -/
def endHold (a : Fin 8) (s : State) : State := putAttn a { attnAt s a with hold := none } s

/-- DECLINE_HOLD_PASSES (R167). -/
def execDeclineHoldPasses (line : Fin 8) (s : State) : Host.Outcome State Fault Refusal :=
  whenDue (holdDue s line) (endHold line) s

end Sys2Proof.Machine
end

