-- ==== Sys2Proof/Machine/CarouselCmds.lean ====
section
/-! DEFINITION. The meanings of INDEX_START, HOME_START and INDEX_TIMER_EXPIRY (R32 to R38). -/

namespace Sys2Proof.Machine

/-- The index timer that starts now (R33). -/
def indexTimer (s : State) : Timer := timerFrom s (s.config.indexTimeout * Config.ticksPerMs)

/-- An index or a home starts in MOVING with its timer (R33, R38). -/
def enterMoving (home : Bool) (s : State) : State :=
  s.setCarousel { s.carousel with op := .moving home, timer := some (indexTimer s) }

/-- Hand the operation's command to INDEX_DRIVE: LOST at once is an index fault with cause 3 (R34, R161). -/
def commandDrive (c : Command) (s : State) : State :=
  if lostAtOnce .carousel .indexDrive s then indexFault 3 s else handIn .carousel (putCmd .indexDrive c 0) s

/-- An index starts (R33). -/
def startIndex (s : State) : State := commandDrive .index (enterMoving false s)

/-- INDEX_START (R32, R33). -/
def execIndexStart (s : State) : Host.Outcome State Fault Refusal := whenDue (indexDue s) startIndex s

/-- A home starts (R37, R38): what was asked for is under way. -/
def startHome (s : State) : State := commandDrive .home (enterMoving true (dropHome s))

/-- HOME_START (R37, R38). -/
def execHomeStart (s : State) : Host.Outcome State Fault Refusal := whenDue (homeDue s) startHome s

/-- INDEX_TIMER_EXPIRY: an index fault with cause 0 (R34, R36). -/
def execIndexTimerExpiry (s : State) : Host.Outcome State Fault Refusal := whenDue (indexTimerDue s) (indexFault 0) s

end Sys2Proof.Machine
end

