-- ==== Sys2Proof/Machine/SprayPress.lean ====
section
/-! DEFINITION. The meanings of PASS_START, VALVE_OPEN_TIME, VALVE_CLOSE_TIME, PASS_GUARD_EXPIRY, PRESS_CYCLE_START and PRESS_GUARD_EXPIRY
(R49, R51, R53, R54, R61, R62). -/

namespace Sys2Proof.Machine

/-- The pretreat unit as a pass starts (R49): parameters latched, row 0, every channel CLOSED, the guard timer running. -/
def sprayingUnit (s : State) : Pretreat :=
  { s.pretreat with
    state := .spraying
    row := 0
    latched := s.config.spray
    guard := some (timerFrom s Config.guardLimit)
    valves := Tbl.all .closed }

/-- A pass starts (R49): PASS with argument 16 is handed in; LOST at once cuts the pass with detail 3 (R54, R161). -/
def startPass (s : State) : State :=
  let spraying := s.setPretreat (sprayingUnit s)
  if lostAtOnce .pretreat .sprayCarriage spraying then passCut 3 spraying
  else handIn .pretreat (putCmd .sprayCarriage .pass 16) spraying

/-- PASS_START (R49). -/
def execPassStart (s : State) : Host.Outcome State Fault Refusal := whenDue (passDue s) startPass s

/-- An ARMED channel opens (R51). -/
def openValve (z : Fin 8) (s : State) : State :=
  match valveAt s z with
  | .armed _ closeAt pulse => putValve z (.opened s.clock closeAt pulse) s
  | .closed => s
  | .opened _ _ _ => s

/-- VALVE_OPEN_TIME (R51). -/
def execValveOpenTime (valve : Fin 8) (s : State) : Host.Outcome State Fault Refusal :=
  whenDue (openDue s valve) (openValve valve) s

/-- A channel closes at its close time and hands the fluid of its pulse time (R51). -/
def closeOnTime (z : Fin 8) (s : State) : State :=
  match valveAt s z with
  | .opened _ _ pulse => useFluid (pulse * s.pretreat.latched.flow) (putValve z .closed s)
  | .closed => s
  | .armed _ _ _ => s

/-- The last channel to become CLOSED in FINISHING completes the pass (R53). -/
def finishPass (s : State) : State := if s.pretreat.state = .finishing ∧ anyValve s = false then passComplete s else s

/-- VALVE_CLOSE_TIME (R51, R53). -/
def execValveCloseTime (valve : Fin 8) (s : State) : Host.Outcome State Fault Refusal :=
  whenDue (closeDue s valve) (fun t => finishPass (closeOnTime valve t)) s

/-- PASS_GUARD_EXPIRY: the pass is cut with detail 0 (R54). -/
def execPassGuardExpiry (s : State) : Host.Outcome State Fault Refusal := whenDue (passGuardDue s) (passCut 0) s

/-- The press guard timer: the blank's dwell plus 10 s (R61). -/
def pressTimer (s : State) (dwell : Nat) : Timer := timerFrom s ((dwell + Config.pressMargin) * Config.ticksPerSecond)

/-- A press cycle starts for a garment (R61): SETPOINT, with the blank's press temperature; LOST at once cuts it with detail 3 (R62). -/
def startPressing (r : Garment) (s : State) : State :=
  let b := catalogAt s r.blank
  let setpoint := s.setPress { s.press with state := .setpoint, guard := some (pressTimer s b.dwell) }
  if lostAtOnce .press .press setpoint then pressCut 3 setpoint
  else handIn .press (putData .press b.pressTemp) setpoint

/-- The waiting press cycle starts (R61). -/
def startCycle (s : State) : State :=
  match s.press.job.bind fun j => garmentAt s j.garment with
  | none => s
  | some r => startPressing r s

/-- PRESS_CYCLE_START (R61). -/
def execPressCycleStart (s : State) : Host.Outcome State Fault Refusal := whenDue (cycleDue s) startCycle s

/-- PRESS_GUARD_EXPIRY: the cycle is cut with detail 5 (R62). -/
def execPressGuardExpiry (s : State) : Host.Outcome State Fault Refusal := whenDue (pressGuardDue s) (pressCut 5) s

end Sys2Proof.Machine
end

