-- ==== Sys2Proof/Machine/FetchCmds.lean ====
section
/-! DEFINITION. The meanings of FETCH_START, DESCRIPTOR_READ_DONE and DATA_BURST_DONE (R66 to R70, R74, R77 to R81). -/

namespace Sys2Proof.Machine

/-- A bank that a fetch takes for a channel (R78). -/
def fillingBank (c : Fin 6) : Bank := { state := .filling, owner := some c, band := none, freeAsked := false }

/-- A fetch starts for a channel with a FREE bank: its descriptor is read (R78). -/
def beginFetch (c : Fin 6) (b : Fin 8) (s : State) : State :=
  askPort (readAccess .descriptor (walkerAt s c).next descriptorBytes)
    (putFetch (some { channel := c, bank := b, phase := .descriptor, stopping := false }) (putBank b (fillingBank c) s))

/-- The engine chooses a channel and the lowest-numbered FREE bank (R77). -/
def startFetch (s : State) : State :=
  match chooseChannel s, lowestFree s with
  | some c, some b => beginFetch c b s
  | some _, none => s
  | none, _ => s

/-- FETCH_START (R77, R78). -/
def execFetchStart (s : State) : Host.Outcome State Fault Refusal := whenDue (fetchDue s) startFetch s

/-- The fetch ends and its bank returns to FREE (R78, R79). -/
def dropFetch (f : Fetch) (s : State) : State := freeBank f.bank (putFetch none s)

/-- A cancelled fetch stops at the end of its access, and its CANCELLING walker becomes IDLE (R80, R81). -/
def stopFetch (f : Fetch) (s : State) : State :=
  let dropped := dropFetch f s
  if (walkerAt dropped f.channel).state = .cancelling then idleWalker f.channel dropped else dropped

/-- The fetch ends with a chain fault (R70, R78, R79). -/
def faultFetch (f : Fetch) (fault : ChainFault) (tag : Nat) (s : State) : State :=
  match (walkerAt s f.channel).work with
  | none => dropFetch f s
  | some ps => chainFaulted f.channel fault tag ps.garment (dropFetch f s)

/-- A walker that has accepted a descriptor (R78). -/
def walkerAccepts (d : Descriptor) (w : Walker) : Walker :=
  { w with
    read := w.read + 1
    bands := w.bands + 1
    swaths := if closesSwath d then w.swaths + 1 else w.swaths }

/-- The band record of an accepted descriptor (R75, R78). -/
def bandRecord (g : GarmentId) (w : Walker) (d : Descriptor) : Band :=
  { garment := g
    swath := w.swaths + 1
    band := w.bands + 1
    closes := closesSwath d
    passes := descriptorPasses d
    length := d.length
    drops := d.drops
    tag := d.tag }

/-- An accepted CHAIN_END descriptor sets the tally's swath count (R69, R73). -/
def tallyEnd (c : Fin 6) (g : GarmentId) (d : Descriptor) (n : Nat) (s : State) : State :=
  if d.chainEnd then setCount (channelUnit c) g n s else s

/-- A descriptor is accepted, and the fetch goes on to the data (R78, R79). -/
def acceptDescriptor (f : Fetch) (g : GarmentId) (d : Descriptor) (s : State) : State :=
  let w := walkerAt s f.channel
  let walked := putWalker f.channel (walkerAccepts d w) s
  let tallied := tallyEnd f.channel g d (w.swaths + 1) walked
  let filled := putBank f.bank { bankAt tallied f.bank with band := some (bandRecord g w d) } tallied
  askBurst d 1 (putFetch (some { f with phase := .data d 1 }) filled)

/-- A descriptor that was read is checked (R68, R69, R78). -/
def judgeDescriptor (f : Fetch) (d : Descriptor) (s : State) : State :=
  match (walkerAt s f.channel).work with
  | none => dropFetch f s
  | some ps =>
    match checkDescriptor s f.channel ps.garment d with
    | some fault => faultFetch f fault d.tag s
    | none => acceptDescriptor f ps.garment d s

/-- A descriptor read completes for a fetch (R78): one cancelled abruptly is discarded and not checked (R80), and one stopped by a
graceful cancel is treated the same way (DESIGN CHOICE, log entry 39). -/
def descriptorRead (f : Fetch) (r : ReadResult) (s : State) : State :=
  if f.stopping then stopFetch f s
  else
    match r with
    | .error => faultFetch f .memError Config.noUserTag s
    | .data bytes => judgeDescriptor f (parseDescriptor bytes) s

/-- The outcome of a descriptor read goes to the fetch in flight. -/
def fetchDescriptor (r : ReadResult) (s : State) : State :=
  match s.engine.fetch with
  | none => s
  | some f => descriptorRead f r s

/-- DESCRIPTOR_READ_DONE (R78). -/
def execDescriptorReadDone (r : ReadResult) (s : State) : Host.Outcome State Fault Refusal :=
  readDone .descriptor r (fetchDescriptor r) s

/-- The walker moves on after a band is staged (R74). -/
def walkOn (c : Fin 6) (d : Descriptor) (s : State) : State :=
  let w := walkerAt s c
  if d.chainEnd then idleWalker c s
  else if closesSwath d then
    if w.stopSwath = some w.swaths then idleWalker c s else putWalker c { w with next := d.nextAddr, bands := 0 } s
  else putWalker c { w with next := d.nextAddr } s

/-- A bank becomes STAGED at the tail of its channel's staged queue, or FREE when a free request was kept with it (R76, R79). -/
def stageBank (c : Fin 6) (b : Fin 8) (s : State) : State :=
  if (bankAt s b).freeAsked then freeBank b s
  else putStaged c (stagedAt s c ++ [b]) (putBank b { bankAt s b with state := .staged } s)

/-- The last burst of a band completes (R79). -/
def stageBand (f : Fetch) (d : Descriptor) (s : State) : State := walkOn f.channel d (stageBank f.channel f.bank (putFetch none s))

/-- The bytes of burst `i` go into the bank at offset 256 × (i − 1) (R79). -/
def storeBurst (b : Fin 8) (i : Nat) (bytes : List Byte) (s : State) : State :=
  s.setStaging (Memory.writeAll (bankAddr b (Config.burstBytes * (i - 1))) bytes s.staging)

/-- A burst completes with its data: the next is asked for, or the band is staged (R79). -/
def burstStored (f : Fetch) (d : Descriptor) (i : Nat) (bytes : List Byte) (s : State) : State :=
  let stored := storeBurst f.bank i bytes s
  if burstCount d.length ≤ i then stageBand f d stored
  else askBurst d (i + 1) (putFetch (some { f with phase := .data d (i + 1) }) stored)

/-- A data burst completes for a fetch (R79): the data of a cancelled one is discarded. -/
def burstRead (f : Fetch) (d : Descriptor) (i : Nat) (r : ReadResult) (s : State) : State :=
  if f.stopping then stopFetch f s
  else
    match r with
    | .error => faultFetch f .memError d.tag s
    | .data bytes => burstStored f d i bytes s

/-- The outcome of a data burst goes to the fetch in flight. -/
def fetchBurst (r : ReadResult) (s : State) : State :=
  match s.engine.fetch with
  | none => s
  | some f =>
    match f.phase with
    | .descriptor => s
    | .data d i => burstRead f d i r s

/-- DATA_BURST_DONE (R79). -/
def execDataBurstDone (r : ReadResult) (s : State) : Host.Outcome State Fault Refusal :=
  readDone .burst r (fetchBurst r) s

end Sys2Proof.Machine
end

