-- ==== Sys2Proof/Machine/PrintCmds.lean ====
section
/-! DEFINITION. The meanings of PRINT_BEGIN, SWATH_START, STARVE_TIMER_EXPIRY, BAND_EMISSION_DONE and SWATH_GUARD_EXPIRY
(R87 to R94). -/

namespace Sys2Proof.Machine

/-- A print unit as its print begins with a tally place (R87). -/
def begunUnit (s : State) (p : PrintUnit) (place : TallyPlace) : PrintUnit :=
  { p with
    state := .waiting
    active := place.channels
    swath := 1
    passes := 0
    pass := 0
    graceful := false
    starve := some (starveTimer s s.config.starveLimit)
    starveLimit := s.config.starveLimit
    guard := none }

/-- The arrived print begins (R87): with no tally place it is cut with cause 8. -/
def beginPrint (u : Printer) (s : State) : State :=
  match (unitAt s u).job with
  | none => s
  | some j =>
    match tallyFor s u j.garment with
    | none => printCut u 8 s
    | some place => lanesOff u (putUnit u (begunUnit s (unitAt s u) place) s)

/-- PRINT_BEGIN (R87). -/
def execPrintBegin (u : Printer) (s : State) : Host.Outcome State Fault Refusal :=
  whenDue (beginDue s u) (beginPrint u) s

/-- The passes of a swath: the largest among the active channels (R88). -/
def swathPasses (s : State) (g : GarmentId) (p : PrintUnit) : Nat :=
  p.active.foldl (fun m c => max m (channelPasses s g p.swath c)) 1

/-- A channel's lane as a swath starts: drop sum 0, and its own last pass fixed (R88, R91). -/
def readyLane (g : GarmentId) (k : Nat) (s : State) (c : Fin 6) : State :=
  putLane c { state := .off, sum := 0, bank := none, lastPass := channelPasses s g k c } s

/-- A print unit as a swath starts (R88). -/
def commandUnit (s : State) (passes : Nat) (p : PrintUnit) : PrintUnit :=
  { p with
    state := .command
    passes := passes
    pass := 1
    starve := none
    guard := some (timerFrom s Config.guardLimit) }

/-- The argument of a print PASS command (R88). -/
def passArgument (passes swath : Nat) : Nat := 128 * (passes - 1) + swath

/-- Swath k starts for a garment (R88); a PASS that completes LOST at once cuts the print with cause 3 (R90, R161). -/
def startSwathOf (u : Printer) (g : GarmentId) (s : State) : State :=
  let p := unitAt s u
  let passes := swathPasses s g p
  let command := putUnit u (commandUnit s passes p) (p.active.foldl (readyLane g p.swath) s)
  if lostAtOnce (printRequester u) (printRole u) command then printCut u 3 command
  else handIn (printRequester u) (putCmd (printRole u) .pass (passArgument passes p.swath)) command

/-- The waiting swath starts (R88). -/
def startSwath (u : Printer) (s : State) : State :=
  match (unitAt s u).job with
  | none => s
  | some j => startSwathOf u j.garment s

/-- SWATH_START (R88). -/
def execSwathStart (u : Printer) (s : State) : Host.Outcome State Fault Refusal :=
  whenDue (swathDue s u) (startSwath u) s

/-- STARVE_TIMER_EXPIRY: the print is cut with cause 0 (R89). -/
def execStarveTimerExpiry (u : Printer) (s : State) : Host.Outcome State Fault Refusal :=
  whenDue (starveDue s u) (printCut u 0) s

/-- The bank of a band whose last byte has gone: freed in the channel's last pass, STAGED for the next pass otherwise (R91). -/
def settleBank (last : Bool) (b : Fin 8) (s : State) : State := if last then freeBank b s else endEmission b s

/-- A lane that has emitted the closing band: COMPLETE in the channel's last pass, PASS_ENDED otherwise (R91). -/
def closedLane (last : Bool) (l : Lane) : Lane := { l with state := if last then .complete else .passEnded, bank := none }

/-- A lane goes on after a band (R91, R92): it has ended the pass, or emits the next band of the swath, or stops. -/
def laneGoesOn (c : Fin 6) (g : GarmentId) (r : Band) (last : Bool) (s : State) : State :=
  if r.closes then putLane c (closedLane last (laneAt s c)) s
  else emitOrStop c (nextBank s c g r.swath r.band) s

/-- A band's last byte has left a lane (R91). -/
def emitted (u : Printer) (g : GarmentId) (c : Fin 6) (b : Fin 8) (r : Band) (s : State) : State :=
  let l := laneAt s c
  let last : Bool := l.lastPass ≤ (unitAt s u).pass
  let summed := putLane c { l with sum := satAdd Config.count32 l.sum r.drops } s
  stepPass u g (laneGoesOn c g r last (settleBank last b summed))

/-- The emission of the band that a lane emits is done (R91). -/
def endBand (c : Fin 6) (s : State) : State :=
  match (unitAt s (channelUnit c)).job, (laneAt s c).bank with
  | some j, some b =>
    match (bankAt s b).band with
    | none => s
    | some r => emitted (channelUnit c) j.garment c b r s
  | some _, none => s
  | none, _ => s

/-- BAND_EMISSION_DONE (R91). -/
def execBandEmissionDone (c : Fin 6) (s : State) : Host.Outcome State Fault Refusal := whenDue (emitting s c) (endBand c) s

/-- SWATH_GUARD_EXPIRY: the print is cut with cause 6 (R94). -/
def execSwathGuardExpiry (u : Printer) (s : State) : Host.Outcome State Fault Refusal :=
  whenDue (swathGuardDue s u) (printCut u 6) s

end Sys2Proof.Machine
end

