-- ==== Sys2Proof/Machine/HeatCmds.lean ====
section
/-! DEFINITION. The meanings of EXPOSURE_START, FLASH_PERIOD_TICK, FLASH_LIMIT_EXPIRY and DRYER_PERIOD_TICK (R111 to R114, R124, R128). -/

namespace Sys2Proof.Machine

/-- The flash unit as an exposure starts (R111): period latched, source empty, sample flag clear, limit timer running. -/
def heatingUnit (s : State) : Flash :=
  { s.flash with
    state := .heating
    periodMs := s.config.periodMs
    source := Source.empty
    sampling := false
    limit := some (timerFrom s (s.config.flashLimit * Config.ticksPerSecond)) }

/-- The waiting exposure starts (R111): HEAT_ON is handed in; LOST at once ends it with cause 3 (R114, R161). -/
def startExposure (s : State) : State :=
  let heating := s.setFlash (heatingUnit s)
  if lostAtOnce .flash .flash heating then flashCut 3 heating
  else handIn .flash (putCmd .flash .heatOn 0) heating

/-- EXPOSURE_START (R111). -/
def execExposureStart (s : State) : Host.Outcome State Fault Refusal := whenDue (exposureDue s) startExposure s

/-- A garment with the increment of a flash tick (R113). -/
def flashCredited (s : State) (temp : Option Nat) (r : Garment) : Garment :=
  match temp with
  | none => r
  | some t =>
    { r with
      flashDose :=
        addDose r.flashDose (increment t s.config.flashBase s.config.flashCeiling s.flash.periodMs) }

/-- The flash unit after its source yielded: the next tick is set one period later (R113). -/
def tickedFlash (s : State) : Flash :=
  { s.flash with
    source := tickSource s.config.holdCount s.flash.source
    nextTick := later s.flash.nextTick (s.flash.periodMs * Config.ticksPerMs) }

/-- The dose of the garment at FLASH meets its requirement (R113). -/
def flashMeets (s : State) (g : Fin 32) : Bool :=
  match garmentAt s g with
  | none => false
  | some r => doseMeets r.flashDose s.flash.need

/-- A flash period tick of a garment (R113): the dose is added and compared, and the exposure succeeds or a sample is asked for
(R112). -/
def flashTickOf (g : Fin 32) (s : State) : State :=
  let ticked := s.setFlash (tickedFlash s)
  let credited := changeGarment g (flashCredited ticked (yielded ticked.flash.source)) ticked
  if flashMeets credited g then flashDone credited else askSample credited

/-- A flash period tick (R113). -/
def flashTick (s : State) : State :=
  match s.flash.job with
  | none => s
  | some j => flashTickOf j.garment.index s

/-- FLASH_PERIOD_TICK (R113). -/
def execFlashPeriodTick (s : State) : Host.Outcome State Fault Refusal := whenDue (flashTickDue s) flashTick s

/-- FLASH_LIMIT_EXPIRY: the exposure ends in fault with cause 0 (R114). -/
def execFlashLimitExpiry (s : State) : Host.Outcome State Fault Refusal := whenDue (flashLimitDue s) (flashCut 0) s

/-- The period that a tick ends (R124): the one latched. -/
def endedPeriod (s : State) : Nat := s.dryer.periodMs.getD s.config.periodMs

/-- The next tick is set one latched period after this one, the config snapshot's period being latched now (R124). -/
def setNextTick (s : State) : State :=
  s.setDryer
    { s.dryer with
      periodMs := some s.config.periodMs
      nextTick := later s.dryer.nextTick (s.config.periodMs * Config.ticksPerMs) }

/-- A dryer tick, in the order of R128. The zones of step 1, among whose ZONE_STALE and ZONE_FRESH incidents R126 and R128 give no order,
go zone 1 first (DESIGN CHOICE, log entry 43). -/
def dryerTick (s : State) : State :=
  let period := endedPeriod s
  let ready := tickReadiness (allZones.foldl tickZone (setNextTick s))
  askReads tickReads (testOverdue (advance period (stepBelt period ready)))

/-- DRYER_PERIOD_TICK (R128). -/
def execDryerPeriodTick (s : State) : Host.Outcome State Fault Refusal := whenDue (dryerTickDue s) dryerTick s

end Sys2Proof.Machine
end

