-- ==== Sys2Proof/Machine/TimeoutCmds.lean ====
section
/-! DEFINITION. The meanings of TRANSFER_TIMEOUT, PACK_TIMEOUT, DRAIN_END and WARMUP_TIMER_EXPIRY (R121, R141, R176, R177). -/

namespace Sys2Proof.Machine

/-- A transfer entry expires (R121): the garment fails MISSING_AT_ENTRY and is deleted. -/
def expireTransfer (g : Fin 32) (s : State) : State :=
  deleteGarment g
    (failOp g .missingAtEntry (s.setDryer { s.dryer with transfer := withoutGarment g s.dryer.transfer }))

/-- TRANSFER_TIMEOUT (R121). -/
def execTransferTimeout (g : Fin 32) (s : State) : Host.Outcome State Fault Refusal :=
  whenDue (transferDue s g) (expireTransfer g) s

/-- PACK_TIMEOUT (R141). -/
def execPackTimeout (g : Fin 32) (s : State) : Host.Outcome State Fault Refusal :=
  whenDue (packDue s g) (packMissing g 0) s

/-- DRAIN_END: the line enters IDLE (R176, R178). -/
def execDrainEnd (s : State) : Host.Outcome State Fault Refusal := whenDue (drainDue s) toIdle s

/-- The warm-up timer expires: WARMUP_TIMEOUT is added and the line enters HOLD (R177). -/
def warmupEnds (s : State) : State := holdWith { s.ctl.causes with warmupTimeout := true } s

/-- WARMUP_TIMER_EXPIRY (R177). -/
def execWarmupTimerExpiry (s : State) : Host.Outcome State Fault Refusal := whenDue (warmupDue s) warmupEnds s

end Sys2Proof.Machine
end

