-- ==== Sys2Proof/Machine/ExchCmds.lean ====
section
/-! DEFINITION. The meanings of the exchange interface's events (R2, R174, R175, R190 to R195): the snapshot and attach reads, the sweep timer, the
choice of what to serve, and the reads of looks and refills. -/

namespace Sys2Proof.Machine

/-! ## The snapshot read (R174, R175, R183, R184) -/

/-- The lowest-numbered required role with no address (R174 check 2). -/
def missingRole (c : LinkSettings) : Option Role :=
  allRoles.find? fun r => requiredRole r && (Tbl.at c.roles (roleNum r)).isNone

/-- Another role has the same address. -/
def sharesAddress (c : LinkSettings) (r : Role) : Bool :=
  (Tbl.at c.roles (roleNum r)).isSome
    && allRoles.any fun q => q != r && Tbl.at c.roles (roleNum q) == Tbl.at c.roles (roleNum r)

/-- The address that two roles share, taken from the lowest-numbered such role (R174 check 3). -/
def sharedAddress (c : LinkSettings) : Option Byte :=
  (allRoles.find? (sharesAddress c)).bind fun r => Tbl.at c.roles (roleNum r)

/-- Only causes from HOST and WARMUP_TIMEOUT stand. -/
def warmupOnly (c : Causes) : Bool := !c.indexFault && !c.moduleLost && !c.config

/-- Only causes from HOST and INDEX_FAULT stand. -/
def homeOnly (c : Causes) : Bool := !c.warmupTimeout && !c.moduleLost && !c.config

/-- What a RUN request that is taken in HOLD leads to (R175). -/
inductive HoldAnswer where
  | accepted
  | pending
  | refused
deriving DecidableEq, Repr

/-- The table of R175. -/
def holdAnswer (c : Causes) (homed : Bool) : HoldAnswer :=
  if homed then (if warmupOnly c then .accepted else .refused)
  else if warmupOnly c && c.warmupTimeout then .accepted
  else if homeOnly c then .pending
  else .refused

/-- The four steps of a RUN request taken (R175). -/
def takeRun (bytes : List Byte) (s : State) : State :=
  let taken :=
    (s.setConfig (parseConfig (bytes.take headerConfigBytes))).setCatalog
      (some (parseCatalog (bytes.drop headerConfigBytes)))
  let settled := takeSettings taken.config.link (takeEnables taken.config.enables taken)
  putCommands (runList settled) settled

/-- A request taken in HOLD with its home to come (R175): it is pending, and a home is asked for unless one is in flight (R37). -/
def pendRun (s : State) : State := askHome (s.setCtl { s.ctl with request := .pendingHome })

/-- A request that passed checks 1 to 3 in HOLD (R174 check 4, R175). -/
def answerHold (bytes : List Byte) (s : State) : State :=
  match holdAnswer s.ctl.causes s.carousel.homed with
  | .accepted => acceptRun (takeRun bytes s)
  | .pending => pendRun (takeRun bytes s)
  | .refused => refuseRun 4 (causesCode s.ctl.causes) false s

/-- A request that passed checks 1 to 3 removes CONFIG (R174). -/
def clearConfig (s : State) : State := setLine s.ctl.mode { s.ctl.causes with config := false } s

/-- A request that passed checks 1 to 3 (R174, R175). -/
def passRun (bytes : List Byte) (s : State) : State :=
  let cleared := clearConfig s
  if cleared.ctl.mode = .hold then answerHold bytes cleared else acceptRun (takeRun bytes cleared)

/-- Checks 2 to 4 of a RUN request (R174). -/
def checkRun (bytes : List Byte) (s : State) : State :=
  let c := parseSettings (bytes.take headerConfigBytes)
  match missingRole c with
  | some r => refuseRun 2 (roleNum r).val true s
  | none =>
    match sharedAddress c with
    | some a => refuseRun 3 a.toNat true s
    | none => passRun bytes s

/-- The address of the snapshot read's byte `n`: the config region stands at 0x040, and the catalog follows it at 0x400 (section 11.7). -/
def snapshotAddr (s : State) (n : Nat) : Addr := baseAddr s + BitVec.ofNat 64 (0x40 + n)

/-- The RUN request whose snapshot read has completed is judged (R174). -/
def judgeRun (r : ReadResult) (s : State) : State :=
  if s.ctl.request = .reading then
    match r with
    | .error => refuseRun 1 0 true s
    | .data bytes => checkRun bytes s
  else s

/-- The snapshot read ends (R174): the exchange interface is free again, and the request is judged unless the result is discarded. -/
def snapshotEnds (dropped : Bool) (r : ReadResult) (s : State) : State :=
  let freed := putActivity none s
  if dropped then freed else judgeRun r freed

/-- One access of a snapshot read ends (R83, R174): an error ends the read, and with bytes still to come the next catalog entry is read
(log entry 22). -/
def snapshotRead (got : List Byte) (dropped : Bool) (r : ReadResult) (s : State) : State :=
  match r with
  | .error => snapshotEnds dropped .error s
  | .data bytes =>
    let all := got ++ bytes
    if all.length < snapshotBytes then
      askPort (readAccess .snapshot (snapshotAddr s all.length) catalogEntryBytes) (putActivity (some (.snapshot all dropped)) s)
    else snapshotEnds dropped (.data all) s

/-- The outcome of an access goes to the snapshot read in progress. -/
def snapshotOutcome (r : ReadResult) (s : State) : State :=
  match s.exch.activity with
  | some (.snapshot got dropped) => snapshotRead got dropped r s
  | some (.look _ _ _) => s
  | some (.refill _) => s
  | none => s

/-- SNAPSHOT_READ_DONE (R174). -/
def execSnapshotReadDone (r : ReadResult) (s : State) : Host.Outcome State Fault Refusal :=
  readDone .snapshot r (snapshotOutcome r) s

/-! ## Attach (R190, R191) -/

/-- An attach read ends (R190). -/
def attachEnds (r : ReadResult) (s : State) : State :=
  match r with
  | .error => setMem (setAttach .badFormat s)
  | .data hdr => attachRead hdr s

/-- ATTACH_READ_DONE (R190, R191). -/
def execAttachReadDone (r : ReadResult) (s : State) : Host.Outcome State Fault Refusal := readDone .attach r (attachEnds r) s

/-- The attach write of the header ends (R191 step 5). -/
def headerWritten (r : WriteResult) (s : State) : State :=
  let done := s.setReports { s.reports with headerWriting := false }
  match r with
  | .ok => done
  | .error => setMem done

/-- ATTACH_HEADER_WRITE_DONE (R191). -/
def execAttachHeaderWriteDone (r : WriteResult) (s : State) : Host.Outcome State Fault Refusal :=
  writeDone .headerWrite (headerWritten r) s

/-! ## Sweeps and nudges (R193, R194) -/

/-- The sweep timer has expired: it stops, and a sweep starts or the sweep-again flag is set (R193). -/
def sweepTimerEnds (s : State) : State := startSweep (s.setExch { s.exch with sweepTimer := none })

/-- SWEEP_TIMER_EXPIRY (R193). -/
def execSweepTimerExpiry (s : State) : Host.Outcome State Fault Refusal := whenDue (sweepDue s) sweepTimerEnds s

/-- The snapshot read that the line controller asked for (R174, R194): its first access reads the header's config region (R83). -/
def serveSnapshot (s : State) : State :=
  askPort (readAccess .snapshot (snapshotAddr s 0) headerConfigBytes)
    (putActivity (some (.snapshot [] false)) (s.setExch { s.exch with snapWanted := false }))

/-- A nudge is served (R194). -/
def serveNudge (v : Byte) (s : State) : State :=
  match slotOf v.toNat with
  | some slot => beginLook slot false s
  | none => if v = 0xFE then beginRefill false s else startSweep s

/-- The sweep goes on: the refill read first, and then the looks at slots 0 to 127 (R193). -/
def serveSweep (k : Nat) (s : State) : State :=
  match k with
  | 0 => beginRefill true s
  | n + 1 =>
    match slotOf n with
    | none => endSweep s
    | some slot => beginLook slot true s

/-- What the exchange interface serves next (R194). -/
def serveNext (s : State) : State :=
  if s.exch.snapWanted then serveSnapshot s
  else
    match s.exch.nudges with
    | v :: rest => serveNudge v (s.setExch { s.exch with nudges := rest })
    | [] =>
      match s.exch.sweep with
      | none => s
      | some k => serveSweep k s

/-- EXCH_SERVE (R194). -/
def execExchServe (s : State) : Host.Outcome State Fault Refusal := whenDue (serveDue s) serveNext s

/-! ## The reads of looks and refills (R2, R192, R193, R195) -/

/-- The outcome of a look's read: an error ends the look with its MEM_FAULT, and success goes on (R192). -/
def lookOutcome (r : ReadResult) (f : Fin 128 → Bool → List Byte → State → State) (s : State) : State :=
  match s.exch.activity with
  | some (.look slot ofSweep _) =>
    match r with
    | .error => lookError slot ofSweep s
    | .data bytes => f slot ofSweep bytes s
  | some (.refill _) => s
  | some (.snapshot _ _) => s
  | none => s

/-- HAND_COUNT_READ_DONE (R192). -/
def execHandCountReadDone (r : ReadResult) (s : State) : Host.Outcome State Fault Refusal :=
  readDone .handCount r (lookOutcome r lookRead) s

/-- POSTING_READ_DONE (R192). -/
def execPostingReadDone (r : ReadResult) (s : State) : Host.Outcome State Fault Refusal :=
  readDone .posting r (lookOutcome r postRead) s

/-- The catalog entry of a post has been read: the line table acts on the post with it (R1, R2). -/
def catalogRead (r : ReadResult) (s : State) : State :=
  match s.exch.activity with
  | some (.look slot ofSweep posting) =>
    match r with
    | .error => lookError slot ofSweep s
    | .data bytes => endActivity ofSweep (takePost slot posting (some (parseCatalogEntry bytes)) s)
  | some (.refill _) => s
  | some (.snapshot _ _) => s
  | none => s

/-- CATALOG_READ_DONE (R2). -/
def execCatalogReadDone (r : ReadResult) (s : State) : Host.Outcome State Fault Refusal := readDone .catalog r (catalogRead r) s

/-- RECOVERY_READ_DONE (R195). -/
def execRecoveryReadDone (r : ReadResult) (s : State) : Host.Outcome State Fault Refusal :=
  readDone .recovery r (lookOutcome r recoveryRead) s

/-- The outcome of a refill read (R193). -/
def refillOutcome (r : ReadResult) (s : State) : State :=
  match r with
  | .error => refillError s
  | .data bytes => refillRead bytes s

/-- The refill read ends (R193). -/
def refillEnds (r : ReadResult) (s : State) : State :=
  match s.exch.activity with
  | some (.refill ofSweep) => endActivity ofSweep (refillOutcome r s)
  | some (.look _ _ _) => s
  | some (.snapshot _ _) => s
  | none => s

/-- REFILL_READ_DONE (R193). -/
def execRefillReadDone (r : ReadResult) (s : State) : Host.Outcome State Fault Refusal := readDone .refill r (refillEnds r) s

end Sys2Proof.Machine
end

