-- ==== Sys2Proof/Machine/ReportCmds.lean ====
section
/-! DEFINITION. The meanings of REPORT_START and REPORT_WRITE_DONE (R196, R197). -/

namespace Sys2Proof.Machine

/-- The writer chooses the next report: the head incident, or the next dirty slot (R196). -/
def startReport (s : State) : State :=
  match s.reports.fifo with
  | i :: rest => writeIncident i rest s
  | [] =>
    match nextDirty s.reports with
    | none => s
    | some slot => writeSlot slot s

/-- REPORT_START (R196). -/
def execReportStart (s : State) : Host.Outcome State Fault Refusal := whenDue (reportDue s) startReport s

/-- The access of a report ends (R197). -/
def endReport (r : WriteResult) (s : State) : State :=
  match s.reports.job with
  | none => s
  | some j =>
    match r with
    | .ok => s.setReports (reportOk j s.reports)
    | .error => setMem (s.setReports (reportFailed j s.reports))

/-- REPORT_WRITE_DONE (R197). -/
def execReportWriteDone (r : WriteResult) (s : State) : Host.Outcome State Fault Refusal :=
  writeDone .report (endReport r) s

end Sys2Proof.Machine
end

