-- ==== Sys2Proof/Machine/Dispatch.lean ====
section
/-! DEFINITION. The meaning of each command: one direct call per row of the table of operations and events. -/

namespace Sys2Proof.Machine

/-- What a command does to everything but the queue of waiting commands. -/
def exec (i : Instr) (s : State) : Host.Outcome State Fault Refusal :=
  match i with
  | .powerReset => Sys2Proof.Machine.execPowerReset s
  | .pinReset => Sys2Proof.Machine.execPinReset s
  | .softReset => Sys2Proof.Machine.execSoftReset s
  | .interruptEnable enable => Sys2Proof.Machine.execInterruptEnable enable s
  | .memClear => Sys2Proof.Machine.execMemClear s
  | .runRequest => Sys2Proof.Machine.execRunRequest s
  | .holdRequest => Sys2Proof.Machine.execHoldRequest s
  | .idleRequest => Sys2Proof.Machine.execIdleRequest s
  | .exchBaseHiWrite value => Sys2Proof.Machine.execExchBaseHiWrite value s
  | .postWrite value => Sys2Proof.Machine.execPostWrite value s
  | .seqAckWrite value => Sys2Proof.Machine.execSeqAckWrite value s
  | .registerWrite offset value => Sys2Proof.Machine.execRegisterWrite offset value s
  | .estopAssertion => Sys2Proof.Machine.execEstopAssertion s
  | .estopDeassertion => Sys2Proof.Machine.execEstopDeassertion s
  | .estopReleaseTimePasses => Sys2Proof.Machine.execEstopReleaseTimePasses s
  | .buttonInputChange button pressed => Sys2Proof.Machine.execButtonInputChange button pressed s
  | .buttonDebounceTimePasses button => Sys2Proof.Machine.execButtonDebounceTimePasses button s
  | .captureEdge input edge => Sys2Proof.Machine.execCaptureEdge input edge s
  | .indexHomeEdge => Sys2Proof.Machine.execIndexHomeEdge s
  | .sprayRowEdge => Sys2Proof.Machine.execSprayRowEdge s
  | .beltEntryEdge => Sys2Proof.Machine.execBeltEntryEdge s
  | .beltExitEdge => Sys2Proof.Machine.execBeltExitEdge s
  | .attentionLineChange line high => Sys2Proof.Machine.execAttentionLineChange line high s
  | .linkChoice => Sys2Proof.Machine.execLinkChoice s
  | .tryAccept frame => Sys2Proof.Machine.execTryAccept frame s
  | .tryDecline frame => Sys2Proof.Machine.execTryDecline frame s
  | .trySilence frame => Sys2Proof.Machine.execTrySilence frame s
  | .retryTimeDue place => Sys2Proof.Machine.execRetryTimeDue place s
  | .probeDue role => Sys2Proof.Machine.execProbeDue role s
  | .declineHoldPasses line => Sys2Proof.Machine.execDeclineHoldPasses line s
  | .indexStart => Sys2Proof.Machine.execIndexStart s
  | .homeStart => Sys2Proof.Machine.execHomeStart s
  | .indexTimerExpiry => Sys2Proof.Machine.execIndexTimerExpiry s
  | .passStart => Sys2Proof.Machine.execPassStart s
  | .valveOpenTime valve => Sys2Proof.Machine.execValveOpenTime valve s
  | .valveCloseTime valve => Sys2Proof.Machine.execValveCloseTime valve s
  | .passGuardExpiry => Sys2Proof.Machine.execPassGuardExpiry s
  | .pressCycleStart => Sys2Proof.Machine.execPressCycleStart s
  | .pressGuardExpiry => Sys2Proof.Machine.execPressGuardExpiry s
  | .fetchStart => Sys2Proof.Machine.execFetchStart s
  | .descriptorReadDone result => Sys2Proof.Machine.execDescriptorReadDone result s
  | .dataBurstDone result => Sys2Proof.Machine.execDataBurstDone result s
  | .printBegin unit => Sys2Proof.Machine.execPrintBegin unit s
  | .swathStart unit => Sys2Proof.Machine.execSwathStart unit s
  | .starveTimerExpiry unit => Sys2Proof.Machine.execStarveTimerExpiry unit s
  | .bandEmissionDone channel => Sys2Proof.Machine.execBandEmissionDone channel s
  | .swathGuardExpiry unit => Sys2Proof.Machine.execSwathGuardExpiry unit s
  | .exposureStart => Sys2Proof.Machine.execExposureStart s
  | .flashPeriodTick => Sys2Proof.Machine.execFlashPeriodTick s
  | .flashLimitExpiry => Sys2Proof.Machine.execFlashLimitExpiry s
  | .dryerPeriodTick => Sys2Proof.Machine.execDryerPeriodTick s
  | .transferTimeout garment => Sys2Proof.Machine.execTransferTimeout garment s
  | .packTimeout garment => Sys2Proof.Machine.execPackTimeout garment s
  | .drainEnd => Sys2Proof.Machine.execDrainEnd s
  | .warmupTimerExpiry => Sys2Proof.Machine.execWarmupTimerExpiry s
  | .snapshotReadDone result => Sys2Proof.Machine.execSnapshotReadDone result s
  | .attachReadDone result => Sys2Proof.Machine.execAttachReadDone result s
  | .attachHeaderWriteDone result => Sys2Proof.Machine.execAttachHeaderWriteDone result s
  | .sweepTimerExpiry => Sys2Proof.Machine.execSweepTimerExpiry s
  | .exchServe => Sys2Proof.Machine.execExchServe s
  | .handCountReadDone result => Sys2Proof.Machine.execHandCountReadDone result s
  | .postingReadDone result => Sys2Proof.Machine.execPostingReadDone result s
  | .catalogReadDone result => Sys2Proof.Machine.execCatalogReadDone result s
  | .recoveryReadDone result => Sys2Proof.Machine.execRecoveryReadDone result s
  | .refillReadDone result => Sys2Proof.Machine.execRefillReadDone result s
  | .reportStart => Sys2Proof.Machine.execReportStart s
  | .reportWriteDone result => Sys2Proof.Machine.execReportWriteDone result s

end Sys2Proof.Machine
end

