-- ==== Sys2Proof/Machine/Schedule.lean ====
section
/-! DEFINITION. What the part does of itself while no command waits: its own events that are due, in a fixed order, and the tick of the line
clock when none is (DESIGN CHOICE, log entry 4). The rules let two events fall due in one tick and give no order between them. -/

namespace Sys2Proof.Machine

/-- An event of the part's own that is due now. What comes from outside (the host, the pins, the modules' responses, the host memory's
completions and the head lanes) is never due of itself. -/
def ownDue (s : State) : Instr → Bool
  | .estopReleaseTimePasses => releaseDue s
  | .buttonDebounceTimePasses b => debounceDue s b
  | .indexHomeEdge => (captureAt s .indexHome).isSome
  | .sprayRowEdge => (captureAt s .sprayRow).isSome
  | .beltEntryEdge => (captureAt s .beltEntry).isSome
  | .beltExitEdge => (captureAt s .beltExit).isSome
  | .linkChoice => choiceReady s
  | .retryTimeDue p => retryDue s p
  | .probeDue r => probePassed s r
  | .declineHoldPasses a => holdDue s a
  | .indexStart => indexDue s
  | .homeStart => homeDue s
  | .indexTimerExpiry => indexTimerDue s
  | .passStart => passDue s
  | .valveOpenTime z => openDue s z
  | .valveCloseTime z => closeDue s z
  | .passGuardExpiry => passGuardDue s
  | .pressCycleStart => cycleDue s
  | .pressGuardExpiry => pressGuardDue s
  | .fetchStart => fetchDue s
  | .printBegin u => beginDue s u
  | .swathStart u => swathDue s u
  | .starveTimerExpiry u => starveDue s u
  | .swathGuardExpiry u => swathGuardDue s u
  | .exposureStart => exposureDue s
  | .flashPeriodTick => flashTickDue s
  | .flashLimitExpiry => flashLimitDue s
  | .dryerPeriodTick => dryerTickDue s
  | .transferTimeout g => transferDue s g
  | .packTimeout g => packDue s g
  | .drainEnd => drainDue s
  | .warmupTimerExpiry => warmupDue s
  | .sweepTimerExpiry => sweepDue s
  | .exchServe => serveDue s
  | .reportStart => reportDue s
  | .powerReset | .pinReset | .softReset | .interruptEnable _ | .memClear | .runRequest | .holdRequest
  | .idleRequest | .exchBaseHiWrite _ | .postWrite _ | .seqAckWrite _ | .registerWrite _ _ | .estopAssertion
  | .estopDeassertion | .buttonInputChange _ _ | .captureEdge _ _ | .attentionLineChange _ _ | .tryAccept _
  | .tryDecline _ | .trySilence _ | .descriptorReadDone _ | .dataBurstDone _ | .bandEmissionDone _
  | .snapshotReadDone _ | .attachReadDone _ | .attachHeaderWriteDone _ | .handCountReadDone _
  | .postingReadDone _ | .catalogReadDone _ | .recoveryReadDone _ | .refillReadDone _ | .reportWriteDone _ => false

/-- The attention lines, lowest first. -/
def attentionLines : List (Fin 8) := [0, 1, 2, 3, 4, 5, 6, 7]

/-- Events of the pins and of the clock (captures, debounce and release times, valve times, retry, probe and hold times). -/
def clockEvents : List Instr :=
  [.estopReleaseTimePasses, .buttonDebounceTimePasses .loadGo, .buttonDebounceTimePasses .unloadGo,
    .indexHomeEdge, .sprayRowEdge, .beltEntryEdge, .beltExitEdge]
    ++ allValves.map .valveCloseTime ++ allValves.map .valveOpenTime
    ++ allRequesters.map (fun q => .retryTimeDue (.requester q)) ++ [.retryTimeDue .pair]
    ++ allRoles.map .probeDue ++ attentionLines.map .declineHoldPasses

/-- The part's periodic ticks and its timers. -/
def timerEvents : List Instr :=
  [.flashPeriodTick, .dryerPeriodTick, .indexTimerExpiry, .passGuardExpiry, .pressGuardExpiry, .starveTimerExpiry .white,
    .starveTimerExpiry .color, .swathGuardExpiry .white, .swathGuardExpiry .color, .flashLimitExpiry]
    ++ allGarments.map .transferTimeout ++ allGarments.map .packTimeout
    ++ [.drainEnd, .warmupTimerExpiry, .sweepTimerExpiry]

/-- What the blocks start of themselves. -/
def startEvents : List Instr :=
  [.indexStart, .homeStart, .passStart, .pressCycleStart, .printBegin .white, .printBegin .color, .swathStart .white,
    .swathStart .color, .exposureStart, .fetchStart, .exchServe, .reportStart, .linkChoice]

/-- Every event of the part's own, in the order they are taken while several are due. -/
def ownEvents : List Instr := clockEvents ++ timerEvents ++ startEvents

/-- The part's own event that is taken next. -/
def nextOwn (s : State) : Option Instr := ownEvents.find? (ownDue s)

/-- One tick of the line clock: 10 µs pass, and the clock wraps at 2^32 (R185). -/
def tickClock (s : State) : State := s.setClock (s.clock + 1)

end Sys2Proof.Machine
end

