-- ==== Sys2Proof/Machine/Step.lean ====
section
/-! DEFINITION. One step of the JG-720: the command at the front of the queue, or, with none waiting, the part's own next event or a tick of
the line clock. -/

namespace Sys2Proof.Machine

/-- What the part does while no command waits (DESIGN CHOICE, log entry 4): its own event that is due, and otherwise a tick. -/
def idleStep (s : State) : Host.Outcome State Fault Refusal :=
  match nextOwn s with
  | some c => exec c s
  | none => .next (tickClock s)

/-- One step: the front command acts on the state with the queue's rest. -/
def step (s : State) : Host.Outcome State Fault Refusal :=
  match s.pending with
  | c :: rest => exec c (s.setPending rest)
  | [] => idleStep s

/-- The state with the command that a word spells put at the front of the queue. No word spells one, since the table gives no row any
bits: programs reach the part as commands put in its queue from outside (log entry 5). -/
def State.withFetchWord (s : State) (nbits w : Nat) : State :=
  match decodeTableWord nbits w with
  | none => s
  | some c => s.setPending (c :: s.pending)

end Sys2Proof.Machine
end

