-- ==== Sys2Proof/Safety.lean ====
section
/-! DEFINITION. What counts as a safe state of the JG-720, in the terms its claims use: the platen map, the bounds of the part's tables and
queues, the host memory port, the staging memory's form, and the stillness of a stopped line. -/

namespace Sys2Proof.Safety

open Sys2Proof.Machine

/-- The platen map is one to one: no platen stands at two positions (R26). -/
def MapOneToOne (s : State) : Prop :=
  ∀ p q : Fin 12, Tbl.at s.carousel.map p = Tbl.at s.carousel.map q → p = q

/-- The tables and queues of fixed size hold no more than their places (R120, R123, R140, R148, R194, R196). -/
structure Bounded (s : State) : Prop where
  incidents : s.reports.fifo.length ≤ Config.incidentPlaces
  nudges : s.exch.nudges.length ≤ Config.nudgePlaces
  transfer : s.dryer.transfer.length ≤ Config.transferPlaces
  belt : s.dryer.belt.length ≤ Config.beltPlaces
  pack : s.pack.queue.length ≤ Config.packPlaces
  orders : s.pack.orders.length ≤ Config.orderPlaces

/-- The host memory port carries one access at a time and stands free only with none waiting (R83). -/
def PortBusyWhileWaiting (s : State) : Prop := s.port.current = none → s.port.waiting = []

/-- The staging memory is in its canonical form. -/
def StagingCanonical (s : State) : Prop := Memory.wf s.staging = true

/-- A station unit that is not IDLE works on a garment (R46, R60, R85, R109). -/
structure UnitsHeld (s : State) : Prop where
  pretreat : s.pretreat.state ≠ .idle → s.pretreat.job.isSome
  press : s.press.state ≠ .idle → s.press.job.isSome
  prints : ∀ u : Printer, (unitAt s u).state ≠ .idle → (unitAt s u).job.isSome
  flash : s.flash.state ≠ .idle → s.flash.job.isSome

/-- Nothing moves, presses, prints, heats or sprays: no index or home, no pass, cycle or exposure is in flight, no print has begun, and every
valve channel is CLOSED. -/
structure Still (s : State) : Prop where
  carousel : opInFlight s = false
  pass : passInFlight s = false
  cycle : cycleInFlight s = false
  prints : ∀ u : Printer, begunState (unitAt s u).state = false
  exposure : exposureInFlight s = false
  valves : anyValve s = false

/-- A stopped line is still (R39, R55, R63, R98, R117, R181). -/
def StoppedIsStill (s : State) : Prop := s.ctl.mode = .stopped → Still s

/-- The invariant behind a stopped line: every unit at work has its garment, and a stopped line is still. -/
structure EstopSafe (s : State) : Prop where
  units : UnitsHeld s
  still : StoppedIsStill s

/-- A step that ends in a fault or a refusal. -/
def stops (o : Host.Outcome State Fault Refusal) : Bool :=
  match o with
  | .next _ => false
  | .fault _ => true
  | .refused _ => true

end Sys2Proof.Safety
end

