-- ==== Sys2Proof/Certificates/Slice0/Obligations.lean ====
section
/-! DEFINITION. The statements for the provers, in the order of the manual's subjects: the step and the queue, resets, host registers and modes,
inputs, link, carousel, pretreatment and press, fetching, printing, heat, dryer and packing, exchange area, invariants. -/

open Sys2Proof Sys2Proof.Machine Sys2Proof.Safety

/-! ## The step and the queue -/

/-- A step with a command at the front of the queue runs it on the state with the queue's rest. -/
def Obligations.StepRunsFrontCommand : Prop :=
  ∀ (c : Instr) (rest : List Instr) (s : State), step (s.setPending (c :: rest)) = exec c (s.setPending rest)

/-- With no command waiting a step takes the part's own next event, and with none due the line clock rises by one and nothing else changes
(log entry 4: the model's choice; the clock's count is R185's). -/
def Obligations.IdleStepTakesOwnEventOrTick : Prop :=
  ∀ s : State, s.pending = [] →
    (∀ c : Instr, nextOwn s = some c → step s = exec c s) ∧
    (nextOwn s = none → step s = .next { s with clock := s.clock + 1 })

/-- No command touches the queue of waiting commands (the model's own field), and none but a reset moves the line clock, which is 0 after every
reset. -/
def Obligations.CommandsLeaveQueueAndClock : Prop :=
  ∀ (c : Instr) (s t : State), exec c s = .next t →
    t.pending = s.pending ∧
    t.clock = (if c = .powerReset ∨ c = .pinReset ∨ c = .softReset then 0 else s.clock)

/-- Every command is answered with a next state, but for the completion of a host memory read that brings another number of bytes than
the access in progress asked for, which faults (log entry 9: the model's choice). -/
def Obligations.EveryCommandIsAnswered : Prop :=
  ∀ (c : Instr) (s : State),
    (∃ t, exec c s = .next t) ∨
    (exec c s = .fault .readLength ∧
      ∃ (a : Access) (bytes : List Byte), s.port.current = some a ∧ bytes.length ≠ a.length ∧
        c ∈ [Instr.descriptorReadDone (.data bytes), .dataBurstDone (.data bytes), .snapshotReadDone (.data bytes),
          .attachReadDone (.data bytes), .handCountReadDone (.data bytes), .postingReadDone (.data bytes),
          .catalogReadDone (.data bytes), .recoveryReadDone (.data bytes), .refillReadDone (.data bytes)])

/-! ## The host memory port -/

/-- The port after its access in progress, with none waiting, has ended. -/
def Claims.portFree (s : State) : Port := { s.port with current := none }

/-- The port with one read in progress. -/
def Claims.portReads (kind : AccessKind) (addr : Addr) (length : Nat) (s : State) : Port :=
  { s.port with current := some { kind := kind, discard := false, addr := addr, length := length, writes := [] } }

/-- The part's only access in progress is one of a kind whose outcome counts, and no outcome of that kind is owed from before a reset. -/
def Claims.onlyAccess (s : State) (kind : AccessKind) (a : Access) : Prop :=
  s.port.current = some a ∧ s.port.waiting = [] ∧ a.kind = kind ∧ a.discard = false ∧ kind ∉ s.port.late

/-! ## Resets -/

/-- The host memory port after a reset: free, with the outcome of the access that was in progress still to arrive. -/
def Claims.portAfterReset (s : State) : Port :=
  { current := none, waiting := [], late := s.port.late ++ s.port.current.toList.map Access.kind }

/-- The state every reset leaves, before the parts that the kinds of reset treat differently: the blocks' reset states, with the mode STOPPED
and the monitor ASSERTED while ESTOP is asserted, and each button unit SETTLED at the level its input shows. -/
def Claims.resetOf (s : State) : State :=
  { State.reset with
    pending := s.pending
    pins := s.pins
    port := Claims.portAfterReset s
    ctl :=
      { LineCtl.reset with
        mode := if s.pins.estop then .stopped else .idle
        monitor := if s.pins.estop then .asserted else .clear }
    buttons := Vector.ofFn fun b : Fin 2 =>
      { state := .settled, level := Tbl.at s.pins.buttons b, timer := { start := 0, limit := 0 } } }

/-- The outcome of an access from before a reset is discarded: it takes one of its kind out of those still to arrive, whatever it brings, and nothing
else changes. -/
def Claims.LateOutcomesAreDiscarded : Prop :=
  ∀ (k : AccessKind) (s : State), k ∈ s.port.late →
    let dropped : Host.Outcome State Fault Refusal := .next { s with port := { s.port with late := s.port.late.erase k } }
    (∀ r : ReadResult,
      match k with
      | .descriptor => exec (.descriptorReadDone r) s = dropped
      | .burst => exec (.dataBurstDone r) s = dropped
      | .snapshot => exec (.snapshotReadDone r) s = dropped
      | .attach => exec (.attachReadDone r) s = dropped
      | .handCount => exec (.handCountReadDone r) s = dropped
      | .posting => exec (.postingReadDone r) s = dropped
      | .catalog => exec (.catalogReadDone r) s = dropped
      | .recovery => exec (.recoveryReadDone r) s = dropped
      | .refill => exec (.refillReadDone r) s = dropped
      | .report => ∀ w : WriteResult, exec (.reportWriteDone w) s = dropped
      | .headerWrite => ∀ w : WriteResult, exec (.attachHeaderWriteDone w) s = dropped)

/-- Each kind of reset returns every block to its reset state; a soft reset keeps both base registers and the base taken, and with a base taken
attaches again at once. -/
def Claims.EachResetReturnsEveryBlock : Prop :=
  ∀ s : State,
    exec .powerReset s = .next (Claims.resetOf s) ∧
    exec .pinReset s =
      .next { Claims.resetOf s with exch := { Exch.reset with cause := .pin }, staging := s.staging } ∧
    (s.exch.base = none →
      exec .softReset s =
        .next
          { Claims.resetOf s with
            exch := { Exch.reset with cause := .soft, baseLo := s.exch.baseLo, baseHi := s.exch.baseHi }
            staging := s.staging }) ∧
    (∀ base : Addr, s.exch.base = some base →
      exec .softReset s =
        .next
          { Claims.resetOf s with
            exch :=
              { Exch.reset with
                cause := .soft, baseLo := s.exch.baseLo, baseHi := s.exch.baseHi, base := some base, attach := .reading }
            port :=
              { Claims.portAfterReset s with
                current :=
                  some { kind := .attach, discard := false, addr := base + 0x40, length := 960, writes := [] } }
            staging := s.staging })

/-- Each kind of reset returns every block to its reset state, and what an access from before it brings is discarded. The model's choices in it: the
queue of waiting commands is kept (log entry 5), a late outcome comes before that of a newer access of its kind (log entry 12), the staging bytes'
fate (log entry 3), the config snapshot's values before the first snapshot (log entry 1), and the zeros that values without a meaning hold (log
entry 37). -/
def Obligations.ResetsReturnEveryBlock : Prop := Claims.EachResetReturnsEveryBlock ∧ Claims.LateOutcomesAreDiscarded

/-- What the manual says a reset leaves in the state after power-up with ESTOP deasserted (the pin's level is log entry 2's choice). -/
def Obligations.ResetLeavesTheManualsValues : Prop :=
  State.reset.clock = 0 ∧ State.reset.ctl.mode = .idle ∧ causesCode State.reset.ctl.causes = 0 ∧
  State.reset.ctl.request = .absent ∧ State.reset.ctl.refused = false ∧ State.reset.ctl.warm = false ∧
  State.reset.ctl.drain = false ∧ State.reset.ctl.warmup = none ∧ State.reset.ctl.commands = [] ∧
  (∀ i : Fin 128, (lineAt State.reset i).state = .idle ∧ (lineAt State.reset i).take = 0) ∧
  (∀ g : Fin 32, garmentAt State.reset g = none) ∧
  (∀ p : Fin 12, platenAt State.reset p = p ∧ platenOf State.reset p = { garment := none, enabled := true, pending := none }) ∧
  State.reset.carousel.homed = false ∧ opInFlight State.reset = false ∧
  (∀ b : Fin 8, (bankAt State.reset b).state = .free) ∧ State.reset.dryer.odometer = 0 ∧
  State.reset.reports.chipSeq = 0 ∧ State.reset.reports.next = 0 ∧ State.reset.reports.last = 127 ∧
  State.reset.exch.seqAck = 0 ∧ State.reset.exch.intEnable = false ∧ intAsserted State.reset = false ∧
  (∀ i : Fin 128, Tbl.at State.reset.exch.recovery i = true ∧ Tbl.at State.reset.exch.faults i = false) ∧
  State.reset.exch.attach = .none ∧ State.reset.exch.base = none ∧ State.reset.link.settings = none

/-! ## The host's registers -/

/-- A write to LINE_CTRL is a soft reset alone when bit 31 is set, and otherwise sets the interrupt enable, clears MEM when bit 8 is set, and
makes the mode request of bits 1..0, in this order. -/
def Claims.LineCtrlWriteActsInOrder : Prop :=
  ∀ v : Word,
    registerWriteCommands 0x00#32 v =
      if v.getLsbD 31 then [Instr.softReset]
      else
        Instr.interruptEnable (v.getLsbD 4) ::
          ((if v.getLsbD 8 then [Instr.memClear] else []) ++
            (if v.toNat % 4 = 1 then [Instr.runRequest]
              else if v.toNat % 4 = 2 then [Instr.holdRequest]
              else if v.toNat % 4 = 3 then [Instr.idleRequest]
              else []))

/-- INT is asserted exactly when the interrupt enable is set and the chip sequence differs from SEQ_ACK, and its pin is low while it is; writes
of the enable and of SEQ_ACK store their value and nothing else. -/
def Obligations.InterruptFollowsEnableAndAck : Prop :=
  (∀ (e : Bool) (s : State),
    exec (.interruptEnable e) s = .next { s with exch := { s.exch with intEnable := e } }) ∧
  (∀ (v : Word) (s : State), exec (.seqAckWrite v) s = .next { s with exch := { s.exch with seqAck := v } }) ∧
  (∀ s : State, intAsserted s = true ↔ s.exch.intEnable = true ∧ s.reports.chipSeq ≠ s.exch.seqAck) ∧
  (∀ s : State, intPinLow s = intAsserted s) ∧
  (∀ s t : State,
    exec .powerReset s = .next t ∨ exec .pinReset s = .next t ∨ exec .softReset s = .next t →
      t.reports.chipSeq = 0 ∧ t.exch.seqAck = 0 ∧ t.exch.intEnable = false ∧ intAsserted t = false)

/-- A write with the MEM clear bit clears the MEM flag and nothing else; a write of EXCH_BASE_LO keeps bits 31..12 of the value and reads 0 in the
others; a write of any other offset that reaches REGISTER_WRITE is ignored. -/
def Claims.PlainRegisterWrites : Prop :=
  (∀ s : State, exec .memClear s = .next { s with exch := { s.exch with mem := false } }) ∧
  (∀ (v : Word) (s : State), ∃ t : State,
    exec (.registerWrite 0x08#32 v) s = .next t ∧ t = { s with exch := { s.exch with baseLo := t.exch.baseLo } } ∧
    (readRegister t 0x08#32).toNat = v.toNat - v.toNat % 4096) ∧
  (∀ (o v : Word) (s : State), o ≠ 0x08#32 → exec (.registerWrite o v) s = .next s)

/-- The fields of LINE_STATUS are where the register format puts them. -/
def Claims.LineStatusFields : Prop :=
  ∀ s : State,
    (readRegister s 0x04#32).toNat % 8 = modeCode s.ctl.mode ∧
    (readRegister s 0x04#32).toNat / 8 % 32 = causesCode s.ctl.causes ∧
    (readRegister s 0x04#32).getLsbD 8 = s.ctl.refused ∧
    (readRegister s 0x04#32).toNat / 512 % 4 = attachCode s.exch.attach ∧
    (readRegister s 0x04#32).toNat / 2048 % 4 = resetCauseCode s.exch.cause ∧
    (readRegister s 0x04#32).getLsbD 13 = s.pins.estop ∧
    (readRegister s 0x04#32).getLsbD 14 = s.exch.mem ∧
    (readRegister s 0x04#32).getLsbD 15 = false ∧
    (readRegister s 0x04#32).toNat / 65536 = s.reports.chipSeq.toNat % 65536

/-- What a write of LINE_CTRL, of EXCH_BASE_LO and of an offset with no behaviour of its own does, and what LINE_STATUS reads as (the offsets are the model's
choice, log entry 6). -/
def Obligations.RegisterWindow : Prop :=
  Claims.LineCtrlWriteActsInOrder ∧ Claims.PlainRegisterWrites ∧ Claims.LineStatusFields

/-! ## Mode requests -/

/-- The incident FIFO after an incident was raised now. -/
def Claims.raised (i : Incident) (s : State) : Reports := pushIncident s.reports { i with time := s.clock }

/-- The reports after a refusal with CONFIG: RUN_REFUSED, and LINE_MODE when CONFIG was not in the set. -/
def Claims.refusedWithConfig (detail value : Nat) (s : State) : Reports :=
  let first := Claims.raised { incident .runRefused with detail := detail, value := value } s
  if s.ctl.causes.config then first
  else
    pushIncident first
      { incident .lineMode with
        detail := modeCode s.ctl.mode, value := causesCode { s.ctl.causes with config := true }, time := s.clock }

/-- A RUN request clears the refused flag and is acted on by the mode: refused with detail 5 in STOPPED, nothing in WARMING and RUN, nothing
while an earlier one is pending on a home, refused with detail 0 and CONFIG while not attached, and otherwise a snapshot read is asked for,
the result of a read in flight for an earlier request being discarded when the read ends. (That RUN_REFUSED comes before CONFIG's LINE_MODE, and the
value 0 with details 0 and 5, and that a request in STOPPED before attach is refused with detail 5 and adds no CONFIG, are the model's choices, log
entry 20; that a read asked for and not begun is not made for the earlier request is its choice too, log entry 22.) -/
def Obligations.RunRequestByMode : Prop :=
  ∀ s : State,
    (s.ctl.mode = .stopped → s.ctl.request = .absent →
      exec .runRequest s =
        .next
          { s with
            ctl := { s.ctl with refused := true }
            reports := Claims.raised { incident .runRefused with detail := 5 } s }) ∧
    (s.ctl.mode = .warming ∨ s.ctl.mode = .run → s.ctl.request ≠ .reading →
      exec .runRequest s = .next { s with ctl := { s.ctl with refused := false } }) ∧
    (s.ctl.mode = .idle ∨ s.ctl.mode = .hold →
      (s.ctl.request = .pendingHome → exec .runRequest s = .next { s with ctl := { s.ctl with refused := false } }) ∧
      (s.ctl.request = .absent → attached s = true →
        exec .runRequest s =
          .next
            { s with
              ctl := { s.ctl with refused := false, request := .reading }
              exch := { s.exch with snapWanted := true } }) ∧
      (s.ctl.request = .absent → attached s = false →
        exec .runRequest s =
          .next
            { s with
              ctl := { s.ctl with refused := true, causes := { s.ctl.causes with config := true } }
              reports := Claims.refusedWithConfig 0 0 s }) ∧
      (s.ctl.request = .reading → attached s = true →
        ∃ t : State,
          exec .runRequest s = .next t ∧ t = { s with ctl := { s.ctl with refused := false }, exch := t.exch } ∧
          t.exch = { s.exch with snapWanted := true, activity := t.exch.activity } ∧
          (∀ (got : List Byte) (dropped : Bool), s.exch.activity = some (.snapshot got dropped) →
            t.exch.activity = some (.snapshot got true)) ∧
          ((∀ (got : List Byte) (dropped : Bool), s.exch.activity ≠ some (.snapshot got dropped)) →
            t.exch.activity = s.exch.activity)))

/-- The reports after a change of the mode and the hold-cause set: one LINE_MODE with both as they are after it. -/
def Claims.lineModeRaised (m : Mode) (c : Causes) (s : State) : Reports :=
  Claims.raised { incident .lineMode with detail := modeCode m, value := causesCode c } s

/-- A HOLD request with no RUN request reading: in RUN and WARMING the line enters HOLD with HOST, in HOLD HOST is added and a pending RUN
request is dropped, and in IDLE and STOPPED the request is refused. -/
def Claims.HoldRequestByMode : Prop :=
  ∀ s : State, s.ctl.request ≠ .reading →
    (s.ctl.mode = .run ∨ s.ctl.mode = .warming → s.dryer.ticking = true →
      exec .holdRequest s =
        .next
          { s with
            ctl :=
              { s.ctl with
                mode := .hold, causes := { s.ctl.causes with host := true }, refused := false, warmup := none }
            reports := Claims.lineModeRaised .hold { s.ctl.causes with host := true } s }) ∧
    (s.ctl.mode = .hold →
      exec .holdRequest s =
        .next
          { s with
            ctl := { s.ctl with causes := { s.ctl.causes with host := true }, refused := false, request := .absent }
            reports :=
              if s.ctl.causes.host then s.reports
              else Claims.lineModeRaised .hold { s.ctl.causes with host := true } s }) ∧
    (s.ctl.mode = .idle ∨ s.ctl.mode = .stopped →
      exec .holdRequest s = .next { s with ctl := { s.ctl with refused := true } })

/-- An IDLE request with no RUN request reading: WARMING with no live garment goes to IDLE at once; RUN, and WARMING with one, go to HOLD with HOST
and the drain flag; HOLD adds both and drops a pending RUN request; IDLE changes nothing but the refused flag; STOPPED refuses. -/
def Claims.IdleRequestByMode : Prop :=
  ∀ s : State, s.ctl.request ≠ .reading →
    (s.ctl.mode = .warming → noGarment s = true →
      ∃ t : State,
        exec .idleRequest s = .next t ∧ t.ctl.mode = .idle ∧ t.ctl.causes = Causes.empty ∧ t.ctl.warm = false ∧
        t.ctl.drain = false ∧ t.ctl.warmup = none ∧ t.ctl.refused = false ∧ t.dryer.ticking = false ∧
        t.carousel.homed = s.carousel.homed ∧ t.carousel.map = s.carousel.map ∧ t.lines = s.lines ∧ t.pack = s.pack) ∧
    (s.ctl.mode = .run ∨ (s.ctl.mode = .warming ∧ noGarment s = false) → s.dryer.ticking = true →
      exec .idleRequest s =
        .next
          { s with
            ctl :=
              { s.ctl with
                mode := .hold, causes := { s.ctl.causes with host := true }, refused := false, warmup := none
                drain := true }
            reports := Claims.lineModeRaised .hold { s.ctl.causes with host := true } s }) ∧
    (s.ctl.mode = .hold →
      exec .idleRequest s =
        .next
          { s with
            ctl :=
              { s.ctl with
                causes := { s.ctl.causes with host := true }, refused := false, drain := true, request := .absent }
            reports :=
              if s.ctl.causes.host then s.reports
              else Claims.lineModeRaised .hold { s.ctl.causes with host := true } s }) ∧
    (s.ctl.mode = .idle → exec .idleRequest s = .next { s with ctl := { s.ctl with refused := false } }) ∧
    (s.ctl.mode = .stopped → exec .idleRequest s = .next { s with ctl := { s.ctl with refused := true } })

/-- HOLD and IDLE requests act by the line mode. (That the home a pending RUN request asked for stays asked for, when the request is dropped before that home
has started, is the model's choice, log entry 21: R175 speaks of a home in flight only.) -/
def Obligations.HoldAndIdleRequestsByMode : Prop := Claims.HoldRequestByMode ∧ Claims.IdleRequestByMode

/-- A write of EXCH_BASE_HI outside IDLE is stored and starts no attach; in IDLE the base is taken with bits 11..0 as 0, the part is no longer
attached, what the exchange interface was doing ends, and one read of the config region is asked for. -/
def Claims.BaseWriteStartsAttachInIdle : Prop :=
  ∀ (v : Word) (s : State),
    (s.ctl.mode ≠ .idle → exec (.exchBaseHiWrite v) s = .next { s with exch := { s.exch with baseHi := v } }) ∧
    (s.ctl.mode = .idle →
      ∃ (t : State) (base : Addr),
        exec (.exchBaseHiWrite v) s = .next t ∧
        base.toNat = 4294967296 * v.toNat + (s.exch.baseLo.toNat - s.exch.baseLo.toNat % 4096) ∧
        t.exch =
          { s.exch with
            baseHi := v, attach := .reading, base := some base, nudges := [], nudgeDrop := false, sweep := none
            sweepAgain := false, sweepTimer := none, activity := none, snapWanted := false } ∧
        (s.ctl.request = .reading → t.ctl.request = .absent ∧ t.ctl.refused = true ∧ t.ctl.causes.config = true) ∧
        ({ kind := .attach, discard := false, addr := base + 0x40, length := 960, writes := [] } : Access) ∈
          t.port.current.toList ++ t.port.waiting ∧
        (∀ a ∈ t.port.current.toList ++ t.port.waiting,
          a.kind ≠ .descriptor → a.kind ≠ .burst → a.discard = false → a.kind = .attach ∧ a.addr = base + 0x40) ∧
        t.reports.job = none)

/-- A value written to POST while attached: a nudge joins the FIFO's tail while it holds fewer than 16, and any other value, or a nudge that finds
it full, is dropped with NUDGE_DROPPED once until the FIFO next takes one; before attach it is dropped in silence. -/
def Claims.PostWriteQueuesNudge : Prop :=
  ∀ (v : Word) (s : State),
    (attached s = false → exec (.postWrite v) s = .next s) ∧
    (attached s = true →
      ((v.toNat % 256 < 128 ∨ v.toNat % 256 = 0xFE ∨ v.toNat % 256 = 0xFF) ∧ s.exch.nudges.length < 16 →
        exec (.postWrite v) s =
          .next
            { s with
              exch := { s.exch with nudges := s.exch.nudges ++ [v.setWidth 8], nudgeDrop := false } }) ∧
      (¬((v.toNat % 256 < 128 ∨ v.toNat % 256 = 0xFE ∨ v.toNat % 256 = 0xFF) ∧ s.exch.nudges.length < 16) →
        exec (.postWrite v) s =
          .next
            { s with
              exch := { s.exch with nudgeDrop := true }
              reports :=
                if s.exch.nudgeDrop then s.reports
                else Claims.raised { incident .nudgeDropped with value := v.toNat % 256 } s }))

/-- The base and post registers. (That a report, a snapshot read or an attach's header write in progress at a new attach ends there, and that a snapshot read asked for
and not begun is not made, are the model's choices, log entries 23 and 22.) -/
def Obligations.BaseAndPostWrites : Prop := Claims.BaseWriteStartsAttachInIdle ∧ Claims.PostWriteQueuesNudge

/-! ## Direct inputs -/

/-- The hold-cause set with MODULE_LOST following the module states of the required roles. -/
def Claims.followed (c : Causes) (s : State) : Causes := { c with moduleLost := requiredLost s }

/-- A transaction of the line controller's command list. -/
def Claims.listed (r : Role) (k : TxnKind) (w : Word) : Txn := { role := r, kind := k, word := w, acted := true }

/-- For each zone in turn a PUT_DATA with its setpoint and a PUT_CMD HEAT_ON (code 6). -/
def Claims.zonesHeated (setpoints : Tbl 4 Nat) : List Txn :=
  [(Role.zone1, (0 : Fin 4)), (.zone2, 1), (.zone3, 2), (.zone4, 3)].flatMap fun (r, z) =>
    [Claims.listed r .putData (BitVec.ofNat 32 (Tbl.at setpoints z % 65536)), Claims.listed r .putCmd 6]

/-- The standby list (R180): the zones at their standby setpoints, HEAT_OFF (code 7) to FLASH and STOP (code 3) to BELT_DRIVE. -/
def Claims.standbyCommands (t : State) : List Txn :=
  Claims.zonesHeated t.config.standbySetpoints ++ [Claims.listed .flash .putCmd 7, Claims.listed .beltDrive .putCmd 3]

/-- The run list (R180): the zones at their run setpoints, the flash setpoint to FLASH, and BELT_RUN (code 8) with the belt speed to BELT_DRIVE. -/
def Claims.runCommands (t : State) : List Txn :=
  Claims.zonesHeated t.config.runSetpoints ++
    [Claims.listed .flash .putData (BitVec.ofNat 32 (t.config.flashSetpoint % 65536)),
      Claims.listed .beltDrive .putCmd (BitVec.ofNat 32 (8 + 256 * min 16777215 t.config.beltSpeed))]

/-- The e-stop list (R180): STOP (code 3) to the drives, the carriages, the press and the belt, then HEAT_OFF (code 7) to FLASH and the zones. -/
def Claims.estopCommands : List Txn :=
  [Claims.listed .indexDrive .putCmd 3, Claims.listed .sprayCarriage .putCmd 3, Claims.listed .whiteCarriage .putCmd 3,
    Claims.listed .colorCarriage .putCmd 3, Claims.listed .press .putCmd 3, Claims.listed .beltDrive .putCmd 3,
    Claims.listed .flash .putCmd 7, Claims.listed .zone1 .putCmd 7, Claims.listed .zone2 .putCmd 7,
    Claims.listed .zone3 .putCmd 7, Claims.listed .zone4 .putCmd 7]

/-- A command list has been put on (R180), its entries of absent roles left out, in place of what remained of the old one. Its first entry for a reachable module
is in the LINE place, handed in now or, where a LINE transaction was queued, with the rank time of that one, and the entries behind it are the list. A LINE
transaction on the link finishes its try, its outcome to be discarded, and the whole list follows. -/
def Claims.listPut (s t : State) (list : List Txn) : Prop :=
  let present := list.filter fun x => (roleAddr t x.role).isSome
  (∀ w : Queued, (placeAt s .line).now = some w → w.state = .onLink →
    t.ctl.commands = present ∧
    placeAt t .line = { now := some { w with txn := { w.txn with acted := false }, withdrawn := true }, kept := [] }) ∧
  (∀ (lost rest : List Txn) (x : Txn), present = lost ++ x :: rest → (∀ y ∈ lost, unreachable t y.role = true) →
    unreachable t x.role = false →
      ((placeAt s .line).now = none →
        t.ctl.commands = rest ∧
        (placeAt t .line).now = some { txn := x, rank := s.clock, tries := 0, state := .queued, withdrawn := false }) ∧
      (∀ w : Queued, (placeAt s .line).now = some w → w.state ≠ .onLink →
        t.ctl.commands = rest ∧
        placeAt t .line =
          { now := some { w with txn := x, tries := 0, state := .queued, withdrawn := false }, kept := [] })) ∧
  ((∀ y ∈ present, unreachable t y.role = true) → (∀ w : Queued, (placeAt s .line).now = some w → w.state ≠ .onLink) →
    t.ctl.commands = [] ∧ (placeAt t .line).now = none)

/-- ESTOP assertion: a line already STOPPED keeps all but the input's level and the monitor; any other enters STOPPED, its flags cleared and its request
dropped, and is still: nothing moves, presses, prints or heats, and every valve is closed. The e-stop list is put on: STOP to the drives, the carriages, the
press and the belt, then HEAT_OFF to FLASH and the zones, those of present roles, with the first for a reachable module in the LINE place. (That the command
behind a head that is LOST at once has the old rank time is the model's choice, log entry 14.) -/
def Obligations.EstopAssertionStillsTheLine : Prop :=
  ∀ s : State,
    (s.ctl.mode = .stopped →
      exec .estopAssertion s =
        .next { s with pins := { s.pins with estop := true }, ctl := { s.ctl with monitor := .asserted } }) ∧
    (s.ctl.mode ≠ .stopped → UnitsHeld s →
      ∃ t : State,
        exec .estopAssertion s = .next t ∧ t.ctl.mode = .stopped ∧ Still t ∧ UnitsHeld t ∧
        t.ctl.causes = Claims.followed s.ctl.causes s ∧ t.ctl.warm = false ∧ t.ctl.drain = false ∧ t.ctl.warmup = none ∧
        t.ctl.request = .absent ∧ t.ctl.refused = (s.ctl.refused || s.ctl.request != .absent) ∧
        t.ctl.monitor = .asserted ∧ t.pins = { s.pins with estop := true } ∧
        t.carousel.map = s.carousel.map ∧ t.carousel.homed = (s.carousel.homed && !opInFlight s) ∧
        t.carousel.timer = (if opInFlight s then none else s.carousel.timer) ∧
        t.dryer.ticking = s.dryer.ticking ∧ t.clock = s.clock ∧ t.staging = s.staging ∧
        Claims.listPut s t Claims.estopCommands)

/-- Deassertion of ESTOP takes the monitor from ASSERTED to RELEASING with the release time running, and only shows at the input otherwise. -/
def Claims.EstopDeassertionStartsRelease : Prop :=
  ∀ s : State,
    (s.ctl.monitor = .asserted →
      exec .estopDeassertion s =
        .next
          { s with
            pins := { s.pins with estop := false }
            ctl := { s.ctl with monitor := .releasing { start := s.clock, limit := s.config.debounce * 100 } } }) ∧
    (s.ctl.monitor ≠ .asserted →
      exec .estopDeassertion s = .next { s with pins := { s.pins with estop := false } })

/-- The release time of a stopped line: once it has passed the monitor is CLEAR and the line is in HOLD with HOST added and the other causes kept, the
transfer and pack timeouts running afresh; before that nothing happens. -/
def Claims.EstopReleaseEntersHold : Prop :=
  ∀ (s : State) (tm : Timer), s.ctl.monitor = .releasing tm →
    ((s.clock - tm.start).toNat < tm.limit → exec .estopReleaseTimePasses s = .next s) ∧
    (tm.limit ≤ (s.clock - tm.start).toNat → s.ctl.mode = .stopped → s.dryer.ticking = true →
      ∃ t : State,
        exec .estopReleaseTimePasses s = .next t ∧
        t = { s with ctl := t.ctl, reports := t.reports, dryer := t.dryer, pack := t.pack } ∧
        t.ctl =
          { s.ctl with
            mode := .hold, monitor := .clear, warmup := none
            causes := Claims.followed { s.ctl.causes with host := true } s } ∧
        t.dryer = { s.dryer with transfer := s.dryer.transfer.map fun e => { e with entry := s.clock } } ∧
        t.pack = { s.pack with queue := s.pack.queue.map fun e => { e with entry := s.clock } })

/-- Deassertion of ESTOP starts the release time, and its end takes the line to HOLD. (That the release time is the debounce time in force at the
deassertion is the model's choice, log entry 36.) -/
def Obligations.EstopReleaseByMonitor : Prop := Claims.EstopDeassertionStartsRelease ∧ Claims.EstopReleaseEntersHold

/-- A change of a button's input: SETTLED starts a check now, CHECKING cancels the edge, LOCKOUT ignores it; a level that is shown already is no
change. -/
def Claims.ButtonChangeByState : Prop :=
  ∀ (b : Button) (level : Bool) (s : State),
    (buttonLevel s b = level → exec (.buttonInputChange b level) s = .next s) ∧
    (buttonLevel s b ≠ level →
      ∃ t : State,
        exec (.buttonInputChange b level) s = .next t ∧ t = { s with pins := t.pins, buttons := t.buttons } ∧
        t.pins = { s.pins with buttons := t.pins.buttons } ∧ buttonLevel t b = level ∧
        (∀ o : Button, o ≠ b → buttonLevel t o = buttonLevel s o ∧ buttonAt t o = buttonAt s o) ∧
        buttonAt t b =
          match (buttonAt s b).state with
          | .settled =>
            { state := .checking, level := (buttonAt s b).level
              timer := { start := s.clock, limit := s.config.debounce * 100 } }
          | .checking => { buttonAt s b with state := .settled }
          | .lockout => buttonAt s b)

/-- The unit of a button whose debounce time has passed: a check that finds the new level accepts the edge and locks the unit out, one that finds the
settled level returns to SETTLED; a lockout ends in SETTLED, or in a new check when the input differs. -/
def Claims.debounced (s : State) (b : Button) : ButtonUnit :=
  let now : Timer := { start := s.clock, limit := s.config.debounce * 100 }
  match (buttonAt s b).state with
  | .settled => buttonAt s b
  | .checking =>
    if buttonLevel s b = (buttonAt s b).level then { buttonAt s b with state := .settled }
    else { state := .lockout, level := buttonLevel s b, timer := now }
  | .lockout =>
    if buttonLevel s b = (buttonAt s b).level then { buttonAt s b with state := .settled }
    else { buttonAt s b with state := .checking, timer := now }

/-- The passing of a button's debounce time: nothing while it runs or the unit is SETTLED; otherwise the unit goes on, and nothing else changes unless
a press is accepted. An accepted LOAD_GO press releases LOAD when the line takes presses, no index or home is in flight and LOAD is not
released. -/
def Claims.DebounceAcceptsPresses : Prop :=
  ∀ (b : Button) (s : State),
    ((buttonAt s b).state = .settled ∨ (s.clock - (buttonAt s b).timer.start).toNat < (buttonAt s b).timer.limit →
      exec (.buttonDebounceTimePasses b) s = .next s) ∧
    ((buttonAt s b).state ≠ .settled → (buttonAt s b).timer.limit ≤ (s.clock - (buttonAt s b).timer.start).toNat →
      ∃ t : State,
        exec (.buttonDebounceTimePasses b) s = .next t ∧ buttonAt t b = Claims.debounced s b ∧
        (∀ o : Button, o ≠ b → buttonAt t o = buttonAt s o) ∧
        (¬((buttonAt s b).state = .checking ∧ buttonLevel s b = true ∧ (buttonAt s b).level = false) →
          t = { s with buttons := t.buttons }) ∧
        ((buttonAt s b).state = .checking → buttonLevel s b = true → (buttonAt s b).level = false → b = .loadGo →
          t = { s with buttons := t.buttons, carousel := { s.carousel with released := t.carousel.released } } ∧
          (∀ st : Station, st ≠ .load → released t st = released s st) ∧
          released t .load =
            (released s .load || (scanMode s.ctl.mode && !opInFlight s))))

/-- A change of a button's input, and the passing of its unit's debounce time. (That a lockout's time, like a check's, is the debounce time in force when
it starts is the model's choice, log entry 36.) -/
def Obligations.ButtonsAreDebounced : Prop := Claims.ButtonChangeByState ∧ Claims.DebounceAcceptsPresses

/-- An accepted UNLOAD_GO press on a garment at UNLOAD. -/
def Claims.acceptsUnload (s : State) : Prop :=
  (buttonAt s .unloadGo).state = .checking ∧ buttonLevel s .unloadGo = true ∧ (buttonAt s .unloadGo).level = false ∧
  (buttonAt s .unloadGo).timer.limit ≤ (s.clock - (buttonAt s .unloadGo).timer.start).toNat ∧
  scanMode s.ctl.mode = true ∧ opInFlight s = false ∧ released s .unload = false

/-- An accepted UNLOAD_GO press: to DRYER the garment joins the transfer list with the line clock as entry time, when the line is not in WARMING and the
list has room, and otherwise the press is ignored; to REJECT and RETURN its record is deleted. The platen is empty and takes its pending enable
value, UNLOAD is released and the lamps go off. -/
def Obligations.UnloadGoActsOnDestination : Prop :=
  ∀ (s : State) (g : Fin 32) (r : Garment) (d : Destination),
    Claims.acceptsUnload s → garmentAtPos s 9 = some g → garmentAt s g = some r → r.dest = some d →
    r.platen = some (platenAt s 9) →
      (d = .dryer → (s.ctl.mode = .warming ∨ 4 ≤ s.dryer.transfer.length) →
        ∃ t : State, exec (.buttonDebounceTimePasses .unloadGo) s = .next t ∧ t = { s with buttons := t.buttons }) ∧
      ((d = .dryer → s.ctl.mode ≠ .warming ∧ s.dryer.transfer.length < 4) →
        ∃ t : State,
          exec (.buttonDebounceTimePasses .unloadGo) s = .next t ∧ released t .unload = true ∧ t.carousel.lamp = none ∧
          platenOf t (platenAt s 9) =
            { garment := none
              enabled := (platenOf s (platenAt s 9)).pending.getD (platenOf s (platenAt s 9)).enabled
              pending := none } ∧
          t.carousel.map = s.carousel.map ∧
          (∀ p : Fin 12, p ≠ platenAt s 9 → platenOf t p = platenOf s p) ∧
          (∀ h : Fin 32, h ≠ g → garmentAt t h = garmentAt s h) ∧
          (d = .dryer →
            t.dryer.transfer = s.dryer.transfer ++ [{ garment := g, entry := s.clock }] ∧
            garmentAt t g = some { r with place := .inTransfer, platen := none } ∧ t.lines = s.lines) ∧
          (d ≠ .dryer → t.dryer = s.dryer ∧ garmentAt t g = none))

/-- An edge of a capture input: in its capture direction the unit records the line clock, or, while it holds an earlier time, the edge is lost with
CAPTURE_LOST; in the other direction only the input's level changes. -/
def Claims.CaptureEdgeRecordsClock : Prop :=
  ∀ (i : CaptureInput) (e : Edge) (s : State),
    ∃ t : State,
      exec (.captureEdge i e) s = .next t ∧ t = { s with pins := t.pins, captures := t.captures, reports := t.reports } ∧
      t.pins = { s.pins with captures := t.pins.captures } ∧ Tbl.at t.pins.captures (captureNum i) = (e == .rising) ∧
      (∀ j : CaptureInput, j ≠ i →
        captureAt t j = captureAt s j ∧ Tbl.at t.pins.captures (captureNum j) = Tbl.at s.pins.captures (captureNum j)) ∧
      (Tbl.at s.config.edges (captureNum i) ≠ e → captureAt t i = captureAt s i ∧ t.reports = s.reports) ∧
      (Tbl.at s.config.edges (captureNum i) = e →
        (captureAt s i = none → captureAt t i = some s.clock ∧ t.reports = s.reports) ∧
        (∀ c : Clock, captureAt s i = some c →
          captureAt t i = some c ∧
          t.reports =
            Claims.raised { incident .captureLost with detail := (captureNum i).val, value := s.clock.toNat } s))

/-- The INDEX_HOME capture takes an index or a home from MOVING to SETTLING and is ignored otherwise; its unit holds nothing afterwards. -/
def Claims.HomeEdgeSettles : Prop :=
  ∀ s : State,
    (captureAt s .indexHome = none → exec .indexHomeEdge s = .next s) ∧
    (∀ c : Clock, captureAt s .indexHome = some c →
      ∃ t : State,
        exec .indexHomeEdge s = .next t ∧ t = { s with captures := t.captures, carousel := t.carousel } ∧
        captureAt t .indexHome = none ∧ (∀ j : CaptureInput, j ≠ .indexHome → captureAt t j = captureAt s j) ∧
        t.carousel =
          { s.carousel with
            op := match s.carousel.op with
              | .none => .none
              | .moving h => .settling h
              | .settling h => .settling h })

/-- The pulse time of a zone: 0 below the pretreat floor or with factor 0, and otherwise the base pulse times factor times coverage over 4,080, rounded
to the nearest with halves up, raised to the smaller of min pulse and row dwell and cut at the row dwell. The eight of a row are computed when its
edge is taken: a zone whose pulse time is 0 stays closed for the row, and any other is armed with it. -/
def Obligations.PulseTimeOfAZone : Prop :=
  (∀ (p : SprayParams) (factor cover : Nat),
    (cover < p.floor ∨ factor = 0 → pulseTime p factor cover = 0) ∧
    (¬(cover < p.floor ∨ factor = 0) →
      pulseTime p factor cover =
        min p.dwell (max (min p.minPulse p.dwell) ((2 * (p.base * factor * cover) + 4080) / 8160)) ∧
      min p.minPulse p.dwell ≤ pulseTime p factor cover ∧ pulseTime p factor cover ≤ p.dwell)) ∧
  (∀ (s : State) (edge : Clock) (j : Job), captureAt s .sprayRow = some edge → s.pretreat.state = .spraying →
    s.pretreat.row < 16 → s.pretreat.job = some j →
      ∃ t : State,
        exec .sprayRowEdge s = .next t ∧
        ∀ z : Fin 8,
          let pulse := pulseTime s.pretreat.latched s.pretreat.factor (coverageAt s (s.pretreat.row + 1) z)
          (pulse = 0 → valveAt t z = .closed) ∧
          (pulse ≠ 0 → ∃ opens closes : Clock, valveAt t z = .armed opens closes pulse))

/-- A SPRAY_ROW edge in SPRAYING with fewer than 16 rows is the next row: the row counter rises by one, every channel of the row before is closed or
dropped, each zone with a pulse time above 0 is armed to open the spray delay after the edge and to close one pulse time later, and channels
still busy set the garment's ROW_OVERLAP flag. Any other edge is only taken from its unit. -/
def Obligations.SprayRowArmsTheRow : Prop :=
  ∀ (s : State) (edge : Clock), captureAt s .sprayRow = some edge →
    (¬(s.pretreat.state = .spraying ∧ s.pretreat.row < 16) →
      ∃ t : State,
        exec .sprayRowEdge s = .next t ∧ t = { s with captures := t.captures } ∧ captureAt t .sprayRow = none) ∧
    (s.pretreat.state = .spraying → s.pretreat.row < 16 → ∀ j : Job, s.pretreat.job = some j →
      ∃ t : State,
        exec .sprayRowEdge s = .next t ∧ captureAt t .sprayRow = none ∧ t.pretreat.row = s.pretreat.row + 1 ∧
        t.pretreat.state = .spraying ∧ t.pretreat.job = s.pretreat.job ∧ t.pretreat.guard = s.pretreat.guard ∧
        (∀ z : Fin 8,
          let p := s.pretreat.latched
          let pulse := pulseTime p s.pretreat.factor (coverageAt s (s.pretreat.row + 1) z)
          let opens := edge + BitVec.ofNat 32 (p.delay * 10)
          valveAt t z =
            if pulse = 0 then .closed else .armed opens (opens + BitVec.ofNat 32 (pulse * 10)) pulse) ∧
        (anyValve s = false →
          t = { s with captures := t.captures, pretreat := t.pretreat } ∧ t.pretreat.tank = s.pretreat.tank) ∧
        (anyValve s = true → ∀ r : Garment, garmentAt s j.garment = some r →
          garmentAt t j.garment = some { r with rowOverlap := true }))

/-- A BELT_ENTRY edge: the head transfer entry's garment joins the belt queue's tail with the edge's time and the odometer, or a phantom joins with
STRAY_ENTRY when the list is empty; with 16 entries on the belt the edge is ignored with BELT_FULL. -/
def Obligations.BeltEntryJoinsTheBelt : Prop :=
  ∀ (s : State) (edge : Clock), captureAt s .beltEntry = some edge →
    ∃ t : State,
      exec .beltEntryEdge s = .next t ∧ captureAt t .beltEntry = none ∧
      t =
        { s with captures := t.captures, dryer := t.dryer, garments := t.garments, reports := t.reports } ∧
      (16 ≤ s.dryer.belt.length →
        t.dryer = s.dryer ∧ t.garments = s.garments ∧
        t.reports = Claims.raised { incident .beltFull with value := s.dryer.transfer.length } s) ∧
      (s.dryer.belt.length < 16 → s.dryer.transfer = [] →
        t.dryer =
          { s.dryer with
            belt :=
              s.dryer.belt ++
                [{ garment := none, entry := edge, odo := s.dryer.odometer, beyond := false, overdue := false
                   counted := false }] } ∧
        t.garments = s.garments ∧
        t.reports = Claims.raised { incident .strayEntry with value := s.dryer.belt.length + 1 } s) ∧
      (∀ (e : TimedEntry) (rest : List TimedEntry) (r : Garment),
        s.dryer.belt.length < 16 → s.dryer.transfer = e :: rest → garmentAt s e.garment = some r →
          t.dryer =
            { s.dryer with
              transfer := rest
              belt :=
                s.dryer.belt ++
                  [{ garment := some e.garment, entry := edge, odo := s.dryer.odometer, beyond := false
                     overdue := false, counted := false }] } ∧
          t.reports = s.reports ∧
          garmentAt t e.garment =
            some { r with beltEntry := some edge, entryOdo := some s.dryer.odometer, place := .onBelt } ∧
          (∀ h : Fin 32, h ≠ e.garment → garmentAt t h = garmentAt s h))

/-- A BELT_EXIT edge: STRAY_EXIT with an empty belt; a phantom leaves with STRAY_EXIT detail 1; a garment leaves the belt and joins the pack queue's tail
with the edge's time, AWAITING_PACK, when the queue has room. -/
def Claims.BeltExitTakesTheHead : Prop :=
  ∀ (s : State) (edge : Clock), captureAt s .beltExit = some edge →
    (s.dryer.belt = [] →
      ∃ t : State,
        exec .beltExitEdge s = .next t ∧ t = { s with captures := t.captures, reports := t.reports } ∧
        captureAt t .beltExit = none ∧ t.reports = Claims.raised (incident .strayExit) s) ∧
    (∀ (e : BeltEntry) (rest : List BeltEntry), s.dryer.belt = e :: rest → e.garment = none →
      ∃ t : State,
        exec .beltExitEdge s = .next t ∧
        t = { s with captures := t.captures, dryer := { s.dryer with belt := rest }, reports := t.reports } ∧
        captureAt t .beltExit = none ∧ t.reports = Claims.raised { incident .strayExit with detail := 1 } s) ∧
    (∀ (e : BeltEntry) (rest : List BeltEntry) (g : Fin 32) (r : Garment),
      s.dryer.belt = e :: rest → e.garment = some g → garmentAt s g = some r → s.pack.queue.length < 4 →
        ∃ (t : State) (r' : Garment),
          exec .beltExitEdge s = .next t ∧ captureAt t .beltExit = none ∧ t.dryer = { s.dryer with belt := rest } ∧
          t.pack.queue = s.pack.queue ++ [{ garment := g, entry := edge }] ∧ garmentAt t g = some r' ∧
          r'.place = .awaitingPack ∧ r'.beltExit = some edge ∧ r'.dryerDose = r.dryerDose ∧ r'.serial = r.serial)

/-- The exit verdict, the REFEED flag, the condition and the fault code after an exit (R133): the first row of the table that applies to a GOOD or a
VOID_PRINTED garment, and no change for another. A fail request is made of a GOOD garment alone, and only a GOOD one is marked for refeed. -/
def Claims.verdictOf (s : State) (r : Garment) : Option Verdict × Bool × Condition × Option FaultCode :=
  let blank := catalogAt s r.blank
  let need := match (lineAt s r.slot).snap with | none => 0 | some p => p.cure
  let most := match (lineAt s r.slot).snap with | none => 0 | some p => p.scorch
  let judged (v : Option Verdict) (code : FaultCode) : Option Verdict × Bool × Condition × Option FaultCode :=
    if r.cond = .good then (v, false, .failed, some code) else (v, false, r.cond, r.fault)
  if r.cond = .failed ∨ r.cond = .stripped then (r.verdict, r.refeed, r.cond, r.fault)
  else if r.unverified then judged none .unverified
  else if (blank.scorchTemp ≠ 0 ∧ blank.scorchTemp < r.peak) ∨ (most ≠ 0 ∧ most * 10000 < r.dryerDose) then judged none .scorched
  else if need * 10000 ≤ r.dryerDose then (some .cured, false, r.cond, r.fault)
  else if r.cond = .good ∧ r.refeeds < s.config.refeedLimit then (some .undercured, true, r.cond, r.fault)
  else judged (some .undercured) .undercured

/-- The exit of a garment at the head of the belt with room in the pack queue: EARLY is set when the beyond mark is clear and the travelled distance is below
the dryer length less the exit tolerance, the verdict is as the table gives it, and the line of a matching take stamp has the dose in CU as its last
exit dose, its slot dirty. -/
def Claims.ExitJudgesTheGarment : Prop :=
  ∀ (s : State) (edge : Clock) (e : BeltEntry) (rest : List BeltEntry) (g : Fin 32) (r : Garment),
    captureAt s .beltExit = some edge → s.dryer.belt = e :: rest → e.garment = some g → garmentAt s g = some r →
    s.pack.queue.length < 4 →
      ∃ (t : State) (r' : Garment),
        exec .beltExitEdge s = .next t ∧ garmentAt t g = some r' ∧
        (r'.verdict, r'.refeed, r'.cond, r'.fault) = Claims.verdictOf s r ∧
        r'.early =
          (r.early ||
            (!e.beyond &&
              decide
                ((s.dryer.odometer - e.odo).toNat + s.config.exitTolerance <
                  (List.ofFn fun z : Fin 4 => Tbl.at s.config.zoneLengths z).sum))) ∧
        ((lineAt s r.slot).take = r.stamp →
          (lineAt t r.slot).lastDose = r.dryerDose / 10000 ∧ Tbl.at t.reports.dirty r.slot = true)

/-- The exit of a garment that finds four entries in the pack queue: the head entry is removed as missing and its record is free, and the garment joins the
tail. Of a garment that was FAILED already PACK_MISSING with detail 1 is the only incident, when the garment that leaves the belt was FAILED too. -/
def Claims.FullPackQueueLosesItsHead : Prop :=
  ∀ (s : State) (edge : Clock) (e : BeltEntry) (rest : List BeltEntry) (h : TimedEntry) (queue : List TimedEntry) (g : Fin 32)
    (r head : Garment),
    captureAt s .beltExit = some edge → s.dryer.belt = e :: rest → e.garment = some g → garmentAt s g = some r →
    s.pack.queue = h :: queue → 3 ≤ queue.length → h.garment ≠ g → garmentAt s h.garment = some head →
      ∃ (t : State) (r' : Garment),
        exec .beltExitEdge s = .next t ∧ t.dryer = { s.dryer with belt := rest } ∧ garmentAt t h.garment = none ∧
        garmentAt t g = some r' ∧ r'.place = .awaitingPack ∧
        t.pack.queue = (queue.filter fun x => x.garment != h.garment) ++ [{ garment := g, entry := edge }] ∧
        (r.cond = .failed → head.cond = .failed → s.reports.fifo.length < 16 →
          t.reports.fifo =
            s.reports.fifo ++
              [{ incident .packMissing with
                  slot := some head.slot, garment := some h.garment, serial := head.serial, key := keyOf s head.slot, detail := 1
                  value := head.dryerDose / 10000, time := s.clock }])

/-- A BELT_EXIT edge takes the head of the belt queue: strays, the exit procedure with its verdict, and the pack queue, full or not. -/
def Obligations.BeltExitFeedsThePackQueue : Prop :=
  Claims.BeltExitTakesTheHead ∧ Claims.ExitJudgesTheGarment ∧ Claims.FullPackQueueLosesItsHead

/-- A change of an attention input changes the input's level alone: it is looked at when a choice is made. -/
def Claims.AttentionLineFollowsItsInput : Prop :=
  ∀ (a : Fin 8) (high : Bool) (s : State),
    ∃ t : State,
      exec (.attentionLineChange a high) s = .next t ∧
      t = { s with pins := { s.pins with attention := t.pins.attention } } ∧ Tbl.at t.pins.attention a = high ∧
      (∀ b : Fin 8, b ≠ a → Tbl.at t.pins.attention b = Tbl.at s.pins.attention b)

/-- Edges of the capture inputs and changes of the attention inputs, as they are noted. -/
def Obligations.CaptureAndAttentionInputs : Prop := Claims.CaptureEdgeRecordsClock ∧ Claims.AttentionLineFollowsItsInput

/-! ## The station link -/

/-- The work that has waited longest goes on the link: no ready transaction or due probe is older. -/
def Claims.OldestWorkIsOldest : Prop :=
  ∀ (s : State) (w : Work), oldestWork s = some w →
    w ∈ readyWork s ∧ ∀ v ∈ readyWork s, elapsed s v.rank ≤ elapsed s w.rank

/-- A choice with the link free: the highest-numbered eligible attention line is served, with CONTINUE set for a scanner; with none eligible the try
of the oldest ready transaction starts, clearing every served mark, or that of the oldest due probe. -/
def Claims.ChoiceServesAttentionFirst : Prop :=
  ∀ (s : State) (c : LinkSettings),
    attached s = true → s.link.onLink = none → s.link.service = none → s.link.settings = some c →
      (∀ (a : Fin 8) (r : Role) (addr : Byte),
        lineEligible s c a = true → (∀ b : Fin 8, a < b → lineEligible s c b = false) →
        (Tbl.at c.attention a).role = some r → Tbl.at c.roles (roleNum r) = some addr →
          exec .linkChoice s =
            .next
              { s with
                link :=
                  { s.link with
                    service :=
                      some
                        { line := a, role := r, addr := addr, settings := c, status := none, tries := 0, retryAt := none }
                    onLink :=
                      some
                        { carrier := .attention, role := r, addr := addr, kind := .getStatus
                          continued := r = .loadScanner || r = .packScanner, word := 0, settings := c } } }) ∧
      (∀ (w : Work) (q : Requester) (n : Queued) (addr : Byte),
        (∀ b : Fin 8, lineEligible s c b = false) → oldestWork s = some w → w.carrier = .requester q →
        (placeAt s q).now = some n → Tbl.at c.roles (roleNum n.txn.role) = some addr →
          ∃ t : State,
            exec .linkChoice s = .next t ∧ t = { s with link := t.link } ∧
            t.link.onLink =
              some
                { carrier := .requester q, role := n.txn.role, addr := addr, kind := n.txn.kind, continued := false
                  word := n.txn.word, settings := c } ∧
            t.link.service = none ∧ placeAt t q = { placeAt s q with now := some { n with state := .onLink } } ∧
            (∀ p : Requester, p ≠ q → placeAt t p = placeAt s p) ∧ (∀ a : Fin 8, (attnAt t a).served = false) ∧
            t.link.modules = s.link.modules) ∧
      (∀ (w : Work) (addr : Byte),
        (∀ b : Fin 8, lineEligible s c b = false) → oldestWork s = some w → w.carrier = .probe →
        Tbl.at c.roles (roleNum w.role) = some addr →
          ∃ t : State,
            exec .linkChoice s = .next t ∧ t = { s with link := t.link } ∧
            t.link.onLink =
              some
                { carrier := .probe, role := w.role, addr := addr, kind := .getStatus, continued := false, word := 0
                  settings := c } ∧
            t.link.places = s.link.places ∧ t.link.attention = s.link.attention ∧
            moduleAt t w.role = { moduleAt s w.role with probeReady := false })

/-- The request on the link goes out as ten-bit characters, a start bit, the eight bits of a byte from the least significant on, and a stop bit, with the driver enable on
for just the bits of the frame; with nothing on the link the driver enable is off. The frame is nine bytes: 0xA5, the address, the control byte with kind and
CONTINUE, the word and the check, each least significant byte first. -/
def Claims.RequestFrameOnTheLine : Prop :=
  (∀ (s : State) (n : Nat), s.link.onLink = none → linkDriverEnable s n = false) ∧
  (∀ (s : State) (o : OnLink), s.link.onLink = some o →
    ∃ bytes : List Byte,
      bytes.length = 9 ∧ bytes.getD 0 0 = 0xA5 ∧ bytes.getD 1 0 = o.addr ∧
      (bytes.getD 2 0).toNat =
        (match o.kind with | .putData => 0 | .putCmd => 1 | .getStatus => 2 | .getData => 3) + 128 * o.continued.toNat ∧
      (∀ k : Fin 4, (bytes.getD (3 + k.val) 0).toNat = o.word.toNat / 256 ^ k.val % 256) ∧
      (bytes.getD 7 0).toNat + 256 * (bytes.getD 8 0).toNat = (frameCheck (bytes.take 7)).toNat ∧
      (∀ n : Nat, linkDriverEnable s n = true ↔ n < 90) ∧
      (∀ (k : Fin 9) (b : Fin 8), linkDriven s (10 * k.val + 1 + b.val) = some ((bytes.getD k.val 0).getLsbD b.val)) ∧
      (∀ k : Fin 9, linkDriven s (10 * k.val) = some false ∧ linkDriven s (10 * k.val + 9) = some true))

/-- What goes on a free link: the highest eligible attention line, and otherwise the work that has waited longest. (That this order holds also right after the
attach of a soft reset, where R172 calls the probes the first traffic, is the model's choice, log entry 42; that a probe leaves the served marks as
they are is its choice, log entry 15; that a start bit is low and a stop bit high is taken from the family, log entry 33.) -/
def Obligations.LinkChoice : Prop :=
  Claims.OldestWorkIsOldest ∧ Claims.ChoiceServesAttentionFirst ∧ Claims.RequestFrameOnTheLine

/-- The module entry of a role after a request it accepted: PRESENT, no silence counted, no probe waiting. -/
def Claims.acceptedModule (m : ModuleEntry) : ModuleEntry :=
  if m.state = .present then { m with silences := 0 }
  else { state := .present, silences := 0, probe := none, probeReady := false }

/-- A try that a display transaction (LOAD or PACK) has on the link ends with ACCEPT from a module that is PRESENT: the link is free, the module's
silence count is 0 and the requester's place is empty, or takes what was kept for it. -/
def Claims.AcceptCompletesTransaction : Prop :=
  ∀ (s : State) (frame : List Byte) (o : OnLink) (w : Queued) (q : Requester) (word : Word),
    s.link.onLink = some o → roleAddr s o.role = some o.addr → o.carrier = .requester q → q = .load ∨ q = .pack →
    classify o frame = .accept word → (moduleAt s o.role).state = .present → (placeAt s q).now = some w →
      ∃ t : State,
        exec (.tryAccept frame) s = .next t ∧ t = { s with link := t.link } ∧ t.link.onLink = none ∧
        t.link.service = s.link.service ∧ moduleAt t o.role = Claims.acceptedModule (moduleAt s o.role) ∧
        (∀ r : Role, r ≠ o.role → moduleAt t r = moduleAt s r) ∧ (∀ p : Requester, p ≠ q → placeAt t p = placeAt s p) ∧
        ((placeAt s q).kept = [] → placeAt t q = { now := none, kept := [] }) ∧
        (∀ (x : Txn) (xs : List Txn), (placeAt s q).kept = x :: xs → unreachable s x.role = false →
          placeAt t q =
            { now := some { txn := x, rank := s.clock, tries := 0, state := .queued, withdrawn := false }, kept := xs })

/-- An accepted probe: a module that was UNKNOWN or LOST is PRESENT, with MODULE_BACK carrying 0 or 1 as value, and it no longer waits for a
probe. -/
def Claims.AcceptedProbeBringsModuleBack : Prop :=
  ∀ (s : State) (frame : List Byte) (o : OnLink) (word : Word),
    s.link.onLink = some o → roleAddr s o.role = some o.addr → o.carrier = .probe → classify o frame = .accept word →
    (moduleAt s o.role).state ≠ .present → s.ctl.mode = .idle →
      ∃ t : State,
        exec (.tryAccept frame) s = .next t ∧ t = { s with link := t.link, reports := t.reports } ∧ t.link.onLink = none ∧
        moduleAt t o.role = { state := .present, silences := 0, probe := none, probeReady := false } ∧
        (∀ r : Role, r ≠ o.role → moduleAt t r = moduleAt s r) ∧ t.link.places = s.link.places ∧
        t.reports =
          Claims.raised
            { incident .moduleBack with
              detail := (roleNum o.role).val
              value := if (moduleAt s o.role).state = .lost then 1 else 0 } s

/-- A probe that ends after its role has left the address it went to changes nothing of the module table: the link is free again, and no more happens. -/
def Claims.ProbeOfALeftAddressIsIdle : Prop :=
  ∀ (s : State) (frame : List Byte) (o : OnLink),
    s.link.onLink = some o → roleAddr s o.role ≠ some o.addr → o.carrier = .probe →
      let freed : State := { s with link := { s.link with onLink := none } }
      (∀ word : Word, classify o frame = .accept word → exec (.tryAccept frame) s = .next freed) ∧
      (classify o frame = .decline → exec (.tryDecline frame) s = .next freed) ∧
      (classify o frame = .silence → exec (.trySilence frame) s = .next freed)

/-- A requester's place that holds a transaction handed in now. -/
def Claims.handed (role : Role) (kind : TxnKind) (word : Word) (s : State) : Option Queued :=
  some { txn := { role := role, kind := kind, word := word, acted := true }, rank := s.clock, tries := 0, state := .queued
         withdrawn := false }

/-- A read that the SAMPLER has on the link ends with ACCEPT from a PRESENT module: its target leaves the read list, the next one is handed in, and the status goes
to its owner. With ticking on, a zone's source receives the VALUE, 5000 at most, when FAULT is 0, and the belt is RUNNING when FAULT is 0 and READY is not;
with ticking off neither is acted on. FLASH clears the sample flag; in EXPOSING its source receives the VALUE when FAULT is 0, and a FAULT ends the
exposure of a GOOD garment with cause 4 (FLASH_CUT, HEAT_OFF, the mark CUT, GEL_SHORT); elsewhere it is not acted on. -/
def Claims.AcceptedReads : Prop :=
  ∀ (s : State) (frame : List Byte) (o : OnLink) (w : Queued) (word : Word),
    s.link.onLink = some o → o.carrier = .requester .sampler → classify o frame = .accept word →
    (moduleAt s o.role).state = .present → placeAt s .sampler = { now := some w, kept := [] } → w.txn.role = o.role →
      let f := statusFields (Tbl.at o.settings.maps (roleNum o.role)) word
      let rest := s.dryer.reads.filter fun x => x != o.role
      let read (c : Source) : Source := if f.fault = 0 then { c with received := some (min 5000 f.value) } else c
      let zoneOf (z : Fin 4) : Role := match z with | 0 => .zone1 | 1 => .zone2 | 2 => .zone3 | 3 => .zone4
      let served (t : State) : Prop :=
        t.link.onLink = none ∧ t.link.service = s.link.service ∧
        (rest = [] → t.dryer.reads = [] ∧ placeAt t .sampler = { now := none, kept := [] }) ∧
        (∀ (x : Role) (xs : List Role), rest = x :: xs → unreachable s x = false →
          t.dryer.reads = rest ∧ (placeAt t .sampler).now = Claims.handed x .getStatus 0 s)
      let next : Prop := ∀ (x : Role) (xs : List Role), rest = x :: xs → unreachable s x = false
      (next → o.role ≠ .flash →
        ∃ t : State,
          exec (.tryAccept frame) s = .next t ∧ served t ∧ t = { s with link := t.link, dryer := t.dryer } ∧
          (∀ p : Requester, p ≠ .sampler → placeAt t p = placeAt s p) ∧
          t.dryer = { s.dryer with reads := t.dryer.reads, zones := t.dryer.zones, running := t.dryer.running } ∧
          (∀ z : Fin 4, zoneAt t z = if s.dryer.ticking = true ∧ o.role = zoneOf z then read (zoneAt s z) else zoneAt s z) ∧
          (s.dryer.ticking = true → o.role = .beltDrive → t.dryer.running = (f.fault == 0 && f.ready != 0)) ∧
          (s.dryer.ticking = false ∨ o.role ≠ .beltDrive →
            (∃ z : Fin 4, o.role = zoneOf z) ∨ o.role = .beltDrive → t.dryer.running = s.dryer.running)) ∧
      (next → o.role = .flash →
        (s.flash.state ≠ .exposing ∨ f.fault = 0 →
          ∃ t : State,
            exec (.tryAccept frame) s = .next t ∧ served t ∧
            t = { s with link := t.link, dryer := { s.dryer with reads := t.dryer.reads }, flash := t.flash } ∧
            (∀ p : Requester, p ≠ .sampler → placeAt t p = placeAt s p) ∧
            t.flash =
              { s.flash with
                sampling := false
                source := if s.flash.state = .exposing then read s.flash.source else s.flash.source }) ∧
        (∀ (j : PrintJob) (r : Garment), s.flash.state = .exposing → f.fault ≠ 0 → s.flash.job = some j →
          garmentAt s j.garment.index = some r → r.cond = .good → (placeAt s .flash).now = none →
          unreachable s .flash = false →
            ∃ (t : State) (r' : Garment),
              exec (.tryAccept frame) s = .next t ∧ served t ∧
              t.flash = { s.flash with state := .ending, limit := none, sampling := false } ∧
              (placeAt t .flash).now = Claims.handed .flash .putCmd 0x00000007#32 s ∧
              garmentAt t j.garment.index = some r' ∧ r'.cond = .failed ∧ r'.fault = some .gelShort ∧ r'.flash = .cut ∧
              (s.reports.fifo.length < 16 →
                { incident .flashCut with
                  slot := some r.slot, garment := some j.garment.index, serial := r.serial, key := keyOf s r.slot
                  detail := 4, value := r.flashDose / 10000, time := s.clock } ∈ t.reports.fifo)))

/-- An accepted display transaction, an accepted sampler read and an accepted probe, and a probe whose role has left the address it went to (whose answer does not count for the
role's new entry: deduced by the model, log entry 41). -/
def Obligations.AcceptedTries : Prop :=
  Claims.AcceptCompletesTransaction ∧ Claims.AcceptedReads ∧ Claims.AcceptedProbeBringsModuleBack ∧
  Claims.ProbeOfALeftAddressIsIdle

/-- A requester's try ends with DECLINE: with tries left it waits out the retry gap and keeps its place and rank time; the module entry and every other
place are as they were. -/
def Claims.DeclineWaitsOutTheRetryGap : Prop :=
  ∀ (s : State) (frame : List Byte) (o : OnLink) (w : Queued) (q : Requester),
    s.link.onLink = some o → o.carrier = .requester q → classify o frame = .decline → (placeAt s q).now = some w →
    w.tries + 1 ≤ o.settings.retryLimit → w.withdrawn = false → unreachable s w.txn.role = false →
      ∃ t : State,
        exec (.tryDecline frame) s = .next t ∧ t = { s with link := t.link } ∧ t.link.onLink = none ∧
        t.link.modules = s.link.modules ∧ t.link.attention = s.link.attention ∧
        placeAt t q =
          { placeAt s q with
            now :=
              some
                { w with
                  tries := w.tries + 1
                  state := .retryGap (s.clock + BitVec.ofNat 32 (o.settings.gap * 100)) } } ∧
        (∀ p : Requester, p ≠ q → placeAt t p = placeAt s p)

/-- An attention service's first transfer ends with DECLINE: the service is over and its line's decline hold time runs for the retry gap. -/
def Claims.DeclinedServiceHoldsItsLine : Prop :=
  ∀ (s : State) (frame : List Byte) (o : OnLink) (v : Service),
    s.link.onLink = some o → o.carrier = .attention → classify o frame = .decline → s.link.service = some v →
    v.status = none →
      ∃ t : State,
        exec (.tryDecline frame) s = .next t ∧ t = { s with link := t.link } ∧ t.link.onLink = none ∧
        t.link.service = none ∧ (attnAt t v.line).hold = some (s.clock + BitVec.ofNat 32 (v.settings.gap * 100)) ∧
        (attnAt t v.line).served = anyReady s ∧ (∀ b : Fin 8, b ≠ v.line → attnAt t b = attnAt s b) ∧
        t.link.modules = s.link.modules ∧ t.link.places = s.link.places

/-- A display transaction's try to a scanner ends in silence: it completes, and the module's silence count rises by one; at the third the module is LOST
with MODULE_LOST and a probe one second on. A module already LOST stays as it is. -/
def Claims.ThirdSilenceLosesTheModule : Prop :=
  ∀ (s : State) (frame : List Byte) (o : OnLink) (w : Queued) (q : Requester),
    s.link.onLink = some o → roleAddr s o.role = some o.addr → o.carrier = .requester q → q = .load ∨ q = .pack →
    classify o frame = .silence → o.role = .loadScanner ∨ o.role = .packScanner → (placeAt s q).now = some w → (placeAt s q).kept = [] →
    s.ctl.mode = .idle →
    (∀ (p : Requester) (n : Queued), p ≠ q → (placeAt s p).now = some n → n.txn.role ≠ o.role) →
      ∃ t : State,
        exec (.trySilence frame) s = .next t ∧ t = { s with link := t.link, reports := t.reports } ∧
        t.link.onLink = none ∧ placeAt t q = { now := none, kept := [] } ∧
        (∀ p : Requester, p ≠ q → placeAt t p = placeAt s p) ∧
        (∀ r : Role, r ≠ o.role → moduleAt t r = moduleAt s r) ∧
        ((moduleAt s o.role).state = .lost → moduleAt t o.role = moduleAt s o.role ∧ t.reports = s.reports) ∧
        ((moduleAt s o.role).state ≠ .lost → (moduleAt s o.role).silences < 2 →
          moduleAt t o.role = { moduleAt s o.role with silences := (moduleAt s o.role).silences + 1 } ∧
          t.reports = s.reports) ∧
        ((moduleAt s o.role).state ≠ .lost → 2 ≤ (moduleAt s o.role).silences →
          moduleAt t o.role =
            { state := .lost, silences := 3, probe := some (s.clock + 100000#32), probeReady := false } ∧
          t.reports =
            Claims.raised
              { incident .moduleLost with detail := (roleNum o.role).val, value := o.addr.toNat } s)

/-- A declined transaction, a declined attention service, and silences. (That the served mark of a declined service's line then counts the requesters' ready
transactions alone, and no due probe, is the model's choice, log entry 15.) -/
def Obligations.DeclinedAndSilentTries : Prop :=
  Claims.DeclineWaitsOutTheRetryGap ∧ Claims.DeclinedServiceHoldsItsLine ∧ Claims.ThirdSilenceLosesTheModule

/-- Retry, probe and hold times: once each has passed, the transaction is ready for a choice again, the second transfer of a pair is on the link again, the
probe is ready, and the line's decline hold is over; before that nothing happens. -/
def Obligations.LinkTimesMakeWorkReady : Prop :=
  ∀ s : State,
    (∀ (q : Requester) (w : Queued) (due : Clock), (placeAt s q).now = some w → w.state = .retryGap due →
      (reached s due = false → exec (.retryTimeDue (.requester q)) s = .next s) ∧
      (reached s due = true →
        ∃ t : State,
          exec (.retryTimeDue (.requester q)) s = .next t ∧ t = { s with link := { s.link with places := t.link.places } } ∧
          placeAt t q = { placeAt s q with now := some { w with state := .queued } } ∧
          (∀ p : Requester, p ≠ q → placeAt t p = placeAt s p))) ∧
    (∀ (v : Service) (due : Clock), s.link.service = some v → v.retryAt = some due →
      (reached s due = false → exec (.retryTimeDue .pair) s = .next s) ∧
      (reached s due = true →
        exec (.retryTimeDue .pair) s =
          .next
            { s with
              link :=
                { s.link with
                  service := some { v with retryAt := none }
                  onLink :=
                    some
                      { carrier := .attention, role := v.role, addr := v.addr, kind := .getData, continued := false
                        word := 0, settings := v.settings } } })) ∧
    (∀ (r : Role) (due : Clock), attached s = true → (roleAddr s r).isSome = true → (moduleAt s r).probe = some due →
      (moduleAt s r).probeReady = false →
      (reached s due = false → exec (.probeDue r) s = .next s) ∧
      (reached s due = true →
        ∃ t : State,
          exec (.probeDue r) s = .next t ∧ t = { s with link := { s.link with modules := t.link.modules } } ∧
          moduleAt t r = { moduleAt s r with probeReady := true } ∧
          (∀ p : Role, p ≠ r → moduleAt t p = moduleAt s p))) ∧
    (∀ (a : Fin 8) (due : Clock), (attnAt s a).hold = some due →
      (reached s due = false → exec (.declineHoldPasses a) s = .next s) ∧
      (reached s due = true →
        ∃ t : State,
          exec (.declineHoldPasses a) s = .next t ∧ t = { s with link := { s.link with attention := t.link.attention } } ∧
          attnAt t a = { attnAt s a with hold := none } ∧ (∀ b : Fin 8, b ≠ a → attnAt t b = attnAt s b)))

/-! ## The carousel -/

/-- An index starts when the line is in RUN and homed, nothing is in flight and all seven release flags are set; a home starts when one is asked for, the
carousel is unhomed and neither the drive nor a station is at work. Each enters MOVING with the index timer running and its command in the CAROUSEL
place. With its gate shut neither starts. -/
def Claims.IndexAndHomeStart : Prop :=
  ∀ s : State,
    (¬(s.ctl.mode = .run ∧ s.carousel.homed = true ∧ s.carousel.op = .none ∧ ∀ st : Station, released s st = true) →
      exec .indexStart s = .next s) ∧
    (¬(s.carousel.homeAsked = true ∧ s.carousel.homed = false ∧ s.carousel.op = .none ∧ stationWork s = false ∧
        (s.ctl.mode = .run ∨ s.ctl.mode = .hold)) →
      exec .homeStart s = .next s) ∧
    (s.ctl.mode = .run → s.carousel.homed = true → s.carousel.op = .none → (∀ st : Station, released s st = true) →
      (placeAt s .carousel).now = none → unreachable s .indexDrive = false →
        ∃ t : State,
          exec .indexStart s = .next t ∧ t = { s with carousel := t.carousel, link := t.link } ∧
          t.carousel =
            { s.carousel with
              op := .moving false
              timer := some { start := s.clock, limit := s.config.indexTimeout * 100 } } ∧
          t.link = { s.link with places := t.link.places } ∧
          (placeAt t .carousel).now =
            some { txn := { role := .indexDrive, kind := .putCmd, word := 0x00000001#32, acted := true }, rank := s.clock
                   tries := 0, state := .queued, withdrawn := false } ∧
          (∀ p : Requester, p ≠ .carousel → placeAt t p = placeAt s p)) ∧
    (s.carousel.homeAsked = true → s.carousel.homed = false → s.carousel.op = .none → stationWork s = false →
      s.ctl.mode = .run ∨ s.ctl.mode = .hold → (placeAt s .carousel).now = none → unreachable s .indexDrive = false →
        ∃ t : State,
          exec .homeStart s = .next t ∧ t = { s with carousel := t.carousel, link := t.link } ∧
          t.carousel =
            { s.carousel with
              op := .moving true
              homeAsked := false
              timer := some { start := s.clock, limit := s.config.indexTimeout * 100 } } ∧
          t.link = { s.link with places := t.link.places } ∧
          (placeAt t .carousel).now =
            some { txn := { role := .indexDrive, kind := .putCmd, word := 0x00000002#32, acted := true }, rank := s.clock
                   tries := 0, state := .queued, withdrawn := false } ∧
          (∀ p : Requester, p ≠ .carousel → placeAt t p = placeAt s p))

/-- An index or a home whose INDEX_DRIVE is out of reach, the CAROUSEL place empty, faults at once with cause 3: nothing is in flight and the timer is
stopped, the carousel is unhomed with the map as it was, INDEX_FAULT stands, a line in RUN is in HOLD, nothing is in the CAROUSEL place, and the incident
carries the value 1 for a home. A RUN request pending on the home is refused. -/
def Claims.UnreachableDriveFaults : Prop :=
  ∀ (s : State) (home : Bool),
    s.carousel.op = .none → (placeAt s .carousel).now = none → unreachable s .indexDrive = true → s.dryer.ticking = true →
    (home = false → s.ctl.mode = .run ∧ s.carousel.homed = true ∧ ∀ st : Station, released s st = true) →
    (home = true →
      s.carousel.homeAsked = true ∧ s.carousel.homed = false ∧ stationWork s = false ∧ (s.ctl.mode = .run ∨ s.ctl.mode = .hold)) →
      ∃ t : State,
        exec (if home then .homeStart else .indexStart) s = .next t ∧
        t.carousel =
          { s.carousel with op := .none, timer := none, homed := false, homeAsked := s.carousel.homeAsked && !home } ∧
        t.ctl.causes = { s.ctl.causes with indexFault := true } ∧ t.ctl.mode = .hold ∧ (placeAt t .carousel).now = none ∧
        t.garments = s.garments ∧ t.lines = s.lines ∧ t.dryer = s.dryer ∧
        (s.reports.fifo.length + 3 ≤ 16 →
          { incident .indexFault with detail := 3, value := home.toNat, time := s.clock } ∈ t.reports.fifo) ∧
        (home = true → s.ctl.request = .pendingHome → t.ctl.request = .absent ∧ t.ctl.refused = true) ∧
        (home = false ∨ s.ctl.request ≠ .pendingHome → t.ctl.request = s.ctl.request ∧ t.ctl.refused = s.ctl.refused)

/-- An index or a home starts behind its gate, settles at the INDEX_HOME edge, and faults at once without its drive. -/
def Obligations.IndexAndHomeStartAndSettle : Prop :=
  Claims.HomeEdgeSettles ∧ Claims.IndexAndHomeStart ∧ Claims.UnreachableDriveFaults

/-- The expiry of the index timer is an index fault: the operation ends without rotating the map, the carousel is unhomed, INDEX_FAULT is added, a line in
RUN goes to HOLD, and INDEX_FAULT is raised with cause 0 and value 1 for a home. A RUN request pending on that home is refused with detail 6 and
the hold-cause set. -/
def Claims.IndexTimerExpiryFaults : Prop :=
  ∀ (s : State) (tm : Timer), s.carousel.op ≠ .none → s.carousel.timer = some tm →
    ((s.clock - tm.start).toNat < tm.limit → exec .indexTimerExpiry s = .next s) ∧
    (tm.limit ≤ (s.clock - tm.start).toNat → s.dryer.ticking = true →
      ∃ t : State,
        exec .indexTimerExpiry s = .next t ∧ t.carousel = { s.carousel with op := .none, timer := none, homed := false } ∧
        t.ctl.causes.indexFault = true ∧ (s.ctl.mode = .run → t.ctl.mode = .hold) ∧
        (s.ctl.mode ≠ .run → s.ctl.mode ≠ .warming → t.ctl.mode = s.ctl.mode) ∧ t.garments = s.garments ∧
        t.lines = s.lines ∧
        (s.reports.fifo.length + 2 ≤ 16 →
          { incident .indexFault with value := (homing s).toNat, time := s.clock } ∈ t.reports.fifo) ∧
        (s.carousel.op = .moving true ∨ s.carousel.op = .settling true → s.ctl.request = .pendingHome →
          t.ctl.request = .absent ∧ t.ctl.refused = true ∧
          (s.reports.fifo.length + 3 ≤ 16 →
            { incident .runRefused with
              detail := 6, value := causesCode { s.ctl.causes with indexFault := true }, time := s.clock } ∈ t.reports.fifo)))

/-- A status of a role with DONE set and FAULT clear is about to be served as an attention, its module PRESENT. -/
def Claims.statusDone (s : State) (frame : List Byte) (role : Role) : Prop :=
  ∃ (o : OnLink) (v : Service) (word : Word),
    s.link.onLink = some o ∧ o.carrier = .attention ∧ classify o frame = .accept word ∧ s.link.service = some v ∧
    v.role = role ∧ o.role = role ∧ (moduleAt s role).state = .present ∧
    (statusFields (Tbl.at v.settings.maps (roleNum role)) word).fault = 0 ∧
    (statusFields (Tbl.at v.settings.maps (roleNum role)) word).done ≠ 0

/-- What the end of an index or a home does to the carousel: the operation is over, and the map rotates by one position, so that each platen stands one
position on. -/
def Claims.rotated (s t : State) : Prop :=
  t.carousel.op = .none ∧ t.carousel.timer = none ∧ t.link.onLink = none ∧ t.link.service = none ∧
  (∀ q : Fin 12, platenAt t (q + 1) = platenAt s q) ∧ (∀ p : Fin 12, platenOf t p = platenOf s p)

/-- A DONE status of INDEX_DRIVE, served as an attention while an index is SETTLING, completes the index: the operation ends and the map rotates by one
position, so that each platen stands one position on. The carousel stays homed. -/
def Claims.DriveDoneCompletesTheIndex : Prop :=
  ∀ (s : State) (frame : List Byte), Claims.statusDone s frame .indexDrive → s.carousel.op = .settling false →
    ∃ t : State,
      exec (.tryAccept frame) s = .next t ∧ Claims.rotated s t ∧ t.carousel.homed = s.carousel.homed ∧ t.ctl = s.ctl ∧
      t.lines = s.lines ∧ t.dryer = s.dryer

/-- A DONE status of INDEX_DRIVE, served while a home is SETTLING, completes the home: the map rotates as for an index, the carousel is homed, INDEX_FAULT is
out of the hold-cause set, and CAROUSEL_HOMED is raised. With no request pending the mode stays; a RUN request pending on the home is accepted: HOST and
WARMUP_TIMEOUT leave the set, the drain flag is clear, and the line enters RUN with the warm flag and WARMING without. -/
def Claims.DriveDoneCompletesTheHome : Prop :=
  ∀ (s : State) (frame : List Byte), Claims.statusDone s frame .indexDrive → s.carousel.op = .settling true →
    ∃ t : State,
      exec (.tryAccept frame) s = .next t ∧ Claims.rotated s t ∧ t.carousel.homed = true ∧
      t.ctl.causes.indexFault = false ∧ t.ctl.refused = s.ctl.refused ∧ t.ctl.warm = s.ctl.warm ∧ t.lines = s.lines ∧
      (s.reports.fifo.length + 4 ≤ 16 → { incident .carouselHomed with time := s.clock } ∈ t.reports.fifo) ∧
      (s.ctl.request ≠ .pendingHome →
        t.ctl = { s.ctl with causes := { s.ctl.causes with indexFault := false } } ∧ t.dryer = s.dryer) ∧
      (s.ctl.request = .pendingHome → s.ctl.mode = .hold → requiredLost s = false →
        t.ctl.request = .absent ∧ t.ctl.drain = false ∧
        t.ctl.causes =
          { s.ctl.causes with host := false, indexFault := false, moduleLost := false, warmupTimeout := false } ∧
        t.ctl.mode = (if s.ctl.warm then .run else .warming))

/-- The garment on the platen at a position, with its record. -/
def Claims.shirtAt (s : State) (q : Fin 12) : Option (Fin 32 × Garment) :=
  (garmentAtPos s q).bind fun g => (garmentAt s g).map fun r => (g, r)

/-- The pretreat factor of a garment (R46): the override of its line where it has one, or else the factor of its blank. -/
def Claims.factorOf (s : State) (r : Garment) : Nat :=
  (((lineAt s r.slot).snap.bind Snapshot.factor)).getD (catalogAt s r.blank).factor

/-- The channels of a list whose plane chain a garment's line has. -/
def Claims.planesOf (s : State) (r : Garment) (cs : List (Fin 6)) : List (Fin 6) :=
  cs.filter fun c => ((lineAt s r.slot).snap.bind fun p => Tbl.at p.chains c).isSome

/-- The flash requirement of a garment's line. -/
def Claims.flashNeed (s : State) (r : Garment) : Nat :=
  match (lineAt s r.slot).snap with | none => 0 | some p => p.flash

/-- The unload destination of a garment by the table of R40; a pass that was CUT has put fluid on the shirt as one that is DONE has. -/
def Claims.unloadTable (r : Garment) (d : Destination) : Prop :=
  (r.cond = .good ∨ r.cond = .voidPrinted → d = .dryer) ∧ (r.cond = .failed → d = .reject) ∧
  (r.cond = .stripped → r.pretreat = .skipped → d = .return) ∧
  (r.cond = .stripped → r.pretreat = .done ∨ r.pretreat = .cut → d = .reject)

/-- A garment is one that a station works on (R48, R60, R86, R110): GOOD, the station's mark PENDING, and for PRETREAT a factor other than 0, for
PRESS a DONE pass and a module, for a print station a plane of it, for FLASH a DONE white print, a requirement other than 0 and a module. -/
def Claims.waitsAt (s : State) (st : Station) (r : Garment) : Bool :=
  r.cond == .good &&
    match st with
    | .pretreat => r.pretreat == .pending && Claims.factorOf s r != 0
    | .press => r.press == .pending && r.pretreat == .done && (roleAddr s .press).isSome
    | .white => r.white == .pending && Claims.planesOf s r [0, 1] != []
    | .flash =>
      r.flash == .pending && r.white == .done && Claims.flashNeed s r != 0 && (roleAddr s .flash).isSome
    | .color => r.color == .pending && Claims.planesOf s r [2, 3, 4, 5] != []
    | .load => false
    | .unload => false

/-- What the completion makes of a garment record: ON_CAROUSEL when it has left LOAD, its destination when it comes to UNLOAD, and the marks that the
arrivals write: SKIPPED where the station has nothing to do for a GOOD garment with a PENDING mark (pretreat and press both with factor 0), and the
press mark CUT where the pass is DONE and the role PRESS absent. -/
def Claims.garmentArrived (s : State) (g : Fin 32) (r : Garment) : Garment :=
  let came (q : Fin 12) : Bool := garmentAtPos s q == some g
  let skips (q : Fin 12) (st : Station) (m : Mark) : Bool :=
    came q && r.cond == .good && m == .pending && !Claims.waitsAt s st r
  { r with
    place := if came 0 then .onCarousel else r.place
    dest := if came 8 then some (unloadDestination r) else r.dest
    pretreat := if skips 0 .pretreat r.pretreat then .skipped else r.pretreat
    press :=
      if skips 0 .pretreat r.pretreat then .skipped
      else if skips 1 .press r.press then (if r.pretreat = .done then .cut else .skipped)
      else r.press
    white := if skips 3 .white r.white then .skipped else r.white
    flash := if skips 4 .flash r.flash then .skipped else r.flash
    color := if skips 6 .color r.color then .skipped else r.color }

/-- The incidents that the arrivals of a completion raise: PRESS_SKIPPED for a pressable garment where the role PRESS is absent, then FLASH_SKIPPED for
one to be flashed where the role FLASH is absent. -/
def Claims.arrivalIncidents (s : State) : List Incident :=
  (match Claims.shirtAt s 1 with
    | none => []
    | some (g, r) =>
      if r.cond = .good ∧ r.press = .pending ∧ r.pretreat = .done ∧ roleAddr s .press = none then
        [{ incident .pressSkipped with slot := some r.slot, garment := some g, serial := r.serial }]
      else []) ++
  match Claims.shirtAt s 4 with
  | none => []
  | some (g, r) =>
    if r.cond = .good ∧ r.flash = .pending ∧ r.white = .done ∧ Claims.flashNeed s r ≠ 0 ∧ roleAddr s .flash = none then
      [{ incident .flashSkipped with slot := some r.slot, garment := some g, serial := r.serial, key := keyOf s r.slot }]
    else []

/-- The work that a station takes at a completion: the garment that comes to it from one position before, with the platen, where the station works on it. -/
def Claims.workAt (s : State) (st : Station) : Option (Fin 32 × Garment × Fin 12) :=
  (Claims.shirtAt s (stationPos st - 1)).bind fun (g, r) =>
    if Claims.waitsAt s st r then some (g, r, platenAt s (stationPos st - 1)) else none

/-- The job that a print or flash unit keeps. -/
def Claims.printJob (w : Fin 32 × Garment × Fin 12) : PrintJob :=
  { garment := { index := w.1, stamp := w.2.1.stamp }, platen := w.2.2, slot := w.2.1.slot }

/-- The plane starts of a unit at a completion: the garment that comes to the unit's approach position, where it is GOOD with the unit's mark PENDING,
and the channels of its planes. -/
def Claims.startsAt (s : State) (u : Printer) : Option (PlaneStart × List (Fin 6)) :=
  (Claims.shirtAt s (match u with | .white => 2 | .color => 5)).bind fun (g, r) =>
    if r.cond = .good ∧ printMark u r = .pending then
      some ({ garment := { index := g, stamp := r.stamp }, slot := r.slot }, Claims.planesOf s r (unitChannels u))
    else none

/-- The fetch engine after the plane starts. An IDLE walker takes its start at once: WALKING from the chain address, its counts 0, no stop swath, quota and
start mark from the config snapshot where the channel holds no bank. Another keeps it in its pending place, in place of one that waits there. The unit's
tally enters the channels with the garment's place, or in a new place with no count, which is put in for the oldest place whose print has not begun
where both are in use. -/
def Claims.planesStarted (s t : State) : Prop :=
  t.engine = { s.engine with walkers := t.engine.walkers, tallies := t.engine.tallies } ∧
  ∀ u : Printer,
    (∀ c ∈ unitChannels u,
      walkerAt t c =
        match Claims.startsAt s u with
        | none => walkerAt s c
        | some (ps, cs) =>
          if c ∈ cs then
            if (walkerAt s c).state = .idle then
              { state := .walking, work := some ps
                next := ((lineAt s ps.slot).snap.bind fun p => Tbl.at p.chains c).getD 0
                read := 0, swaths := 0, bands := 0, stopSwath := none
                quota := if heldBy s c = 0 then some (Tbl.at s.config.quotas c) else (walkerAt s c).quota
                startMark := if heldBy s c = 0 then some (Tbl.at s.config.startMarks c) else (walkerAt s c).startMark
                pending := none }
            else { walkerAt s c with pending := some ps }
          else walkerAt s c) ∧
    (∀ (ps : PlaneStart) (cs : List (Fin 6)), Claims.startsAt s u = some (ps, cs) → cs ≠ [] →
      let fresh : TallyPlace := { garment := ps.garment, channels := cs, count := none }
      let others : Prop := ∀ p ∈ tallyAt s u, p.garment ≠ ps.garment
      (¬others →
        tallyAt t u =
          (tallyAt s u).map fun p =>
            if p.garment = ps.garment then { p with channels := p.channels ++ cs.filter fun c => !p.channels.contains c }
            else p) ∧
      (others → (tallyAt s u).length < 2 → tallyAt t u = tallyAt s u ++ [fresh]) ∧
      (∀ old : TallyPlace, others → ¬(tallyAt s u).length < 2 →
        (tallyAt s u).find? (fun p => !printBegun t u p.garment) = some old →
          tallyAt t u = (tallyAt s u).erase old ++ [fresh])) ∧
    ((∀ (ps : PlaneStart) (cs : List (Fin 6)), Claims.startsAt s u = some (ps, cs) → cs = []) → tallyAt t u = tallyAt s u)

/-- The release set after the completion: LOAD where its new platen is disabled, UNLOAD and the work stations where it is empty or disabled, and a work
station also where it does not work on the garment that comes to it. -/
def Claims.releasesSet (s t : State) : Prop :=
  ∀ st : Station,
    let p := platenOf s (platenAt s (stationPos st - 1))
    released t st =
      (!p.enabled ||
        match st with
        | .load => false
        | .unload => p.garment.isNone
        | _ =>
          p.garment.isNone ||
            match Claims.shirtAt s (stationPos st - 1) with
            | none => false
            | some (_, r) => !Claims.waitsAt s st r)

/-- A DONE status that completes an index or a home hands its arrivals: the garment from LOAD is ON_CAROUSEL; the release set is cleared and set for
empty, disabled and unworked platens; the garment come to UNLOAD has its destination decided and its lamp lit, no lamp with none; PRETREAT and PRESS
wait (with the factor), WHITE and COLOR are ARRIVED and FLASH waits (with the requirement) for a garment they work on, and the others' marks are
SKIPPED (or CUT, with PRESS_SKIPPED); the garments come to positions 3 and 6 have their plane starts taken by the walkers and entered in the tally. -/
def Claims.CompletionHandsTheArrivals : Prop :=
  (∀ r : Garment, Claims.unloadTable r (unloadDestination r)) ∧
  ∀ (s : State) (frame : List Byte) (home : Bool),
    Claims.statusDone s frame .indexDrive → s.carousel.op = .settling home →
      ∃ t : State,
        exec (.tryAccept frame) s = .next t ∧
        (∀ g : Fin 32, garmentAt t g = (garmentAt s g).map (Claims.garmentArrived s g)) ∧ Claims.releasesSet s t ∧
        t.carousel.lamp = (Claims.shirtAt s 8).map (fun x => unloadDestination x.2) ∧
        t.pretreat =
          (match Claims.workAt s .pretreat with
            | none => s.pretreat
            | some (g, r, p) =>
              { s.pretreat with
                state := .waiting, job := some { garment := g, platen := p }, factor := Claims.factorOf s r }) ∧
        t.press =
          (match Claims.workAt s .press with
            | none => s.press
            | some (g, _, p) => { s.press with state := .waiting, job := some { garment := g, platen := p } }) ∧
        (∀ u : Printer,
          unitAt t u =
            match Claims.workAt s (printStation u) with
            | none => unitAt s u
            | some w => { unitAt s u with state := .arrived, job := some (Claims.printJob w) }) ∧
        t.flash =
          (match Claims.workAt s .flash with
            | none => s.flash
            | some w =>
              { s.flash with
                state := .waiting, job := some (Claims.printJob w), need := Claims.flashNeed s w.2.1 }) ∧
        Claims.planesStarted s t ∧
        (home = false →
          t.reports =
            (Claims.arrivalIncidents s).foldl (fun x i => pushIncident x { i with time := s.clock }) s.reports) ∧
        (s.reports.fifo.length + 2 ≤ 16 →
          ∀ i ∈ Claims.arrivalIncidents s, { i with time := s.clock } ∈ t.reports.fifo)

/-- An index or a home ends in fault at its timer's expiry, and with a DONE status of the drive, which turns the map by one and hands the
arrivals: the garments to the stations, to UNLOAD and to the fetch engine. (The order of the arrivals of one completion, and
that a pending request is accepted before a drain that is due at a home's end is tested, are the model's choices, log entries 43 and 21.) -/
def Obligations.IndexAndHomeEnd : Prop :=
  Claims.IndexTimerExpiryFaults ∧ Claims.DriveDoneCompletesTheIndex ∧ Claims.DriveDoneCompletesTheHome ∧
  Claims.CompletionHandsTheArrivals

/-! ## Pretreatment and press -/

/-- A waiting spray pass starts when the line may work and the tank is not EMPTY: parameters latched, row counter 0, every channel CLOSED, a 30 s guard,
and PASS with argument 16 in the PRETREAT place. Until then nothing happens. -/
def Claims.PassStartLatchesAndCommands : Prop :=
  ∀ s : State, s.pretreat.state = .waiting →
    (¬(mayWork s = true ∧ s.pretreat.tank.state ≠ .empty) → exec .passStart s = .next s) ∧
    (s.ctl.mode = .run → s.carousel.homed = true → s.carousel.op = .none → s.pretreat.tank.state ≠ .empty →
      (placeAt s .pretreat).now = none → unreachable s .sprayCarriage = false →
        ∃ t : State,
          exec .passStart s = .next t ∧ t = { s with pretreat := t.pretreat, link := { s.link with places := t.link.places } } ∧
          t.pretreat =
            { s.pretreat with
              state := .spraying, row := 0, latched := s.config.spray, valves := t.pretreat.valves
              guard := some { start := s.clock, limit := 3000000 } } ∧
          (∀ z : Fin 8, valveAt t z = .closed) ∧
          (placeAt t .pretreat).now = Claims.handed .sprayCarriage .putCmd 0x00001004#32 s ∧
          (∀ p : Requester, p ≠ .pretreat → placeAt t p = placeAt s p))

/-- An ARMED channel opens when its open time is reached; an OPEN one closes when its close time is reached, and the fluid of its pulse time is taken
from the tank, whose level and remainder stop at 0 and whose state follows the level. -/
def Claims.ValvesOpenAndCloseOnTime : Prop :=
  ∀ (s : State) (z : Fin 8),
    (∀ (opens closes : Clock) (pulse : Nat), valveAt s z = .armed opens closes pulse →
      (reached s opens = false → exec (.valveOpenTime z) s = .next s) ∧
      (reached s opens = true →
        ∃ t : State,
          exec (.valveOpenTime z) s = .next t ∧ t = { s with pretreat := { s.pretreat with valves := t.pretreat.valves } } ∧
          valveAt t z = .opened s.clock closes pulse ∧ valveOutput t z = true ∧
          (∀ y : Fin 8, y ≠ z → valveAt t y = valveAt s y))) ∧
    (∀ (since closes : Clock) (pulse : Nat), valveAt s z = .opened since closes pulse →
      (reached s closes = false → exec (.valveCloseTime z) s = .next s) ∧
      (reached s closes = true → s.pretreat.state = .spraying → s.pretreat.tank.rest < 1000 →
        ∃ t : State,
          exec (.valveCloseTime z) s = .next t ∧ t = { s with pretreat := t.pretreat, reports := t.reports } ∧
          t.pretreat = { s.pretreat with valves := t.pretreat.valves, tank := t.pretreat.tank } ∧
          valveAt t z = .closed ∧ valveOutput t z = false ∧ (∀ y : Fin 8, y ≠ z → valveAt t y = valveAt s y) ∧
          t.pretreat.tank.level * 1000 + t.pretreat.tank.rest =
            s.pretreat.tank.level * 1000 + s.pretreat.tank.rest - pulse * s.pretreat.latched.flow ∧
          t.pretreat.tank.rest < 1000 ∧
          t.pretreat.tank.state =
            (if t.pretreat.tank.level ≤ s.pretreat.tank.reserve then .empty
              else if t.pretreat.tank.level ≤ s.pretreat.tank.lowMark then .low
              else .ready)))

/-- The last channel to close in FINISHING completes the pass: after 16 rows the pretreat mark is DONE, the unit is IDLE and PRETREAT is released. -/
def Claims.LastValveCompletesThePass : Prop :=
  ∀ (s : State) (z : Fin 8) (since closes : Clock) (pulse : Nat) (j : Job) (r : Garment),
    s.pretreat.state = .finishing → s.pretreat.job = some j → s.pretreat.row = 16 → garmentAt s j.garment = some r →
    valveAt s z = .opened since closes pulse → reached s closes = true →
    (∀ y : Fin 8, y ≠ z → valveAt s y = .closed) → platenAt s 1 = j.platen → s.carousel.op = .none →
      ∃ t : State,
        exec (.valveCloseTime z) s = .next t ∧ t.pretreat.state = .idle ∧ t.pretreat.job = none ∧
        t.pretreat.guard = none ∧ anyValve t = false ∧ garmentAt t j.garment = some { r with pretreat := .done } ∧
        (∀ h : Fin 32, h ≠ j.garment → garmentAt t h = garmentAt s h) ∧ released t .pretreat = true ∧
        (∀ st : Station, st ≠ .pretreat → released t st = released s st) ∧ t.lines = s.lines ∧ t.link = s.link

/-- The valve channels open and close on time, and the last to close completes the pass. -/
def Obligations.ValvesRunThePass : Prop := Claims.ValvesOpenAndCloseOnTime ∧ Claims.LastValveCompletesThePass

/-- The pass guard's expiry cuts a pass in flight on a GOOD garment: the unit is IDLE with every valve CLOSED, and the garment has failed with
PRETREAT_CUT and a CUT pretreat mark. Before the expiry nothing happens. -/
def Claims.PassGuardCutsThePass : Prop :=
  ∀ (s : State) (tm : Timer) (j : Job) (r : Garment),
    s.pretreat.state = .spraying ∨ s.pretreat.state = .finishing → s.pretreat.guard = some tm →
    s.pretreat.job = some j → garmentAt s j.garment = some r → r.cond = .good →
      ((s.clock - tm.start).toNat < tm.limit → exec .passGuardExpiry s = .next s) ∧
      (tm.limit ≤ (s.clock - tm.start).toNat →
        ∃ (t : State) (r' : Garment),
          exec .passGuardExpiry s = .next t ∧ t.pretreat.state = .idle ∧ t.pretreat.job = none ∧ t.pretreat.guard = none ∧
          anyValve t = false ∧ garmentAt t j.garment = some r' ∧ r'.cond = .failed ∧ r'.fault = some .pretreatCut ∧
          r'.pretreat = .cut ∧ t.ctl = s.ctl ∧ t.dryer = s.dryer ∧ t.exch = s.exch)

/-- A waiting press cycle starts when the line may work: SETPOINT with the guard at the blank's dwell plus 10 s, and the blank's press temperature in the
PRESS place. Until then nothing happens. -/
def Claims.PressCycleStartSendsSetpoint : Prop :=
  ∀ s : State, s.press.state = .waiting →
    (mayWork s = false → exec .pressCycleStart s = .next s) ∧
    (∀ (j : Job) (r : Garment),
      s.ctl.mode = .run → s.carousel.homed = true → s.carousel.op = .none → s.press.job = some j →
      garmentAt s j.garment = some r → (placeAt s .press).now = none → unreachable s .press = false →
      (catalogAt s r.blank).pressTemp ≤ 5000 →
        ∃ t : State,
          exec .pressCycleStart s = .next t ∧
          t = { s with press := t.press, link := { s.link with places := t.link.places } } ∧
          t.press =
            { state := .setpoint, job := some j
              guard := some { start := s.clock, limit := ((catalogAt s r.blank).dwell + 10) * 100000 } } ∧
          (placeAt t .press).now = Claims.handed .press .putData (BitVec.ofNat 32 (catalogAt s r.blank).pressTemp) s ∧
          (∀ p : Requester, p ≠ .press → placeAt t p = placeAt s p))

/-- A spray pass and a press cycle start when the line may work. -/
def Obligations.PassAndPressStart : Prop := Claims.PassStartLatchesAndCommands ∧ Claims.PressCycleStartSendsSetpoint

/-- The press guard's expiry cuts a cycle in flight: the unit is IDLE, the press mark is CUT, PRESS_SKIPPED with detail 5 is raised and the garment's
condition is as it was. Before the expiry nothing happens. -/
def Claims.PressGuardCutsTheCycle : Prop :=
  ∀ (s : State) (tm : Timer) (j : Job) (r : Garment),
    s.press.state = .setpoint ∨ s.press.state = .command ∨ s.press.state = .pressing → s.press.guard = some tm →
    s.press.job = some j → garmentAt s j.garment = some r →
      ((s.clock - tm.start).toNat < tm.limit → exec .pressGuardExpiry s = .next s) ∧
      (tm.limit ≤ (s.clock - tm.start).toNat →
        ∃ t : State,
          exec .pressGuardExpiry s = .next t ∧
          t = { s with press := t.press, garments := t.garments, reports := t.reports, carousel := t.carousel, link := t.link } ∧
          t.press = { state := .idle, job := none, guard := none } ∧
          garmentAt t j.garment = some { r with press := .cut } ∧
          (∀ h : Fin 32, h ≠ j.garment → garmentAt t h = garmentAt s h) ∧
          t.reports =
            Claims.raised
              { incident .pressSkipped with
                slot := some r.slot, garment := some j.garment, serial := r.serial, detail := 5 } s ∧
          t.carousel = { s.carousel with released := t.carousel.released } ∧
          (platenAt s 2 = j.platen → s.carousel.op = .none → released t .press = true) ∧
          t.link = { s.link with places := t.link.places } ∧
          (∀ p : Requester, p ≠ .press → placeAt t p = placeAt s p))

/-- The guard timers of the pretreat and press units. -/
def Obligations.StationGuardsCutTheWork : Prop := Claims.PassGuardCutsThePass ∧ Claims.PressGuardCutsTheCycle

/-! ## Band chains -/

/-- The next bank goes to the eligible channel that holds the fewest, the lowest-numbered of those that hold the same; with no eligible channel there is
none. -/
def Claims.ChannelChoiceIsFewestHeld : Prop :=
  ∀ s : State,
    (∀ c : Fin 6, chooseChannel s = some c →
      eligible s c = true ∧
      ∀ d : Fin 6, eligible s d = true → heldBy s c < heldBy s d ∨ (heldBy s c = heldBy s d ∧ c ≤ d)) ∧
    (chooseChannel s = none ↔ ∀ d : Fin 6, eligible s d = false)

/-- A fetch starts for the chosen channel with the lowest-numbered FREE bank: the bank is FILLING with the channel as owner, and its 32-byte descriptor is
asked for. With a fetch in flight nothing starts. -/
def Claims.FetchStartTakesLowestFreeBank : Prop :=
  ∀ s : State, attached s = true →
    (s.engine.fetch ≠ none → exec .fetchStart s = .next s) ∧
    (∀ (c : Fin 6) (b : Fin 8), s.engine.fetch = none → chooseChannel s = some c → (bankAt s b).state = .free →
      (∀ x : Fin 8, x < b → (bankAt s x).state ≠ .free) →
        ∃ t : State,
          exec .fetchStart s = .next t ∧ t = { s with engine := t.engine, port := t.port } ∧
          t.engine =
            { s.engine with
              banks := t.engine.banks
              fetch := some { channel := c, bank := b, phase := .descriptor, stopping := false } } ∧
          bankAt t b = { state := .filling, owner := some c, band := none, freeAsked := false } ∧
          (∀ x : Fin 8, x ≠ b → bankAt t x = bankAt s x) ∧
          (s.port.current = none →
            t.port =
              { s.port with
                current :=
                  some { kind := .descriptor, discard := false, addr := (walkerAt s c).next, length := 32, writes := [] } }))

/-- A fetch starts for the chosen channel, in the lowest free bank, in every line mode. (That it does so in WARMING and IDLE for a walker still at work there is
the model's choice, log entry 44.) -/
def Obligations.FetchServesChosenChannel : Prop := Claims.ChannelChoiceIsFewestHeld ∧ Claims.FetchStartTakesLowestFreeBank

/-- A descriptor that is read for a fetch in flight and passes its checks is accepted: the walker's counts rise, the bank's band record is filled, and the
first burst, of at most 256 bytes, is asked for. -/
def Obligations.AcceptedDescriptorFillsTheBand : Prop :=
  ∀ (s : State) (a : Access) (f : Fetch) (ps : PlaneStart) (bytes : List Byte) (d : Descriptor),
    Claims.onlyAccess s .descriptor a → bytes.length = a.length → s.engine.fetch = some f → f.stopping = false → (walkerAt s f.channel).work = some ps →
    parseDescriptor bytes = d → checkDescriptor s f.channel ps.garment d = none →
      ∃ t : State,
        exec (.descriptorReadDone (.data bytes)) s = .next t ∧ t = { s with engine := t.engine, port := t.port } ∧
        t.engine.fetch = some { f with phase := .data d 1 } ∧ t.engine.staged = s.engine.staged ∧
        walkerAt t f.channel =
          { walkerAt s f.channel with
            read := (walkerAt s f.channel).read + 1
            bands := (walkerAt s f.channel).bands + 1
            swaths := (walkerAt s f.channel).swaths + (if d.swathEnd || d.chainEnd then 1 else 0) } ∧
        (∀ c : Fin 6, c ≠ f.channel → walkerAt t c = walkerAt s c) ∧
        bankAt t f.bank =
          { bankAt s f.bank with
            band :=
              some
                { garment := ps.garment
                  swath := (walkerAt s f.channel).swaths + 1
                  band := (walkerAt s f.channel).bands + 1
                  closes := d.swathEnd || d.chainEnd
                  passes := d.repass + 1
                  length := d.length
                  drops := d.drops
                  tag := d.tag } } ∧
        (∀ b : Fin 8, b ≠ f.bank → bankAt t b = bankAt s b) ∧
        t.port = Claims.portReads .burst d.dataAddr (min 256 d.length) s

/-- A descriptor read that ends in error is a chain fault: the fetch ends, its bank is FREE, and the garment, live and GOOD, has failed with
CHAIN_FAULT. (No lane emits from a bank that a fetch still fills.) -/
def Claims.DescriptorErrorFailsTheGarment : Prop :=
  ∀ (s : State) (a : Access) (f : Fetch) (ps : PlaneStart) (r : Garment),
    s.port.current = some a → a.kind = .descriptor → a.discard = false → AccessKind.descriptor ∉ s.port.late →
    s.engine.fetch = some f → f.stopping = false → (walkerAt s f.channel).work = some ps → garmentAt s ps.garment.index = some r → r.cond = .good →
    (∀ c : Fin 6, (laneAt s c).bank ≠ some f.bank) →
      ∃ (t : State) (r' : Garment),
        exec (.descriptorReadDone .error) s = .next t ∧ t.engine.fetch = none ∧ (bankAt t f.bank).state = .free ∧
        garmentAt t ps.garment.index = some r' ∧ r'.cond = .failed ∧ r'.fault = some .chainFault ∧
        tallyFor t (channelUnit f.channel) ps.garment = none ∧ t.staging = s.staging

/-- The checks on a descriptor that was read, in their order: the first that fails gives the fault. -/
def Claims.DescriptorChecksInOrder : Prop :=
  ∀ (s : State) (c : Fin 6) (g : GarmentId) (d : Descriptor),
    let misaligned := d.dataAddr.toNat % 8 ≠ 0 ∨ (d.chainEnd = false ∧ d.nextAddr.toNat % 8 ≠ 0)
    let badLength := d.length < 64 ∨ 65536 < d.length ∨ d.length % 8 ≠ 0
    let noEnd := d.chainEnd = false ∧ d.nextAddr = 0
    let bands := d.chainEnd = false ∧ (walkerAt s c).read + 1 = 4096
    let swaths := d.chainEnd = false ∧ d.swathEnd = true ∧ (walkerAt s c).swaths + 1 = 64
    (misaligned → checkDescriptor s c g d = some .misaligned) ∧
    (¬misaligned → badLength → checkDescriptor s c g d = some .badLength) ∧
    (¬misaligned → ¬badLength → noEnd → checkDescriptor s c g d = some .noChainEnd) ∧
    (¬misaligned → ¬badLength → ¬noEnd → bands → checkDescriptor s c g d = some .tooManyBands) ∧
    (¬misaligned → ¬badLength → ¬noEnd → ¬bands → swaths → checkDescriptor s c g d = some .tooManySwaths) ∧
    (¬misaligned → ¬badLength → ¬noEnd → ¬bands → ¬swaths →
      (badRepass s c g d = true → checkDescriptor s c g d = some .badRepass) ∧
      (badRepass s c g d = false → badSwathCount s c g d = true → checkDescriptor s c g d = some .swathCount) ∧
      (badRepass s c g d = false → badSwathCount s c g d = false → checkDescriptor s c g d = none))

/-- The checks on a descriptor, in their order, and what a chain fault does. -/
def Obligations.DescriptorFaults : Prop := Claims.DescriptorErrorFailsTheGarment ∧ Claims.DescriptorChecksInOrder

/-- A data burst puts its bytes in the fetch's bank at its place and nowhere else; with bursts left the next is asked for, and with the last the bank joins
the tail of its channel's staged queue and the fetch is over. -/
def Obligations.BurstsFillTheBank : Prop :=
  ∀ (s : State) (a : Access) (f : Fetch) (d : Descriptor) (i : Nat) (bytes : List Byte),
    Claims.onlyAccess s .burst a → bytes.length = a.length → s.engine.fetch = some f → f.phase = .data d i → f.stopping = false → 1 ≤ i → Memory.wf s.staging = true →
      ∃ t : State,
        exec (.dataBurstDone (.data bytes)) s = .next t ∧
        (∀ x : Nat,
          Memory.read t.staging x =
            let start := 65536 * f.bank.val + 256 * (i - 1)
            if start ≤ x ∧ x < start + bytes.length then bytes.getD (x - start) 0 else Memory.read s.staging x) ∧
        Memory.wf t.staging = true ∧
        (256 * i < d.length →
          t = { s with engine := t.engine, port := t.port, staging := t.staging } ∧
          t.engine = { s.engine with fetch := some { f with phase := .data d (i + 1) } } ∧
          t.port = Claims.portReads .burst (d.dataAddr + BitVec.ofNat 64 (256 * i)) (min 256 (d.length - 256 * i)) s) ∧
        (d.length ≤ 256 * i → (bankAt s f.bank).freeAsked = false →
          t = { s with engine := t.engine, port := t.port, staging := t.staging } ∧ t.engine.fetch = none ∧
          t.port = Claims.portFree s ∧ bankAt t f.bank = { bankAt s f.bank with state := .staged } ∧
          stagedAt t f.channel = stagedAt s f.channel ++ [f.bank] ∧
          (∀ c : Fin 6, c ≠ f.channel → stagedAt t c = stagedAt s c ∧ walkerAt t c = walkerAt s c) ∧
          t.engine.tallies = s.engine.tallies)

/-! ## Printing -/

/-- An arrived print begins when the line may work: with a tally place the unit is WAITING for swath 1 of the place's channels with the starve timer
running; with none the print is cut and the garment, live and GOOD, has failed with PRINT_STARVED. Until then nothing happens. (That the passes and
the pass of the WAITING unit and the last pass of an OFF lane are 0 is the model's choice, log entry 37.) -/
def Obligations.PrintBeginsFromItsTallyPlace : Prop :=
  ∀ (s : State) (u : Printer) (j : PrintJob), (unitAt s u).state = .arrived → (unitAt s u).job = some j →
    (mayWork s = false → exec (.printBegin u) s = .next s) ∧
    (∀ place : TallyPlace, mayWork s = true → tallyFor s u j.garment = some place →
      ∃ t : State,
        exec (.printBegin u) s = .next t ∧ t = { s with prints := t.prints, lanes := t.lanes } ∧
        unitAt t u =
          { state := .waiting, job := some j, active := place.channels, swath := 1, passes := 0, pass := 0, graceful := false
            starve := some { start := s.clock, limit := s.config.starveLimit * 100 }
            starveLimit := s.config.starveLimit, guard := none } ∧
        (∀ v : Printer, v ≠ u → unitAt t v = unitAt s v) ∧
        (∀ c : Fin 6, channelUnit c = u → laneAt t c = { state := .off, sum := 0, bank := none, lastPass := 0 }) ∧
        (∀ c : Fin 6, channelUnit c ≠ u → laneAt t c = laneAt s c)) ∧
    (∀ r : Garment, mayWork s = true → tallyFor s u j.garment = none → garmentAt s j.garment.index = some r →
      r.cond = .good →
        ∃ (t : State) (r' : Garment),
          exec (.printBegin u) s = .next t ∧ (unitAt t u).state = .idle ∧ garmentAt t j.garment.index = some r' ∧
          r'.cond = .failed ∧ r'.fault = some .printStarved ∧ printMark u r' = .cut)

/-- A waiting swath starts when every active channel holds its start mark of the swath's bands or the band that closes it: the passes are the most of the
active channels', COMMAND with a 30 s guard, and PASS with the passes and the swath number in the unit's place. -/
def Obligations.SwathStartCommandsTheCarriage : Prop :=
  ∀ (s : State) (u : Printer) (j : PrintJob),
    (unitAt s u).state = .waiting → (unitAt s u).job = some j →
      ((∃ c ∈ (unitAt s u).active, channelReady s j.garment (unitAt s u).swath c = false) →
        exec (.swathStart u) s = .next s) ∧
      ((∀ c ∈ (unitAt s u).active, channelReady s j.garment (unitAt s u).swath c = true) →
        (placeAt s (printRequester u)).now = none → unreachable s (printRole u) = false →
        (∀ c ∈ (unitAt s u).active, channelPasses s j.garment (unitAt s u).swath c ≤ 4) → (unitAt s u).swath ≤ 64 →
          ∃ (t : State) (passes : Nat),
            exec (.swathStart u) s = .next t ∧
            t = { s with prints := t.prints, lanes := t.lanes, link := { s.link with places := t.link.places } } ∧
            1 ≤ passes ∧
            (∀ c ∈ (unitAt s u).active, channelPasses s j.garment (unitAt s u).swath c ≤ passes) ∧
            (passes = 1 ∨
              ∃ c ∈ (unitAt s u).active, channelPasses s j.garment (unitAt s u).swath c = passes) ∧
            unitAt t u =
              { unitAt s u with
                state := .command, passes := passes, pass := 1, starve := none
                guard := some { start := s.clock, limit := 3000000 } } ∧
            (∀ v : Printer, v ≠ u → unitAt t v = unitAt s v) ∧
            (∀ c ∈ (unitAt s u).active, (laneAt t c).sum = 0) ∧
            (placeAt t (printRequester u)).now =
              Claims.handed (printRole u) .putCmd
                (BitVec.ofNat 32 (4 + 256 * (128 * (passes - 1) + (unitAt s u).swath))) s)

/-- What a print cut leaves of a unit's print of a garment that was live and GOOD. -/
def Claims.printIsCut (u : Printer) (j : PrintJob) (code : FaultCode) (t : State) : Prop :=
  unitAt t u =
    { state := .idle, job := none, active := [], swath := 0, passes := 0, pass := 0, graceful := false, starve := none
      starveLimit := 0, guard := none } ∧
  (∀ c : Fin 6, channelUnit c = u → (laneAt t c).state = .off ∧ (laneAt t c).bank = none) ∧
  tallyFor t u j.garment = none ∧
  ∃ r' : Garment,
    garmentAt t j.garment.index = some r' ∧ r'.cond = .failed ∧ r'.fault = some code ∧ printMark u r' = .cut

/-- The starve limit's passing in WAITING cuts the print with PRINT_STARVED while a channel still lacks its start condition, and changes nothing once every
channel has it; the swath guard's expiry in COMMAND or PRINTING cuts it with PRINT_UNDERRUN; before each time nothing happens. (That the passes and
the starve limit of the IDLE unit are 0, its swath and pass absent, its active set empty and its cancel flag clear, is the model's choice, log entry 37.) -/
def Obligations.PrintTimersCutThePrint : Prop :=
  ∀ (s : State) (u : Printer) (tm : Timer) (j : PrintJob) (r : Garment),
    (unitAt s u).job = some j → garmentAt s j.garment.index = some r → r.cond = .good →
      ((unitAt s u).state = .waiting → (unitAt s u).starve = some tm →
        ((s.clock - tm.start).toNat < tm.limit → exec (.starveTimerExpiry u) s = .next s) ∧
        ((∀ c ∈ (unitAt s u).active, channelReady s j.garment (unitAt s u).swath c = true) →
          exec (.starveTimerExpiry u) s = .next s) ∧
        (tm.limit ≤ (s.clock - tm.start).toNat →
          (∃ c ∈ (unitAt s u).active, channelReady s j.garment (unitAt s u).swath c = false) →
            ∃ t : State, exec (.starveTimerExpiry u) s = .next t ∧ Claims.printIsCut u j .printStarved t ∧ t.ctl = s.ctl)) ∧
      ((unitAt s u).state = .command ∨ (unitAt s u).state = .printing → (unitAt s u).guard = some tm →
        ((s.clock - tm.start).toNat < tm.limit → exec (.swathGuardExpiry u) s = .next s) ∧
        (tm.limit ≤ (s.clock - tm.start).toNat →
          ∃ t : State, exec (.swathGuardExpiry u) s = .next t ∧ Claims.printIsCut u j .printUnderrun t ∧ t.ctl = s.ctl))

/-- A band's last byte leaves a lane: its drops are added to the channel's sum, saturating. In the channel's last pass its bank is FREE, and the lane is
COMPLETE after the closing band, and STOPPED after another when no bank of the channel holds the swath's next band. -/
def Obligations.BandEmissionSumsDrops : Prop :=
  ∀ (s : State) (c : Fin 6) (j : PrintJob) (b : Fin 8) (r : Band),
    (unitAt s (channelUnit c)).state = .printing → (laneAt s c).state = .emitting →
    (unitAt s (channelUnit c)).job = some j → (laneAt s c).bank = some b → (bankAt s b).band = some r →
    (bankAt s b).owner = some c →
      ∃ t : State,
        exec (.bandEmissionDone c) s = .next t ∧
        t = { s with engine := t.engine, lanes := t.lanes, prints := t.prints } ∧
        (laneAt t c).sum = min 4294967295 ((laneAt s c).sum + r.drops) ∧
        t.engine.walkers = s.engine.walkers ∧ t.engine.tallies = s.engine.tallies ∧ t.engine.fetch = s.engine.fetch ∧
        ((laneAt s c).lastPass ≤ (unitAt s (channelUnit c)).pass →
          (r.closes = true → (laneAt t c).state = .complete ∧ (laneAt t c).bank = none ∧ (bankAt t b).state = .free) ∧
          (r.closes = false →
            (∀ x ∈ stagedAt s c, x ≠ b → bandOfSwath s j.garment r.swath (fun y => y.band == r.band + 1) x = false) →
              (laneAt t c).state = .stopped ∧ (laneAt t c).bank = none ∧ (bankAt t b).state = .free))


/-! ## Heat -/

/-- The temperature a source yields at a tick (R107): the value received since the last one, or the last good value while its age, raised by one, is
within the hold count. -/
def Claims.tickTemp (hold : Nat) (c : Source) : Option Nat :=
  match c.received with
  | some v => some v
  | none => if c.age + 1 ≤ hold then c.lastGood else none

/-- A dose after a tick (R102, R103): the excess over the base, at most the ceiling, times the period is added, saturating; without a temperature
nothing is. -/
def Claims.doseAfter (base ceiling period dose : Nat) (temp : Option Nat) : Nat :=
  match temp with
  | none => dose
  | some t => min 4294967295 (dose + min ceiling (t - base) * period)

/-- A waiting exposure starts when the line may work: HEATING with the period latched, the source empty, the sample flag clear, the flash limit running,
and HEAT_ON in the FLASH place. Until then nothing happens. -/
def Claims.ExposureStartSendsHeatOn : Prop :=
  ∀ s : State, s.flash.state = .waiting →
    (mayWork s = false → exec .exposureStart s = .next s) ∧
    (s.ctl.mode = .run → s.carousel.homed = true → s.carousel.op = .none → (placeAt s .flash).now = none →
      unreachable s .flash = false →
        ∃ t : State,
          exec .exposureStart s = .next t ∧
          t = { s with flash := t.flash, link := { s.link with places := t.link.places } } ∧
          t.flash =
            { s.flash with
              state := .heating, periodMs := s.config.periodMs
              source := { received := none, lastGood := none, age := 0, state := .stale }, sampling := false
              limit := some { start := s.clock, limit := s.config.flashLimit * 100000 } } ∧
          (placeAt t .flash).now = Claims.handed .flash .putCmd 0x00000006#32 s ∧
          (∀ p : Requester, p ≠ .flash → placeAt t p = placeAt s p))

/-- The flash limit's expiry ends an exposure of a GOOD garment in fault: ENDING with HEAT_OFF in the FLASH place, the mark CUT and the garment FAILED with
GEL_SHORT. Before the expiry nothing happens. -/
def Claims.FlashLimitCutsTheExposure : Prop :=
  ∀ (s : State) (tm : Timer) (j : PrintJob) (r : Garment),
    s.flash.state = .heating ∨ s.flash.state = .exposing → s.flash.limit = some tm → s.flash.job = some j →
    garmentAt s j.garment.index = some r → r.cond = .good →
      ((s.clock - tm.start).toNat < tm.limit → exec .flashLimitExpiry s = .next s) ∧
      (tm.limit ≤ (s.clock - tm.start).toNat → (placeAt s .flash).now = none → unreachable s .flash = false →
        ∃ (t : State) (r' : Garment),
          exec .flashLimitExpiry s = .next t ∧ t.flash = { s.flash with state := .ending, limit := none } ∧
          (placeAt t .flash).now = Claims.handed .flash .putCmd 0x00000007#32 s ∧
          garmentAt t j.garment.index = some r' ∧ r'.cond = .failed ∧ r'.fault = some .gelShort ∧ r'.flash = .cut ∧
          t.ctl = s.ctl ∧ t.dryer = s.dryer ∧ t.exch = s.exch)

/-- The start of an exposure, and its end by the flash limit. -/
def Obligations.ExposureStartAndLimit : Prop := Claims.ExposureStartSendsHeatOn ∧ Claims.FlashLimitCutsTheExposure

/-- A flash period tick that is due adds the increment of the source's temperature to the garment's flash dose. A dose that meets the requirement ends the
exposure: mark DONE, ENDING, HEAT_OFF in the FLASH place; otherwise the exposure goes on to the next tick, one latched period later, with a
sample asked for. A tick that is not due does nothing. (That the next tick counts from the nominal time of this one, and that no sample is asked for at the
tick that ends the exposure, are the model's choices, log entry 31.) -/
def Obligations.FlashTickAddsDose : Prop :=
  ∀ (s : State) (j : PrintJob) (r : Garment),
    s.flash.state = .exposing → s.flash.job = some j → garmentAt s j.garment.index = some r →
      (reached s s.flash.nextTick = false → exec .flashPeriodTick s = .next s) ∧
      (reached s s.flash.nextTick = true → unreachable s .flash = false →
        let temp := Claims.tickTemp s.config.holdCount s.flash.source
        let dose := Claims.doseAfter s.config.flashBase s.config.flashCeiling s.flash.periodMs r.flashDose temp
        ∃ t : State,
          exec .flashPeriodTick s = .next t ∧
          t.flash.nextTick = s.flash.nextTick + BitVec.ofNat 32 (s.flash.periodMs * 100) ∧
          t.flash.source.received = none ∧ t.flash.job = some j ∧
          (∀ h : Fin 32, h ≠ j.garment.index → garmentAt t h = garmentAt s h) ∧ t.reports = s.reports ∧ t.ctl = s.ctl ∧
          (dose < s.flash.need * 10000 →
            t =
              { s with
                flash := t.flash, garments := t.garments, dryer := { s.dryer with reads := t.dryer.reads }
                link := { s.link with places := t.link.places } } ∧
            t.flash.state = .exposing ∧ t.flash.sampling = true ∧ t.flash.limit = s.flash.limit ∧
            garmentAt t j.garment.index = some { r with flashDose := dose }) ∧
          (s.flash.need * 10000 ≤ dose → (placeAt s .flash).now = none →
            t = { s with flash := t.flash, garments := t.garments, link := { s.link with places := t.link.places } } ∧
            t.flash.state = .ending ∧ t.flash.limit = none ∧
            garmentAt t j.garment.index = some { r with flashDose := dose, flash := .done } ∧
            (placeAt t .flash).now = Claims.handed .flash .putCmd 0x00000007#32 s))

/-! ## Accepted commands and DONE statuses of the stations -/

/-- A requester's transaction for a role is about to be accepted: its try stands on the link, the frame accepts it, its module is PRESENT, the requester acts on the
outcome and keeps no further transaction. -/
def Claims.tryTaken (s : State) (frame : List Byte) (q : Requester) (role : Role) : Prop :=
  ∃ (o : OnLink) (w : Queued) (word : Word),
    s.link.onLink = some o ∧ o.carrier = .requester q ∧ o.role = role ∧ classify o frame = .accept word ∧
    (moduleAt s role).state = .present ∧ placeAt s q = { now := some w, kept := [] } ∧ w.txn.acted = true

/-- A try has ended: the link is free, the service in progress and every other requester's place are as they were. -/
def Claims.tryOver (s t : State) (q : Requester) : Prop :=
  t.link.onLink = none ∧ t.link.service = s.link.service ∧ ∀ p : Requester, p ≠ q → placeAt t p = placeAt s p

/-- PRESS accepts the setpoint: COMMAND, with PRESS and the blank's dwell in the PRESS place; PRESS accepts the command: PRESSING. SPRAY_CARRIAGE accepts PASS: nothing
changes but the link. FLASH accepts HEAT_OFF: the unit is IDLE and its platen released. -/
def Claims.StationCommandAccepted : Prop :=
  ∀ (s : State) (frame : List Byte),
    (∀ (j : Job) (r : Garment), Claims.tryTaken s frame .press .press → s.press.state = .setpoint → s.press.job = some j →
      garmentAt s j.garment = some r → unreachable s .press = false →
        ∃ t : State,
          exec (.tryAccept frame) s = .next t ∧ Claims.tryOver s t .press ∧
          t = { s with link := t.link, press := { s.press with state := .command } } ∧
          (placeAt t .press).now =
            Claims.handed .press .putCmd (BitVec.ofNat 32 (5 + 256 * min 16777215 (catalogAt s r.blank).dwell)) s) ∧
    (Claims.tryTaken s frame .press .press → s.press.state = .command →
      ∃ t : State,
        exec (.tryAccept frame) s = .next t ∧ Claims.tryOver s t .press ∧
        t = { s with link := t.link, press := { s.press with state := .pressing } } ∧ (placeAt t .press).now = none) ∧
    (Claims.tryTaken s frame .pretreat .sprayCarriage →
      ∃ t : State,
        exec (.tryAccept frame) s = .next t ∧ Claims.tryOver s t .pretreat ∧ t = { s with link := t.link } ∧
        (placeAt t .pretreat).now = none) ∧
    (∀ j : PrintJob, Claims.tryTaken s frame .flash .flash → s.flash.state = .ending → s.flash.job = some j →
      ∃ t : State,
        exec (.tryAccept frame) s = .next t ∧ Claims.tryOver s t .flash ∧
        t = { s with link := t.link, flash := t.flash, carousel := { s.carousel with released := t.carousel.released } } ∧
        t.flash.state = .idle ∧ t.flash.job = none ∧ t.flash.limit = none ∧ t.flash.sampling = s.flash.sampling ∧
        (platenAt s 5 = j.platen → s.carousel.op = .none → released t .flash = true) ∧ (placeAt t .flash).now = none)

/-- FLASH accepts HEAT_ON: EXPOSING, the first period tick one latched period after the acceptance, and a sample read asked for: behind the reads that wait, or at once
when the SAMPLER requester has none. -/
def Claims.HeatOnBeginsTheExposure : Prop :=
  ∀ (s : State) (frame : List Byte), Claims.tryTaken s frame .flash .flash → s.flash.state = .heating →
    s.flash.sampling = false → .flash ∉ s.dryer.reads →
      ((placeAt s .sampler).now = none → s.dryer.reads = [] → unreachable s .flash = false →
        ∃ t : State,
          exec (.tryAccept frame) s = .next t ∧ t.link.onLink = none ∧
          t =
            { s with
              link := t.link, dryer := { s.dryer with reads := [.flash] }
              flash :=
                { s.flash with
                  state := .exposing, nextTick := s.clock + BitVec.ofNat 32 (s.flash.periodMs * 100), sampling := true } } ∧
          (placeAt t .flash).now = none ∧ (placeAt t .sampler).now = Claims.handed .flash .getStatus 0 s) ∧
      ((placeAt s .sampler).now ≠ none →
        ∃ t : State,
          exec (.tryAccept frame) s = .next t ∧ Claims.tryOver s t .flash ∧
          t =
            { s with
              link := t.link, dryer := { s.dryer with reads := s.dryer.reads ++ [.flash] }
              flash :=
                { s.flash with
                  state := .exposing, nextTick := s.clock + BitVec.ofNat 32 (s.flash.periodMs * 100), sampling := true } } ∧
          (placeAt t .flash).now = none)

/-- A carriage accepts PASS: the unit is PRINTING, and every active channel begins pass 1 with the oldest staged bank of the swath, which is EMITTING; a channel with
none is STOPPED. -/
def Claims.PassAcceptedBeginsTheSwath : Prop :=
  ∀ (s : State) (frame : List Byte) (u : Printer) (j : PrintJob),
    Claims.tryTaken s frame (printRequester u) (printRole u) → (unitAt s u).state = .command → (unitAt s u).job = some j →
      let first (c : Fin 6) : Option (Fin 8) := (swathBanks s c j.garment (unitAt s u).swath).head?
      ∃ t : State,
        exec (.tryAccept frame) s = .next t ∧ Claims.tryOver s t (printRequester u) ∧
        (placeAt t (printRequester u)).now = none ∧
        t =
          { s with
            link := t.link, prints := t.prints, lanes := t.lanes, engine := { s.engine with banks := t.engine.banks } } ∧
        unitAt t u = { unitAt s u with state := .printing } ∧ (∀ v : Printer, v ≠ u → unitAt t v = unitAt s v) ∧
        (∀ c ∈ (unitAt s u).active, ∀ b : Fin 8, first c = some b →
          laneAt t c = { laneAt s c with state := .emitting, bank := some b } ∧
          bankAt t b = { bankAt s b with state := .emitting }) ∧
        (∀ c ∈ (unitAt s u).active, first c = none → laneAt t c = { laneAt s c with state := .stopped, bank := none }) ∧
        (∀ c : Fin 6, c ∉ (unitAt s u).active → laneAt t c = laneAt s c) ∧
        (∀ b : Fin 8, (∀ c ∈ (unitAt s u).active, first c ≠ some b) → bankAt t b = bankAt s b)

/-- A garment after a swath of a unit: its ink counters have risen by the active channels' drop sums, and the unit's mark is as given. -/
def Claims.inked (s : State) (u : Printer) (r r' : Garment) (m : Mark) : Prop :=
  r' = (match u with | .white => { r with white := m, ink := r'.ink } | .color => { r with color := m, ink := r'.ink }) ∧
  (∀ c ∈ (unitAt s u).active, Tbl.at r'.ink c = min 4294967295 (Tbl.at r.ink c + (laneAt s c).sum)) ∧
  (∀ c : Fin 6, c ∉ (unitAt s u).active → Tbl.at r'.ink c = Tbl.at r.ink c)

/-- A print that is over: IDLE, out of the tally, the platen released while it stands at the unit's station and nothing moves. -/
def Claims.printIsOver (s t : State) (u : Printer) (j : PrintJob) : Prop :=
  (unitAt t u).state = .idle ∧ (unitAt t u).job = none ∧ (unitAt t u).starve = none ∧ (unitAt t u).guard = none ∧
  tallyFor t u j.garment = none ∧
  (platenAt s (match u with | .white => 4 | .color => 7) = j.platen → s.carousel.op = .none →
    released t (printStation u) = true)

/-- A DONE status of a carriage in PRINTING. With every active channel COMPLETE the swath's ink is added and the lanes are OFF: after the print's last swath the mark
is DONE and the print is over, with the graceful cancel flag it is over with its mark kept, and otherwise k rises by one and the unit is WAITING with the
starve timer running. With a channel not COMPLETE the print is cut with cause 5, and none of the swath's ink is added. -/
def Claims.SwathDoneIsJudged : Prop :=
  ∀ (s : State) (frame : List Byte) (u : Printer) (j : PrintJob) (r : Garment),
    Claims.statusDone s frame (printRole u) → (unitAt s u).state = .printing → (unitAt s u).job = some j →
    garmentAt s j.garment.index = some r → (unitAt s u).active.Nodup →
      ((∀ c ∈ (unitAt s u).active, (laneAt s c).state = .complete) →
        ∃ (t : State) (r' : Garment),
          exec (.tryAccept frame) s = .next t ∧ garmentAt t j.garment.index = some r' ∧
          (∀ h : Fin 32, h ≠ j.garment.index → garmentAt t h = garmentAt s h) ∧
          (∀ c : Fin 6, channelUnit c = u →
            (laneAt t c).state = .off ∧ (laneAt t c).sum = 0 ∧ (laneAt t c).bank = none) ∧
          (∀ c : Fin 6, channelUnit c ≠ u → laneAt t c = laneAt s c) ∧
          (∀ v : Printer, v ≠ u → unitAt t v = unitAt s v) ∧ t.link.places = s.link.places ∧ t.reports = s.reports ∧
          ((unitAt s u).graceful = true → Claims.inked s u r r' (printMark u r) ∧ Claims.printIsOver s t u j) ∧
          ((unitAt s u).graceful = false →
            (tallyFor s u j.garment).bind TallyPlace.count = some (unitAt s u).swath →
              Claims.inked s u r r' .done ∧ Claims.printIsOver s t u j) ∧
          ((unitAt s u).graceful = false →
            (tallyFor s u j.garment).bind TallyPlace.count ≠ some (unitAt s u).swath →
              Claims.inked s u r r' (printMark u r) ∧
              t = { s with link := t.link, garments := t.garments, prints := t.prints, lanes := t.lanes } ∧
              unitAt t u =
                { unitAt s u with
                  state := .waiting, swath := (unitAt s u).swath + 1, guard := none
                  starve := some { start := s.clock, limit := (unitAt s u).starveLimit * 100 }
                  passes := (unitAt t u).passes, pass := (unitAt t u).pass })) ∧
      ((∃ c ∈ (unitAt s u).active, (laneAt s c).state ≠ .complete) → r.cond = .good →
        ∃ t : State,
          exec (.tryAccept frame) s = .next t ∧ Claims.printIsCut u j .printUnderrun t ∧ t.ctl = s.ctl ∧
          (garmentAt t j.garment.index).map Garment.ink = some r.ink ∧
          (s.reports.fifo.length < 16 →
            { incident .printCut with
              slot := some r.slot, garment := some j.garment.index, serial := r.serial, key := keyOf s r.slot
              detail := 16 * (printerNum u).val + 5, value := (unitAt s u).swath, time := s.clock } ∈ t.reports.fifo))

/-- A DONE status of PRESS in PRESSING completes the cycle: the mark is DONE, the unit IDLE and the platen released. One of SPRAY_CARRIAGE in SPRAYING with a channel
OPEN or ARMED leads to FINISHING, and with none it completes the pass: after 16 rows the mark is DONE, the unit IDLE and the platen released. -/
def Claims.StationDoneEndsTheWork : Prop :=
  ∀ (s : State) (frame : List Byte) (j : Job) (r : Garment), garmentAt s j.garment = some r →
    (Claims.statusDone s frame .press → s.press.state = .pressing → s.press.job = some j →
      ∃ t : State,
        exec (.tryAccept frame) s = .next t ∧
        t =
          { s with
            link := t.link, press := { state := .idle, job := none, guard := none }
            garments := Tbl.put s.garments j.garment (some { r with press := .done })
            carousel := { s.carousel with released := t.carousel.released } } ∧
        t.link.places = s.link.places ∧ (platenAt s 2 = j.platen → s.carousel.op = .none → released t .press = true) ∧
        (∀ st : Station, st ≠ .press → released t st = released s st)) ∧
    (Claims.statusDone s frame .sprayCarriage → s.pretreat.state = .spraying → s.pretreat.job = some j →
      (anyValve s = true →
        ∃ t : State,
          exec (.tryAccept frame) s = .next t ∧ t.link.places = s.link.places ∧
          t = { s with link := t.link, pretreat := { s.pretreat with state := .finishing } }) ∧
      (anyValve s = false → s.pretreat.row = 16 →
        ∃ t : State,
          exec (.tryAccept frame) s = .next t ∧
          t =
            { s with
              link := t.link, pretreat := t.pretreat
              garments := Tbl.put s.garments j.garment (some { r with pretreat := .done })
              carousel := { s.carousel with released := t.carousel.released } } ∧
          t.pretreat.state = .idle ∧ t.pretreat.job = none ∧ t.pretreat.guard = none ∧ t.pretreat.tank = s.pretreat.tank ∧
          t.link.places = s.link.places ∧ (platenAt s 1 = j.platen → s.carousel.op = .none → released t .pretreat = true) ∧
          (∀ st : Station, st ≠ .pretreat → released t st = released s st)))

/-- Commands that the station modules accept, and the DONE statuses that end the work in flight. (That the passes and the starve limit of a unit whose print is cut or over are 0,
its active set empty and its cancel flag clear, and that the drop sum of a lane that turns OFF is 0 at once, is the model's choice, log entry 37.) -/
def Obligations.StationTriesAdvanceTheirWork : Prop :=
  Claims.StationCommandAccepted ∧ Claims.HeatOnBeginsTheExposure ∧ Claims.PassAcceptedBeginsTheSwath ∧
  Claims.SwathDoneIsJudged ∧ Claims.StationDoneEndsTheWork

/-! ## The dryer -/

/-- The period that a dryer tick ends: the one latched. -/
def Claims.endedMs (s : State) : Nat := s.dryer.periodMs.getD s.config.periodMs

/-- A dryer tick that is due: every zone's source takes its tick, the next tick is set one period of the snapshot later and that period is latched, the
odometer advances by belt speed times the period just ended while the belt runs, and the belt keeps its entries. A warm-up ends in RUN at a
tick at which every zone is FRESH at the ready temperature for the second time. A tick that is not due does nothing. -/
def Claims.DryerTickAdvancesTheTunnel : Prop :=
  ∀ s : State,
    (¬(s.dryer.ticking = true ∧ reached s s.dryer.nextTick = true) → exec .dryerPeriodTick s = .next s) ∧
    (s.dryer.ticking = true → reached s s.dryer.nextTick = true →
      ∃ t : State,
        exec .dryerPeriodTick s = .next t ∧ t.dryer.ticking = true ∧ t.dryer.periodMs = some s.config.periodMs ∧
        t.dryer.nextTick = s.dryer.nextTick + BitVec.ofNat 32 (s.config.periodMs * 100) ∧
        t.dryer.odometer =
          (if s.dryer.running then s.dryer.odometer + BitVec.ofNat 32 (s.config.beltSpeed * Claims.endedMs s)
            else s.dryer.odometer) ∧
        t.dryer.belt.map BeltEntry.garment = s.dryer.belt.map BeltEntry.garment ∧
        (∀ e ∈ t.dryer.belt, e.counted = true) ∧ t.dryer.transfer = s.dryer.transfer ∧ t.pack = s.pack ∧
        t.lines = s.lines ∧
        (∀ (z : Fin 4) (v : Nat), (zoneAt s z).received = some v →
          zoneAt t z = { received := none, lastGood := some v, age := 0, state := .fresh }) ∧
        (∀ (z : Fin 4) (v : Nat), (zoneAt s z).received = none → (zoneAt s z).lastGood = some v →
          zoneAt t z =
            { received := none, lastGood := some v, age := min 255 ((zoneAt s z).age + 1)
              state := if (zoneAt s z).age + 1 ≤ s.config.holdCount then .held else .stale }) ∧
        (s.ctl.mode ≠ .warming → t.ctl = s.ctl ∧ t.dryer.ready = s.dryer.ready) ∧
        (s.ctl.mode = .warming → requiredLost s = false →
          (∀ z : Fin 4,
            1 ≤ Tbl.at s.dryer.ready z ∧ ∃ v : Nat, (zoneAt s z).received = some v ∧ s.config.readyTemp ≤ v) →
              t.ctl.mode = .run ∧ t.ctl.warm = true ∧ t.ctl.warmup = none))

/-- A dryer tick credits a garment on the belt that joined before the last tick, by the zone its travelled distance is in: with a temperature the increment
goes to its dose and the peak follows, and with none the dose stays and UNVERIFIED is set. -/
def Claims.DryerTickCreditsTheGarment : Prop :=
  ∀ (s : State) (before after : List BeltEntry) (e : BeltEntry) (g : Fin 32) (r : Garment) (z : Fin 4),
    s.dryer.ticking = true → reached s s.dryer.nextTick = true → s.dryer.belt = before ++ e :: after →
    (∀ x ∈ before ++ after, x.garment ≠ some g) → e.garment = some g → e.counted = true → e.beyond = false →
    garmentAt s g = some r →
    (List.ofFn fun y : Fin 4 => if y < z then Tbl.at s.config.zoneLengths y else 0).sum ≤ (s.dryer.odometer - e.odo).toNat →
    (s.dryer.odometer - e.odo).toNat <
      (List.ofFn fun y : Fin 4 => if y < z then Tbl.at s.config.zoneLengths y else 0).sum + Tbl.at s.config.zoneLengths z →
      ∃ (t : State) (r' : Garment),
        exec .dryerPeriodTick s = .next t ∧ garmentAt t g = some r' ∧
        r'.dryerDose =
          Claims.doseAfter s.config.dryerBase s.config.dryerCeiling (Claims.endedMs s) r.dryerDose
            (Claims.tickTemp s.config.holdCount (zoneAt s z)) ∧
        (∀ v : Nat, Claims.tickTemp s.config.holdCount (zoneAt s z) = some v →
          r'.peak = max r.peak v ∧ r'.unverified = r.unverified) ∧
        (Claims.tickTemp s.config.holdCount (zoneAt s z) = none → r'.peak = r.peak ∧ r'.unverified = true) ∧
        r'.flashDose = r.flashDose ∧ r'.cond = r.cond ∧ r'.ink = r.ink

/-- A dryer tick moves the tunnel on and doses the garments in it. (That the next tick counts from the nominal time of this one, however late it is taken, is
the model's choice, log entry 31.) -/
def Obligations.DryerTickMovesAndDoses : Prop := Claims.DryerTickAdvancesTheTunnel ∧ Claims.DryerTickCreditsTheGarment

/-! ## Timeouts, the drain and the warm-up -/

/-- A garment that stood in the transfer list, or in the pack queue, for its timeout is missing: out of the list and its record free, while every other
record stays as it was. Before the timeout, and in STOPPED, nothing happens. -/
def Obligations.TimeoutsDeleteMissingGarments : Prop :=
  ∀ (s : State) (g : Fin 32) (r : Garment), garmentAt s g = some r →
    (s.ctl.mode = .stopped ∨
        (∀ e ∈ s.dryer.transfer, e.garment = g → (s.clock - e.entry).toNat < s.config.transferTimeout * 100000) →
      exec (.transferTimeout g) s = .next s) ∧
    (s.ctl.mode ≠ .stopped →
      (∃ e ∈ s.dryer.transfer, e.garment = g ∧ s.config.transferTimeout * 100000 ≤ (s.clock - e.entry).toNat) →
        ∃ t : State,
          exec (.transferTimeout g) s = .next t ∧ garmentAt t g = none ∧
          (∀ h : Fin 32, h ≠ g → garmentAt t h = garmentAt s h) ∧
          t.dryer = { s.dryer with transfer := s.dryer.transfer.filter fun e => e.garment != g } ∧
          t.pack.queue = s.pack.queue ∧ t.ctl = s.ctl ∧ t.exch = s.exch) ∧
    (s.ctl.mode = .stopped ∨
        (∀ e ∈ s.pack.queue, e.garment = g → (s.clock - e.entry).toNat < s.config.packTimeout * 100000) →
      exec (.packTimeout g) s = .next s) ∧
    (s.ctl.mode ≠ .stopped →
      (∃ e ∈ s.pack.queue, e.garment = g ∧ s.config.packTimeout * 100000 ≤ (s.clock - e.entry).toNat) →
        ∃ t : State,
          exec (.packTimeout g) s = .next t ∧ garmentAt t g = none ∧
          (∀ h : Fin 32, h ≠ g → garmentAt t h = garmentAt s h) ∧
          t.pack.queue = s.pack.queue.filter (fun e => e.garment != g) ∧ t.dryer = s.dryer ∧ t.ctl = s.ctl ∧
          t.exch = s.exch)

/-- The drain ends in IDLE once no garment is live and the carousel is at rest: the causes and the warm and drain flags cleared, the warm-up timer and the
ticking stopped, and the standby list put on (zone setpoints with HEAT_ON, HEAT_OFF to FLASH, STOP to BELT_DRIVE). The warm-up timer's expiry takes WARMING to HOLD with WARMUP_TIMEOUT. Before either nothing happens. (That a home asked for is forgotten
at the entry to IDLE, and the rank time of the command behind a head that is LOST at once, are the model's choices, log entries 21 and 14.) -/
def Obligations.DrainAndWarmupEnd : Prop :=
  ∀ s : State,
    (¬(s.ctl.drain = true ∧ noGarment s = true ∧ s.carousel.op = .none) → exec .drainEnd s = .next s) ∧
    (s.ctl.drain = true → noGarment s = true → s.carousel.op = .none → s.ctl.mode ≠ .idle →
      ∃ t : State,
        exec .drainEnd s = .next t ∧ t.ctl.mode = .idle ∧ t.ctl.causes = Causes.empty ∧ t.ctl.warm = false ∧
        t.ctl.drain = false ∧ t.ctl.warmup = none ∧ t.dryer.ticking = false ∧ t.carousel.homeAsked = false ∧
        t.carousel.homed = s.carousel.homed ∧ t.carousel.map = s.carousel.map ∧ t.carousel.platens = s.carousel.platens ∧
        t.lines = s.lines ∧ t.garments = s.garments ∧ t.pack = s.pack ∧ t.engine = s.engine ∧
        Claims.listPut s t (Claims.standbyCommands s)) ∧
    (∀ tm : Timer, s.ctl.mode = .warming → s.ctl.warmup = some tm →
      ((s.clock - tm.start).toNat < tm.limit → exec .warmupTimerExpiry s = .next s) ∧
      (tm.limit ≤ (s.clock - tm.start).toNat → s.dryer.ticking = true →
        exec .warmupTimerExpiry s =
          .next
            { s with
              ctl :=
                { s.ctl with
                  mode := .hold, causes := { s.ctl.causes with warmupTimeout := true }, warmup := none }
              reports := Claims.lineModeRaised .hold { s.ctl.causes with warmupTimeout := true } s }))

/-! ## The exchange area -/

/-- A snapshot read is in progress with its access as the port's only one: the bytes it has brought so far, and whether its result is to be discarded. -/
def Claims.snapshotInProgress (s : State) (a : Access) (got : List Byte) (dropped : Bool) : Prop :=
  Claims.onlyAccess s .snapshot a ∧ s.exch.activity = some (.snapshot got dropped)

/-- The state after a snapshot read that has nothing else to say. -/
def Claims.snapshotOver (s : State) : State := { s with port := Claims.portFree s, exch := { s.exch with activity := none } }

/-- The state after a snapshot read whose RUN request is refused with a detail that adds CONFIG. -/
def Claims.runRefused (detail value : Nat) (s : State) : State :=
  { Claims.snapshotOver s with
    ctl := { s.ctl with refused := true, request := .absent, causes := { s.ctl.causes with config := true } }
    reports := Claims.refusedWithConfig detail value s }

/-- The snapshot read goes from access to access: an error ends it at once, and bytes that do not complete it are followed by the read of the next catalog
entry. A read whose result is to be discarded ends with nothing done, and one of a RUN request that ends in error refuses it with detail 1. -/
def Claims.SnapshotReadGoesOn : Prop :=
  ∀ (s : State) (a : Access) (got : List Byte) (dropped : Bool), Claims.snapshotInProgress s a got dropped →
    (dropped = true → exec (.snapshotReadDone .error) s = .next (Claims.snapshotOver s)) ∧
    (dropped = false → s.ctl.request = .reading → s.ctl.mode = .idle ∨ s.ctl.mode = .hold →
      exec (.snapshotReadDone .error) s = .next (Claims.runRefused 1 0 s)) ∧
    (∀ (base : Addr) (bytes : List Byte), s.exch.base = some base → bytes.length = a.length →
      (got.length + bytes.length < 1984 →
        exec (.snapshotReadDone (.data bytes)) s =
          .next
            { s with
              exch := { s.exch with activity := some (.snapshot (got ++ bytes) dropped) }
              port :=
                Claims.portReads .snapshot (base + BitVec.ofNat 64 (0x40 + (got.length + bytes.length))) 16 s }) ∧
      (1984 ≤ got.length + bytes.length → dropped = true →
        exec (.snapshotReadDone (.data bytes)) s = .next (Claims.snapshotOver s)))

/-- A RUN request's snapshot read has brought its last bytes: together they are `all`, of which the first 960 are the header's config region. -/
def Claims.snapshotWhole (s : State) (bytes all : List Byte) : Prop :=
  ∃ (a : Access) (got : List Byte),
    Claims.snapshotInProgress s a got false ∧ bytes.length = a.length ∧ all = got ++ bytes ∧ 1984 ≤ all.length ∧
    s.ctl.request = .reading

/-- The checks of R174 on a snapshot that was read, in IDLE and HOLD: a required role with no address refuses the request with detail 2, and two roles with
one address with detail 3, each with CONFIG. -/
def Claims.SnapshotReadIsChecked : Prop :=
  ∀ (s : State) (bytes all : List Byte), Claims.snapshotWhole s bytes all → s.ctl.mode = .idle ∨ s.ctl.mode = .hold →
    let new := parseSettings (all.take 960)
    (∀ r : Role, missingRole new = some r →
      requiredRole r = true ∧ Tbl.at new.roles (roleNum r) = none ∧
      exec (.snapshotReadDone (.data bytes)) s = .next (Claims.runRefused 2 (roleNum r).val s)) ∧
    (∀ b : Byte, missingRole new = none → sharedAddress new = some b →
      (∃ p q : Role, p ≠ q ∧ Tbl.at new.roles (roleNum p) = some b ∧ Tbl.at new.roles (roleNum q) = some b) ∧
      exec (.snapshotReadDone (.data bytes)) s = .next (Claims.runRefused 3 b.toNat s))

/-- The snapshots and the link settings are taken: configuration, catalog and link settings as read, and each platen's enable value, at once for an empty
platen and pending for one that holds a garment. The run list is put on. -/
def Claims.snapshotTaken (s t : State) (all : List Byte) : Prop :=
  t.config = parseConfig (all.take 960) ∧ t.catalog = some (parseCatalog (all.drop 960)) ∧
  t.link.settings = some (parseSettings (all.take 960)) ∧ t.exch = { s.exch with activity := none } ∧
  (∀ p : Fin 12,
    platenOf t p =
      match (platenOf s p).garment with
      | none => { garment := none, enabled := Tbl.at t.config.enables p, pending := none }
      | some g =>
        { garment := some g, enabled := (platenOf s p).enabled, pending := some (Tbl.at t.config.enables p) }) ∧
  Claims.listPut s t (Claims.runCommands t) ∧ t.lines = s.lines ∧ t.garments = s.garments

/-- No module is LOST and no requester has a transaction. -/
def Claims.linkAtRest (s : State) : Prop :=
  (∀ r : Role, (moduleAt s r).state ≠ .lost) ∧ ∀ q : Requester, (placeAt s q).now = none

/-- A RUN request from IDLE whose snapshot passes the checks is accepted: the snapshots are taken, the run list is put on (zone setpoints with
HEAT_ON, the flash setpoint, BELT_RUN with the belt speed) and the line enters WARMING with the warm-up timer and the
ticking on. -/
def Claims.RunIsAcceptedInIdle : Prop :=
  ∀ (s : State) (bytes all : List Byte), Claims.snapshotWhole s bytes all →
    missingRole (parseSettings (all.take 960)) = none → sharedAddress (parseSettings (all.take 960)) = none →
    s.ctl.mode = .idle → s.ctl.warm = false → Claims.linkAtRest s →
      ∃ t : State,
        exec (.snapshotReadDone (.data bytes)) s = .next t ∧ Claims.snapshotTaken s t all ∧ t.ctl.mode = .warming ∧
        t.ctl.request = .absent ∧ t.ctl.drain = false ∧ t.ctl.causes.config = false ∧ t.ctl.causes.host = false ∧
        t.ctl.causes.moduleLost = false ∧
        t.ctl.warmup = some { start := s.clock, limit := (parseConfig (all.take 960)).warmupLimit * 100000 } ∧
        t.dryer.ticking = true

/-- A RUN request from HOLD whose snapshot passes checks 1 to 3. CONFIG leaves the hold-cause set. With MODULE_LOST in it, or INDEX_FAULT with a homed carousel
or WARMUP_TIMEOUT, the request is refused with detail 4 and the set as value, and nothing is taken. Without these it is accepted when the carousel is homed or
WARMUP_TIMEOUT stands, and the line enters RUN with the warm flag, asking for a home of an unhomed carousel, and WARMING without. Otherwise it is pending, the
snapshots taken and the run list put on as in IDLE, and a home is asked for unless one is in flight. -/
def Claims.RunIsAnsweredInHold : Prop :=
  ∀ (s : State) (bytes all : List Byte), Claims.snapshotWhole s bytes all →
    missingRole (parseSettings (all.take 960)) = none → sharedAddress (parseSettings (all.take 960)) = none →
    s.ctl.mode = .hold →
      let left : Causes := { s.ctl.causes with config := false }
      let barred : Prop := left.moduleLost = true ∨ (left.indexFault = true ∧ (s.carousel.homed = true ∨ left.warmupTimeout = true))
      (barred →
        exec (.snapshotReadDone (.data bytes)) s =
          .next
            { Claims.snapshotOver s with
              ctl := { s.ctl with refused := true, request := .absent, causes := left }
              reports :=
                pushIncident (if s.ctl.causes.config then Claims.lineModeRaised .hold left s else s.reports)
                  { incident .runRefused with detail := 4, value := causesCode left, time := s.clock } }) ∧
      (¬barred → Claims.linkAtRest s → s.carousel.homed = true ∨ left.warmupTimeout = true →
        ∃ t : State,
          exec (.snapshotReadDone (.data bytes)) s = .next t ∧ Claims.snapshotTaken s t all ∧
          t.ctl.mode = (if s.ctl.warm then .run else .warming) ∧ t.ctl.request = .absent ∧ t.ctl.drain = false ∧
          t.ctl.causes = Causes.empty ∧ t.carousel.homed = s.carousel.homed ∧
          (s.ctl.warm = true → s.carousel.homed = false → s.carousel.op = .none → t.carousel.homeAsked = true)) ∧
      (¬barred → Claims.linkAtRest s → s.carousel.homed = false → left.warmupTimeout = false →
        ∃ t : State,
          exec (.snapshotReadDone (.data bytes)) s = .next t ∧ Claims.snapshotTaken s t all ∧
          t.ctl = { s.ctl with request := .pendingHome, causes := left, commands := t.ctl.commands } ∧
          t.dryer = s.dryer ∧
          t.carousel.homeAsked = (s.carousel.homeAsked || !homing s))

/-- The snapshot read of a RUN request, access by access, and what the request comes to in IDLE and in HOLD. The model's choices in it: RUN_REFUSED before
CONFIG's LINE_MODE, and the lowest-numbered role, or the address it shares, as the value (log entry 20); one access for the header's config region and one for
each catalog entry, each ended by SNAPSHOT_READ_DONE, and the end of the read at its first error (log entry 22). -/
def Obligations.SnapshotReadJudgesTheRequest : Prop :=
  Claims.SnapshotReadGoesOn ∧ Claims.SnapshotReadIsChecked ∧ Claims.RunIsAcceptedInIdle ∧ Claims.RunIsAnsweredInHold

/-- The attach read: an error sets MEM and leaves BAD_FORMAT, another format word leaves BAD_FORMAT, and the right one leaves the part ATTACHED with the
config snapshot and the link settings taken, every module UNKNOWN, in IDLE the standby list put on (zone setpoints with HEAT_ON, HEAT_OFF to FLASH, STOP to
BELT_DRIVE), a sweep begun and the header's write on the port; the end of that write, or its error, which sets MEM, lets the reports go on. (The rank
time of the command behind a head that is LOST at once is the model's choice, log entry 14.) -/
def Obligations.AttachReadAndHeaderWrite : Prop :=
  (∀ (s : State) (a : Access), Claims.onlyAccess s .attach a →
    exec (.attachReadDone .error) s =
      .next { s with port := Claims.portFree s, exch := { s.exch with attach := .badFormat, mem := true } } ∧
    (∀ bytes : List Byte, bytes.length = a.length →
      (headerFormat bytes ≠ 0x00010720#32 →
        exec (.attachReadDone (.data bytes)) s =
          .next { s with port := Claims.portFree s, exch := { s.exch with attach := .badFormat } }) ∧
      (headerFormat bytes = 0x00010720#32 → s.exch.sweep = none →
        ∃ t : State,
          exec (.attachReadDone (.data bytes)) s = .next t ∧ t.config = parseConfig bytes ∧
          t.link.settings = some (parseSettings bytes) ∧
          (∀ r : Role, (moduleAt t r).state = .unknown ∧ (moduleAt t r).silences = 0) ∧
          t.exch =
            { s.exch with
              attach := .attached, sweep := some 0
              sweepTimer := some { start := s.clock, limit := (parseConfig bytes).sweepPeriod * 100 } } ∧
          t.reports.headerWriting = true ∧
          (t.port.current.map fun x => (x.kind, x.discard)) = some (.headerWrite, false) ∧ t.port.waiting = [] ∧
          (s.ctl.mode = .idle → Claims.listPut s t (Claims.standbyCommands t)) ∧
          t.lines = s.lines ∧ t.garments = s.garments))) ∧
  (∀ (s : State) (a : Access), Claims.onlyAccess s .headerWrite a →
    exec (.attachHeaderWriteDone .ok) s =
      .next { s with port := Claims.portFree s, reports := { s.reports with headerWriting := false } } ∧
    exec (.attachHeaderWriteDone .error) s =
      .next
        { s with
          port := Claims.portFree s, reports := { s.reports with headerWriting := false }
          exch := { s.exch with mem := true } })

/-- The sweep timer's expiry starts a sweep, or marks that one is due again while one runs. -/
def Claims.SweepTimerStartsSweeps : Prop :=
  ∀ s : State, attached s = true →
    ∀ tm : Timer, s.exch.sweepTimer = some tm →
      ((s.clock - tm.start).toNat < tm.limit → exec .sweepTimerExpiry s = .next s) ∧
      (tm.limit ≤ (s.clock - tm.start).toNat →
        (s.exch.sweep = none →
          exec .sweepTimerExpiry s =
            .next
              { s with
                exch :=
                  { s.exch with
                    sweep := some 0
                    sweepTimer := some { start := s.clock, limit := s.config.sweepPeriod * 100 } } }) ∧
        (s.exch.sweep ≠ none →
          exec .sweepTimerExpiry s =
            .next { s with exch := { s.exch with sweepTimer := none, sweepAgain := true } }))

/-- With the exchange interface free it serves the snapshot read first, then the oldest nudge, then the sweep; with nothing to serve nothing happens. A slot
number as a nudge brings a look at the slot, 0xFE a refill read, and 0xFF a sweep, which is marked as due again while one runs. -/
def Claims.ServiceInItsOrder : Prop :=
  ∀ s : State, attached s = true →
    (s.exch.activity ≠ none → exec .exchServe s = .next s) ∧
    (s.exch.snapWanted = false → s.exch.nudges = [] → s.exch.sweep = none → exec .exchServe s = .next s) ∧
    (∀ base : Addr, s.exch.activity = none → s.port.current = none → s.exch.base = some base →
      (s.exch.snapWanted = true →
        exec .exchServe s =
          .next
            { s with
              exch := { s.exch with activity := some (.snapshot [] false), snapWanted := false }
              port := Claims.portReads .snapshot (base + 0x40) 960 s }) ∧
      (∀ (v : Byte) (rest : List Byte) (slot : Fin 128),
        s.exch.snapWanted = false → s.exch.nudges = v :: rest → v.toNat = slot.val →
          exec .exchServe s =
            .next
              { s with
                exch := { s.exch with nudges := rest, activity := some (.look slot false []) }
                port :=
                  if Tbl.at s.exch.recovery slot then
                    Claims.portReads .recovery (base + BitVec.ofNat 64 (0x1000 + 256 * slot.val)) 240 s
                  else Claims.portReads .handCount (base + BitVec.ofNat 64 (0x1000 + 256 * slot.val)) 2 s }) ∧
      (∀ (v : Byte) (rest : List Byte), s.exch.snapWanted = false → s.exch.nudges = v :: rest → v = 0xFE →
        exec .exchServe s =
          .next
            { s with
              exch := { s.exch with nudges := rest, activity := some (.refill false) }
              port := Claims.portReads .refill (base + 0x44) 16 s }) ∧
      (∀ (v : Byte) (rest : List Byte), s.exch.snapWanted = false → s.exch.nudges = v :: rest → v = 0xFF →
        exec .exchServe s =
          .next
            { s with
              exch :=
                if s.exch.sweep = none then
                  { s.exch with
                    nudges := rest, sweep := some 0
                    sweepTimer := some { start := s.clock, limit := s.config.sweepPeriod * 100 } }
                else { s.exch with nudges := rest, sweepAgain := true } }) ∧
      (s.exch.snapWanted = false → s.exch.nudges = [] → s.exch.sweep = some 0 →
        exec .exchServe s =
          .next
            { s with
              exch := { s.exch with activity := some (.refill true) }
              port := Claims.portReads .refill (base + 0x44) 16 s }) ∧
      (∀ slot : Fin 128, s.exch.snapWanted = false → s.exch.nudges = [] → s.exch.sweep = some (slot.val + 1) →
        exec .exchServe s =
          .next
            { s with
              exch := { s.exch with activity := some (.look slot true []) }
              port :=
                if Tbl.at s.exch.recovery slot then
                  Claims.portReads .recovery (base + BitVec.ofNat 64 (0x1000 + 256 * slot.val)) 240 s
                else Claims.portReads .handCount (base + BitVec.ofNat 64 (0x1000 + 256 * slot.val)) 2 s }))

/-- The sweep timer, and what the exchange interface serves next. The model's choices in it: the timer stands still after an expiry during a sweep, until the
sweep that it asks for begins (log entry 24), and the snapshot read begins with one access of the header's 960 bytes (log entry 22). -/
def Obligations.SweepAndNudgesAreServed : Prop := Claims.SweepTimerStartsSweeps ∧ Claims.ServiceInItsOrder

/-- The fault mark of a slot whose read failed, and its MEM_FAULT, raised once. -/
def Claims.slotFault (slot : Fin 128) (s : State) : Reports :=
  if Tbl.at s.exch.faults slot then s.reports
  else Claims.raised { incident .memFault with slot := some slot, value := 0x1000 + 256 * slot.val } s

/-- The exchange interface after a look: free, and, for a look of a sweep, the sweep at its next slot, or over after slot 127 and begun again when it was asked
for again. -/
def Claims.lookEnded (ofSweep : Bool) (s : State) (x : Exch) : Exch :=
  let free := { x with activity := none }
  if ofSweep = false then free
  else
    match x.sweep with
    | none => free
    | some k =>
      if k < 128 then { free with sweep := some (k + 1) }
      else if x.sweepAgain then
        { free with
          sweep := some 0, sweepAgain := false
          sweepTimer := some { start := s.clock, limit := s.config.sweepPeriod * 100 } }
      else { free with sweep := none, sweepAgain := false }

/-- The state after a look whose first read succeeded, with nothing more to do. -/
def Claims.lookOver (slot : Fin 128) (ofSweep : Bool) (s : State) : State :=
  { s with
    port := Claims.portFree s
    exch := Claims.lookEnded ofSweep s { s.exch with faults := Tbl.put s.exch.faults slot false } }

/-- The state after a look that took a post: the slot's entry is QUEUED with the snapshot read and the slot joins the acceptance list and its order, or it is
REFUSED with the reason of the first failed check. -/
def Claims.postTaken (s t : State) (slot : Fin 128) (ofSweep : Bool) (bytes : List Byte) (check : Option Reason) : Prop :=
  t.exch = Claims.lookEnded ofSweep s s.exch ∧ t.port = Claims.portFree s ∧ Tbl.at t.reports.dirty slot = true ∧
  (∀ o : Fin 128, o ≠ slot → lineAt t o = lineAt s o) ∧
  (lineAt t slot).take = bytes.getD 0 0 ∧ (lineAt t slot).snap = some (parsePosting bytes) ∧
  (lineAt t slot).bound = 0 ∧ (lineAt t slot).finished = 0 ∧ (lineAt t slot).failed = 0 ∧
  (check = none →
    (lineAt t slot).state = .queued ∧ (lineAt t slot).reason = .none ∧ t.accepted = s.accepted ++ [slot] ∧
    ∃ o : Order,
      orderAt t (parsePosting bytes).key = some o ∧ o.ready = false ∧
      { slot := slot, take := bytes.getD 0 0, lineNo := (parsePosting bytes).lineNo, final := false } ∈ o.items) ∧
  (∀ r : Reason, check = some r →
    (lineAt t slot).state = .refused ∧ (lineAt t slot).reason = r ∧ t.accepted = s.accepted ∧ t.pack = s.pack)

/-- A look at a slot is under way, for a nudge or for the sweep, with one read as the port's only access. -/
def Claims.lookReads (s : State) (kind : AccessKind) (a : Access) (slot : Fin 128) (ofSweep : Bool) (posting : List Byte) : Prop :=
  Claims.onlyAccess s kind a ∧ s.exch.activity = some (.look slot ofSweep posting)

/-- The first read of a look. A failed read ends the look with the slot's MEM_FAULT. A hand count equal to the take count, with no void, ends it; another is
followed by the posting read. -/
def Claims.FirstReadOfALook : Prop :=
  ∀ (s : State) (a : Access) (slot : Fin 128) (ofSweep : Bool) (base : Addr) (posting : List Byte),
    Claims.lookReads s .handCount a slot ofSweep posting → s.exch.base = some base →
      exec (.handCountReadDone .error) s =
        .next
          { s with
            port := Claims.portFree s
            exch := Claims.lookEnded ofSweep s { s.exch with faults := Tbl.put s.exch.faults slot true }
            reports := Claims.slotFault slot s } ∧
      (∀ bytes : List Byte, bytes.length = a.length →
        (bytes.getD 0 0 = (lineAt s slot).take → bytes.getD 1 0 = 0 →
          exec (.handCountReadDone (.data bytes)) s = .next (Claims.lookOver slot ofSweep s)) ∧
        (bytes.getD 0 0 ≠ (lineAt s slot).take →
          exec (.handCountReadDone (.data bytes)) s =
            .next
              { s with
                port := Claims.portReads .posting (base + BitVec.ofNat 64 (0x1000 + 256 * slot.val)) 200 s
                exch := { s.exch with faults := Tbl.put s.exch.faults slot false } }))

/-- The posting read of a look and the catalog read after it: a post on a slot whose line is open is dropped with SLOT_OPEN, its take count set and nothing else;
any other is taken, with the blank's catalog entry read first while no catalog snapshot has been taken. -/
def Claims.PostIsTakenOrDropped : Prop :=
  (∀ (s : State) (a : Access) (slot : Fin 128) (ofSweep : Bool) (posting bytes : List Byte),
    Claims.lookReads s .posting a slot ofSweep posting → bytes.length = a.length → bytes.getD 0 0 ≠ (lineAt s slot).take →
      (openState (lineAt s slot).state = true →
        exec (.postingReadDone (.data bytes)) s =
          .next
            { s with
              port := Claims.portFree s
              exch := Claims.lookEnded ofSweep s s.exch
              lines := Tbl.put s.lines slot { lineAt s slot with take := bytes.getD 0 0 }
              reports :=
                Claims.raised
                  { incident .slotOpen with
                    slot := some slot, key := keyOf s slot, value := (bytes.getD 0 0).toNat } s }) ∧
      (openState (lineAt s slot).state = false → s.catalog ≠ none →
        ∃ t : State,
          exec (.postingReadDone (.data bytes)) s = .next t ∧
          Claims.postTaken s t slot ofSweep bytes (validate s slot none (parsePosting bytes))) ∧
      (∀ base : Addr, s.exch.base = some base → openState (lineAt s slot).state = false → s.catalog = none →
        (parsePosting bytes).blank < 64 →
          exec (.postingReadDone (.data bytes)) s =
            .next
              { s with
                port :=
                  Claims.portReads .catalog (base + BitVec.ofNat 64 (0x400 + 16 * (parsePosting bytes).blank)) 16 s
                exch := { s.exch with activity := some (.look slot ofSweep (bytes.take 200)) } })) ∧
  (∀ (s : State) (a : Access) (slot : Fin 128) (ofSweep : Bool) (posting bytes : List Byte),
    Claims.lookReads s .catalog a slot ofSweep posting → bytes.length = a.length →
    openState (lineAt s slot).state = false →
      ∃ t : State,
        exec (.catalogReadDone (.data bytes)) s = .next t ∧
        Claims.postTaken s t slot ofSweep posting (validate s slot (some (parseCatalogEntry bytes)) (parsePosting posting)))

/-- The eight checks on a post, in their order: the first that fails gives the reason. -/
def Claims.PostChecksInOrder : Prop :=
  ∀ (s : State) (slot : Fin 128) (entry : Option CatalogEntry) (p : Snapshot),
    let badLine := p.lineNo < 1 ∨ 15 < p.lineNo ∨ p.linesIn < 1 ∨ 15 < p.linesIn ∨ p.linesIn < p.lineNo
    let consulted := match s.catalog with | none => entry | some _ => some (catalogAt s p.blank)
    let badBlank := ¬(p.blank < 64 ∧ ∃ x : CatalogEntry, consulted = some x ∧ x.inUse = true)
    let badQuantity := p.quantity < 1 ∨ 50 < p.quantity
    let badChain := ∃ (c : Fin 6) (x : Addr), Tbl.at p.chains c = some x ∧ x.toNat % 8 ≠ 0
    let noPlanes := ∀ c : Fin 6, Tbl.at p.chains c = none
    let mismatch := ∃ o : Order, orderAt s p.key = some o ∧ o.expected ≠ p.linesIn
    let twice :=
      ∃ (j : Fin 128) (q : Snapshot),
        j ≠ slot ∧ openState (lineAt s j).state = true ∧ (lineAt s j).snap = some q ∧ q.key = p.key ∧ q.lineNo = p.lineNo
    let full := orderAt s p.key = none ∧ 24 ≤ s.pack.orders.length
    (badLine → validate s slot entry p = some .badLine) ∧
    (¬badLine →
      (badBlank → validate s slot entry p = some .badBlank) ∧
      (¬badBlank →
        (badQuantity → validate s slot entry p = some .badQuantity) ∧
        (¬badQuantity →
          (badChain → validate s slot entry p = some .badChainAddr) ∧
          (¬badChain →
            (noPlanes → validate s slot entry p = some .noPlanes) ∧
            (¬noPlanes →
              (mismatch → validate s slot entry p = some .orderMismatch) ∧
              (¬mismatch →
                (twice → validate s slot entry p = some .dupLine) ∧
                (¬twice →
                  (full → validate s slot entry p = some .ordersFull) ∧
                  (¬full → validate s slot entry p = none))))))))

/-- The reads of a look, for a nudge or for the sweep, and what becomes of a post: taken as QUEUED or REFUSED by the first failed check, or dropped on an open
line. (The clause of the dropped post states a choice of the model, log entry 24: the post changes the take count alone, so the slot is not marked dirty, and the
stamps of the line's garments and the take count of its order's item stay as they were. What follows for the line's later counts is not stated here.) -/
def Obligations.LookReadsTakeThePost : Prop :=
  Claims.FirstReadOfALook ∧ Claims.PostIsTakenOrDropped ∧ Claims.PostChecksInOrder

/-! ## Voids and failures -/

/-- A look without a post finds a void request: a hand count equal to the take count has been read with a void byte that is not zero. -/
def Claims.voidFound (s : State) (slot : Fin 128) (ofSweep : Bool) (bytes : List Byte) : Prop :=
  ∃ (a : Access) (posting : List Byte),
    Claims.lookReads s .handCount a slot ofSweep posting ∧ bytes.length = a.length ∧
    bytes.getD 0 0 = (lineAt s slot).take ∧ bytes.getD 1 0 ≠ 0

/-- A void request on a QUEUED line with nothing bound makes it VOIDED at once, out of the acceptance list; on a line that is CLOSING with VOID already, final or
IDLE it changes nothing. -/
def Claims.VoidByLineState : Prop :=
  ∀ (s : State) (slot : Fin 128) (ofSweep : Bool) (bytes : List Byte), Claims.voidFound s slot ofSweep bytes →
    ((lineAt s slot).state = .queued → (lineAt s slot).bound = 0 → (lineAt s slot).finished < quantityOf (lineAt s slot) →
      ∃ t : State,
        exec (.handCountReadDone (.data bytes)) s = .next t ∧
        t =
          { Claims.lookOver slot ofSweep s with
            lines := Tbl.put s.lines slot { lineAt s slot with state := .voided, reason := .void }
            accepted := s.accepted.filter fun x => x != slot
            pack := t.pack, reports := t.reports } ∧
        t.pack = { s.pack with orders := t.pack.orders } ∧ Tbl.at t.reports.dirty slot = true) ∧
    ((lineAt s slot).state = .idle ∨ (lineAt s slot).state = .refused ∨ (lineAt s slot).state = .finished ∨
        (lineAt s slot).state = .failed ∨ (lineAt s slot).state = .voided ∨
        ((lineAt s slot).state = .closing ∧ (lineAt s slot).reason = .void) →
      exec (.handCountReadDone (.data bytes)) s = .next (Claims.lookOver slot ofSweep s))

/-- A garment of a slot's line that a void handles: GOOD, with the slot and its present take stamp. -/
def Claims.voided (s : State) (slot : Fin 128) (r : Garment) : Prop :=
  r.slot = slot ∧ r.stamp = (lineAt s slot).take ∧ r.cond = .good

/-- A swath of a print, white or color, has started for a garment: a print of it is done, or a unit that works on it has begun a swath. -/
def Claims.printStarted (s : State) (g : Fin 32) (r : Garment) : Prop :=
  r.white = .done ∨ r.color = .done ∨
  ∃ (u : Printer) (j : PrintJob),
    (unitAt s u).job = some j ∧ j.garment = { index := g, stamp := r.stamp } ∧
    ((unitAt s u).state = .command ∨ (unitAt s u).state = .printing ∨ ((unitAt s u).state = .waiting ∧ 1 < (unitAt s u).swath))

/-- A spray pass has started on a garment: its mark is DONE or CUT, or a pass on it is in flight. -/
def Claims.passStarted (s : State) (g : Fin 32) (r : Garment) : Prop :=
  r.pretreat = .done ∨ r.pretreat = .cut ∨
  ((s.pretreat.state = .spraying ∨ s.pretreat.state = .finishing) ∧ ∃ j : Job, s.pretreat.job = some j ∧ j.garment = g)

/-- A mark that was PENDING is SKIPPED, and any other stays. -/
def Claims.skipped (m : Mark) : Mark := if m = .pending then .skipped else m

/-- A void request on an ACTIVE line, or on one CLOSING with FAIL_LIMIT: every live GOOD garment of the line is STRIPPED when no print swath has started for it
and VOID_PRINTED otherwise, with no mark left PENDING, and no other record changes. -/
def Claims.VoidHandlesTheGarments : Prop :=
  ∀ (s : State) (slot : Fin 128) (ofSweep : Bool) (bytes : List Byte), Claims.voidFound s slot ofSweep bytes →
    (lineAt s slot).state = .active ∨ ((lineAt s slot).state = .closing ∧ (lineAt s slot).reason = .failLimit) →
      ∃ t : State,
        exec (.handCountReadDone (.data bytes)) s = .next t ∧
        (∀ g : Fin 32, garmentAt s g = none → garmentAt t g = none) ∧
        (∀ (g : Fin 32) (r : Garment), garmentAt s g = some r → ¬Claims.voided s slot r → garmentAt t g = some r) ∧
        (∀ (g : Fin 32) (r : Garment), garmentAt s g = some r → Claims.voided s slot r →
          ∃ r' : Garment,
            garmentAt t g = some r' ∧
            (Claims.printStarted s g r → r'.cond = .voidPrinted) ∧ (¬Claims.printStarted s g r → r'.cond = .stripped) ∧
            r'.fault = r.fault ∧ r'.serial = r.serial ∧ r'.stamp = r.stamp ∧ r'.place = r.place ∧
            r'.pretreat = Claims.skipped r.pretreat ∧ r'.press = Claims.skipped r.press ∧
            r'.flash = Claims.skipped r.flash ∧ r'.white ≠ .pending ∧ r'.color ≠ .pending)

/-- A void request on an ACTIVE line with one GOOD garment: the line has reason VOID. A garment for which no print swath has started leaves bound, GARMENT_STRIPPED
carries REJECT after a pass has started and RETURN before, and the line is VOIDED and out of the acceptance list when bound is then 0; one that is carried as
VOID_PRINTED leaves bound as it was and the line CLOSING. -/
def Claims.VoidClosesTheLine : Prop :=
  ∀ (s : State) (slot : Fin 128) (ofSweep : Bool) (bytes : List Byte) (g : Fin 32) (r : Garment),
    Claims.voidFound s slot ofSweep bytes → (lineAt s slot).state = .active → 1 ≤ (lineAt s slot).bound →
    (lineAt s slot).finished < quantityOf (lineAt s slot) → garmentAt s g = some r → Claims.voided s slot r →
    (∀ (h : Fin 32) (x : Garment), h ≠ g → garmentAt s h = some x → ¬Claims.voided s slot x) →
      ∃ t : State,
        exec (.handCountReadDone (.data bytes)) s = .next t ∧ Tbl.at t.reports.dirty slot = true ∧
        (∀ o : Fin 128, o ≠ slot → lineAt t o = lineAt s o) ∧
        (Claims.printStarted s g r →
          lineAt t slot = { lineAt s slot with state := .closing, reason := .void } ∧ t.accepted = s.accepted) ∧
        (¬Claims.printStarted s g r →
          lineAt t slot =
            { lineAt s slot with
              state := if (lineAt s slot).bound = 1 then .voided else .closing, reason := .void
              bound := (lineAt s slot).bound - 1 } ∧
          t.accepted =
            (if (lineAt s slot).bound = 1 then s.accepted.filter (fun x => x != slot) else s.accepted) ∧
          (s.reports.fifo.length + 2 ≤ 16 →
            (Claims.passStarted s g r →
              { incident .garmentStripped with
                slot := some slot, garment := some g, serial := r.serial, detail := 1, time := s.clock } ∈ t.reports.fifo) ∧
            (¬Claims.passStarted s g r →
              { incident .garmentStripped with
                slot := some slot, garment := some g, serial := r.serial, detail := 2, time := s.clock } ∈ t.reports.fifo)))

/-- A void request by the state of its line, and what it does to the line's garments. (That incidents of the line's order come before GARMENT_STRIPPED is the
model's choice, log entry 26; nothing here states it.) -/
def Obligations.VoidRequestEndsTheLine : Prop :=
  Claims.VoidByLineState ∧ Claims.VoidHandlesTheGarments ∧ Claims.VoidClosesTheLine

/-- A line's entry after a failure of one of its garments: bound falls and failed rises by one, saturating, and an ACTIVE line whose failed count is above its
failure limit is CLOSING with FAIL_LIMIT. -/
def Claims.failureCounted (l : LineEntry) : LineEntry :=
  let counted := { l with bound := l.bound - 1, failed := min 255 (l.failed + 1) }
  let limit := match l.snap with | none => 0 | some p => p.failLimit
  if l.state = .active ∧ limit < counted.failed then { counted with state := .closing, reason := .failLimit } else counted

/-- A line's entry after the check for a final state: FINISHED when finished has reached the quantity, and otherwise VOIDED or FAILED by its reason when it is
CLOSING with nothing bound. -/
def Claims.countsSettled (l : LineEntry) : LineEntry :=
  if (l.state = .active ∨ l.state = .closing) ∧ quantityOf l ≤ l.finished then { l with state := .finished, reason := .none }
  else if l.state = .closing ∧ l.bound = 0 then { l with state := if l.reason = .void then .voided else .failed }
  else l

/-- What the fail operation does to a garment with a fault code and to its line. A GOOD or VOID_PRINTED garment is FAILED with the code, and GARMENT_FAILED is
raised; its line counts the failure when its take stamp is the slot's take count. A garment already FAILED or STRIPPED keeps its condition and its code, and
nothing is counted. No other line changes. -/
def Claims.failsGarment (s t : State) (g : Fin 32) (r : Garment) (code : FaultCode) (number : Nat) : Prop :=
  (∀ o : Fin 128, o ≠ r.slot → lineAt t o = lineAt s o) ∧
  (r.cond = .good ∨ r.cond = .voidPrinted →
    (∃ r' : Garment, garmentAt t g = some r' ∧ r'.cond = .failed ∧ r'.fault = some code) ∧
    ((lineAt s r.slot).take = r.stamp →
      lineAt t r.slot = Claims.countsSettled (Claims.failureCounted (lineAt s r.slot)) ∧
      Tbl.at t.reports.dirty r.slot = true) ∧
    ((lineAt s r.slot).take ≠ r.stamp → lineAt t r.slot = lineAt s r.slot) ∧
    (s.reports.fifo.length + 3 ≤ 16 →
      { incident .garmentFailed with
        slot := some r.slot, garment := some g, serial := r.serial, key := keyOf s r.slot, detail := number
        time := s.clock } ∈ t.reports.fifo)) ∧
  (r.cond = .failed ∨ r.cond = .stripped →
    lineAt t r.slot = lineAt s r.slot ∧ ∃ r' : Garment, garmentAt t g = some r' ∧ r'.cond = r.cond ∧ r'.fault = r.fault)

/-- A pass guard's expiry with no valve open fails the garment with PRETREAT_CUT, and a flash limit's expiry with GEL_SHORT: condition, counts and failure limit
are those of the fail operation. -/
def Obligations.FailureCountsForItsLine : Prop :=
  (∀ (s : State) (tm : Timer) (j : Job) (r : Garment),
    s.pretreat.state = .spraying ∨ s.pretreat.state = .finishing → s.pretreat.guard = some tm →
    tm.limit ≤ (s.clock - tm.start).toNat → anyValve s = false → s.pretreat.job = some j → garmentAt s j.garment = some r →
      ∃ t : State, exec .passGuardExpiry s = .next t ∧ Claims.failsGarment s t j.garment r .pretreatCut 1) ∧
  (∀ (s : State) (tm : Timer) (j : PrintJob) (r : Garment),
    s.flash.state = .heating ∨ s.flash.state = .exposing → s.flash.limit = some tm →
    tm.limit ≤ (s.clock - tm.start).toNat → s.flash.job = some j → garmentAt s j.garment.index = some r →
      ∃ t : State, exec .flashLimitExpiry s = .next t ∧ Claims.failsGarment s t j.garment.index r .gelShort 5)

/-- The recovery read of a slot, for a nudge or for the sweep: one that host memory shows open is FAILED with LOST_AT_RESET and keeps the report fields read; another
takes the take count read, and with an equal hand count and no void the look is over, while with another hand count the post is taken from the bytes read. A failed
read leaves the slot marked for recovery. The refill read: a new generation fills the tank and an old one changes
nothing; an error is reported once. (That the slot's fault mark is clear after a read that found the line open is the model's choice, log entry 24.) -/
def Obligations.RecoveryAndRefillReads : Prop :=
  ∀ (s : State) (a : Access),
    (∀ (slot : Fin 128) (ofSweep : Bool) (p bytes : List Byte),
      Claims.lookReads s .recovery a slot ofSweep p → bytes.length = a.length →
        let seen : Exch :=
          { s.exch with
            faults := Tbl.put s.exch.faults slot false, recovery := Tbl.put s.exch.recovery slot false }
        let clear := Claims.lookEnded ofSweep s seen
        exec (.recoveryReadDone .error) s =
          .next
            { s with
              port := Claims.portFree s
              exch := Claims.lookEnded ofSweep s { s.exch with faults := Tbl.put s.exch.faults slot true }
              reports := Claims.slotFault slot s } ∧
        (2 ≤ (bytes.getD 0xC9 0).toNat → (bytes.getD 0xC9 0).toNat ≤ 4 →
          exec (.recoveryReadDone (.data bytes)) s =
            .next
              { s with
                port := Claims.portFree s
                exch := clear
                lines :=
                  Tbl.put s.lines slot
                    { LineEntry.blank with
                      state := .failed, reason := .lostAtReset, ink := slotInk bytes, lastDose := slotDose bytes
                      bin := bytes.getD 0xEC 0, take := bytes.getD 0 0 }
                reports := { s.reports with dirty := Tbl.put s.reports.dirty slot true } }) ∧
        ((bytes.getD 0xC9 0).toNat < 2 ∨ 4 < (bytes.getD 0xC9 0).toNat → bytes.getD 0 0 = bytes.getD 0xC8 0 →
          bytes.getD 1 0 = 0 →
            exec (.recoveryReadDone (.data bytes)) s =
              .next
                { s with
                  port := Claims.portFree s
                  exch := clear
                  lines := Tbl.put s.lines slot { lineAt s slot with take := bytes.getD 0xC8 0 } }) ∧
        ((bytes.getD 0xC9 0).toNat < 2 ∨ 4 < (bytes.getD 0xC9 0).toNat → bytes.getD 0 0 ≠ bytes.getD 0xC8 0 →
          openState (lineAt s slot).state = false → s.catalog ≠ none →
            ∃ t : State,
              exec (.recoveryReadDone (.data bytes)) s = .next t ∧
              Claims.postTaken { s with exch := seen } t slot ofSweep bytes (validate s slot none (parsePosting bytes)))) ∧
    (Claims.onlyAccess s .refill a → s.exch.activity = some (.refill false) →
      exec (.refillReadDone .error) s =
        .next
          { s with
            port := Claims.portFree s
            exch := { s.exch with activity := none, headerFault := true }
            reports :=
              if s.exch.headerFault then s.reports else Claims.raised { incident .memFault with detail := 1 } s } ∧
      (∀ bytes : List Byte, bytes.length = a.length →
        (s.pretreat.tank.generation = some (parseRefill bytes).generation →
          exec (.refillReadDone (.data bytes)) s =
            .next
              { s with
                port := Claims.portFree s, exch := { s.exch with activity := none, headerFault := false } }) ∧
        (s.pretreat.tank.generation ≠ some (parseRefill bytes).generation →
          ∃ t : State,
            exec (.refillReadDone (.data bytes)) s = .next t ∧
            t =
              { s with
                port := Claims.portFree s, exch := { s.exch with activity := none, headerFault := false }
                pretreat := { s.pretreat with tank := t.pretreat.tank }, reports := t.reports } ∧
            t.pretreat.tank.level = min 10000000 (word bytes 4) ∧ t.pretreat.tank.rest = 0 ∧
            t.pretreat.tank.generation = some (BitVec.ofNat 32 (word bytes 0)) ∧
            t.pretreat.tank.state =
              (if min 10000000 (word bytes 4) ≤ min 10000000 (word bytes 12) then .empty
                else if min 10000000 (word bytes 4) ≤ min 10000000 (word bytes 8) then .low
                else .ready))))

/-- A number as `n` bytes, the least significant first. -/
def Claims.le (n v : Nat) : List Byte := List.ofFn fun k : Fin n => BitVec.ofNat 8 (v / 256 ^ k.val)

/-- The write of the header's part-written fields: the chip sequence and the next-index, from the base address on. -/
def Claims.headerFields (base : Addr) (seq : Word) (next : Nat) : HostWrite :=
  { addr := base, bytes := Claims.le 4 seq.toNat ++ Claims.le 1 next }

/-- The 32 bytes of an incident record, field by field. -/
def Claims.incidentRecord (i : Incident) (seq : Word) (dropBefore : Bool) : List Byte :=
  Claims.le 4 seq.toNat ++ Claims.le 4 i.time.toNat ++ Claims.le 1 (incidentCode i.kind) ++
    Claims.le 1 ((i.slot.map Fin.val).getD 255) ++ Claims.le 1 ((i.garment.map Fin.val).getD 255) ++
    Claims.le 1 (if dropBefore then 1 else 0) ++ Claims.le 2 i.serial ++ Claims.le 1 ((i.place.map placeCode).getD 255) ++ [0] ++
    Claims.le 4 i.detail ++ Claims.le 4 i.key.toNat ++ Claims.le 4 i.value ++ [0, 0, 0, 0]

/-- The 44 bytes of a slot report from offset 0xC8 on, field by field, with the change sequence at 0xF0. -/
def Claims.slotRecord (l : LineEntry) (seq : Word) : List Byte :=
  [l.take] ++ Claims.le 1 (lineStateCode l.state) ++ Claims.le 1 (reasonCode l.reason) ++ Claims.le 1 l.bound ++
    Claims.le 1 l.finished ++ Claims.le 1 l.failed ++ [0, 0] ++ (l.ink.toList.flatMap fun x => Claims.le 4 x) ++
    Claims.le 4 l.lastDose ++ [l.bin] ++ [0, 0, 0] ++ Claims.le 4 seq.toNat

/-- The port with one report's writes in progress. -/
def Claims.portWrites (writes : List HostWrite) (s : State) : Port :=
  { s.port with current := some { kind := .report, discard := false, addr := 0, length := 0, writes := writes } }

/-- The codes of section 11.7 in what the part writes: incident kinds, line states, reasons and places. -/
def Claims.ReportCodes : Prop :=
  List.map incidentCode
      [.slotOpen, .lineNotReady, .tagMismatch, .platenDisabled, .platenOccupied, .withdrawn, .duplicateTag, .tableFull,
        .noOrder, .bound, .garmentFailed, .garmentStripped, .indexFault, .carouselHomed, .passCut, .tankLow, .tankEmpty,
        .tankRefilled, .pressSkipped, .chainFault, .printCut, .flashSkipped, .flashCut, .strayEntry, .beltFull, .zoneStale,
        .zoneFresh, .overdue, .strayExit, .earlyPick, .packMissing, .stray, .packed, .orderReopened, .orderReady,
        .orderFailed, .binCleared, .binOpen, .binFree, .moveOverflow, .moduleLost, .moduleBack, .lineMode, .runRefused,
        .lineCmdFailed, .captureLost, .memFault, .nudgeDropped] = List.range' 1 48 ∧
  List.map lineStateCode [.idle, .refused, .queued, .active, .closing, .finished, .failed, .voided] = List.range 8 ∧
  List.map reasonCode
      [.none, .badLine, .badBlank, .badQuantity, .badChainAddr, .noPlanes, .orderMismatch, .dupLine, .ordersFull,
        .failLimit, .void, .lostAtReset] = List.range 12 ∧
  List.map placeCode [.atLoad, .onCarousel, .inTransfer, .onBelt, .awaitingPack] = List.range 5

/-- The report writer takes the head incident before any dirty slot, and of the dirty slots the next above the one written last, round from 127 to 0. An
incident's record goes to the next-index of the incident list with the next chip sequence, followed by the header's fields with the next-index moved on; a slot
report goes to the slot's report fields and its change sequence, followed by the header's fields with the next-index as it is. -/
def Claims.ReportsStartInOrder : Prop :=
  ∀ (s : State) (base : Addr),
    attached s = true → s.reports.job = none → s.reports.headerWriting = false → s.port.current = none → s.exch.base = some base →
      (∀ (i : Incident) (rest : List Incident), s.reports.fifo = i :: rest →
        exec .reportStart s =
          .next
            { s with
              reports := { s.reports with fifo := rest, job := some .incident }
              port :=
                Claims.portWrites
                  [{ addr := base + BitVec.ofNat 64 (0x800 + 32 * s.reports.next)
                     bytes := Claims.incidentRecord i (s.reports.chipSeq + 1) s.reports.drop },
                    Claims.headerFields base (s.reports.chipSeq + 1) ((s.reports.next + 1) % 64)] s }) ∧
      (∀ slot : Fin 128, s.reports.fifo = [] → Tbl.at s.reports.dirty slot = true →
        (∀ o : Fin 128, Tbl.at s.reports.dirty o = true → o ≠ slot →
          (slot.val + 127 - s.reports.last.val) % 128 < (o.val + 127 - s.reports.last.val) % 128) →
            exec .reportStart s =
              .next
                { s with
                  reports :=
                    { s.reports with
                      dirty := Tbl.put s.reports.dirty slot false, last := slot, job := some (.slot slot) }
                  port :=
                    Claims.portWrites
                      [{ addr := base + BitVec.ofNat 64 (0x1000 + 256 * slot.val) + 0xC8
                         bytes := Claims.slotRecord (lineAt s slot) (s.reports.chipSeq + 1) },
                        Claims.headerFields base (s.reports.chipSeq + 1) s.reports.next] s }) ∧
      (s.reports.fifo = [] → (∀ o : Fin 128, Tbl.at s.reports.dirty o = false) → exec .reportStart s = .next s)

/-- A report that succeeds raises the chip sequence by one, and an incident's moves the next-index and clears the drop flag; an error sets MEM, and the
incident sets the drop flag or the slot is dirty again. -/
def Claims.ReportsEnd : Prop :=
  ∀ (s : State) (a : Access), Claims.onlyAccess s .report a →
    (s.reports.job = some .incident →
      exec (.reportWriteDone .ok) s =
        .next
          { s with
            port := Claims.portFree s
            reports :=
              { s.reports with
                job := none, chipSeq := s.reports.chipSeq + 1, next := (s.reports.next + 1) % 64, drop := false } } ∧
      exec (.reportWriteDone .error) s =
        .next
          { s with
            port := Claims.portFree s, reports := { s.reports with job := none, drop := true }
            exch := { s.exch with mem := true } }) ∧
    (∀ slot : Fin 128, s.reports.job = some (.slot slot) →
      exec (.reportWriteDone .ok) s =
        .next
          { s with
            port := Claims.portFree s
            reports := { s.reports with job := none, chipSeq := s.reports.chipSeq + 1 } } ∧
      exec (.reportWriteDone .error) s =
        .next
          { s with
            port := Claims.portFree s
            reports := { s.reports with job := none, dirty := Tbl.put s.reports.dirty slot true }
            exch := { s.exch with mem := true } })

/-- Which report goes out next, what it writes to host memory and where, and how it ends. (That the slot written last is set, and the drop flag read
for DROP_BEFORE, when the report starts are the model's choices, log entry 24.) -/
def Obligations.ReportsGoOutInOrder : Prop := Claims.ReportsStartInOrder ∧ Claims.ReportsEnd ∧ Claims.ReportCodes

/-! ## Matching -/

/-- A line that may take a shirt of a blank code: QUEUED or ACTIVE, with that blank code in its snapshot, and with room. -/
def Claims.mayTake (s : State) (blank : Nat) (i : Fin 128) : Prop :=
  ((lineAt s i).state = .queued ∨ (lineAt s i).state = .active) ∧
  ∃ p : Snapshot,
    (lineAt s i).snap = some p ∧ p.blank = blank ∧ (lineAt s i).bound + (lineAt s i).finished < p.quantity

/-- The line is RUSH. -/
def Claims.rush (s : State) (i : Fin 128) : Prop := ∃ p : Snapshot, (lineAt s i).snap = some p ∧ p.rush = true

/-- A STOCK tag goes to a line of the acceptance list that may take it: RUSH before NORMAL, and within one priority the one nearest the head of the list. With no
such line there is no match. -/
def Claims.MatchRanksTheLines : Prop :=
  ∀ (s : State) (blank : Nat),
    (∀ i : Fin 128, stockMatch s blank = some i →
      Claims.mayTake s blank i ∧
      ∃ before rest : List (Fin 128),
        s.accepted = before ++ i :: rest ∧
        (∀ h ∈ before, Claims.mayTake s blank h → Claims.rush s i ∧ ¬Claims.rush s h) ∧
        (∀ h ∈ rest, Claims.mayTake s blank h → Claims.rush s h → Claims.rush s i)) ∧
    (stockMatch s blank = none ↔ ∀ h ∈ s.accepted, ¬Claims.mayTake s blank h)

/-- The record that a bind takes is the free one of the lowest number, and with none free there is none. -/
def Claims.FreeRecordIsLowest : Prop :=
  ∀ s : State,
    (∀ g : Fin 32, freeRecord s = some g → garmentAt s g = none ∧ ∀ h : Fin 32, h < g → garmentAt s h ≠ none) ∧
    (freeRecord s = none ↔ ∀ h : Fin 32, garmentAt s h ≠ none)

/-- A load scan is about to be whole in a mode that takes scans, with nothing moving and the LOAD platen enabled: the second transfer of a CONTINUE pair with
LOAD_SCANNER is on the link, and the frame accepts it with a tag whose fields are `f`. -/
def Claims.loadScan (s : State) (frame : List Byte) (f : TagFields) : Prop :=
  ∃ (o : OnLink) (v : Service) (status tag : Word),
    s.link.onLink = some o ∧ o.carrier = .attention ∧ o.role = .loadScanner ∧ classify o frame = .accept tag ∧
    s.link.service = some v ∧ v.role = .loadScanner ∧ v.status = some status ∧ scanReady v status = true ∧
    (moduleAt s .loadScanner).state = .present ∧ tagFields v.settings.tags tag = f ∧
    (s.ctl.mode = .run ∨ s.ctl.mode = .hold ∨ s.ctl.mode = .warming) ∧ s.carousel.op = .none ∧
    (platenOf s (platenAt s 0)).enabled = true

/-- A scanned shirt has been bound to a line in a record. The line is ACTIVE with bound one higher and its slot dirty, the platen holds the garment, BOUND is raised with
the slot, the record, the serial, the order key, the line number and the blank code, and SHOW with slot and line number goes to the LOAD place. -/
def Claims.boundTo (s t : State) (f : TagFields) (k : TagKind) (i : Fin 128) (g : Fin 32) : Prop :=
  t.link.onLink = none ∧ t.link.service = none ∧
  lineAt t i = { lineAt s i with state := .active, bound := (lineAt s i).bound + 1 } ∧
  (∀ h : Fin 128, h ≠ i → lineAt t h = lineAt s h) ∧
  t.reports =
    { Claims.raised
        { incident .bound with
          slot := some i, garment := some g, serial := f.serial, key := keyOf s i
          detail := lineNumber (lineAt s i), value := f.blank } s with
      dirty := Tbl.put s.reports.dirty i true } ∧
  (∃ r : Garment,
    garmentAt t g = some r ∧ r.serial = f.serial ∧ r.tagKind = k ∧ r.blank = f.blank ∧ r.slot = i ∧
    r.stamp = (lineAt s i).take ∧ r.cond = .good ∧ r.place = .atLoad ∧ r.platen = some (platenAt s 0) ∧
    r.flashDose = 0 ∧ r.dryerDose = 0 ∧ r.bindTime = s.clock) ∧
  (∀ h : Fin 32, h ≠ g → garmentAt t h = garmentAt s h) ∧
  platenOf t (platenAt s 0) = { platenOf s (platenAt s 0) with garment := some g } ∧
  (∀ p : Fin 12, p ≠ platenAt s 0 → platenOf t p = platenOf s p) ∧
  (placeAt t .load).now =
    Claims.handed .loadScanner .putCmd
      (BitVec.ofNat 32 (9 + 256 * min 16777215 (16 * i.val + lineNumber (lineAt s i)))) s ∧
  t.ctl = s.ctl ∧ t.dryer = s.dryer ∧ t.pack = s.pack ∧ t.engine = s.engine

/-- A load scan that finds the LOAD platen empty, of a STOCK tag with a new serial, is bound to the first-ranked line in the lowest free record. -/
def Claims.BindJoinsShirtAndLine : Prop :=
  ∀ (s : State) (frame : List Byte) (i : Fin 128) (g : Fin 32) (f : TagFields),
    Claims.loadScan s frame f → f.kind = 0 → (platenOf s (platenAt s 0)).garment = none → findSerial s f.serial = none →
    freeRecord s = some g → stockMatch s f.blank = some i → (lineAt s i).bound < 255 → (placeAt s .load).now = none →
    unreachable s .loadScanner = false →
      ∃ t : State, exec (.tryAccept frame) s = .next t ∧ Claims.boundTo s t f .stock i g

/-- A STOCK tag at LOAD: which line it goes to, which record it takes, and what the bind does. -/
def Obligations.StockScanBindsTheShirt : Prop :=
  Claims.BindJoinsShirtAndLine ∧ Claims.MatchRanksTheLines ∧ Claims.FreeRecordIsLowest

/-- A load scan that raised one incident and changed nothing but the link. -/
def Claims.scanTold (s : State) (frame : List Byte) (i : Incident) : Prop :=
  ∃ t : State,
    exec (.tryAccept frame) s = .next t ∧ t = { s with link := t.link, reports := Claims.raised i s } ∧
    t.link.onLink = none ∧ t.link.service = none ∧ t.link.places = s.link.places

/-- A load scan of an ORDER tag with a new serial on an empty LOAD platen, a record being free. It is bound to the line of the slot it names, or TAG_MISMATCH carries the
detail of the first test that fails: 65536 for a slot beyond 127, 65537 for a line that is neither QUEUED nor ACTIVE, 65538 for another blank code, 65539 for a line
with no room. -/
def Claims.OrderTagNamesItsLine : Prop :=
  ∀ (s : State) (frame : List Byte) (f : TagFields) (g : Fin 32),
    Claims.loadScan s frame f → f.kind = 1 → (platenOf s (platenAt s 0)).garment = none → findSerial s f.serial = none →
    freeRecord s = some g →
      (128 ≤ f.slot →
        Claims.scanTold s frame
          { incident .tagMismatch with serial := f.serial, detail := 65536, value := f.slot }) ∧
      (∀ i : Fin 128, i.val = f.slot →
        let told (detail : Nat) : Prop :=
          Claims.scanTold s frame
            { incident .tagMismatch with
              slot := some i, serial := f.serial, key := keyOf s i, detail := detail, value := f.slot }
        ((lineAt s i).state ≠ .queued → (lineAt s i).state ≠ .active → told 65537) ∧
        (∀ p : Snapshot, (lineAt s i).state = .queued ∨ (lineAt s i).state = .active → (lineAt s i).snap = some p →
          (p.blank ≠ f.blank → told 65538) ∧
          (p.blank = f.blank → p.quantity ≤ (lineAt s i).bound + (lineAt s i).finished → told 65539) ∧
          (p.blank = f.blank → (lineAt s i).bound + (lineAt s i).finished < p.quantity → (lineAt s i).bound < 255 →
            (placeAt s .load).now = none → unreachable s .loadScanner = false →
              ∃ t : State, exec (.tryAccept frame) s = .next t ∧ Claims.boundTo s t f .order i g)))

/-- A load scan of a STOCK or ORDER tag that finds a garment on the LOAD platen. Another serial is PLATEN_OCCUPIED. The garment's own serial withdraws it: WITHDRAWN, its
record free, the platen empty with a pending enable value taken, no SHOW, its ink on its line's totals, and the line's bound one lower when it was GOOD and as it
was otherwise. -/
def Claims.ScanOfTheLoadPlaten : Prop :=
  ∀ (s : State) (frame : List Byte) (f : TagFields) (g : Fin 32) (r : Garment),
    Claims.loadScan s frame f → f.kind = 0 ∨ f.kind = 1 → (platenOf s (platenAt s 0)).garment = some g →
    garmentAt s g = some r →
      let told (k : IncidentKind) : Incident :=
        { incident k with slot := some r.slot, garment := some g, serial := f.serial, key := keyOf s r.slot }
      (r.serial ≠ f.serial → Claims.scanTold s frame (told .platenOccupied)) ∧
      (r.serial = f.serial → r.platen = some (platenAt s 0) → (lineAt s r.slot).take = r.stamp →
        (lineAt s r.slot).state = .active → (lineAt s r.slot).finished < quantityOf (lineAt s r.slot) →
          ∃ t : State,
            exec (.tryAccept frame) s = .next t ∧ t.link.onLink = none ∧ t.link.places = s.link.places ∧
            t =
              { s with
                link := t.link, garments := Tbl.put s.garments g none, lines := t.lines, reports := t.reports
                carousel := { s.carousel with platens := t.carousel.platens } } ∧
            t.reports.fifo = (Claims.raised (told .withdrawn) s).fifo ∧
            platenOf t (platenAt s 0) =
              { garment := none, enabled := (platenOf s (platenAt s 0)).pending.getD true, pending := none } ∧
            (∀ p : Fin 12, p ≠ platenAt s 0 → platenOf t p = platenOf s p) ∧
            (∀ h : Fin 128, h ≠ r.slot → lineAt t h = lineAt s h) ∧
            lineAt t r.slot =
              { lineAt s r.slot with
                bound := if r.cond = .good then (lineAt s r.slot).bound - 1 else (lineAt s r.slot).bound
                ink := (lineAt t r.slot).ink } ∧
            (r.cond = .good → Tbl.at t.reports.dirty r.slot = true) ∧
            (∀ c : Fin 6,
              Tbl.at (lineAt t r.slot).ink c =
                min 4294967295 (Tbl.at (lineAt s r.slot).ink c + Tbl.at r.ink c)))

/-- Load scans of ORDER tags, and load scans that find a garment on the LOAD platen. -/
def Obligations.OrderTagsAndWithdrawals : Prop := Claims.OrderTagNamesItsLine ∧ Claims.ScanOfTheLoadPlaten

/-! ## Packing -/

/-- A pack scan is about to be whole: the second transfer of a CONTINUE pair with PACK_SCANNER is on the link, the frame accepts it with a tag whose
fields are `f`, and the PACK requester has no transaction. -/
def Claims.packScan (s : State) (frame : List Byte) (f : TagFields) : Prop :=
  ∃ (o : OnLink) (v : Service) (status tag : Word),
    s.link.onLink = some o ∧ o.carrier = .attention ∧ o.role = .packScanner ∧ classify o frame = .accept tag ∧
    s.link.service = some v ∧ v.role = .packScanner ∧ v.status = some status ∧ scanReady v status = true ∧
    tagFields v.settings.tags tag = f ∧ (moduleAt s .packScanner).state = .present ∧ (placeAt s .pack).now = none ∧
    unreachable s .packScanner = false

/-- The PACK requester's SHOW with a destination code. -/
def Claims.shows (code : Nat) (s : State) : Option Queued :=
  Claims.handed .packScanner .putCmd (BitVec.ofNat 32 (9 + 256 * code)) s

/-- A BIN tag: a free bin is answered with BIN_FREE and REFUSED, one of an OPEN order with BIN_OPEN and REFUSED, and one of a READY order is cleared
with BIN_CLEARED and CLEARED, its order's entry deleted; the head of the overflow waiting list takes a cleared bin. -/
def Claims.BinTagActsOnItsBin : Prop :=
  ∀ (s : State) (frame : List Byte) (f : TagFields) (b : Fin 12),
    Claims.packScan s frame f → f.kind = 2 → f.bin = b.val + 1 →
      (Tbl.at s.pack.bins b = none →
        ∃ t : State,
          exec (.tryAccept frame) s = .next t ∧ t = { s with link := t.link, reports := t.reports } ∧
          t.reports = Claims.raised { incident .binFree with detail := b.val + 1 } s ∧
          (placeAt t .pack).now = Claims.shows 18 s) ∧
      (∀ (key : Word) (ord : Order), Tbl.at s.pack.bins b = some key → orderAt s key = some ord →
        (ord.ready = false →
          ∃ t : State,
            exec (.tryAccept frame) s = .next t ∧ t = { s with link := t.link, reports := t.reports } ∧
            t.reports =
              Claims.raised
                { incident .binOpen with
                  key := key, detail := b.val + 1, value := (ord.items.filter fun i => i.final).length } s ∧
            (placeAt t .pack).now = Claims.shows 18 s) ∧
        (ord.ready = true → s.pack.waiting = [] →
          ∃ t : State,
            exec (.tryAccept frame) s = .next t ∧ t = { s with link := t.link, reports := t.reports, pack := t.pack } ∧
            t.pack =
              { s.pack with
                bins := Tbl.put s.pack.bins b none, orders := s.pack.orders.filter fun x => x.key != key } ∧
            t.reports =
              Claims.raised { incident .binCleared with key := key, detail := b.val + 1, value := ord.packed } s ∧
            (placeAt t .pack).now = Claims.shows 17 s) ∧
        (∀ (next : Word) (rest : List Word) (moved : Order), ord.ready = true → s.pack.waiting = next :: rest → next ≠ key →
          orderAt s next = some moved →
            ∃ t : State,
              exec (.tryAccept frame) s = .next t ∧ Tbl.at t.pack.bins b = some next ∧ t.pack.waiting = rest ∧
              orderAt t key = none ∧ orderAt t next = some { moved with bin := .bin b } ∧
              t.pack.queue = s.pack.queue ∧ t.garments = s.garments ∧ (placeAt t .pack).now = Claims.shows 17 s))

/-- A pack scan finds a shirt in the pack queue: the frame brings a STOCK or ORDER tag that carries the serial of the entry's garment, and of no entry before it. -/
def Claims.packFinds (s : State) (frame : List Byte) (f : TagFields) (e : TimedEntry) (r : Garment) : Prop :=
  Claims.packScan s frame f ∧ (f.kind = 0 ∨ f.kind = 1) ∧ garmentAt s e.garment = some r ∧ r.serial = f.serial ∧
  ∃ before rest : List TimedEntry,
    s.pack.queue = before ++ e :: rest ∧
    ∀ x ∈ before, ∀ y : Garment, garmentAt s x.garment = some y → y.serial ≠ f.serial

/-- The reports after PACKED with a destination code was raised for a garment. -/
def Claims.packedRaised (g : Fin 32) (r : Garment) (code : Nat) (s : State) : Reports :=
  Claims.raised
    { incident .packed with
      slot := some r.slot, garment := some g, serial := r.serial, key := keyOf s r.slot, detail := code
      value := r.dryerDose / 10000 } s

/-- A garment of the pack queue has gone to a destination with a code: shown, out of the queue, its record free and, with a matching take stamp, its ink on its
line's totals; every other record, every other line, the dryer, the mode and the carousel are as they were. -/
def Claims.packedAway (s t : State) (g : Fin 32) (r : Garment) (code : Nat) : Prop :=
  garmentAt t g = none ∧ (∀ h : Fin 32, h ≠ g → garmentAt t h = garmentAt s h) ∧
  t.pack.queue = s.pack.queue.filter (fun x => x.garment != g) ∧ (placeAt t .pack).now = Claims.shows code s ∧
  (∀ h : Fin 128, h ≠ r.slot → lineAt t h = lineAt s h) ∧
  ((lineAt s r.slot).take = r.stamp →
    ∀ c : Fin 6, Tbl.at (lineAt t r.slot).ink c = min 4294967295 (Tbl.at (lineAt s r.slot).ink c + Tbl.at r.ink c)) ∧
  t.dryer = s.dryer ∧ t.ctl = s.ctl ∧ t.carousel = s.carousel

/-- A FAILED garment goes to REJECT with no count changed, and a VOID_PRINTED one to SPARE, its line's bound falling by one. A GOOD one without the REFEED flag whose
order has a bin goes there, and to OVERFLOW when the order waits for one: the order's packed count, at OVERFLOW its overflow count too, and the line's finished
rise by one and bound falls by one. Each is PACKED with its destination and dose. -/
def Claims.PackScanSortsTheGarment : Prop :=
  ∀ (s : State) (frame : List Byte) (f : TagFields) (e : TimedEntry) (r : Garment),
    Claims.packFinds s frame f e r → r.platen = none → (lineAt s r.slot).take = r.stamp →
      (r.cond = .failed →
        ∃ t : State,
          exec (.tryAccept frame) s = .next t ∧ Claims.packedAway s t e.garment r 16 ∧
          t.reports.fifo = (Claims.packedRaised e.garment r 16 s).fifo ∧ t.pack = { s.pack with queue := t.pack.queue } ∧
          lineAt t r.slot = { lineAt s r.slot with ink := (lineAt t r.slot).ink }) ∧
      (r.cond = .voidPrinted → (lineAt s r.slot).state = .closing → 2 ≤ (lineAt s r.slot).bound →
        (lineAt s r.slot).finished < quantityOf (lineAt s r.slot) →
          ∃ t : State,
            exec (.tryAccept frame) s = .next t ∧ Claims.packedAway s t e.garment r 14 ∧
            t.reports.fifo = (Claims.packedRaised e.garment r 14 s).fifo ∧ t.pack = { s.pack with queue := t.pack.queue } ∧
            lineAt t r.slot =
              { lineAt s r.slot with bound := (lineAt s r.slot).bound - 1, ink := (lineAt t r.slot).ink }) ∧
      (∀ ord : Order,
        r.cond = .good → r.refeed = false → orderAt s (keyOf s r.slot) = some ord → ord.bin ≠ .none →
        (lineAt s r.slot).state = .active → (lineAt s r.slot).finished + 1 < quantityOf (lineAt s r.slot) →
        (lineAt s r.slot).finished < 255 →
          let code := match ord.bin with | .bin b => b.val + 1 | .none => 0 | .waiting => 13
          ∃ t : State,
            exec (.tryAccept frame) s = .next t ∧ Claims.packedAway s t e.garment r code ∧
            t.reports.fifo = (Claims.packedRaised e.garment r code s).fifo ∧
            t.pack =
              { s.pack with
                queue := t.pack.queue
                orders :=
                  s.pack.orders.map fun x =>
                    if x.key = ord.key then
                      { ord with
                        packed := min 65535 (ord.packed + 1)
                        overflow := if ord.bin = .waiting then min 65535 (ord.overflow + 1) else ord.overflow }
                    else x } ∧
            lineAt t r.slot =
              { lineAt s r.slot with
                bound := (lineAt s r.slot).bound - 1, finished := (lineAt s r.slot).finished + 1
                ink := (lineAt t r.slot).ink })

/-- Pack scans of a garment in the pack queue by its condition, with its order's place settled, and scans of BIN tags. (A GOOD garment without the REFEED flag goes
to its order's bin whatever its exit verdict: the model's choice, log entry 32.) -/
def Obligations.PackScansSortAndClear : Prop := Claims.BinTagActsOnItsBin ∧ Claims.PackScanSortsTheGarment

/-- The item of a slot at a take count, final; every other item as it was. -/
def Claims.finalized (slot : Fin 128) (take : Byte) (x : OrderItem) : OrderItem :=
  if x.slot = slot ∧ x.take = take then { x with final := true } else x

/-- A pack that brings a line's finished count to its quantity, its order having a bin or waiting for one. The line is FINISHED with reason NONE, dirty and out of the
acceptance list, and its item in the order is final. When every expected line is final with that, the order is READY and ORDER_READY with its bin and overflow count
follows PACKED; otherwise the order stays OPEN and PACKED stands alone. (That a GOOD garment without the REFEED flag goes to its order whatever its exit verdict is
the model's choice, log entry 32.) -/
def Obligations.PackThatFinishesALine : Prop :=
  ∀ (s : State) (frame : List Byte) (f : TagFields) (e : TimedEntry) (r : Garment) (ord : Order) (x : OrderItem),
    Claims.packFinds s frame f e r → r.platen = none → (lineAt s r.slot).take = r.stamp → r.cond = .good → r.refeed = false →
    orderAt s (keyOf s r.slot) = some ord → ord.bin ≠ .none → ord.ready = false → x ∈ ord.items → x.slot = r.slot →
    x.take = r.stamp → (lineAt s r.slot).state = .active ∨ (lineAt s r.slot).state = .closing →
    (lineAt s r.slot).finished + 1 = quantityOf (lineAt s r.slot) → (lineAt s r.slot).finished < 255 →
      let code := match ord.bin with | .bin b => b.val + 1 | .none => 0 | .waiting => 13
      let items := ord.items.map (Claims.finalized r.slot r.stamp)
      let packed := min 65535 (ord.packed + 1)
      let overflow := if ord.bin = .waiting then min 65535 (ord.overflow + 1) else ord.overflow
      let ready : Bool := (items.filter fun y => y.final).length = ord.expected
      ∃ t : State,
        exec (.tryAccept frame) s = .next t ∧ Claims.packedAway s t e.garment r code ∧
        lineAt t r.slot =
          { lineAt s r.slot with
            state := .finished, reason := .none, bound := (lineAt s r.slot).bound - 1
            finished := (lineAt s r.slot).finished + 1, ink := (lineAt t r.slot).ink } ∧
        t.accepted = s.accepted.filter (fun y => y != r.slot) ∧ Tbl.at t.reports.dirty r.slot = true ∧
        orderAt t ord.key = some { ord with items := items, packed := packed, overflow := overflow, ready := ready } ∧
        (∀ k : Word, k ≠ ord.key → orderAt t k = orderAt s k) ∧ t.pack.bins = s.pack.bins ∧
        t.pack.waiting = s.pack.waiting ∧
        (ready = false → t.reports.fifo = (Claims.packedRaised e.garment r code s).fifo) ∧
        (ready = true → s.reports.fifo.length + 2 ≤ 16 →
          t.reports.fifo =
            (Claims.packedRaised e.garment r code s).fifo ++
              [{ incident .orderReady with
                  key := ord.key, detail := (match ord.bin with | .bin b => b.val + 1 | .none => 0 | .waiting => 0)
                  value := overflow, time := s.clock }])

/-- A GOOD garment whose order has no bin yet takes the lowest free bin for it, or puts it at the tail of the overflow waiting list when none is free; the order's
items show it in their slots' bin fields, and the garment goes there (whatever its exit verdict, of which the manual gives every such garment one: log entry 32). -/
def Claims.FirstPackTakesABin : Prop :=
  ∀ (s : State) (frame : List Byte) (f : TagFields) (e : TimedEntry) (r : Garment) (ord : Order),
    Claims.packFinds s frame f e r → r.platen = none → (lineAt s r.slot).take = r.stamp →
    r.cond = .good → r.refeed = false → orderAt s (keyOf s r.slot) = some ord → ord.bin = .none →
      (∀ b : Fin 12, Tbl.at s.pack.bins b = none → (∀ x : Fin 12, x < b → Tbl.at s.pack.bins x ≠ none) →
        ∃ t : State,
          exec (.tryAccept frame) s = .next t ∧ Tbl.at t.pack.bins b = some ord.key ∧
          (∀ x : Fin 12, x ≠ b → Tbl.at t.pack.bins x = Tbl.at s.pack.bins x) ∧ t.pack.waiting = s.pack.waiting ∧
          (placeAt t .pack).now = Claims.shows (b.val + 1) s ∧ garmentAt t e.garment = none ∧
          (∀ i ∈ ord.items, (lineAt s i.slot).take = i.take → (lineAt t i.slot).bin = BitVec.ofNat 8 (b.val + 1))) ∧
      ((∀ x : Fin 12, Tbl.at s.pack.bins x ≠ none) →
        ∃ t : State,
          exec (.tryAccept frame) s = .next t ∧ t.pack.bins = s.pack.bins ∧ t.pack.waiting = s.pack.waiting ++ [ord.key] ∧
          (placeAt t .pack).now = Claims.shows 13 s ∧ garmentAt t e.garment = none ∧
          (∀ i ∈ ord.items, (lineAt s i.slot).take = i.take → (lineAt t i.slot).bin = 255))

/-- A GOOD garment with the REFEED flag: with room in the transfer list it joins its tail, its refeed count one higher and its belt fields and flags cleared, and REFEED
is shown; with no room it has failed with UNDERCURED and goes to REJECT. -/
def Claims.RefeedGoesBackToTheBelt : Prop :=
  ∀ (s : State) (frame : List Byte) (f : TagFields) (e : TimedEntry) (r : Garment),
    Claims.packFinds s frame f e r → r.cond = .good → r.refeed = true →
      (s.dryer.transfer.length < 4 →
        ∃ t : State,
          exec (.tryAccept frame) s = .next t ∧
          t = { s with link := t.link, reports := t.reports, garments := t.garments, dryer := t.dryer, pack := t.pack } ∧
          t.dryer = { s.dryer with transfer := s.dryer.transfer ++ [{ garment := e.garment, entry := s.clock }] } ∧
          t.pack = { s.pack with queue := s.pack.queue.filter (fun x => x.garment != e.garment) } ∧
          garmentAt t e.garment =
            some
              { r with
                refeeds := r.refeeds + 1, place := .inTransfer, early := false, overdue := false, refeed := false
                verdict := none, beltEntry := none, beltExit := none, entryOdo := none } ∧
          (∀ h : Fin 32, h ≠ e.garment → garmentAt t h = garmentAt s h) ∧
          t.reports = Claims.packedRaised e.garment r 15 s ∧ (placeAt t .pack).now = Claims.shows 15 s) ∧
      (4 ≤ s.dryer.transfer.length →
        ∃ t : State,
          exec (.tryAccept frame) s = .next t ∧ garmentAt t e.garment = none ∧ t.dryer.transfer = s.dryer.transfer ∧
          t.pack.queue = s.pack.queue.filter (fun x => x.garment != e.garment) ∧
          (placeAt t .pack).now = Claims.shows 16 s ∧
          (s.reports.fifo.length + 4 ≤ 16 →
            { incident .garmentFailed with
              slot := some r.slot, garment := some e.garment, serial := r.serial, key := keyOf s r.slot, detail := 9
              time := s.clock } ∈ t.reports.fifo ∧
            { incident .packed with
              slot := some r.slot, garment := some e.garment, serial := r.serial, key := keyOf s r.slot, detail := 16
              value := r.dryerDose / 10000, time := s.clock } ∈ t.reports.fifo))

/-- A scan of a serial that is in neither the pack queue nor the belt queue is a stray: SPARE is shown, and STRAY carries the record and place of a live garment
with the serial. A BIN tag with no bin of 1..12 and a tag of no kind are answered with TAG_MISMATCH and REFUSED. -/
def Claims.OtherPackScans : Prop :=
  ∀ (s : State) (frame : List Byte) (f : TagFields), Claims.packScan s frame f →
    let told (i : Incident) (code : Nat) : Prop :=
      ∃ t : State,
        exec (.tryAccept frame) s = .next t ∧ t = { s with link := t.link, reports := t.reports } ∧
        t.reports = Claims.raised i s ∧ (placeAt t .pack).now = Claims.shows code s
    let away (x : Fin 32) : Prop := ∀ y : Garment, garmentAt s x = some y → y.serial ≠ f.serial
    (f.kind = 2 → f.bin = 0 ∨ 12 < f.bin → told { incident .tagMismatch with detail := 2, value := f.bin } 18) ∧
    (2 < f.kind → told { incident .tagMismatch with detail := f.kind } 18) ∧
    (f.kind = 0 ∨ f.kind = 1 → (∀ x ∈ s.pack.queue, away x.garment) →
      ((∀ x ∈ s.dryer.belt, ∀ g : Fin 32, x.garment = some g → away g) →
        ((∀ g : Fin 32, away g) → told { incident .stray with serial := f.serial } 14) ∧
        (∀ (g : Fin 32) (r : Garment), garmentAt s g = some r → r.serial = f.serial → (∀ h : Fin 32, h < g → away h) →
          told
            { incident .stray with serial := f.serial, detail := 1, garment := some g, place := some r.place } 14)))

/-- A scan of a garment on the belt that is not in the pack queue is an early pick: EARLY_PICK with the travelled distance, its entry out of the belt queue, the
exit verdict on it with the line clock as exit time, its dose the line's last exit dose, and its destination at once: REJECT for one the verdict failed, SPARE for
a VOID_PRINTED one, REFEED (or REJECT with no room in the transfer list) for one marked for refeed, its order's bin or OVERFLOW for a CURED one. -/
def Claims.EarlyPackScans : Prop :=
  ∀ (s : State) (frame : List Byte) (f : TagFields) (before rest : List BeltEntry) (e : BeltEntry) (g : Fin 32) (r : Garment),
    Claims.packScan s frame f → f.kind = 0 ∨ f.kind = 1 →
    (∀ x ∈ s.pack.queue, ∀ y : Garment, garmentAt s x.garment = some y → y.serial ≠ f.serial) →
    s.dryer.belt = before ++ e :: rest → e.garment = some g → garmentAt s g = some r → r.serial = f.serial →
    (∀ x ∈ before, ∀ (h : Fin 32) (y : Garment), x.garment = some h → garmentAt s h = some y → y.serial ≠ f.serial) →
      let v := Claims.verdictOf s r
      let told (k : IncidentKind) (detail value : Nat) : Incident :=
        { incident k with
          slot := some r.slot, garment := some g, serial := r.serial, key := keyOf s r.slot, detail := detail, value := value
          time := s.clock }
      let gone (t : State) (code : Nat) : Prop :=
        garmentAt t g = none ∧ t.dryer = { s.dryer with belt := s.dryer.belt.filter fun x => x.garment != some g } ∧
        (placeAt t .pack).now = Claims.shows code s
      ∃ t : State,
        exec (.tryAccept frame) s = .next t ∧ t.pack.queue = s.pack.queue ∧ t.clock = s.clock ∧
        (s.reports.fifo.length < 16 → told .earlyPick 0 (s.dryer.odometer - e.odo).toNat ∈ t.reports.fifo) ∧
        ((lineAt s r.slot).take = r.stamp →
          (lineAt t r.slot).lastDose = r.dryerDose / 10000 ∧ Tbl.at t.reports.dirty r.slot = true) ∧
        (r.cond = .failed →
          gone t 16 ∧
          (s.reports.fifo.length + 2 ≤ 16 →
            t.reports.fifo =
              s.reports.fifo ++
                [told .earlyPick 0 (s.dryer.odometer - e.odo).toNat, told .packed 16 (r.dryerDose / 10000)])) ∧
        (r.cond = .voidPrinted →
          gone t 14 ∧ (s.reports.fifo.length + 2 ≤ 16 → told .packed 14 (r.dryerDose / 10000) ∈ t.reports.fifo)) ∧
        (r.cond = .good →
          (∀ code : FaultCode, v.2.2.1 = .failed → v.2.2.2 = some code →
            gone t 16 ∧
            (s.reports.fifo.length + 5 ≤ 16 →
              told .garmentFailed (faultCode code) 0 ∈ t.reports.fifo ∧
              told .packed 16 (r.dryerDose / 10000) ∈ t.reports.fifo)) ∧
          (v.2.2.1 = .good → v.1 = some .cured → v.2.1 = false →
            ∀ ord : Order, orderAt s (keyOf s r.slot) = some ord →
              (∀ b : Fin 12, ord.bin = .bin b →
                gone t (b.val + 1) ∧
                (s.reports.fifo.length + 2 ≤ 16 → told .packed (b.val + 1) (r.dryerDose / 10000) ∈ t.reports.fifo)) ∧
              (ord.bin = .waiting →
                gone t 13 ∧ (s.reports.fifo.length + 2 ≤ 16 → told .packed 13 (r.dryerDose / 10000) ∈ t.reports.fifo))) ∧
          (v.2.1 = true → s.dryer.transfer.length < 4 →
            garmentAt t g =
              some
                { r with
                  refeeds := r.refeeds + 1, place := .inTransfer, early := false, overdue := false, refeed := false
                  verdict := none, beltEntry := none, beltExit := none, entryOdo := none } ∧
            t.dryer =
              { s.dryer with
                belt := s.dryer.belt.filter fun x => x.garment != some g
                transfer := s.dryer.transfer ++ [{ garment := g, entry := s.clock }] } ∧
            (placeAt t .pack).now = Claims.shows 15 s ∧
            (s.reports.fifo.length + 2 ≤ 16 → told .packed 15 (r.dryerDose / 10000) ∈ t.reports.fifo)) ∧
          (v.2.1 = true → 4 ≤ s.dryer.transfer.length → gone t 16))

/-- The other pack scans: the first garment of an order, a refeed, an early pick, strays, and tags that name no bin or no kind. (That a GOOD garment from the pack
queue goes to its order's bin whatever its exit verdict is the model's choice, log entry 32: the manual gives one a verdict before it is there.) -/
def Obligations.PackScansOfOtherShirts : Prop :=
  Claims.FirstPackTakesABin ∧ Claims.RefeedGoesBackToTheBelt ∧ Claims.OtherPackScans ∧ Claims.EarlyPackScans

/-! ## Invariants -/

/-- The state after a reset meets every invariant below. -/
def Obligations.ResetMeetsTheInvariants : Prop :=
  EstopSafe State.reset ∧ Bounded State.reset ∧ MapOneToOne State.reset ∧ PortBusyWhileWaiting State.reset ∧
  StagingCanonical State.reset

/-- Every step keeps a stopped line still: from a state in which every unit at work has its garment and a stopped line moves, presses, prints, heats and sprays
nothing, each step leads to such a state. -/
def Obligations.EveryStepKeepsAStoppedLineStill : Prop :=
  ∀ s t : State, EstopSafe s → step s = .next t → EstopSafe t

/-- Every step keeps the tables of fixed size within their places, the platen map one to one, the host memory port busy while an access waits, and the
staging memory in its canonical form. -/
def Obligations.EveryStepKeepsTheTables : Prop :=
  ∀ s t : State, step s = .next t →
    (Bounded s → Bounded t) ∧ (MapOneToOne s → MapOneToOne t) ∧ (PortBusyWhileWaiting s → PortBusyWhileWaiting t) ∧
    (StagingCanonical s → StagingCanonical t)

/-- Only the end of the release time and a reset lead out of STOPPED: from a stopped line with its request and drain flag cleared and no index or home in
flight, every other command leaves the line STOPPED with both still clear. -/
def Obligations.OnlyReleaseLeavesStopped : Prop :=
  ∀ (c : Instr) (s t : State),
    s.ctl.mode = .stopped → s.ctl.drain = false → s.ctl.request = .absent → s.carousel.op = .none → exec c s = .next t →
    c ≠ .estopReleaseTimePasses → c ≠ .powerReset → c ≠ .pinReset → c ≠ .softReset →
      t.ctl.mode = .stopped ∧ t.ctl.drain = false ∧ t.ctl.request = .absent ∧ t.carousel.op = .none
end

