-- ==== Sys2Proof/Laws/State.lean ====
section
/-! SUPPORT. For every update of the state and every field: what the field is afterwards. All true by `rfl`, and tagged
`@[simp]`, so that no proof unfolds an update. -/

namespace Sys2Proof.Machine

variable (s : State)

/-! `setPending` -/
@[simp] theorem setPending_pending (v : List Instr) : (s.setPending v).pending = v := rfl
@[simp] theorem setPending_clock (v : List Instr) : (s.setPending v).clock = s.clock := rfl
@[simp] theorem setPending_pins (v : List Instr) : (s.setPending v).pins = s.pins := rfl
@[simp] theorem setPending_captures (v : List Instr) : (s.setPending v).captures = s.captures := rfl
@[simp] theorem setPending_buttons (v : List Instr) : (s.setPending v).buttons = s.buttons := rfl
@[simp] theorem setPending_ctl (v : List Instr) : (s.setPending v).ctl = s.ctl := rfl
@[simp] theorem setPending_config (v : List Instr) : (s.setPending v).config = s.config := rfl
@[simp] theorem setPending_catalog (v : List Instr) : (s.setPending v).catalog = s.catalog := rfl
@[simp] theorem setPending_lines (v : List Instr) : (s.setPending v).lines = s.lines := rfl
@[simp] theorem setPending_accepted (v : List Instr) : (s.setPending v).accepted = s.accepted := rfl
@[simp] theorem setPending_garments (v : List Instr) : (s.setPending v).garments = s.garments := rfl
@[simp] theorem setPending_carousel (v : List Instr) : (s.setPending v).carousel = s.carousel := rfl
@[simp] theorem setPending_pretreat (v : List Instr) : (s.setPending v).pretreat = s.pretreat := rfl
@[simp] theorem setPending_press (v : List Instr) : (s.setPending v).press = s.press := rfl
@[simp] theorem setPending_engine (v : List Instr) : (s.setPending v).engine = s.engine := rfl
@[simp] theorem setPending_staging (v : List Instr) : (s.setPending v).staging = s.staging := rfl
@[simp] theorem setPending_port (v : List Instr) : (s.setPending v).port = s.port := rfl
@[simp] theorem setPending_prints (v : List Instr) : (s.setPending v).prints = s.prints := rfl
@[simp] theorem setPending_lanes (v : List Instr) : (s.setPending v).lanes = s.lanes := rfl
@[simp] theorem setPending_flash (v : List Instr) : (s.setPending v).flash = s.flash := rfl
@[simp] theorem setPending_dryer (v : List Instr) : (s.setPending v).dryer = s.dryer := rfl
@[simp] theorem setPending_pack (v : List Instr) : (s.setPending v).pack = s.pack := rfl
@[simp] theorem setPending_link (v : List Instr) : (s.setPending v).link = s.link := rfl
@[simp] theorem setPending_exch (v : List Instr) : (s.setPending v).exch = s.exch := rfl
@[simp] theorem setPending_reports (v : List Instr) : (s.setPending v).reports = s.reports := rfl

/-! `setClock` -/
@[simp] theorem setClock_pending (v : Clock) : (s.setClock v).pending = s.pending := rfl
@[simp] theorem setClock_clock (v : Clock) : (s.setClock v).clock = v := rfl
@[simp] theorem setClock_pins (v : Clock) : (s.setClock v).pins = s.pins := rfl
@[simp] theorem setClock_captures (v : Clock) : (s.setClock v).captures = s.captures := rfl
@[simp] theorem setClock_buttons (v : Clock) : (s.setClock v).buttons = s.buttons := rfl
@[simp] theorem setClock_ctl (v : Clock) : (s.setClock v).ctl = s.ctl := rfl
@[simp] theorem setClock_config (v : Clock) : (s.setClock v).config = s.config := rfl
@[simp] theorem setClock_catalog (v : Clock) : (s.setClock v).catalog = s.catalog := rfl
@[simp] theorem setClock_lines (v : Clock) : (s.setClock v).lines = s.lines := rfl
@[simp] theorem setClock_accepted (v : Clock) : (s.setClock v).accepted = s.accepted := rfl
@[simp] theorem setClock_garments (v : Clock) : (s.setClock v).garments = s.garments := rfl
@[simp] theorem setClock_carousel (v : Clock) : (s.setClock v).carousel = s.carousel := rfl
@[simp] theorem setClock_pretreat (v : Clock) : (s.setClock v).pretreat = s.pretreat := rfl
@[simp] theorem setClock_press (v : Clock) : (s.setClock v).press = s.press := rfl
@[simp] theorem setClock_engine (v : Clock) : (s.setClock v).engine = s.engine := rfl
@[simp] theorem setClock_staging (v : Clock) : (s.setClock v).staging = s.staging := rfl
@[simp] theorem setClock_port (v : Clock) : (s.setClock v).port = s.port := rfl
@[simp] theorem setClock_prints (v : Clock) : (s.setClock v).prints = s.prints := rfl
@[simp] theorem setClock_lanes (v : Clock) : (s.setClock v).lanes = s.lanes := rfl
@[simp] theorem setClock_flash (v : Clock) : (s.setClock v).flash = s.flash := rfl
@[simp] theorem setClock_dryer (v : Clock) : (s.setClock v).dryer = s.dryer := rfl
@[simp] theorem setClock_pack (v : Clock) : (s.setClock v).pack = s.pack := rfl
@[simp] theorem setClock_link (v : Clock) : (s.setClock v).link = s.link := rfl
@[simp] theorem setClock_exch (v : Clock) : (s.setClock v).exch = s.exch := rfl
@[simp] theorem setClock_reports (v : Clock) : (s.setClock v).reports = s.reports := rfl

/-! `setPins` -/
@[simp] theorem setPins_pending (v : Pins) : (s.setPins v).pending = s.pending := rfl
@[simp] theorem setPins_clock (v : Pins) : (s.setPins v).clock = s.clock := rfl
@[simp] theorem setPins_pins (v : Pins) : (s.setPins v).pins = v := rfl
@[simp] theorem setPins_captures (v : Pins) : (s.setPins v).captures = s.captures := rfl
@[simp] theorem setPins_buttons (v : Pins) : (s.setPins v).buttons = s.buttons := rfl
@[simp] theorem setPins_ctl (v : Pins) : (s.setPins v).ctl = s.ctl := rfl
@[simp] theorem setPins_config (v : Pins) : (s.setPins v).config = s.config := rfl
@[simp] theorem setPins_catalog (v : Pins) : (s.setPins v).catalog = s.catalog := rfl
@[simp] theorem setPins_lines (v : Pins) : (s.setPins v).lines = s.lines := rfl
@[simp] theorem setPins_accepted (v : Pins) : (s.setPins v).accepted = s.accepted := rfl
@[simp] theorem setPins_garments (v : Pins) : (s.setPins v).garments = s.garments := rfl
@[simp] theorem setPins_carousel (v : Pins) : (s.setPins v).carousel = s.carousel := rfl
@[simp] theorem setPins_pretreat (v : Pins) : (s.setPins v).pretreat = s.pretreat := rfl
@[simp] theorem setPins_press (v : Pins) : (s.setPins v).press = s.press := rfl
@[simp] theorem setPins_engine (v : Pins) : (s.setPins v).engine = s.engine := rfl
@[simp] theorem setPins_staging (v : Pins) : (s.setPins v).staging = s.staging := rfl
@[simp] theorem setPins_port (v : Pins) : (s.setPins v).port = s.port := rfl
@[simp] theorem setPins_prints (v : Pins) : (s.setPins v).prints = s.prints := rfl
@[simp] theorem setPins_lanes (v : Pins) : (s.setPins v).lanes = s.lanes := rfl
@[simp] theorem setPins_flash (v : Pins) : (s.setPins v).flash = s.flash := rfl
@[simp] theorem setPins_dryer (v : Pins) : (s.setPins v).dryer = s.dryer := rfl
@[simp] theorem setPins_pack (v : Pins) : (s.setPins v).pack = s.pack := rfl
@[simp] theorem setPins_link (v : Pins) : (s.setPins v).link = s.link := rfl
@[simp] theorem setPins_exch (v : Pins) : (s.setPins v).exch = s.exch := rfl
@[simp] theorem setPins_reports (v : Pins) : (s.setPins v).reports = s.reports := rfl

/-! `setCaptures` -/
@[simp] theorem setCaptures_pending (v : Tbl 4 (Option Clock)) : (s.setCaptures v).pending = s.pending := rfl
@[simp] theorem setCaptures_clock (v : Tbl 4 (Option Clock)) : (s.setCaptures v).clock = s.clock := rfl
@[simp] theorem setCaptures_pins (v : Tbl 4 (Option Clock)) : (s.setCaptures v).pins = s.pins := rfl
@[simp] theorem setCaptures_captures (v : Tbl 4 (Option Clock)) : (s.setCaptures v).captures = v := rfl
@[simp] theorem setCaptures_buttons (v : Tbl 4 (Option Clock)) : (s.setCaptures v).buttons = s.buttons := rfl
@[simp] theorem setCaptures_ctl (v : Tbl 4 (Option Clock)) : (s.setCaptures v).ctl = s.ctl := rfl
@[simp] theorem setCaptures_config (v : Tbl 4 (Option Clock)) : (s.setCaptures v).config = s.config := rfl
@[simp] theorem setCaptures_catalog (v : Tbl 4 (Option Clock)) : (s.setCaptures v).catalog = s.catalog := rfl
@[simp] theorem setCaptures_lines (v : Tbl 4 (Option Clock)) : (s.setCaptures v).lines = s.lines := rfl
@[simp] theorem setCaptures_accepted (v : Tbl 4 (Option Clock)) : (s.setCaptures v).accepted = s.accepted := rfl
@[simp] theorem setCaptures_garments (v : Tbl 4 (Option Clock)) : (s.setCaptures v).garments = s.garments := rfl
@[simp] theorem setCaptures_carousel (v : Tbl 4 (Option Clock)) : (s.setCaptures v).carousel = s.carousel := rfl
@[simp] theorem setCaptures_pretreat (v : Tbl 4 (Option Clock)) : (s.setCaptures v).pretreat = s.pretreat := rfl
@[simp] theorem setCaptures_press (v : Tbl 4 (Option Clock)) : (s.setCaptures v).press = s.press := rfl
@[simp] theorem setCaptures_engine (v : Tbl 4 (Option Clock)) : (s.setCaptures v).engine = s.engine := rfl
@[simp] theorem setCaptures_staging (v : Tbl 4 (Option Clock)) : (s.setCaptures v).staging = s.staging := rfl
@[simp] theorem setCaptures_port (v : Tbl 4 (Option Clock)) : (s.setCaptures v).port = s.port := rfl
@[simp] theorem setCaptures_prints (v : Tbl 4 (Option Clock)) : (s.setCaptures v).prints = s.prints := rfl
@[simp] theorem setCaptures_lanes (v : Tbl 4 (Option Clock)) : (s.setCaptures v).lanes = s.lanes := rfl
@[simp] theorem setCaptures_flash (v : Tbl 4 (Option Clock)) : (s.setCaptures v).flash = s.flash := rfl
@[simp] theorem setCaptures_dryer (v : Tbl 4 (Option Clock)) : (s.setCaptures v).dryer = s.dryer := rfl
@[simp] theorem setCaptures_pack (v : Tbl 4 (Option Clock)) : (s.setCaptures v).pack = s.pack := rfl
@[simp] theorem setCaptures_link (v : Tbl 4 (Option Clock)) : (s.setCaptures v).link = s.link := rfl
@[simp] theorem setCaptures_exch (v : Tbl 4 (Option Clock)) : (s.setCaptures v).exch = s.exch := rfl
@[simp] theorem setCaptures_reports (v : Tbl 4 (Option Clock)) : (s.setCaptures v).reports = s.reports := rfl

/-! `setButtons` -/
@[simp] theorem setButtons_pending (v : Tbl 2 ButtonUnit) : (s.setButtons v).pending = s.pending := rfl
@[simp] theorem setButtons_clock (v : Tbl 2 ButtonUnit) : (s.setButtons v).clock = s.clock := rfl
@[simp] theorem setButtons_pins (v : Tbl 2 ButtonUnit) : (s.setButtons v).pins = s.pins := rfl
@[simp] theorem setButtons_captures (v : Tbl 2 ButtonUnit) : (s.setButtons v).captures = s.captures := rfl
@[simp] theorem setButtons_buttons (v : Tbl 2 ButtonUnit) : (s.setButtons v).buttons = v := rfl
@[simp] theorem setButtons_ctl (v : Tbl 2 ButtonUnit) : (s.setButtons v).ctl = s.ctl := rfl
@[simp] theorem setButtons_config (v : Tbl 2 ButtonUnit) : (s.setButtons v).config = s.config := rfl
@[simp] theorem setButtons_catalog (v : Tbl 2 ButtonUnit) : (s.setButtons v).catalog = s.catalog := rfl
@[simp] theorem setButtons_lines (v : Tbl 2 ButtonUnit) : (s.setButtons v).lines = s.lines := rfl
@[simp] theorem setButtons_accepted (v : Tbl 2 ButtonUnit) : (s.setButtons v).accepted = s.accepted := rfl
@[simp] theorem setButtons_garments (v : Tbl 2 ButtonUnit) : (s.setButtons v).garments = s.garments := rfl
@[simp] theorem setButtons_carousel (v : Tbl 2 ButtonUnit) : (s.setButtons v).carousel = s.carousel := rfl
@[simp] theorem setButtons_pretreat (v : Tbl 2 ButtonUnit) : (s.setButtons v).pretreat = s.pretreat := rfl
@[simp] theorem setButtons_press (v : Tbl 2 ButtonUnit) : (s.setButtons v).press = s.press := rfl
@[simp] theorem setButtons_engine (v : Tbl 2 ButtonUnit) : (s.setButtons v).engine = s.engine := rfl
@[simp] theorem setButtons_staging (v : Tbl 2 ButtonUnit) : (s.setButtons v).staging = s.staging := rfl
@[simp] theorem setButtons_port (v : Tbl 2 ButtonUnit) : (s.setButtons v).port = s.port := rfl
@[simp] theorem setButtons_prints (v : Tbl 2 ButtonUnit) : (s.setButtons v).prints = s.prints := rfl
@[simp] theorem setButtons_lanes (v : Tbl 2 ButtonUnit) : (s.setButtons v).lanes = s.lanes := rfl
@[simp] theorem setButtons_flash (v : Tbl 2 ButtonUnit) : (s.setButtons v).flash = s.flash := rfl
@[simp] theorem setButtons_dryer (v : Tbl 2 ButtonUnit) : (s.setButtons v).dryer = s.dryer := rfl
@[simp] theorem setButtons_pack (v : Tbl 2 ButtonUnit) : (s.setButtons v).pack = s.pack := rfl
@[simp] theorem setButtons_link (v : Tbl 2 ButtonUnit) : (s.setButtons v).link = s.link := rfl
@[simp] theorem setButtons_exch (v : Tbl 2 ButtonUnit) : (s.setButtons v).exch = s.exch := rfl
@[simp] theorem setButtons_reports (v : Tbl 2 ButtonUnit) : (s.setButtons v).reports = s.reports := rfl

/-! `setCtl` -/
@[simp] theorem setCtl_pending (v : LineCtl) : (s.setCtl v).pending = s.pending := rfl
@[simp] theorem setCtl_clock (v : LineCtl) : (s.setCtl v).clock = s.clock := rfl
@[simp] theorem setCtl_pins (v : LineCtl) : (s.setCtl v).pins = s.pins := rfl
@[simp] theorem setCtl_captures (v : LineCtl) : (s.setCtl v).captures = s.captures := rfl
@[simp] theorem setCtl_buttons (v : LineCtl) : (s.setCtl v).buttons = s.buttons := rfl
@[simp] theorem setCtl_ctl (v : LineCtl) : (s.setCtl v).ctl = v := rfl
@[simp] theorem setCtl_config (v : LineCtl) : (s.setCtl v).config = s.config := rfl
@[simp] theorem setCtl_catalog (v : LineCtl) : (s.setCtl v).catalog = s.catalog := rfl
@[simp] theorem setCtl_lines (v : LineCtl) : (s.setCtl v).lines = s.lines := rfl
@[simp] theorem setCtl_accepted (v : LineCtl) : (s.setCtl v).accepted = s.accepted := rfl
@[simp] theorem setCtl_garments (v : LineCtl) : (s.setCtl v).garments = s.garments := rfl
@[simp] theorem setCtl_carousel (v : LineCtl) : (s.setCtl v).carousel = s.carousel := rfl
@[simp] theorem setCtl_pretreat (v : LineCtl) : (s.setCtl v).pretreat = s.pretreat := rfl
@[simp] theorem setCtl_press (v : LineCtl) : (s.setCtl v).press = s.press := rfl
@[simp] theorem setCtl_engine (v : LineCtl) : (s.setCtl v).engine = s.engine := rfl
@[simp] theorem setCtl_staging (v : LineCtl) : (s.setCtl v).staging = s.staging := rfl
@[simp] theorem setCtl_port (v : LineCtl) : (s.setCtl v).port = s.port := rfl
@[simp] theorem setCtl_prints (v : LineCtl) : (s.setCtl v).prints = s.prints := rfl
@[simp] theorem setCtl_lanes (v : LineCtl) : (s.setCtl v).lanes = s.lanes := rfl
@[simp] theorem setCtl_flash (v : LineCtl) : (s.setCtl v).flash = s.flash := rfl
@[simp] theorem setCtl_dryer (v : LineCtl) : (s.setCtl v).dryer = s.dryer := rfl
@[simp] theorem setCtl_pack (v : LineCtl) : (s.setCtl v).pack = s.pack := rfl
@[simp] theorem setCtl_link (v : LineCtl) : (s.setCtl v).link = s.link := rfl
@[simp] theorem setCtl_exch (v : LineCtl) : (s.setCtl v).exch = s.exch := rfl
@[simp] theorem setCtl_reports (v : LineCtl) : (s.setCtl v).reports = s.reports := rfl

/-! `setConfig` -/
@[simp] theorem setConfig_pending (v : ConfigSnap) : (s.setConfig v).pending = s.pending := rfl
@[simp] theorem setConfig_clock (v : ConfigSnap) : (s.setConfig v).clock = s.clock := rfl
@[simp] theorem setConfig_pins (v : ConfigSnap) : (s.setConfig v).pins = s.pins := rfl
@[simp] theorem setConfig_captures (v : ConfigSnap) : (s.setConfig v).captures = s.captures := rfl
@[simp] theorem setConfig_buttons (v : ConfigSnap) : (s.setConfig v).buttons = s.buttons := rfl
@[simp] theorem setConfig_ctl (v : ConfigSnap) : (s.setConfig v).ctl = s.ctl := rfl
@[simp] theorem setConfig_config (v : ConfigSnap) : (s.setConfig v).config = v := rfl
@[simp] theorem setConfig_catalog (v : ConfigSnap) : (s.setConfig v).catalog = s.catalog := rfl
@[simp] theorem setConfig_lines (v : ConfigSnap) : (s.setConfig v).lines = s.lines := rfl
@[simp] theorem setConfig_accepted (v : ConfigSnap) : (s.setConfig v).accepted = s.accepted := rfl
@[simp] theorem setConfig_garments (v : ConfigSnap) : (s.setConfig v).garments = s.garments := rfl
@[simp] theorem setConfig_carousel (v : ConfigSnap) : (s.setConfig v).carousel = s.carousel := rfl
@[simp] theorem setConfig_pretreat (v : ConfigSnap) : (s.setConfig v).pretreat = s.pretreat := rfl
@[simp] theorem setConfig_press (v : ConfigSnap) : (s.setConfig v).press = s.press := rfl
@[simp] theorem setConfig_engine (v : ConfigSnap) : (s.setConfig v).engine = s.engine := rfl
@[simp] theorem setConfig_staging (v : ConfigSnap) : (s.setConfig v).staging = s.staging := rfl
@[simp] theorem setConfig_port (v : ConfigSnap) : (s.setConfig v).port = s.port := rfl
@[simp] theorem setConfig_prints (v : ConfigSnap) : (s.setConfig v).prints = s.prints := rfl
@[simp] theorem setConfig_lanes (v : ConfigSnap) : (s.setConfig v).lanes = s.lanes := rfl
@[simp] theorem setConfig_flash (v : ConfigSnap) : (s.setConfig v).flash = s.flash := rfl
@[simp] theorem setConfig_dryer (v : ConfigSnap) : (s.setConfig v).dryer = s.dryer := rfl
@[simp] theorem setConfig_pack (v : ConfigSnap) : (s.setConfig v).pack = s.pack := rfl
@[simp] theorem setConfig_link (v : ConfigSnap) : (s.setConfig v).link = s.link := rfl
@[simp] theorem setConfig_exch (v : ConfigSnap) : (s.setConfig v).exch = s.exch := rfl
@[simp] theorem setConfig_reports (v : ConfigSnap) : (s.setConfig v).reports = s.reports := rfl

/-! `setCatalog` -/
@[simp] theorem setCatalog_pending (v : Option (Tbl 64 CatalogEntry)) : (s.setCatalog v).pending = s.pending := rfl
@[simp] theorem setCatalog_clock (v : Option (Tbl 64 CatalogEntry)) : (s.setCatalog v).clock = s.clock := rfl
@[simp] theorem setCatalog_pins (v : Option (Tbl 64 CatalogEntry)) : (s.setCatalog v).pins = s.pins := rfl
@[simp] theorem setCatalog_captures (v : Option (Tbl 64 CatalogEntry)) : (s.setCatalog v).captures = s.captures := rfl
@[simp] theorem setCatalog_buttons (v : Option (Tbl 64 CatalogEntry)) : (s.setCatalog v).buttons = s.buttons := rfl
@[simp] theorem setCatalog_ctl (v : Option (Tbl 64 CatalogEntry)) : (s.setCatalog v).ctl = s.ctl := rfl
@[simp] theorem setCatalog_config (v : Option (Tbl 64 CatalogEntry)) : (s.setCatalog v).config = s.config := rfl
@[simp] theorem setCatalog_catalog (v : Option (Tbl 64 CatalogEntry)) : (s.setCatalog v).catalog = v := rfl
@[simp] theorem setCatalog_lines (v : Option (Tbl 64 CatalogEntry)) : (s.setCatalog v).lines = s.lines := rfl
@[simp] theorem setCatalog_accepted (v : Option (Tbl 64 CatalogEntry)) : (s.setCatalog v).accepted = s.accepted := rfl
@[simp] theorem setCatalog_garments (v : Option (Tbl 64 CatalogEntry)) : (s.setCatalog v).garments = s.garments := rfl
@[simp] theorem setCatalog_carousel (v : Option (Tbl 64 CatalogEntry)) : (s.setCatalog v).carousel = s.carousel := rfl
@[simp] theorem setCatalog_pretreat (v : Option (Tbl 64 CatalogEntry)) : (s.setCatalog v).pretreat = s.pretreat := rfl
@[simp] theorem setCatalog_press (v : Option (Tbl 64 CatalogEntry)) : (s.setCatalog v).press = s.press := rfl
@[simp] theorem setCatalog_engine (v : Option (Tbl 64 CatalogEntry)) : (s.setCatalog v).engine = s.engine := rfl
@[simp] theorem setCatalog_staging (v : Option (Tbl 64 CatalogEntry)) : (s.setCatalog v).staging = s.staging := rfl
@[simp] theorem setCatalog_port (v : Option (Tbl 64 CatalogEntry)) : (s.setCatalog v).port = s.port := rfl
@[simp] theorem setCatalog_prints (v : Option (Tbl 64 CatalogEntry)) : (s.setCatalog v).prints = s.prints := rfl
@[simp] theorem setCatalog_lanes (v : Option (Tbl 64 CatalogEntry)) : (s.setCatalog v).lanes = s.lanes := rfl
@[simp] theorem setCatalog_flash (v : Option (Tbl 64 CatalogEntry)) : (s.setCatalog v).flash = s.flash := rfl
@[simp] theorem setCatalog_dryer (v : Option (Tbl 64 CatalogEntry)) : (s.setCatalog v).dryer = s.dryer := rfl
@[simp] theorem setCatalog_pack (v : Option (Tbl 64 CatalogEntry)) : (s.setCatalog v).pack = s.pack := rfl
@[simp] theorem setCatalog_link (v : Option (Tbl 64 CatalogEntry)) : (s.setCatalog v).link = s.link := rfl
@[simp] theorem setCatalog_exch (v : Option (Tbl 64 CatalogEntry)) : (s.setCatalog v).exch = s.exch := rfl
@[simp] theorem setCatalog_reports (v : Option (Tbl 64 CatalogEntry)) : (s.setCatalog v).reports = s.reports := rfl

/-! `setLines` -/
@[simp] theorem setLines_pending (v : Tbl 128 LineEntry) : (s.setLines v).pending = s.pending := rfl
@[simp] theorem setLines_clock (v : Tbl 128 LineEntry) : (s.setLines v).clock = s.clock := rfl
@[simp] theorem setLines_pins (v : Tbl 128 LineEntry) : (s.setLines v).pins = s.pins := rfl
@[simp] theorem setLines_captures (v : Tbl 128 LineEntry) : (s.setLines v).captures = s.captures := rfl
@[simp] theorem setLines_buttons (v : Tbl 128 LineEntry) : (s.setLines v).buttons = s.buttons := rfl
@[simp] theorem setLines_ctl (v : Tbl 128 LineEntry) : (s.setLines v).ctl = s.ctl := rfl
@[simp] theorem setLines_config (v : Tbl 128 LineEntry) : (s.setLines v).config = s.config := rfl
@[simp] theorem setLines_catalog (v : Tbl 128 LineEntry) : (s.setLines v).catalog = s.catalog := rfl
@[simp] theorem setLines_lines (v : Tbl 128 LineEntry) : (s.setLines v).lines = v := rfl
@[simp] theorem setLines_accepted (v : Tbl 128 LineEntry) : (s.setLines v).accepted = s.accepted := rfl
@[simp] theorem setLines_garments (v : Tbl 128 LineEntry) : (s.setLines v).garments = s.garments := rfl
@[simp] theorem setLines_carousel (v : Tbl 128 LineEntry) : (s.setLines v).carousel = s.carousel := rfl
@[simp] theorem setLines_pretreat (v : Tbl 128 LineEntry) : (s.setLines v).pretreat = s.pretreat := rfl
@[simp] theorem setLines_press (v : Tbl 128 LineEntry) : (s.setLines v).press = s.press := rfl
@[simp] theorem setLines_engine (v : Tbl 128 LineEntry) : (s.setLines v).engine = s.engine := rfl
@[simp] theorem setLines_staging (v : Tbl 128 LineEntry) : (s.setLines v).staging = s.staging := rfl
@[simp] theorem setLines_port (v : Tbl 128 LineEntry) : (s.setLines v).port = s.port := rfl
@[simp] theorem setLines_prints (v : Tbl 128 LineEntry) : (s.setLines v).prints = s.prints := rfl
@[simp] theorem setLines_lanes (v : Tbl 128 LineEntry) : (s.setLines v).lanes = s.lanes := rfl
@[simp] theorem setLines_flash (v : Tbl 128 LineEntry) : (s.setLines v).flash = s.flash := rfl
@[simp] theorem setLines_dryer (v : Tbl 128 LineEntry) : (s.setLines v).dryer = s.dryer := rfl
@[simp] theorem setLines_pack (v : Tbl 128 LineEntry) : (s.setLines v).pack = s.pack := rfl
@[simp] theorem setLines_link (v : Tbl 128 LineEntry) : (s.setLines v).link = s.link := rfl
@[simp] theorem setLines_exch (v : Tbl 128 LineEntry) : (s.setLines v).exch = s.exch := rfl
@[simp] theorem setLines_reports (v : Tbl 128 LineEntry) : (s.setLines v).reports = s.reports := rfl

/-! `setAccepted` -/
@[simp] theorem setAccepted_pending (v : List (Fin 128)) : (s.setAccepted v).pending = s.pending := rfl
@[simp] theorem setAccepted_clock (v : List (Fin 128)) : (s.setAccepted v).clock = s.clock := rfl
@[simp] theorem setAccepted_pins (v : List (Fin 128)) : (s.setAccepted v).pins = s.pins := rfl
@[simp] theorem setAccepted_captures (v : List (Fin 128)) : (s.setAccepted v).captures = s.captures := rfl
@[simp] theorem setAccepted_buttons (v : List (Fin 128)) : (s.setAccepted v).buttons = s.buttons := rfl
@[simp] theorem setAccepted_ctl (v : List (Fin 128)) : (s.setAccepted v).ctl = s.ctl := rfl
@[simp] theorem setAccepted_config (v : List (Fin 128)) : (s.setAccepted v).config = s.config := rfl
@[simp] theorem setAccepted_catalog (v : List (Fin 128)) : (s.setAccepted v).catalog = s.catalog := rfl
@[simp] theorem setAccepted_lines (v : List (Fin 128)) : (s.setAccepted v).lines = s.lines := rfl
@[simp] theorem setAccepted_accepted (v : List (Fin 128)) : (s.setAccepted v).accepted = v := rfl
@[simp] theorem setAccepted_garments (v : List (Fin 128)) : (s.setAccepted v).garments = s.garments := rfl
@[simp] theorem setAccepted_carousel (v : List (Fin 128)) : (s.setAccepted v).carousel = s.carousel := rfl
@[simp] theorem setAccepted_pretreat (v : List (Fin 128)) : (s.setAccepted v).pretreat = s.pretreat := rfl
@[simp] theorem setAccepted_press (v : List (Fin 128)) : (s.setAccepted v).press = s.press := rfl
@[simp] theorem setAccepted_engine (v : List (Fin 128)) : (s.setAccepted v).engine = s.engine := rfl
@[simp] theorem setAccepted_staging (v : List (Fin 128)) : (s.setAccepted v).staging = s.staging := rfl
@[simp] theorem setAccepted_port (v : List (Fin 128)) : (s.setAccepted v).port = s.port := rfl
@[simp] theorem setAccepted_prints (v : List (Fin 128)) : (s.setAccepted v).prints = s.prints := rfl
@[simp] theorem setAccepted_lanes (v : List (Fin 128)) : (s.setAccepted v).lanes = s.lanes := rfl
@[simp] theorem setAccepted_flash (v : List (Fin 128)) : (s.setAccepted v).flash = s.flash := rfl
@[simp] theorem setAccepted_dryer (v : List (Fin 128)) : (s.setAccepted v).dryer = s.dryer := rfl
@[simp] theorem setAccepted_pack (v : List (Fin 128)) : (s.setAccepted v).pack = s.pack := rfl
@[simp] theorem setAccepted_link (v : List (Fin 128)) : (s.setAccepted v).link = s.link := rfl
@[simp] theorem setAccepted_exch (v : List (Fin 128)) : (s.setAccepted v).exch = s.exch := rfl
@[simp] theorem setAccepted_reports (v : List (Fin 128)) : (s.setAccepted v).reports = s.reports := rfl

/-! `setGarments` -/
@[simp] theorem setGarments_pending (v : Tbl 32 (Option Garment)) : (s.setGarments v).pending = s.pending := rfl
@[simp] theorem setGarments_clock (v : Tbl 32 (Option Garment)) : (s.setGarments v).clock = s.clock := rfl
@[simp] theorem setGarments_pins (v : Tbl 32 (Option Garment)) : (s.setGarments v).pins = s.pins := rfl
@[simp] theorem setGarments_captures (v : Tbl 32 (Option Garment)) : (s.setGarments v).captures = s.captures := rfl
@[simp] theorem setGarments_buttons (v : Tbl 32 (Option Garment)) : (s.setGarments v).buttons = s.buttons := rfl
@[simp] theorem setGarments_ctl (v : Tbl 32 (Option Garment)) : (s.setGarments v).ctl = s.ctl := rfl
@[simp] theorem setGarments_config (v : Tbl 32 (Option Garment)) : (s.setGarments v).config = s.config := rfl
@[simp] theorem setGarments_catalog (v : Tbl 32 (Option Garment)) : (s.setGarments v).catalog = s.catalog := rfl
@[simp] theorem setGarments_lines (v : Tbl 32 (Option Garment)) : (s.setGarments v).lines = s.lines := rfl
@[simp] theorem setGarments_accepted (v : Tbl 32 (Option Garment)) : (s.setGarments v).accepted = s.accepted := rfl
@[simp] theorem setGarments_garments (v : Tbl 32 (Option Garment)) : (s.setGarments v).garments = v := rfl
@[simp] theorem setGarments_carousel (v : Tbl 32 (Option Garment)) : (s.setGarments v).carousel = s.carousel := rfl
@[simp] theorem setGarments_pretreat (v : Tbl 32 (Option Garment)) : (s.setGarments v).pretreat = s.pretreat := rfl
@[simp] theorem setGarments_press (v : Tbl 32 (Option Garment)) : (s.setGarments v).press = s.press := rfl
@[simp] theorem setGarments_engine (v : Tbl 32 (Option Garment)) : (s.setGarments v).engine = s.engine := rfl
@[simp] theorem setGarments_staging (v : Tbl 32 (Option Garment)) : (s.setGarments v).staging = s.staging := rfl
@[simp] theorem setGarments_port (v : Tbl 32 (Option Garment)) : (s.setGarments v).port = s.port := rfl
@[simp] theorem setGarments_prints (v : Tbl 32 (Option Garment)) : (s.setGarments v).prints = s.prints := rfl
@[simp] theorem setGarments_lanes (v : Tbl 32 (Option Garment)) : (s.setGarments v).lanes = s.lanes := rfl
@[simp] theorem setGarments_flash (v : Tbl 32 (Option Garment)) : (s.setGarments v).flash = s.flash := rfl
@[simp] theorem setGarments_dryer (v : Tbl 32 (Option Garment)) : (s.setGarments v).dryer = s.dryer := rfl
@[simp] theorem setGarments_pack (v : Tbl 32 (Option Garment)) : (s.setGarments v).pack = s.pack := rfl
@[simp] theorem setGarments_link (v : Tbl 32 (Option Garment)) : (s.setGarments v).link = s.link := rfl
@[simp] theorem setGarments_exch (v : Tbl 32 (Option Garment)) : (s.setGarments v).exch = s.exch := rfl
@[simp] theorem setGarments_reports (v : Tbl 32 (Option Garment)) : (s.setGarments v).reports = s.reports := rfl

/-! `setCarousel` -/
@[simp] theorem setCarousel_pending (v : Carousel) : (s.setCarousel v).pending = s.pending := rfl
@[simp] theorem setCarousel_clock (v : Carousel) : (s.setCarousel v).clock = s.clock := rfl
@[simp] theorem setCarousel_pins (v : Carousel) : (s.setCarousel v).pins = s.pins := rfl
@[simp] theorem setCarousel_captures (v : Carousel) : (s.setCarousel v).captures = s.captures := rfl
@[simp] theorem setCarousel_buttons (v : Carousel) : (s.setCarousel v).buttons = s.buttons := rfl
@[simp] theorem setCarousel_ctl (v : Carousel) : (s.setCarousel v).ctl = s.ctl := rfl
@[simp] theorem setCarousel_config (v : Carousel) : (s.setCarousel v).config = s.config := rfl
@[simp] theorem setCarousel_catalog (v : Carousel) : (s.setCarousel v).catalog = s.catalog := rfl
@[simp] theorem setCarousel_lines (v : Carousel) : (s.setCarousel v).lines = s.lines := rfl
@[simp] theorem setCarousel_accepted (v : Carousel) : (s.setCarousel v).accepted = s.accepted := rfl
@[simp] theorem setCarousel_garments (v : Carousel) : (s.setCarousel v).garments = s.garments := rfl
@[simp] theorem setCarousel_carousel (v : Carousel) : (s.setCarousel v).carousel = v := rfl
@[simp] theorem setCarousel_pretreat (v : Carousel) : (s.setCarousel v).pretreat = s.pretreat := rfl
@[simp] theorem setCarousel_press (v : Carousel) : (s.setCarousel v).press = s.press := rfl
@[simp] theorem setCarousel_engine (v : Carousel) : (s.setCarousel v).engine = s.engine := rfl
@[simp] theorem setCarousel_staging (v : Carousel) : (s.setCarousel v).staging = s.staging := rfl
@[simp] theorem setCarousel_port (v : Carousel) : (s.setCarousel v).port = s.port := rfl
@[simp] theorem setCarousel_prints (v : Carousel) : (s.setCarousel v).prints = s.prints := rfl
@[simp] theorem setCarousel_lanes (v : Carousel) : (s.setCarousel v).lanes = s.lanes := rfl
@[simp] theorem setCarousel_flash (v : Carousel) : (s.setCarousel v).flash = s.flash := rfl
@[simp] theorem setCarousel_dryer (v : Carousel) : (s.setCarousel v).dryer = s.dryer := rfl
@[simp] theorem setCarousel_pack (v : Carousel) : (s.setCarousel v).pack = s.pack := rfl
@[simp] theorem setCarousel_link (v : Carousel) : (s.setCarousel v).link = s.link := rfl
@[simp] theorem setCarousel_exch (v : Carousel) : (s.setCarousel v).exch = s.exch := rfl
@[simp] theorem setCarousel_reports (v : Carousel) : (s.setCarousel v).reports = s.reports := rfl

/-! `setPretreat` -/
@[simp] theorem setPretreat_pending (v : Pretreat) : (s.setPretreat v).pending = s.pending := rfl
@[simp] theorem setPretreat_clock (v : Pretreat) : (s.setPretreat v).clock = s.clock := rfl
@[simp] theorem setPretreat_pins (v : Pretreat) : (s.setPretreat v).pins = s.pins := rfl
@[simp] theorem setPretreat_captures (v : Pretreat) : (s.setPretreat v).captures = s.captures := rfl
@[simp] theorem setPretreat_buttons (v : Pretreat) : (s.setPretreat v).buttons = s.buttons := rfl
@[simp] theorem setPretreat_ctl (v : Pretreat) : (s.setPretreat v).ctl = s.ctl := rfl
@[simp] theorem setPretreat_config (v : Pretreat) : (s.setPretreat v).config = s.config := rfl
@[simp] theorem setPretreat_catalog (v : Pretreat) : (s.setPretreat v).catalog = s.catalog := rfl
@[simp] theorem setPretreat_lines (v : Pretreat) : (s.setPretreat v).lines = s.lines := rfl
@[simp] theorem setPretreat_accepted (v : Pretreat) : (s.setPretreat v).accepted = s.accepted := rfl
@[simp] theorem setPretreat_garments (v : Pretreat) : (s.setPretreat v).garments = s.garments := rfl
@[simp] theorem setPretreat_carousel (v : Pretreat) : (s.setPretreat v).carousel = s.carousel := rfl
@[simp] theorem setPretreat_pretreat (v : Pretreat) : (s.setPretreat v).pretreat = v := rfl
@[simp] theorem setPretreat_press (v : Pretreat) : (s.setPretreat v).press = s.press := rfl
@[simp] theorem setPretreat_engine (v : Pretreat) : (s.setPretreat v).engine = s.engine := rfl
@[simp] theorem setPretreat_staging (v : Pretreat) : (s.setPretreat v).staging = s.staging := rfl
@[simp] theorem setPretreat_port (v : Pretreat) : (s.setPretreat v).port = s.port := rfl
@[simp] theorem setPretreat_prints (v : Pretreat) : (s.setPretreat v).prints = s.prints := rfl
@[simp] theorem setPretreat_lanes (v : Pretreat) : (s.setPretreat v).lanes = s.lanes := rfl
@[simp] theorem setPretreat_flash (v : Pretreat) : (s.setPretreat v).flash = s.flash := rfl
@[simp] theorem setPretreat_dryer (v : Pretreat) : (s.setPretreat v).dryer = s.dryer := rfl
@[simp] theorem setPretreat_pack (v : Pretreat) : (s.setPretreat v).pack = s.pack := rfl
@[simp] theorem setPretreat_link (v : Pretreat) : (s.setPretreat v).link = s.link := rfl
@[simp] theorem setPretreat_exch (v : Pretreat) : (s.setPretreat v).exch = s.exch := rfl
@[simp] theorem setPretreat_reports (v : Pretreat) : (s.setPretreat v).reports = s.reports := rfl

/-! `setPress` -/
@[simp] theorem setPress_pending (v : Press) : (s.setPress v).pending = s.pending := rfl
@[simp] theorem setPress_clock (v : Press) : (s.setPress v).clock = s.clock := rfl
@[simp] theorem setPress_pins (v : Press) : (s.setPress v).pins = s.pins := rfl
@[simp] theorem setPress_captures (v : Press) : (s.setPress v).captures = s.captures := rfl
@[simp] theorem setPress_buttons (v : Press) : (s.setPress v).buttons = s.buttons := rfl
@[simp] theorem setPress_ctl (v : Press) : (s.setPress v).ctl = s.ctl := rfl
@[simp] theorem setPress_config (v : Press) : (s.setPress v).config = s.config := rfl
@[simp] theorem setPress_catalog (v : Press) : (s.setPress v).catalog = s.catalog := rfl
@[simp] theorem setPress_lines (v : Press) : (s.setPress v).lines = s.lines := rfl
@[simp] theorem setPress_accepted (v : Press) : (s.setPress v).accepted = s.accepted := rfl
@[simp] theorem setPress_garments (v : Press) : (s.setPress v).garments = s.garments := rfl
@[simp] theorem setPress_carousel (v : Press) : (s.setPress v).carousel = s.carousel := rfl
@[simp] theorem setPress_pretreat (v : Press) : (s.setPress v).pretreat = s.pretreat := rfl
@[simp] theorem setPress_press (v : Press) : (s.setPress v).press = v := rfl
@[simp] theorem setPress_engine (v : Press) : (s.setPress v).engine = s.engine := rfl
@[simp] theorem setPress_staging (v : Press) : (s.setPress v).staging = s.staging := rfl
@[simp] theorem setPress_port (v : Press) : (s.setPress v).port = s.port := rfl
@[simp] theorem setPress_prints (v : Press) : (s.setPress v).prints = s.prints := rfl
@[simp] theorem setPress_lanes (v : Press) : (s.setPress v).lanes = s.lanes := rfl
@[simp] theorem setPress_flash (v : Press) : (s.setPress v).flash = s.flash := rfl
@[simp] theorem setPress_dryer (v : Press) : (s.setPress v).dryer = s.dryer := rfl
@[simp] theorem setPress_pack (v : Press) : (s.setPress v).pack = s.pack := rfl
@[simp] theorem setPress_link (v : Press) : (s.setPress v).link = s.link := rfl
@[simp] theorem setPress_exch (v : Press) : (s.setPress v).exch = s.exch := rfl
@[simp] theorem setPress_reports (v : Press) : (s.setPress v).reports = s.reports := rfl

/-! `setEngine` -/
@[simp] theorem setEngine_pending (v : Engine) : (s.setEngine v).pending = s.pending := rfl
@[simp] theorem setEngine_clock (v : Engine) : (s.setEngine v).clock = s.clock := rfl
@[simp] theorem setEngine_pins (v : Engine) : (s.setEngine v).pins = s.pins := rfl
@[simp] theorem setEngine_captures (v : Engine) : (s.setEngine v).captures = s.captures := rfl
@[simp] theorem setEngine_buttons (v : Engine) : (s.setEngine v).buttons = s.buttons := rfl
@[simp] theorem setEngine_ctl (v : Engine) : (s.setEngine v).ctl = s.ctl := rfl
@[simp] theorem setEngine_config (v : Engine) : (s.setEngine v).config = s.config := rfl
@[simp] theorem setEngine_catalog (v : Engine) : (s.setEngine v).catalog = s.catalog := rfl
@[simp] theorem setEngine_lines (v : Engine) : (s.setEngine v).lines = s.lines := rfl
@[simp] theorem setEngine_accepted (v : Engine) : (s.setEngine v).accepted = s.accepted := rfl
@[simp] theorem setEngine_garments (v : Engine) : (s.setEngine v).garments = s.garments := rfl
@[simp] theorem setEngine_carousel (v : Engine) : (s.setEngine v).carousel = s.carousel := rfl
@[simp] theorem setEngine_pretreat (v : Engine) : (s.setEngine v).pretreat = s.pretreat := rfl
@[simp] theorem setEngine_press (v : Engine) : (s.setEngine v).press = s.press := rfl
@[simp] theorem setEngine_engine (v : Engine) : (s.setEngine v).engine = v := rfl
@[simp] theorem setEngine_staging (v : Engine) : (s.setEngine v).staging = s.staging := rfl
@[simp] theorem setEngine_port (v : Engine) : (s.setEngine v).port = s.port := rfl
@[simp] theorem setEngine_prints (v : Engine) : (s.setEngine v).prints = s.prints := rfl
@[simp] theorem setEngine_lanes (v : Engine) : (s.setEngine v).lanes = s.lanes := rfl
@[simp] theorem setEngine_flash (v : Engine) : (s.setEngine v).flash = s.flash := rfl
@[simp] theorem setEngine_dryer (v : Engine) : (s.setEngine v).dryer = s.dryer := rfl
@[simp] theorem setEngine_pack (v : Engine) : (s.setEngine v).pack = s.pack := rfl
@[simp] theorem setEngine_link (v : Engine) : (s.setEngine v).link = s.link := rfl
@[simp] theorem setEngine_exch (v : Engine) : (s.setEngine v).exch = s.exch := rfl
@[simp] theorem setEngine_reports (v : Engine) : (s.setEngine v).reports = s.reports := rfl

/-! `setStaging` -/
@[simp] theorem setStaging_pending (v : Memory) : (s.setStaging v).pending = s.pending := rfl
@[simp] theorem setStaging_clock (v : Memory) : (s.setStaging v).clock = s.clock := rfl
@[simp] theorem setStaging_pins (v : Memory) : (s.setStaging v).pins = s.pins := rfl
@[simp] theorem setStaging_captures (v : Memory) : (s.setStaging v).captures = s.captures := rfl
@[simp] theorem setStaging_buttons (v : Memory) : (s.setStaging v).buttons = s.buttons := rfl
@[simp] theorem setStaging_ctl (v : Memory) : (s.setStaging v).ctl = s.ctl := rfl
@[simp] theorem setStaging_config (v : Memory) : (s.setStaging v).config = s.config := rfl
@[simp] theorem setStaging_catalog (v : Memory) : (s.setStaging v).catalog = s.catalog := rfl
@[simp] theorem setStaging_lines (v : Memory) : (s.setStaging v).lines = s.lines := rfl
@[simp] theorem setStaging_accepted (v : Memory) : (s.setStaging v).accepted = s.accepted := rfl
@[simp] theorem setStaging_garments (v : Memory) : (s.setStaging v).garments = s.garments := rfl
@[simp] theorem setStaging_carousel (v : Memory) : (s.setStaging v).carousel = s.carousel := rfl
@[simp] theorem setStaging_pretreat (v : Memory) : (s.setStaging v).pretreat = s.pretreat := rfl
@[simp] theorem setStaging_press (v : Memory) : (s.setStaging v).press = s.press := rfl
@[simp] theorem setStaging_engine (v : Memory) : (s.setStaging v).engine = s.engine := rfl
@[simp] theorem setStaging_staging (v : Memory) : (s.setStaging v).staging = v := rfl
@[simp] theorem setStaging_port (v : Memory) : (s.setStaging v).port = s.port := rfl
@[simp] theorem setStaging_prints (v : Memory) : (s.setStaging v).prints = s.prints := rfl
@[simp] theorem setStaging_lanes (v : Memory) : (s.setStaging v).lanes = s.lanes := rfl
@[simp] theorem setStaging_flash (v : Memory) : (s.setStaging v).flash = s.flash := rfl
@[simp] theorem setStaging_dryer (v : Memory) : (s.setStaging v).dryer = s.dryer := rfl
@[simp] theorem setStaging_pack (v : Memory) : (s.setStaging v).pack = s.pack := rfl
@[simp] theorem setStaging_link (v : Memory) : (s.setStaging v).link = s.link := rfl
@[simp] theorem setStaging_exch (v : Memory) : (s.setStaging v).exch = s.exch := rfl
@[simp] theorem setStaging_reports (v : Memory) : (s.setStaging v).reports = s.reports := rfl

/-! `setPort` -/
@[simp] theorem setPort_pending (v : Port) : (s.setPort v).pending = s.pending := rfl
@[simp] theorem setPort_clock (v : Port) : (s.setPort v).clock = s.clock := rfl
@[simp] theorem setPort_pins (v : Port) : (s.setPort v).pins = s.pins := rfl
@[simp] theorem setPort_captures (v : Port) : (s.setPort v).captures = s.captures := rfl
@[simp] theorem setPort_buttons (v : Port) : (s.setPort v).buttons = s.buttons := rfl
@[simp] theorem setPort_ctl (v : Port) : (s.setPort v).ctl = s.ctl := rfl
@[simp] theorem setPort_config (v : Port) : (s.setPort v).config = s.config := rfl
@[simp] theorem setPort_catalog (v : Port) : (s.setPort v).catalog = s.catalog := rfl
@[simp] theorem setPort_lines (v : Port) : (s.setPort v).lines = s.lines := rfl
@[simp] theorem setPort_accepted (v : Port) : (s.setPort v).accepted = s.accepted := rfl
@[simp] theorem setPort_garments (v : Port) : (s.setPort v).garments = s.garments := rfl
@[simp] theorem setPort_carousel (v : Port) : (s.setPort v).carousel = s.carousel := rfl
@[simp] theorem setPort_pretreat (v : Port) : (s.setPort v).pretreat = s.pretreat := rfl
@[simp] theorem setPort_press (v : Port) : (s.setPort v).press = s.press := rfl
@[simp] theorem setPort_engine (v : Port) : (s.setPort v).engine = s.engine := rfl
@[simp] theorem setPort_staging (v : Port) : (s.setPort v).staging = s.staging := rfl
@[simp] theorem setPort_port (v : Port) : (s.setPort v).port = v := rfl
@[simp] theorem setPort_prints (v : Port) : (s.setPort v).prints = s.prints := rfl
@[simp] theorem setPort_lanes (v : Port) : (s.setPort v).lanes = s.lanes := rfl
@[simp] theorem setPort_flash (v : Port) : (s.setPort v).flash = s.flash := rfl
@[simp] theorem setPort_dryer (v : Port) : (s.setPort v).dryer = s.dryer := rfl
@[simp] theorem setPort_pack (v : Port) : (s.setPort v).pack = s.pack := rfl
@[simp] theorem setPort_link (v : Port) : (s.setPort v).link = s.link := rfl
@[simp] theorem setPort_exch (v : Port) : (s.setPort v).exch = s.exch := rfl
@[simp] theorem setPort_reports (v : Port) : (s.setPort v).reports = s.reports := rfl

/-! `setPrints` -/
@[simp] theorem setPrints_pending (v : Tbl 2 PrintUnit) : (s.setPrints v).pending = s.pending := rfl
@[simp] theorem setPrints_clock (v : Tbl 2 PrintUnit) : (s.setPrints v).clock = s.clock := rfl
@[simp] theorem setPrints_pins (v : Tbl 2 PrintUnit) : (s.setPrints v).pins = s.pins := rfl
@[simp] theorem setPrints_captures (v : Tbl 2 PrintUnit) : (s.setPrints v).captures = s.captures := rfl
@[simp] theorem setPrints_buttons (v : Tbl 2 PrintUnit) : (s.setPrints v).buttons = s.buttons := rfl
@[simp] theorem setPrints_ctl (v : Tbl 2 PrintUnit) : (s.setPrints v).ctl = s.ctl := rfl
@[simp] theorem setPrints_config (v : Tbl 2 PrintUnit) : (s.setPrints v).config = s.config := rfl
@[simp] theorem setPrints_catalog (v : Tbl 2 PrintUnit) : (s.setPrints v).catalog = s.catalog := rfl
@[simp] theorem setPrints_lines (v : Tbl 2 PrintUnit) : (s.setPrints v).lines = s.lines := rfl
@[simp] theorem setPrints_accepted (v : Tbl 2 PrintUnit) : (s.setPrints v).accepted = s.accepted := rfl
@[simp] theorem setPrints_garments (v : Tbl 2 PrintUnit) : (s.setPrints v).garments = s.garments := rfl
@[simp] theorem setPrints_carousel (v : Tbl 2 PrintUnit) : (s.setPrints v).carousel = s.carousel := rfl
@[simp] theorem setPrints_pretreat (v : Tbl 2 PrintUnit) : (s.setPrints v).pretreat = s.pretreat := rfl
@[simp] theorem setPrints_press (v : Tbl 2 PrintUnit) : (s.setPrints v).press = s.press := rfl
@[simp] theorem setPrints_engine (v : Tbl 2 PrintUnit) : (s.setPrints v).engine = s.engine := rfl
@[simp] theorem setPrints_staging (v : Tbl 2 PrintUnit) : (s.setPrints v).staging = s.staging := rfl
@[simp] theorem setPrints_port (v : Tbl 2 PrintUnit) : (s.setPrints v).port = s.port := rfl
@[simp] theorem setPrints_prints (v : Tbl 2 PrintUnit) : (s.setPrints v).prints = v := rfl
@[simp] theorem setPrints_lanes (v : Tbl 2 PrintUnit) : (s.setPrints v).lanes = s.lanes := rfl
@[simp] theorem setPrints_flash (v : Tbl 2 PrintUnit) : (s.setPrints v).flash = s.flash := rfl
@[simp] theorem setPrints_dryer (v : Tbl 2 PrintUnit) : (s.setPrints v).dryer = s.dryer := rfl
@[simp] theorem setPrints_pack (v : Tbl 2 PrintUnit) : (s.setPrints v).pack = s.pack := rfl
@[simp] theorem setPrints_link (v : Tbl 2 PrintUnit) : (s.setPrints v).link = s.link := rfl
@[simp] theorem setPrints_exch (v : Tbl 2 PrintUnit) : (s.setPrints v).exch = s.exch := rfl
@[simp] theorem setPrints_reports (v : Tbl 2 PrintUnit) : (s.setPrints v).reports = s.reports := rfl

/-! `setLanes` -/
@[simp] theorem setLanes_pending (v : Tbl 6 Lane) : (s.setLanes v).pending = s.pending := rfl
@[simp] theorem setLanes_clock (v : Tbl 6 Lane) : (s.setLanes v).clock = s.clock := rfl
@[simp] theorem setLanes_pins (v : Tbl 6 Lane) : (s.setLanes v).pins = s.pins := rfl
@[simp] theorem setLanes_captures (v : Tbl 6 Lane) : (s.setLanes v).captures = s.captures := rfl
@[simp] theorem setLanes_buttons (v : Tbl 6 Lane) : (s.setLanes v).buttons = s.buttons := rfl
@[simp] theorem setLanes_ctl (v : Tbl 6 Lane) : (s.setLanes v).ctl = s.ctl := rfl
@[simp] theorem setLanes_config (v : Tbl 6 Lane) : (s.setLanes v).config = s.config := rfl
@[simp] theorem setLanes_catalog (v : Tbl 6 Lane) : (s.setLanes v).catalog = s.catalog := rfl
@[simp] theorem setLanes_lines (v : Tbl 6 Lane) : (s.setLanes v).lines = s.lines := rfl
@[simp] theorem setLanes_accepted (v : Tbl 6 Lane) : (s.setLanes v).accepted = s.accepted := rfl
@[simp] theorem setLanes_garments (v : Tbl 6 Lane) : (s.setLanes v).garments = s.garments := rfl
@[simp] theorem setLanes_carousel (v : Tbl 6 Lane) : (s.setLanes v).carousel = s.carousel := rfl
@[simp] theorem setLanes_pretreat (v : Tbl 6 Lane) : (s.setLanes v).pretreat = s.pretreat := rfl
@[simp] theorem setLanes_press (v : Tbl 6 Lane) : (s.setLanes v).press = s.press := rfl
@[simp] theorem setLanes_engine (v : Tbl 6 Lane) : (s.setLanes v).engine = s.engine := rfl
@[simp] theorem setLanes_staging (v : Tbl 6 Lane) : (s.setLanes v).staging = s.staging := rfl
@[simp] theorem setLanes_port (v : Tbl 6 Lane) : (s.setLanes v).port = s.port := rfl
@[simp] theorem setLanes_prints (v : Tbl 6 Lane) : (s.setLanes v).prints = s.prints := rfl
@[simp] theorem setLanes_lanes (v : Tbl 6 Lane) : (s.setLanes v).lanes = v := rfl
@[simp] theorem setLanes_flash (v : Tbl 6 Lane) : (s.setLanes v).flash = s.flash := rfl
@[simp] theorem setLanes_dryer (v : Tbl 6 Lane) : (s.setLanes v).dryer = s.dryer := rfl
@[simp] theorem setLanes_pack (v : Tbl 6 Lane) : (s.setLanes v).pack = s.pack := rfl
@[simp] theorem setLanes_link (v : Tbl 6 Lane) : (s.setLanes v).link = s.link := rfl
@[simp] theorem setLanes_exch (v : Tbl 6 Lane) : (s.setLanes v).exch = s.exch := rfl
@[simp] theorem setLanes_reports (v : Tbl 6 Lane) : (s.setLanes v).reports = s.reports := rfl

/-! `setFlash` -/
@[simp] theorem setFlash_pending (v : Flash) : (s.setFlash v).pending = s.pending := rfl
@[simp] theorem setFlash_clock (v : Flash) : (s.setFlash v).clock = s.clock := rfl
@[simp] theorem setFlash_pins (v : Flash) : (s.setFlash v).pins = s.pins := rfl
@[simp] theorem setFlash_captures (v : Flash) : (s.setFlash v).captures = s.captures := rfl
@[simp] theorem setFlash_buttons (v : Flash) : (s.setFlash v).buttons = s.buttons := rfl
@[simp] theorem setFlash_ctl (v : Flash) : (s.setFlash v).ctl = s.ctl := rfl
@[simp] theorem setFlash_config (v : Flash) : (s.setFlash v).config = s.config := rfl
@[simp] theorem setFlash_catalog (v : Flash) : (s.setFlash v).catalog = s.catalog := rfl
@[simp] theorem setFlash_lines (v : Flash) : (s.setFlash v).lines = s.lines := rfl
@[simp] theorem setFlash_accepted (v : Flash) : (s.setFlash v).accepted = s.accepted := rfl
@[simp] theorem setFlash_garments (v : Flash) : (s.setFlash v).garments = s.garments := rfl
@[simp] theorem setFlash_carousel (v : Flash) : (s.setFlash v).carousel = s.carousel := rfl
@[simp] theorem setFlash_pretreat (v : Flash) : (s.setFlash v).pretreat = s.pretreat := rfl
@[simp] theorem setFlash_press (v : Flash) : (s.setFlash v).press = s.press := rfl
@[simp] theorem setFlash_engine (v : Flash) : (s.setFlash v).engine = s.engine := rfl
@[simp] theorem setFlash_staging (v : Flash) : (s.setFlash v).staging = s.staging := rfl
@[simp] theorem setFlash_port (v : Flash) : (s.setFlash v).port = s.port := rfl
@[simp] theorem setFlash_prints (v : Flash) : (s.setFlash v).prints = s.prints := rfl
@[simp] theorem setFlash_lanes (v : Flash) : (s.setFlash v).lanes = s.lanes := rfl
@[simp] theorem setFlash_flash (v : Flash) : (s.setFlash v).flash = v := rfl
@[simp] theorem setFlash_dryer (v : Flash) : (s.setFlash v).dryer = s.dryer := rfl
@[simp] theorem setFlash_pack (v : Flash) : (s.setFlash v).pack = s.pack := rfl
@[simp] theorem setFlash_link (v : Flash) : (s.setFlash v).link = s.link := rfl
@[simp] theorem setFlash_exch (v : Flash) : (s.setFlash v).exch = s.exch := rfl
@[simp] theorem setFlash_reports (v : Flash) : (s.setFlash v).reports = s.reports := rfl

/-! `setDryer` -/
@[simp] theorem setDryer_pending (v : Dryer) : (s.setDryer v).pending = s.pending := rfl
@[simp] theorem setDryer_clock (v : Dryer) : (s.setDryer v).clock = s.clock := rfl
@[simp] theorem setDryer_pins (v : Dryer) : (s.setDryer v).pins = s.pins := rfl
@[simp] theorem setDryer_captures (v : Dryer) : (s.setDryer v).captures = s.captures := rfl
@[simp] theorem setDryer_buttons (v : Dryer) : (s.setDryer v).buttons = s.buttons := rfl
@[simp] theorem setDryer_ctl (v : Dryer) : (s.setDryer v).ctl = s.ctl := rfl
@[simp] theorem setDryer_config (v : Dryer) : (s.setDryer v).config = s.config := rfl
@[simp] theorem setDryer_catalog (v : Dryer) : (s.setDryer v).catalog = s.catalog := rfl
@[simp] theorem setDryer_lines (v : Dryer) : (s.setDryer v).lines = s.lines := rfl
@[simp] theorem setDryer_accepted (v : Dryer) : (s.setDryer v).accepted = s.accepted := rfl
@[simp] theorem setDryer_garments (v : Dryer) : (s.setDryer v).garments = s.garments := rfl
@[simp] theorem setDryer_carousel (v : Dryer) : (s.setDryer v).carousel = s.carousel := rfl
@[simp] theorem setDryer_pretreat (v : Dryer) : (s.setDryer v).pretreat = s.pretreat := rfl
@[simp] theorem setDryer_press (v : Dryer) : (s.setDryer v).press = s.press := rfl
@[simp] theorem setDryer_engine (v : Dryer) : (s.setDryer v).engine = s.engine := rfl
@[simp] theorem setDryer_staging (v : Dryer) : (s.setDryer v).staging = s.staging := rfl
@[simp] theorem setDryer_port (v : Dryer) : (s.setDryer v).port = s.port := rfl
@[simp] theorem setDryer_prints (v : Dryer) : (s.setDryer v).prints = s.prints := rfl
@[simp] theorem setDryer_lanes (v : Dryer) : (s.setDryer v).lanes = s.lanes := rfl
@[simp] theorem setDryer_flash (v : Dryer) : (s.setDryer v).flash = s.flash := rfl
@[simp] theorem setDryer_dryer (v : Dryer) : (s.setDryer v).dryer = v := rfl
@[simp] theorem setDryer_pack (v : Dryer) : (s.setDryer v).pack = s.pack := rfl
@[simp] theorem setDryer_link (v : Dryer) : (s.setDryer v).link = s.link := rfl
@[simp] theorem setDryer_exch (v : Dryer) : (s.setDryer v).exch = s.exch := rfl
@[simp] theorem setDryer_reports (v : Dryer) : (s.setDryer v).reports = s.reports := rfl

/-! `setPack` -/
@[simp] theorem setPack_pending (v : Pack) : (s.setPack v).pending = s.pending := rfl
@[simp] theorem setPack_clock (v : Pack) : (s.setPack v).clock = s.clock := rfl
@[simp] theorem setPack_pins (v : Pack) : (s.setPack v).pins = s.pins := rfl
@[simp] theorem setPack_captures (v : Pack) : (s.setPack v).captures = s.captures := rfl
@[simp] theorem setPack_buttons (v : Pack) : (s.setPack v).buttons = s.buttons := rfl
@[simp] theorem setPack_ctl (v : Pack) : (s.setPack v).ctl = s.ctl := rfl
@[simp] theorem setPack_config (v : Pack) : (s.setPack v).config = s.config := rfl
@[simp] theorem setPack_catalog (v : Pack) : (s.setPack v).catalog = s.catalog := rfl
@[simp] theorem setPack_lines (v : Pack) : (s.setPack v).lines = s.lines := rfl
@[simp] theorem setPack_accepted (v : Pack) : (s.setPack v).accepted = s.accepted := rfl
@[simp] theorem setPack_garments (v : Pack) : (s.setPack v).garments = s.garments := rfl
@[simp] theorem setPack_carousel (v : Pack) : (s.setPack v).carousel = s.carousel := rfl
@[simp] theorem setPack_pretreat (v : Pack) : (s.setPack v).pretreat = s.pretreat := rfl
@[simp] theorem setPack_press (v : Pack) : (s.setPack v).press = s.press := rfl
@[simp] theorem setPack_engine (v : Pack) : (s.setPack v).engine = s.engine := rfl
@[simp] theorem setPack_staging (v : Pack) : (s.setPack v).staging = s.staging := rfl
@[simp] theorem setPack_port (v : Pack) : (s.setPack v).port = s.port := rfl
@[simp] theorem setPack_prints (v : Pack) : (s.setPack v).prints = s.prints := rfl
@[simp] theorem setPack_lanes (v : Pack) : (s.setPack v).lanes = s.lanes := rfl
@[simp] theorem setPack_flash (v : Pack) : (s.setPack v).flash = s.flash := rfl
@[simp] theorem setPack_dryer (v : Pack) : (s.setPack v).dryer = s.dryer := rfl
@[simp] theorem setPack_pack (v : Pack) : (s.setPack v).pack = v := rfl
@[simp] theorem setPack_link (v : Pack) : (s.setPack v).link = s.link := rfl
@[simp] theorem setPack_exch (v : Pack) : (s.setPack v).exch = s.exch := rfl
@[simp] theorem setPack_reports (v : Pack) : (s.setPack v).reports = s.reports := rfl

/-! `setLink` -/
@[simp] theorem setLink_pending (v : Link) : (s.setLink v).pending = s.pending := rfl
@[simp] theorem setLink_clock (v : Link) : (s.setLink v).clock = s.clock := rfl
@[simp] theorem setLink_pins (v : Link) : (s.setLink v).pins = s.pins := rfl
@[simp] theorem setLink_captures (v : Link) : (s.setLink v).captures = s.captures := rfl
@[simp] theorem setLink_buttons (v : Link) : (s.setLink v).buttons = s.buttons := rfl
@[simp] theorem setLink_ctl (v : Link) : (s.setLink v).ctl = s.ctl := rfl
@[simp] theorem setLink_config (v : Link) : (s.setLink v).config = s.config := rfl
@[simp] theorem setLink_catalog (v : Link) : (s.setLink v).catalog = s.catalog := rfl
@[simp] theorem setLink_lines (v : Link) : (s.setLink v).lines = s.lines := rfl
@[simp] theorem setLink_accepted (v : Link) : (s.setLink v).accepted = s.accepted := rfl
@[simp] theorem setLink_garments (v : Link) : (s.setLink v).garments = s.garments := rfl
@[simp] theorem setLink_carousel (v : Link) : (s.setLink v).carousel = s.carousel := rfl
@[simp] theorem setLink_pretreat (v : Link) : (s.setLink v).pretreat = s.pretreat := rfl
@[simp] theorem setLink_press (v : Link) : (s.setLink v).press = s.press := rfl
@[simp] theorem setLink_engine (v : Link) : (s.setLink v).engine = s.engine := rfl
@[simp] theorem setLink_staging (v : Link) : (s.setLink v).staging = s.staging := rfl
@[simp] theorem setLink_port (v : Link) : (s.setLink v).port = s.port := rfl
@[simp] theorem setLink_prints (v : Link) : (s.setLink v).prints = s.prints := rfl
@[simp] theorem setLink_lanes (v : Link) : (s.setLink v).lanes = s.lanes := rfl
@[simp] theorem setLink_flash (v : Link) : (s.setLink v).flash = s.flash := rfl
@[simp] theorem setLink_dryer (v : Link) : (s.setLink v).dryer = s.dryer := rfl
@[simp] theorem setLink_pack (v : Link) : (s.setLink v).pack = s.pack := rfl
@[simp] theorem setLink_link (v : Link) : (s.setLink v).link = v := rfl
@[simp] theorem setLink_exch (v : Link) : (s.setLink v).exch = s.exch := rfl
@[simp] theorem setLink_reports (v : Link) : (s.setLink v).reports = s.reports := rfl

/-! `setExch` -/
@[simp] theorem setExch_pending (v : Exch) : (s.setExch v).pending = s.pending := rfl
@[simp] theorem setExch_clock (v : Exch) : (s.setExch v).clock = s.clock := rfl
@[simp] theorem setExch_pins (v : Exch) : (s.setExch v).pins = s.pins := rfl
@[simp] theorem setExch_captures (v : Exch) : (s.setExch v).captures = s.captures := rfl
@[simp] theorem setExch_buttons (v : Exch) : (s.setExch v).buttons = s.buttons := rfl
@[simp] theorem setExch_ctl (v : Exch) : (s.setExch v).ctl = s.ctl := rfl
@[simp] theorem setExch_config (v : Exch) : (s.setExch v).config = s.config := rfl
@[simp] theorem setExch_catalog (v : Exch) : (s.setExch v).catalog = s.catalog := rfl
@[simp] theorem setExch_lines (v : Exch) : (s.setExch v).lines = s.lines := rfl
@[simp] theorem setExch_accepted (v : Exch) : (s.setExch v).accepted = s.accepted := rfl
@[simp] theorem setExch_garments (v : Exch) : (s.setExch v).garments = s.garments := rfl
@[simp] theorem setExch_carousel (v : Exch) : (s.setExch v).carousel = s.carousel := rfl
@[simp] theorem setExch_pretreat (v : Exch) : (s.setExch v).pretreat = s.pretreat := rfl
@[simp] theorem setExch_press (v : Exch) : (s.setExch v).press = s.press := rfl
@[simp] theorem setExch_engine (v : Exch) : (s.setExch v).engine = s.engine := rfl
@[simp] theorem setExch_staging (v : Exch) : (s.setExch v).staging = s.staging := rfl
@[simp] theorem setExch_port (v : Exch) : (s.setExch v).port = s.port := rfl
@[simp] theorem setExch_prints (v : Exch) : (s.setExch v).prints = s.prints := rfl
@[simp] theorem setExch_lanes (v : Exch) : (s.setExch v).lanes = s.lanes := rfl
@[simp] theorem setExch_flash (v : Exch) : (s.setExch v).flash = s.flash := rfl
@[simp] theorem setExch_dryer (v : Exch) : (s.setExch v).dryer = s.dryer := rfl
@[simp] theorem setExch_pack (v : Exch) : (s.setExch v).pack = s.pack := rfl
@[simp] theorem setExch_link (v : Exch) : (s.setExch v).link = s.link := rfl
@[simp] theorem setExch_exch (v : Exch) : (s.setExch v).exch = v := rfl
@[simp] theorem setExch_reports (v : Exch) : (s.setExch v).reports = s.reports := rfl

/-! `setReports` -/
@[simp] theorem setReports_pending (v : Reports) : (s.setReports v).pending = s.pending := rfl
@[simp] theorem setReports_clock (v : Reports) : (s.setReports v).clock = s.clock := rfl
@[simp] theorem setReports_pins (v : Reports) : (s.setReports v).pins = s.pins := rfl
@[simp] theorem setReports_captures (v : Reports) : (s.setReports v).captures = s.captures := rfl
@[simp] theorem setReports_buttons (v : Reports) : (s.setReports v).buttons = s.buttons := rfl
@[simp] theorem setReports_ctl (v : Reports) : (s.setReports v).ctl = s.ctl := rfl
@[simp] theorem setReports_config (v : Reports) : (s.setReports v).config = s.config := rfl
@[simp] theorem setReports_catalog (v : Reports) : (s.setReports v).catalog = s.catalog := rfl
@[simp] theorem setReports_lines (v : Reports) : (s.setReports v).lines = s.lines := rfl
@[simp] theorem setReports_accepted (v : Reports) : (s.setReports v).accepted = s.accepted := rfl
@[simp] theorem setReports_garments (v : Reports) : (s.setReports v).garments = s.garments := rfl
@[simp] theorem setReports_carousel (v : Reports) : (s.setReports v).carousel = s.carousel := rfl
@[simp] theorem setReports_pretreat (v : Reports) : (s.setReports v).pretreat = s.pretreat := rfl
@[simp] theorem setReports_press (v : Reports) : (s.setReports v).press = s.press := rfl
@[simp] theorem setReports_engine (v : Reports) : (s.setReports v).engine = s.engine := rfl
@[simp] theorem setReports_staging (v : Reports) : (s.setReports v).staging = s.staging := rfl
@[simp] theorem setReports_port (v : Reports) : (s.setReports v).port = s.port := rfl
@[simp] theorem setReports_prints (v : Reports) : (s.setReports v).prints = s.prints := rfl
@[simp] theorem setReports_lanes (v : Reports) : (s.setReports v).lanes = s.lanes := rfl
@[simp] theorem setReports_flash (v : Reports) : (s.setReports v).flash = s.flash := rfl
@[simp] theorem setReports_dryer (v : Reports) : (s.setReports v).dryer = s.dryer := rfl
@[simp] theorem setReports_pack (v : Reports) : (s.setReports v).pack = s.pack := rfl
@[simp] theorem setReports_link (v : Reports) : (s.setReports v).link = s.link := rfl
@[simp] theorem setReports_exch (v : Reports) : (s.setReports v).exch = s.exch := rfl
@[simp] theorem setReports_reports (v : Reports) : (s.setReports v).reports = v := rfl

end Sys2Proof.Machine
end

