-- ==== Sys2Proof/Laws/Base.lean ====
section
/-! SUPPORT. A field that every round of a fold leaves unchanged is unchanged by the fold. -/

namespace Sys2Proof.Machine

/-- What each round keeps, the whole fold keeps. -/
theorem foldl_keeps {α β : Type} (π : State → β) (f : State → α → State) (h : ∀ s a, π (f s a) = π s) (l : List α)
    (s : State) : π (l.foldl f s) = π s := by
  induction l generalizing s with
  | nil => rfl
  | cons a l ih => rw [List.foldl_cons, ih, h]

@[simp] theorem foldl_pending {α : Type} (f : State → α → State) (h : ∀ s a, (f s a).pending = s.pending) (l : List α)
    (s : State) : (l.foldl f s).pending = s.pending := foldl_keeps State.pending f h l s
@[simp] theorem foldl_clock {α : Type} (f : State → α → State) (h : ∀ s a, (f s a).clock = s.clock) (l : List α)
    (s : State) : (l.foldl f s).clock = s.clock := foldl_keeps State.clock f h l s
@[simp] theorem foldl_pins {α : Type} (f : State → α → State) (h : ∀ s a, (f s a).pins = s.pins) (l : List α)
    (s : State) : (l.foldl f s).pins = s.pins := foldl_keeps State.pins f h l s
@[simp] theorem foldl_captures {α : Type} (f : State → α → State) (h : ∀ s a, (f s a).captures = s.captures) (l : List α)
    (s : State) : (l.foldl f s).captures = s.captures := foldl_keeps State.captures f h l s
@[simp] theorem foldl_buttons {α : Type} (f : State → α → State) (h : ∀ s a, (f s a).buttons = s.buttons) (l : List α)
    (s : State) : (l.foldl f s).buttons = s.buttons := foldl_keeps State.buttons f h l s
@[simp] theorem foldl_ctl {α : Type} (f : State → α → State) (h : ∀ s a, (f s a).ctl = s.ctl) (l : List α)
    (s : State) : (l.foldl f s).ctl = s.ctl := foldl_keeps State.ctl f h l s
@[simp] theorem foldl_config {α : Type} (f : State → α → State) (h : ∀ s a, (f s a).config = s.config) (l : List α)
    (s : State) : (l.foldl f s).config = s.config := foldl_keeps State.config f h l s
@[simp] theorem foldl_catalog {α : Type} (f : State → α → State) (h : ∀ s a, (f s a).catalog = s.catalog) (l : List α)
    (s : State) : (l.foldl f s).catalog = s.catalog := foldl_keeps State.catalog f h l s
@[simp] theorem foldl_lines {α : Type} (f : State → α → State) (h : ∀ s a, (f s a).lines = s.lines) (l : List α)
    (s : State) : (l.foldl f s).lines = s.lines := foldl_keeps State.lines f h l s
@[simp] theorem foldl_accepted {α : Type} (f : State → α → State) (h : ∀ s a, (f s a).accepted = s.accepted) (l : List α)
    (s : State) : (l.foldl f s).accepted = s.accepted := foldl_keeps State.accepted f h l s
@[simp] theorem foldl_garments {α : Type} (f : State → α → State) (h : ∀ s a, (f s a).garments = s.garments) (l : List α)
    (s : State) : (l.foldl f s).garments = s.garments := foldl_keeps State.garments f h l s
@[simp] theorem foldl_carousel {α : Type} (f : State → α → State) (h : ∀ s a, (f s a).carousel = s.carousel) (l : List α)
    (s : State) : (l.foldl f s).carousel = s.carousel := foldl_keeps State.carousel f h l s
@[simp] theorem foldl_pretreat {α : Type} (f : State → α → State) (h : ∀ s a, (f s a).pretreat = s.pretreat) (l : List α)
    (s : State) : (l.foldl f s).pretreat = s.pretreat := foldl_keeps State.pretreat f h l s
@[simp] theorem foldl_press {α : Type} (f : State → α → State) (h : ∀ s a, (f s a).press = s.press) (l : List α)
    (s : State) : (l.foldl f s).press = s.press := foldl_keeps State.press f h l s
@[simp] theorem foldl_engine {α : Type} (f : State → α → State) (h : ∀ s a, (f s a).engine = s.engine) (l : List α)
    (s : State) : (l.foldl f s).engine = s.engine := foldl_keeps State.engine f h l s
@[simp] theorem foldl_staging {α : Type} (f : State → α → State) (h : ∀ s a, (f s a).staging = s.staging) (l : List α)
    (s : State) : (l.foldl f s).staging = s.staging := foldl_keeps State.staging f h l s
@[simp] theorem foldl_port {α : Type} (f : State → α → State) (h : ∀ s a, (f s a).port = s.port) (l : List α)
    (s : State) : (l.foldl f s).port = s.port := foldl_keeps State.port f h l s
@[simp] theorem foldl_prints {α : Type} (f : State → α → State) (h : ∀ s a, (f s a).prints = s.prints) (l : List α)
    (s : State) : (l.foldl f s).prints = s.prints := foldl_keeps State.prints f h l s
@[simp] theorem foldl_lanes {α : Type} (f : State → α → State) (h : ∀ s a, (f s a).lanes = s.lanes) (l : List α)
    (s : State) : (l.foldl f s).lanes = s.lanes := foldl_keeps State.lanes f h l s
@[simp] theorem foldl_flash {α : Type} (f : State → α → State) (h : ∀ s a, (f s a).flash = s.flash) (l : List α)
    (s : State) : (l.foldl f s).flash = s.flash := foldl_keeps State.flash f h l s
@[simp] theorem foldl_dryer {α : Type} (f : State → α → State) (h : ∀ s a, (f s a).dryer = s.dryer) (l : List α)
    (s : State) : (l.foldl f s).dryer = s.dryer := foldl_keeps State.dryer f h l s
@[simp] theorem foldl_pack {α : Type} (f : State → α → State) (h : ∀ s a, (f s a).pack = s.pack) (l : List α)
    (s : State) : (l.foldl f s).pack = s.pack := foldl_keeps State.pack f h l s
@[simp] theorem foldl_link {α : Type} (f : State → α → State) (h : ∀ s a, (f s a).link = s.link) (l : List α)
    (s : State) : (l.foldl f s).link = s.link := foldl_keeps State.link f h l s
@[simp] theorem foldl_exch {α : Type} (f : State → α → State) (h : ∀ s a, (f s a).exch = s.exch) (l : List α)
    (s : State) : (l.foldl f s).exch = s.exch := foldl_keeps State.exch f h l s
@[simp] theorem foldl_reports {α : Type} (f : State → α → State) (h : ∀ s a, (f s a).reports = s.reports) (l : List α)
    (s : State) : (l.foldl f s).reports = s.reports := foldl_keeps State.reports f h l s

end Sys2Proof.Machine
end

