-- ==== Sys2Proof/Laws/Memory.lean ====
section
/-! SUPPORT. The staging memory: a read after a write, and the canonical form that every operation keeps. -/

namespace Sys2Proof.Machine

/-- A form with a bound on its addresses holds with any lower bound. -/
theorem Memory.wfFrom_mono {low low' : Nat} (h : low' ≤ low) (m : Memory) (hm : Memory.wfFrom low m = true) :
    Memory.wfFrom low' m = true := by
  cases m with
  | nil => rfl
  | cons c m =>
    obtain ⟨a, b⟩ := c
    simp only [Memory.wfFrom, Bool.and_eq_true, decide_eq_true_eq, bne_iff_ne, ne_eq] at hm ⊢
    exact ⟨⟨by omega, hm.1.2⟩, hm.2⟩

/-- Writing one byte keeps the canonical form. -/
theorem Memory.wfFrom_write (x : Nat) (v : Byte) (low : Nat) (m : Memory) (hx : low ≤ x)
    (hm : Memory.wfFrom low m = true) : Memory.wfFrom low (Memory.write x v m) = true := by
  induction m generalizing low with
  | nil =>
    unfold Memory.write
    split
    · rfl
    · next h => simp [Memory.wfFrom, hx, h]
  | cons c m ih =>
    obtain ⟨a, b⟩ := c
    simp only [Memory.wfFrom, Bool.and_eq_true, decide_eq_true_eq, bne_iff_ne, ne_eq] at hm
    obtain ⟨⟨ha, hb⟩, hr⟩ := hm
    unfold Memory.write
    split_ifs with h1 h2 h3 h4
    · simp [Memory.wfFrom, ha, hb, hr]
    · simp [Memory.wfFrom, hx, h2, hb, hr, h1]
    · exact Memory.wfFrom_mono (by omega) m hr
    · subst h3
      simp [Memory.wfFrom, ha, h4, hr]
    · simp only [Memory.wfFrom, Bool.and_eq_true, decide_eq_true_eq, bne_iff_ne, ne_eq]
      exact ⟨⟨ha, hb⟩, ih (a + 1) (by omega) hr⟩

/-- Writing one byte keeps the canonical form. -/
theorem Memory.wf_write (x : Nat) (v : Byte) (m : Memory) (hm : Memory.wf m = true) :
    Memory.wf (Memory.write x v m) = true := Memory.wfFrom_write x v 0 m (Nat.zero_le x) hm

/-- Writing bytes keeps the canonical form. -/
theorem Memory.wf_writeAll (x : Nat) (bs : List Byte) (m : Memory) (hm : Memory.wf m = true) :
    Memory.wf (Memory.writeAll x bs m) = true := by
  induction bs generalizing x m with
  | nil => exact hm
  | cons b bs ih => exact ih (x + 1) (Memory.write x b m) (Memory.wf_write x b m hm)

/-- The staging memory after a reset is in its canonical form. -/
theorem reset_staging_wf : Memory.wf State.reset.staging = true := rfl

/-- Below its lowest address a memory in canonical form reads as an unlisted byte. -/
theorem Memory.read_below (x low : Nat) (m : Memory) (h : x < low) (hm : Memory.wfFrom low m = true) :
    Memory.read m x = unlistedByte := by
  induction m generalizing low with
  | nil => rfl
  | cons c m ih =>
    obtain ⟨a, b⟩ := c
    simp only [Memory.wfFrom, Bool.and_eq_true, decide_eq_true_eq] at hm
    rw [Memory.read, if_neg (by omega)]
    exact ih (a + 1) (by omega) hm.2

/-- A read after a write: the byte written at its address, and what stood before elsewhere. -/
theorem Memory.read_writeFrom (x y : Nat) (v : Byte) (low : Nat) (m : Memory) (hm : Memory.wfFrom low m = true) :
    Memory.read (Memory.write x v m) y = if x = y then v else Memory.read m y := by
  induction m generalizing low with
  | nil =>
    unfold Memory.write
    split_ifs with h1 h2 h2
    · subst h1; rfl
    · rfl
    · simp [Memory.read, h2]
    · simp [Memory.read, h2]
  | cons c m ih =>
    obtain ⟨a, b⟩ := c
    simp only [Memory.wfFrom, Bool.and_eq_true, decide_eq_true_eq] at hm
    obtain ⟨-, hr⟩ := hm
    unfold Memory.write
    split_ifs with h1 h2 h3 h3 h4 h5 h6 h6 h7
    · subst h2 h3
      rw [Memory.read, if_neg (by omega)]
      exact Memory.read_below x (a + 1) m (by omega) hr
    · rfl
    · simp [Memory.read, h3]
    · simp [Memory.read, h3]
    · subst h4 h5 h6
      exact Memory.read_below x (x + 1) m (by omega) hr
    · subst h4
      simp [Memory.read, h6]
    · subst h4 h6
      simp [Memory.read]
    · subst h4
      simp [Memory.read, h6]
    · subst h7
      rw [Memory.read, if_neg (by omega), ih (a + 1) hr, if_pos rfl]
    · rw [Memory.read, Memory.read]
      split_ifs
      · rfl
      · rw [ih (a + 1) hr, if_neg h7]

/-- A read after a write: the byte written at its address, and what stood before elsewhere. -/
theorem Memory.read_write (x y : Nat) (v : Byte) (m : Memory) (hm : Memory.wf m = true) :
    Memory.read (Memory.write x v m) y = if x = y then v else Memory.read m y :=
  Memory.read_writeFrom x y v 0 m hm

/-- A read after bytes were written from an address on: the byte written there, and what stood before elsewhere. -/
theorem Memory.read_writeAll (x y : Nat) (bs : List Byte) (m : Memory) (hm : Memory.wf m = true) :
    Memory.read (Memory.writeAll x bs m) y =
      if x ≤ y ∧ y < x + bs.length then bs.getD (y - x) 0 else Memory.read m y := by
  induction bs generalizing x m with
  | nil => simp [Memory.writeAll]
  | cons b bs ih =>
    rw [Memory.writeAll, ih (x + 1) _ (Memory.wf_write x b m hm), Memory.read_write x y b m hm]
    rcases Nat.lt_trichotomy y x with h | h | h
    · rw [if_neg (by omega), if_neg (by omega), if_neg (by simp only [List.length_cons]; omega)]
    · subst h
      rw [if_neg (by omega), if_pos rfl, if_pos (by simp only [List.length_cons]; omega)]
      simp
    · simp only [List.length_cons]
      by_cases hy : y < x + (bs.length + 1)
      · rw [if_pos (by omega), if_pos (by omega)]
        obtain ⟨k, hk⟩ : ∃ k, y - x = k + 1 := ⟨y - x - 1, by omega⟩
        rw [hk, show y - (x + 1) = k by omega]
        simp
      · rw [if_neg (by omega), if_neg (by omega), if_neg (by omega)]

end Sys2Proof.Machine
end

