-- ==== Sys2Proof/Laws/Frame1.lean ====
section
/-! SUPPORT. What every operation of Ops, LinkOps, ModeOps, LineOps, CarouselOps, FetchOps, PrintOps, StationOps leaves unchanged: one lemma per operation, a conjunction over the
fields it never touches. -/

namespace Sys2Proof.Machine

@[simp] theorem raise_frame (i : Incident) (s : State) :
    (raise i s).pending = s.pending ∧ (raise i s).clock = s.clock ∧ (raise i s).pins = s.pins ∧
    (raise i s).captures = s.captures ∧ (raise i s).buttons = s.buttons ∧ (raise i s).ctl = s.ctl ∧
    (raise i s).config = s.config ∧ (raise i s).catalog = s.catalog ∧ (raise i s).lines = s.lines ∧
    (raise i s).accepted = s.accepted ∧ (raise i s).garments = s.garments ∧ (raise i s).carousel = s.carousel ∧
    (raise i s).pretreat = s.pretreat ∧ (raise i s).press = s.press ∧ (raise i s).engine = s.engine ∧
    (raise i s).staging = s.staging ∧ (raise i s).port = s.port ∧ (raise i s).prints = s.prints ∧
    (raise i s).lanes = s.lanes ∧ (raise i s).flash = s.flash ∧ (raise i s).dryer = s.dryer ∧
    (raise i s).pack = s.pack ∧ (raise i s).link = s.link ∧ (raise i s).exch = s.exch := by
  unfold raise
  try dsimp only
  (repeat' split) <;> simp

@[simp] theorem markDirty_frame (slot : Fin 128) (s : State) :
    (markDirty slot s).pending = s.pending ∧ (markDirty slot s).clock = s.clock ∧ (markDirty slot s).pins = s.pins ∧
    (markDirty slot s).captures = s.captures ∧ (markDirty slot s).buttons = s.buttons ∧
    (markDirty slot s).ctl = s.ctl ∧ (markDirty slot s).config = s.config ∧ (markDirty slot s).catalog = s.catalog ∧
    (markDirty slot s).lines = s.lines ∧ (markDirty slot s).accepted = s.accepted ∧
    (markDirty slot s).garments = s.garments ∧ (markDirty slot s).carousel = s.carousel ∧
    (markDirty slot s).pretreat = s.pretreat ∧ (markDirty slot s).press = s.press ∧
    (markDirty slot s).engine = s.engine ∧ (markDirty slot s).staging = s.staging ∧ (markDirty slot s).port = s.port ∧
    (markDirty slot s).prints = s.prints ∧ (markDirty slot s).lanes = s.lanes ∧ (markDirty slot s).flash = s.flash ∧
    (markDirty slot s).dryer = s.dryer ∧ (markDirty slot s).pack = s.pack ∧ (markDirty slot s).link = s.link ∧
    (markDirty slot s).exch = s.exch := by
  unfold markDirty
  try dsimp only
  (repeat' split) <;> simp

@[simp] theorem askPort_frame (a : Access) (s : State) :
    (askPort a s).pending = s.pending ∧ (askPort a s).clock = s.clock ∧ (askPort a s).pins = s.pins ∧
    (askPort a s).captures = s.captures ∧ (askPort a s).buttons = s.buttons ∧ (askPort a s).ctl = s.ctl ∧
    (askPort a s).config = s.config ∧ (askPort a s).catalog = s.catalog ∧ (askPort a s).lines = s.lines ∧
    (askPort a s).accepted = s.accepted ∧ (askPort a s).garments = s.garments ∧ (askPort a s).carousel = s.carousel ∧
    (askPort a s).pretreat = s.pretreat ∧ (askPort a s).press = s.press ∧ (askPort a s).engine = s.engine ∧
    (askPort a s).staging = s.staging ∧ (askPort a s).prints = s.prints ∧ (askPort a s).lanes = s.lanes ∧
    (askPort a s).flash = s.flash ∧ (askPort a s).dryer = s.dryer ∧ (askPort a s).pack = s.pack ∧
    (askPort a s).link = s.link ∧ (askPort a s).exch = s.exch ∧ (askPort a s).reports = s.reports := by
  unfold askPort
  try dsimp only
  (repeat' split) <;> simp

@[simp] theorem endAccess_frame (s : State) :
    (endAccess s).pending = s.pending ∧ (endAccess s).clock = s.clock ∧ (endAccess s).pins = s.pins ∧
    (endAccess s).captures = s.captures ∧ (endAccess s).buttons = s.buttons ∧ (endAccess s).ctl = s.ctl ∧
    (endAccess s).config = s.config ∧ (endAccess s).catalog = s.catalog ∧ (endAccess s).lines = s.lines ∧
    (endAccess s).accepted = s.accepted ∧ (endAccess s).garments = s.garments ∧ (endAccess s).carousel = s.carousel ∧
    (endAccess s).pretreat = s.pretreat ∧ (endAccess s).press = s.press ∧ (endAccess s).engine = s.engine ∧
    (endAccess s).staging = s.staging ∧ (endAccess s).prints = s.prints ∧ (endAccess s).lanes = s.lanes ∧
    (endAccess s).flash = s.flash ∧ (endAccess s).dryer = s.dryer ∧ (endAccess s).pack = s.pack ∧
    (endAccess s).link = s.link ∧ (endAccess s).exch = s.exch ∧ (endAccess s).reports = s.reports := by
  unfold endAccess
  try dsimp only
  (repeat' split) <;> simp

@[simp] theorem dropLate_frame (k : AccessKind) (s : State) :
    (dropLate k s).pending = s.pending ∧ (dropLate k s).clock = s.clock ∧ (dropLate k s).pins = s.pins ∧
    (dropLate k s).captures = s.captures ∧ (dropLate k s).buttons = s.buttons ∧ (dropLate k s).ctl = s.ctl ∧
    (dropLate k s).config = s.config ∧ (dropLate k s).catalog = s.catalog ∧ (dropLate k s).lines = s.lines ∧
    (dropLate k s).accepted = s.accepted ∧ (dropLate k s).garments = s.garments ∧
    (dropLate k s).carousel = s.carousel ∧ (dropLate k s).pretreat = s.pretreat ∧ (dropLate k s).press = s.press ∧
    (dropLate k s).engine = s.engine ∧ (dropLate k s).staging = s.staging ∧ (dropLate k s).prints = s.prints ∧
    (dropLate k s).lanes = s.lanes ∧ (dropLate k s).flash = s.flash ∧ (dropLate k s).dryer = s.dryer ∧
    (dropLate k s).pack = s.pack ∧ (dropLate k s).link = s.link ∧ (dropLate k s).exch = s.exch ∧
    (dropLate k s).reports = s.reports := by
  unfold dropLate
  try dsimp only
  (repeat' split) <;> simp

@[simp] theorem discardAccesses_frame (ks : List AccessKind) (s : State) :
    (discardAccesses ks s).pending = s.pending ∧ (discardAccesses ks s).clock = s.clock ∧
    (discardAccesses ks s).pins = s.pins ∧ (discardAccesses ks s).captures = s.captures ∧
    (discardAccesses ks s).buttons = s.buttons ∧ (discardAccesses ks s).ctl = s.ctl ∧
    (discardAccesses ks s).config = s.config ∧ (discardAccesses ks s).catalog = s.catalog ∧
    (discardAccesses ks s).lines = s.lines ∧ (discardAccesses ks s).accepted = s.accepted ∧
    (discardAccesses ks s).garments = s.garments ∧ (discardAccesses ks s).carousel = s.carousel ∧
    (discardAccesses ks s).pretreat = s.pretreat ∧ (discardAccesses ks s).press = s.press ∧
    (discardAccesses ks s).engine = s.engine ∧ (discardAccesses ks s).staging = s.staging ∧
    (discardAccesses ks s).prints = s.prints ∧ (discardAccesses ks s).lanes = s.lanes ∧
    (discardAccesses ks s).flash = s.flash ∧ (discardAccesses ks s).dryer = s.dryer ∧
    (discardAccesses ks s).pack = s.pack ∧ (discardAccesses ks s).link = s.link ∧
    (discardAccesses ks s).exch = s.exch ∧ (discardAccesses ks s).reports = s.reports := by
  unfold discardAccesses
  try dsimp only
  (repeat' split) <;> simp

@[simp] theorem putLine_frame (i : Fin 128) (l : LineEntry) (s : State) :
    (putLine i l s).pending = s.pending ∧ (putLine i l s).clock = s.clock ∧ (putLine i l s).pins = s.pins ∧
    (putLine i l s).captures = s.captures ∧ (putLine i l s).buttons = s.buttons ∧ (putLine i l s).ctl = s.ctl ∧
    (putLine i l s).config = s.config ∧ (putLine i l s).catalog = s.catalog ∧ (putLine i l s).accepted = s.accepted ∧
    (putLine i l s).garments = s.garments ∧ (putLine i l s).carousel = s.carousel ∧
    (putLine i l s).pretreat = s.pretreat ∧ (putLine i l s).press = s.press ∧ (putLine i l s).engine = s.engine ∧
    (putLine i l s).staging = s.staging ∧ (putLine i l s).port = s.port ∧ (putLine i l s).prints = s.prints ∧
    (putLine i l s).lanes = s.lanes ∧ (putLine i l s).flash = s.flash ∧ (putLine i l s).dryer = s.dryer ∧
    (putLine i l s).pack = s.pack ∧ (putLine i l s).link = s.link ∧ (putLine i l s).exch = s.exch ∧
    (putLine i l s).reports = s.reports := by
  unfold putLine
  try dsimp only
  (repeat' split) <;> simp

@[simp] theorem reportLine_frame (i : Fin 128) (l : LineEntry) (s : State) :
    (reportLine i l s).pending = s.pending ∧ (reportLine i l s).clock = s.clock ∧ (reportLine i l s).pins = s.pins ∧
    (reportLine i l s).captures = s.captures ∧ (reportLine i l s).buttons = s.buttons ∧
    (reportLine i l s).ctl = s.ctl ∧ (reportLine i l s).config = s.config ∧ (reportLine i l s).catalog = s.catalog ∧
    (reportLine i l s).accepted = s.accepted ∧ (reportLine i l s).garments = s.garments ∧
    (reportLine i l s).carousel = s.carousel ∧ (reportLine i l s).pretreat = s.pretreat ∧
    (reportLine i l s).press = s.press ∧ (reportLine i l s).engine = s.engine ∧
    (reportLine i l s).staging = s.staging ∧ (reportLine i l s).port = s.port ∧ (reportLine i l s).prints = s.prints ∧
    (reportLine i l s).lanes = s.lanes ∧ (reportLine i l s).flash = s.flash ∧ (reportLine i l s).dryer = s.dryer ∧
    (reportLine i l s).pack = s.pack ∧ (reportLine i l s).link = s.link ∧ (reportLine i l s).exch = s.exch := by
  unfold reportLine
  try dsimp only
  (repeat' split) <;> simp

@[simp] theorem putGarment_frame (g : Fin 32) (r : Garment) (s : State) :
    (putGarment g r s).pending = s.pending ∧ (putGarment g r s).clock = s.clock ∧ (putGarment g r s).pins = s.pins ∧
    (putGarment g r s).captures = s.captures ∧ (putGarment g r s).buttons = s.buttons ∧
    (putGarment g r s).ctl = s.ctl ∧ (putGarment g r s).config = s.config ∧ (putGarment g r s).catalog = s.catalog ∧
    (putGarment g r s).lines = s.lines ∧ (putGarment g r s).accepted = s.accepted ∧
    (putGarment g r s).carousel = s.carousel ∧ (putGarment g r s).pretreat = s.pretreat ∧
    (putGarment g r s).press = s.press ∧ (putGarment g r s).engine = s.engine ∧
    (putGarment g r s).staging = s.staging ∧ (putGarment g r s).port = s.port ∧ (putGarment g r s).prints = s.prints ∧
    (putGarment g r s).lanes = s.lanes ∧ (putGarment g r s).flash = s.flash ∧ (putGarment g r s).dryer = s.dryer ∧
    (putGarment g r s).pack = s.pack ∧ (putGarment g r s).link = s.link ∧ (putGarment g r s).exch = s.exch ∧
    (putGarment g r s).reports = s.reports := by
  unfold putGarment
  try dsimp only
  (repeat' split) <;> simp

@[simp] theorem changeGarment_frame (g : Fin 32) (f : Garment → Garment) (s : State) :
    (changeGarment g f s).pending = s.pending ∧ (changeGarment g f s).clock = s.clock ∧
    (changeGarment g f s).pins = s.pins ∧ (changeGarment g f s).captures = s.captures ∧
    (changeGarment g f s).buttons = s.buttons ∧ (changeGarment g f s).ctl = s.ctl ∧
    (changeGarment g f s).config = s.config ∧ (changeGarment g f s).catalog = s.catalog ∧
    (changeGarment g f s).lines = s.lines ∧ (changeGarment g f s).accepted = s.accepted ∧
    (changeGarment g f s).carousel = s.carousel ∧ (changeGarment g f s).pretreat = s.pretreat ∧
    (changeGarment g f s).press = s.press ∧ (changeGarment g f s).engine = s.engine ∧
    (changeGarment g f s).staging = s.staging ∧ (changeGarment g f s).port = s.port ∧
    (changeGarment g f s).prints = s.prints ∧ (changeGarment g f s).lanes = s.lanes ∧
    (changeGarment g f s).flash = s.flash ∧ (changeGarment g f s).dryer = s.dryer ∧
    (changeGarment g f s).pack = s.pack ∧ (changeGarment g f s).link = s.link ∧ (changeGarment g f s).exch = s.exch ∧
    (changeGarment g f s).reports = s.reports := by
  unfold changeGarment
  try dsimp only
  (repeat' split) <;> simp

@[simp] theorem putPlace_frame (q : Requester) (p : LinkPlace) (s : State) :
    (putPlace q p s).pending = s.pending ∧ (putPlace q p s).clock = s.clock ∧ (putPlace q p s).pins = s.pins ∧
    (putPlace q p s).captures = s.captures ∧ (putPlace q p s).buttons = s.buttons ∧ (putPlace q p s).ctl = s.ctl ∧
    (putPlace q p s).config = s.config ∧ (putPlace q p s).catalog = s.catalog ∧ (putPlace q p s).lines = s.lines ∧
    (putPlace q p s).accepted = s.accepted ∧ (putPlace q p s).garments = s.garments ∧
    (putPlace q p s).carousel = s.carousel ∧ (putPlace q p s).pretreat = s.pretreat ∧
    (putPlace q p s).press = s.press ∧ (putPlace q p s).engine = s.engine ∧ (putPlace q p s).staging = s.staging ∧
    (putPlace q p s).port = s.port ∧ (putPlace q p s).prints = s.prints ∧ (putPlace q p s).lanes = s.lanes ∧
    (putPlace q p s).flash = s.flash ∧ (putPlace q p s).dryer = s.dryer ∧ (putPlace q p s).pack = s.pack ∧
    (putPlace q p s).exch = s.exch ∧ (putPlace q p s).reports = s.reports := by
  unfold putPlace
  try dsimp only
  (repeat' split) <;> simp

@[simp] theorem enqueue_frame (q : Requester) (t : Txn) (s : State) :
    (enqueue q t s).pending = s.pending ∧ (enqueue q t s).clock = s.clock ∧ (enqueue q t s).pins = s.pins ∧
    (enqueue q t s).captures = s.captures ∧ (enqueue q t s).buttons = s.buttons ∧ (enqueue q t s).ctl = s.ctl ∧
    (enqueue q t s).config = s.config ∧ (enqueue q t s).catalog = s.catalog ∧ (enqueue q t s).lines = s.lines ∧
    (enqueue q t s).accepted = s.accepted ∧ (enqueue q t s).garments = s.garments ∧
    (enqueue q t s).carousel = s.carousel ∧ (enqueue q t s).pretreat = s.pretreat ∧ (enqueue q t s).press = s.press ∧
    (enqueue q t s).engine = s.engine ∧ (enqueue q t s).staging = s.staging ∧ (enqueue q t s).port = s.port ∧
    (enqueue q t s).prints = s.prints ∧ (enqueue q t s).lanes = s.lanes ∧ (enqueue q t s).flash = s.flash ∧
    (enqueue q t s).dryer = s.dryer ∧ (enqueue q t s).pack = s.pack ∧ (enqueue q t s).exch = s.exch ∧
    (enqueue q t s).reports = s.reports := by
  unfold enqueue
  try dsimp only
  (repeat' split) <;> simp

@[simp] theorem handIn_frame (q : Requester) (t : Txn) (s : State) :
    (handIn q t s).pending = s.pending ∧ (handIn q t s).clock = s.clock ∧ (handIn q t s).pins = s.pins ∧
    (handIn q t s).captures = s.captures ∧ (handIn q t s).buttons = s.buttons ∧ (handIn q t s).ctl = s.ctl ∧
    (handIn q t s).config = s.config ∧ (handIn q t s).catalog = s.catalog ∧ (handIn q t s).lines = s.lines ∧
    (handIn q t s).accepted = s.accepted ∧ (handIn q t s).garments = s.garments ∧
    (handIn q t s).carousel = s.carousel ∧ (handIn q t s).pretreat = s.pretreat ∧ (handIn q t s).press = s.press ∧
    (handIn q t s).engine = s.engine ∧ (handIn q t s).staging = s.staging ∧ (handIn q t s).port = s.port ∧
    (handIn q t s).prints = s.prints ∧ (handIn q t s).lanes = s.lanes ∧ (handIn q t s).flash = s.flash ∧
    (handIn q t s).dryer = s.dryer ∧ (handIn q t s).pack = s.pack ∧ (handIn q t s).exch = s.exch ∧
    (handIn q t s).reports = s.reports := by
  unfold handIn
  try dsimp only
  (repeat' split) <;> simp

@[simp] theorem replaceTxn_frame (q : Requester) (t : Txn) (s : State) :
    (replaceTxn q t s).pending = s.pending ∧ (replaceTxn q t s).clock = s.clock ∧ (replaceTxn q t s).pins = s.pins ∧
    (replaceTxn q t s).captures = s.captures ∧ (replaceTxn q t s).buttons = s.buttons ∧
    (replaceTxn q t s).ctl = s.ctl ∧ (replaceTxn q t s).config = s.config ∧ (replaceTxn q t s).catalog = s.catalog ∧
    (replaceTxn q t s).lines = s.lines ∧ (replaceTxn q t s).accepted = s.accepted ∧
    (replaceTxn q t s).garments = s.garments ∧ (replaceTxn q t s).carousel = s.carousel ∧
    (replaceTxn q t s).pretreat = s.pretreat ∧ (replaceTxn q t s).press = s.press ∧
    (replaceTxn q t s).engine = s.engine ∧ (replaceTxn q t s).staging = s.staging ∧ (replaceTxn q t s).port = s.port ∧
    (replaceTxn q t s).prints = s.prints ∧ (replaceTxn q t s).lanes = s.lanes ∧ (replaceTxn q t s).flash = s.flash ∧
    (replaceTxn q t s).dryer = s.dryer ∧ (replaceTxn q t s).pack = s.pack ∧ (replaceTxn q t s).exch = s.exch ∧
    (replaceTxn q t s).reports = s.reports := by
  unfold replaceTxn
  try dsimp only
  (repeat' split) <;> simp

@[simp] theorem withdrawTxn_frame (q : Requester) (s : State) :
    (withdrawTxn q s).pending = s.pending ∧ (withdrawTxn q s).clock = s.clock ∧ (withdrawTxn q s).pins = s.pins ∧
    (withdrawTxn q s).captures = s.captures ∧ (withdrawTxn q s).buttons = s.buttons ∧ (withdrawTxn q s).ctl = s.ctl ∧
    (withdrawTxn q s).config = s.config ∧ (withdrawTxn q s).catalog = s.catalog ∧ (withdrawTxn q s).lines = s.lines ∧
    (withdrawTxn q s).accepted = s.accepted ∧ (withdrawTxn q s).garments = s.garments ∧
    (withdrawTxn q s).carousel = s.carousel ∧ (withdrawTxn q s).pretreat = s.pretreat ∧
    (withdrawTxn q s).press = s.press ∧ (withdrawTxn q s).engine = s.engine ∧ (withdrawTxn q s).staging = s.staging ∧
    (withdrawTxn q s).port = s.port ∧ (withdrawTxn q s).prints = s.prints ∧ (withdrawTxn q s).lanes = s.lanes ∧
    (withdrawTxn q s).flash = s.flash ∧ (withdrawTxn q s).dryer = s.dryer ∧ (withdrawTxn q s).pack = s.pack ∧
    (withdrawTxn q s).exch = s.exch ∧ (withdrawTxn q s).reports = s.reports := by
  unfold withdrawTxn
  try dsimp only
  (repeat' split) <;> simp

@[simp] theorem readLost_frame (r : Role) (s : State) :
    (readLost r s).pending = s.pending ∧ (readLost r s).clock = s.clock ∧ (readLost r s).pins = s.pins ∧
    (readLost r s).captures = s.captures ∧ (readLost r s).buttons = s.buttons ∧ (readLost r s).ctl = s.ctl ∧
    (readLost r s).config = s.config ∧ (readLost r s).catalog = s.catalog ∧ (readLost r s).lines = s.lines ∧
    (readLost r s).accepted = s.accepted ∧ (readLost r s).garments = s.garments ∧
    (readLost r s).carousel = s.carousel ∧ (readLost r s).pretreat = s.pretreat ∧ (readLost r s).press = s.press ∧
    (readLost r s).engine = s.engine ∧ (readLost r s).staging = s.staging ∧ (readLost r s).port = s.port ∧
    (readLost r s).prints = s.prints ∧ (readLost r s).lanes = s.lanes ∧ (readLost r s).dryer = s.dryer ∧
    (readLost r s).pack = s.pack ∧ (readLost r s).link = s.link ∧ (readLost r s).exch = s.exch ∧
    (readLost r s).reports = s.reports := by
  unfold readLost
  try dsimp only
  (repeat' split) <;> simp

@[simp] theorem serveReadList_frame  (l : List Role) (s : State) :
    (serveReadList l s).pending = s.pending ∧ (serveReadList l s).clock = s.clock ∧
    (serveReadList l s).pins = s.pins ∧ (serveReadList l s).captures = s.captures ∧
    (serveReadList l s).buttons = s.buttons ∧ (serveReadList l s).ctl = s.ctl ∧
    (serveReadList l s).config = s.config ∧ (serveReadList l s).catalog = s.catalog ∧
    (serveReadList l s).lines = s.lines ∧ (serveReadList l s).accepted = s.accepted ∧
    (serveReadList l s).garments = s.garments ∧ (serveReadList l s).carousel = s.carousel ∧
    (serveReadList l s).pretreat = s.pretreat ∧ (serveReadList l s).press = s.press ∧
    (serveReadList l s).engine = s.engine ∧ (serveReadList l s).staging = s.staging ∧
    (serveReadList l s).port = s.port ∧ (serveReadList l s).prints = s.prints ∧ (serveReadList l s).lanes = s.lanes ∧
    (serveReadList l s).pack = s.pack ∧ (serveReadList l s).exch = s.exch ∧ (serveReadList l s).reports = s.reports := by
  induction l generalizing s with
  | nil => simp [serveReadList]
  | cons a l ih => unfold serveReadList; (repeat' split) <;> simp [*]

@[simp] theorem serveReads_frame (s : State) :
    (serveReads s).pending = s.pending ∧ (serveReads s).clock = s.clock ∧ (serveReads s).pins = s.pins ∧
    (serveReads s).captures = s.captures ∧ (serveReads s).buttons = s.buttons ∧ (serveReads s).ctl = s.ctl ∧
    (serveReads s).config = s.config ∧ (serveReads s).catalog = s.catalog ∧ (serveReads s).lines = s.lines ∧
    (serveReads s).accepted = s.accepted ∧ (serveReads s).garments = s.garments ∧
    (serveReads s).carousel = s.carousel ∧ (serveReads s).pretreat = s.pretreat ∧ (serveReads s).press = s.press ∧
    (serveReads s).engine = s.engine ∧ (serveReads s).staging = s.staging ∧ (serveReads s).port = s.port ∧
    (serveReads s).prints = s.prints ∧ (serveReads s).lanes = s.lanes ∧ (serveReads s).pack = s.pack ∧
    (serveReads s).exch = s.exch ∧ (serveReads s).reports = s.reports := by
  unfold serveReads
  try dsimp only
  (repeat' split) <;> simp

@[simp] theorem askReads_frame (targets : List Role) (s : State) :
    (askReads targets s).pending = s.pending ∧ (askReads targets s).clock = s.clock ∧
    (askReads targets s).pins = s.pins ∧ (askReads targets s).captures = s.captures ∧
    (askReads targets s).buttons = s.buttons ∧ (askReads targets s).ctl = s.ctl ∧
    (askReads targets s).config = s.config ∧ (askReads targets s).catalog = s.catalog ∧
    (askReads targets s).lines = s.lines ∧ (askReads targets s).accepted = s.accepted ∧
    (askReads targets s).garments = s.garments ∧ (askReads targets s).carousel = s.carousel ∧
    (askReads targets s).pretreat = s.pretreat ∧ (askReads targets s).press = s.press ∧
    (askReads targets s).engine = s.engine ∧ (askReads targets s).staging = s.staging ∧
    (askReads targets s).port = s.port ∧ (askReads targets s).prints = s.prints ∧
    (askReads targets s).lanes = s.lanes ∧ (askReads targets s).pack = s.pack ∧ (askReads targets s).exch = s.exch ∧
    (askReads targets s).reports = s.reports := by
  unfold askReads
  try dsimp only
  (repeat' split) <;> simp

@[simp] theorem commandFailed_frame (t : Txn) (s : State) :
    (commandFailed t s).pending = s.pending ∧ (commandFailed t s).clock = s.clock ∧
    (commandFailed t s).pins = s.pins ∧ (commandFailed t s).captures = s.captures ∧
    (commandFailed t s).buttons = s.buttons ∧ (commandFailed t s).ctl = s.ctl ∧
    (commandFailed t s).config = s.config ∧ (commandFailed t s).catalog = s.catalog ∧
    (commandFailed t s).lines = s.lines ∧ (commandFailed t s).accepted = s.accepted ∧
    (commandFailed t s).garments = s.garments ∧ (commandFailed t s).carousel = s.carousel ∧
    (commandFailed t s).pretreat = s.pretreat ∧ (commandFailed t s).press = s.press ∧
    (commandFailed t s).engine = s.engine ∧ (commandFailed t s).staging = s.staging ∧
    (commandFailed t s).port = s.port ∧ (commandFailed t s).prints = s.prints ∧ (commandFailed t s).lanes = s.lanes ∧
    (commandFailed t s).flash = s.flash ∧ (commandFailed t s).dryer = s.dryer ∧ (commandFailed t s).pack = s.pack ∧
    (commandFailed t s).link = s.link ∧ (commandFailed t s).exch = s.exch := by
  unfold commandFailed
  try dsimp only
  (repeat' split) <;> simp

@[simp] theorem commandLost_frame (t : Txn) (s : State) :
    (commandLost t s).pending = s.pending ∧ (commandLost t s).clock = s.clock ∧ (commandLost t s).pins = s.pins ∧
    (commandLost t s).captures = s.captures ∧ (commandLost t s).buttons = s.buttons ∧ (commandLost t s).ctl = s.ctl ∧
    (commandLost t s).config = s.config ∧ (commandLost t s).catalog = s.catalog ∧ (commandLost t s).lines = s.lines ∧
    (commandLost t s).accepted = s.accepted ∧ (commandLost t s).garments = s.garments ∧
    (commandLost t s).carousel = s.carousel ∧ (commandLost t s).pretreat = s.pretreat ∧
    (commandLost t s).press = s.press ∧ (commandLost t s).engine = s.engine ∧ (commandLost t s).staging = s.staging ∧
    (commandLost t s).port = s.port ∧ (commandLost t s).prints = s.prints ∧ (commandLost t s).lanes = s.lanes ∧
    (commandLost t s).flash = s.flash ∧ (commandLost t s).dryer = s.dryer ∧ (commandLost t s).pack = s.pack ∧
    (commandLost t s).link = s.link ∧ (commandLost t s).exch = s.exch := by
  unfold commandLost
  try dsimp only
  (repeat' split) <;> simp

@[simp] theorem serveCommandList_frame  (l : List Txn) (s : State) :
    (serveCommandList l s).pending = s.pending ∧ (serveCommandList l s).clock = s.clock ∧
    (serveCommandList l s).pins = s.pins ∧ (serveCommandList l s).captures = s.captures ∧
    (serveCommandList l s).buttons = s.buttons ∧ (serveCommandList l s).config = s.config ∧
    (serveCommandList l s).catalog = s.catalog ∧ (serveCommandList l s).lines = s.lines ∧
    (serveCommandList l s).accepted = s.accepted ∧ (serveCommandList l s).garments = s.garments ∧
    (serveCommandList l s).carousel = s.carousel ∧ (serveCommandList l s).pretreat = s.pretreat ∧
    (serveCommandList l s).press = s.press ∧ (serveCommandList l s).engine = s.engine ∧
    (serveCommandList l s).staging = s.staging ∧ (serveCommandList l s).port = s.port ∧
    (serveCommandList l s).prints = s.prints ∧ (serveCommandList l s).lanes = s.lanes ∧
    (serveCommandList l s).flash = s.flash ∧ (serveCommandList l s).dryer = s.dryer ∧
    (serveCommandList l s).pack = s.pack ∧ (serveCommandList l s).exch = s.exch := by
  induction l generalizing s with
  | nil => simp [serveCommandList]
  | cons a l ih => unfold serveCommandList; (repeat' split) <;> simp [*]

@[simp] theorem serveCommands_frame (s : State) :
    (serveCommands s).pending = s.pending ∧ (serveCommands s).clock = s.clock ∧ (serveCommands s).pins = s.pins ∧
    (serveCommands s).captures = s.captures ∧ (serveCommands s).buttons = s.buttons ∧
    (serveCommands s).config = s.config ∧ (serveCommands s).catalog = s.catalog ∧ (serveCommands s).lines = s.lines ∧
    (serveCommands s).accepted = s.accepted ∧ (serveCommands s).garments = s.garments ∧
    (serveCommands s).carousel = s.carousel ∧ (serveCommands s).pretreat = s.pretreat ∧
    (serveCommands s).press = s.press ∧ (serveCommands s).engine = s.engine ∧ (serveCommands s).staging = s.staging ∧
    (serveCommands s).port = s.port ∧ (serveCommands s).prints = s.prints ∧ (serveCommands s).lanes = s.lanes ∧
    (serveCommands s).flash = s.flash ∧ (serveCommands s).dryer = s.dryer ∧ (serveCommands s).pack = s.pack ∧
    (serveCommands s).exch = s.exch := by
  unfold serveCommands
  try dsimp only
  (repeat' split) <;> simp

@[simp] theorem takeOverList_frame (w : Queued) (l : List Txn) (s : State) :
    (takeOverList w l s).pending = s.pending ∧ (takeOverList w l s).clock = s.clock ∧
    (takeOverList w l s).pins = s.pins ∧ (takeOverList w l s).captures = s.captures ∧
    (takeOverList w l s).buttons = s.buttons ∧ (takeOverList w l s).config = s.config ∧
    (takeOverList w l s).catalog = s.catalog ∧ (takeOverList w l s).lines = s.lines ∧
    (takeOverList w l s).accepted = s.accepted ∧ (takeOverList w l s).garments = s.garments ∧
    (takeOverList w l s).carousel = s.carousel ∧ (takeOverList w l s).pretreat = s.pretreat ∧
    (takeOverList w l s).press = s.press ∧ (takeOverList w l s).engine = s.engine ∧
    (takeOverList w l s).staging = s.staging ∧ (takeOverList w l s).port = s.port ∧
    (takeOverList w l s).prints = s.prints ∧ (takeOverList w l s).lanes = s.lanes ∧
    (takeOverList w l s).flash = s.flash ∧ (takeOverList w l s).dryer = s.dryer ∧ (takeOverList w l s).pack = s.pack ∧
    (takeOverList w l s).exch = s.exch := by
  induction l generalizing s with
  | nil => simp [takeOverList]
  | cons a l ih => unfold takeOverList; (repeat' split) <;> simp [*]

@[simp] theorem putCommands_frame (ts : List Txn) (s : State) :
    (putCommands ts s).pending = s.pending ∧ (putCommands ts s).clock = s.clock ∧ (putCommands ts s).pins = s.pins ∧
    (putCommands ts s).captures = s.captures ∧ (putCommands ts s).buttons = s.buttons ∧
    (putCommands ts s).config = s.config ∧ (putCommands ts s).catalog = s.catalog ∧
    (putCommands ts s).lines = s.lines ∧ (putCommands ts s).accepted = s.accepted ∧
    (putCommands ts s).garments = s.garments ∧ (putCommands ts s).carousel = s.carousel ∧
    (putCommands ts s).pretreat = s.pretreat ∧ (putCommands ts s).press = s.press ∧
    (putCommands ts s).engine = s.engine ∧ (putCommands ts s).staging = s.staging ∧ (putCommands ts s).port = s.port ∧
    (putCommands ts s).prints = s.prints ∧ (putCommands ts s).lanes = s.lanes ∧ (putCommands ts s).flash = s.flash ∧
    (putCommands ts s).dryer = s.dryer ∧ (putCommands ts s).pack = s.pack ∧ (putCommands ts s).exch = s.exch := by
  unfold putCommands
  try dsimp only
  (repeat' split) <;> simp

@[simp] theorem startTicking_frame (s : State) :
    (startTicking s).pending = s.pending ∧ (startTicking s).clock = s.clock ∧ (startTicking s).pins = s.pins ∧
    (startTicking s).captures = s.captures ∧ (startTicking s).buttons = s.buttons ∧ (startTicking s).ctl = s.ctl ∧
    (startTicking s).config = s.config ∧ (startTicking s).catalog = s.catalog ∧ (startTicking s).lines = s.lines ∧
    (startTicking s).accepted = s.accepted ∧ (startTicking s).garments = s.garments ∧
    (startTicking s).carousel = s.carousel ∧ (startTicking s).pretreat = s.pretreat ∧
    (startTicking s).press = s.press ∧ (startTicking s).engine = s.engine ∧ (startTicking s).staging = s.staging ∧
    (startTicking s).port = s.port ∧ (startTicking s).prints = s.prints ∧ (startTicking s).lanes = s.lanes ∧
    (startTicking s).pack = s.pack ∧ (startTicking s).exch = s.exch ∧ (startTicking s).reports = s.reports := by
  unfold startTicking
  try dsimp only
  (repeat' split) <;> simp

@[simp] theorem stopTicking_frame (s : State) :
    (stopTicking s).pending = s.pending ∧ (stopTicking s).clock = s.clock ∧ (stopTicking s).pins = s.pins ∧
    (stopTicking s).captures = s.captures ∧ (stopTicking s).buttons = s.buttons ∧ (stopTicking s).ctl = s.ctl ∧
    (stopTicking s).config = s.config ∧ (stopTicking s).catalog = s.catalog ∧ (stopTicking s).lines = s.lines ∧
    (stopTicking s).accepted = s.accepted ∧ (stopTicking s).garments = s.garments ∧
    (stopTicking s).carousel = s.carousel ∧ (stopTicking s).pretreat = s.pretreat ∧ (stopTicking s).press = s.press ∧
    (stopTicking s).engine = s.engine ∧ (stopTicking s).staging = s.staging ∧ (stopTicking s).port = s.port ∧
    (stopTicking s).prints = s.prints ∧ (stopTicking s).lanes = s.lanes ∧ (stopTicking s).flash = s.flash ∧
    (stopTicking s).pack = s.pack ∧ (stopTicking s).link = s.link ∧ (stopTicking s).exch = s.exch ∧
    (stopTicking s).reports = s.reports := by
  unfold stopTicking
  try dsimp only
  (repeat' split) <;> simp

@[simp] theorem ensureTicking_frame (s : State) :
    (ensureTicking s).pending = s.pending ∧ (ensureTicking s).clock = s.clock ∧ (ensureTicking s).pins = s.pins ∧
    (ensureTicking s).captures = s.captures ∧ (ensureTicking s).buttons = s.buttons ∧ (ensureTicking s).ctl = s.ctl ∧
    (ensureTicking s).config = s.config ∧ (ensureTicking s).catalog = s.catalog ∧ (ensureTicking s).lines = s.lines ∧
    (ensureTicking s).accepted = s.accepted ∧ (ensureTicking s).garments = s.garments ∧
    (ensureTicking s).carousel = s.carousel ∧ (ensureTicking s).pretreat = s.pretreat ∧
    (ensureTicking s).press = s.press ∧ (ensureTicking s).engine = s.engine ∧ (ensureTicking s).staging = s.staging ∧
    (ensureTicking s).port = s.port ∧ (ensureTicking s).prints = s.prints ∧ (ensureTicking s).lanes = s.lanes ∧
    (ensureTicking s).pack = s.pack ∧ (ensureTicking s).exch = s.exch ∧ (ensureTicking s).reports = s.reports := by
  unfold ensureTicking
  try dsimp only
  (repeat' split) <;> simp

@[simp] theorem setLine_frame (m : Mode) (c : Causes) (s : State) :
    (setLine m c s).pending = s.pending ∧ (setLine m c s).clock = s.clock ∧ (setLine m c s).pins = s.pins ∧
    (setLine m c s).captures = s.captures ∧ (setLine m c s).buttons = s.buttons ∧ (setLine m c s).config = s.config ∧
    (setLine m c s).catalog = s.catalog ∧ (setLine m c s).lines = s.lines ∧ (setLine m c s).accepted = s.accepted ∧
    (setLine m c s).garments = s.garments ∧ (setLine m c s).carousel = s.carousel ∧
    (setLine m c s).pretreat = s.pretreat ∧ (setLine m c s).press = s.press ∧ (setLine m c s).engine = s.engine ∧
    (setLine m c s).staging = s.staging ∧ (setLine m c s).port = s.port ∧ (setLine m c s).prints = s.prints ∧
    (setLine m c s).lanes = s.lanes ∧ (setLine m c s).flash = s.flash ∧ (setLine m c s).dryer = s.dryer ∧
    (setLine m c s).pack = s.pack ∧ (setLine m c s).link = s.link ∧ (setLine m c s).exch = s.exch := by
  unfold setLine
  try dsimp only
  (repeat' split) <;> simp

@[simp] theorem enterWarming_frame (s : State) :
    (enterWarming s).pending = s.pending ∧ (enterWarming s).clock = s.clock ∧ (enterWarming s).pins = s.pins ∧
    (enterWarming s).captures = s.captures ∧ (enterWarming s).buttons = s.buttons ∧
    (enterWarming s).config = s.config ∧ (enterWarming s).catalog = s.catalog ∧ (enterWarming s).lines = s.lines ∧
    (enterWarming s).accepted = s.accepted ∧ (enterWarming s).garments = s.garments ∧
    (enterWarming s).carousel = s.carousel ∧ (enterWarming s).pretreat = s.pretreat ∧
    (enterWarming s).press = s.press ∧ (enterWarming s).engine = s.engine ∧ (enterWarming s).staging = s.staging ∧
    (enterWarming s).port = s.port ∧ (enterWarming s).prints = s.prints ∧ (enterWarming s).lanes = s.lanes ∧
    (enterWarming s).pack = s.pack ∧ (enterWarming s).exch = s.exch ∧ (enterWarming s).reports = s.reports := by
  unfold enterWarming
  try dsimp only
  (repeat' split) <;> simp

@[simp] theorem stopWarmup_frame (s : State) :
    (stopWarmup s).pending = s.pending ∧ (stopWarmup s).clock = s.clock ∧ (stopWarmup s).pins = s.pins ∧
    (stopWarmup s).captures = s.captures ∧ (stopWarmup s).buttons = s.buttons ∧ (stopWarmup s).config = s.config ∧
    (stopWarmup s).catalog = s.catalog ∧ (stopWarmup s).lines = s.lines ∧ (stopWarmup s).accepted = s.accepted ∧
    (stopWarmup s).garments = s.garments ∧ (stopWarmup s).carousel = s.carousel ∧
    (stopWarmup s).pretreat = s.pretreat ∧ (stopWarmup s).press = s.press ∧ (stopWarmup s).engine = s.engine ∧
    (stopWarmup s).staging = s.staging ∧ (stopWarmup s).port = s.port ∧ (stopWarmup s).prints = s.prints ∧
    (stopWarmup s).lanes = s.lanes ∧ (stopWarmup s).flash = s.flash ∧ (stopWarmup s).dryer = s.dryer ∧
    (stopWarmup s).pack = s.pack ∧ (stopWarmup s).link = s.link ∧ (stopWarmup s).exch = s.exch ∧
    (stopWarmup s).reports = s.reports := by
  unfold stopWarmup
  try dsimp only
  (repeat' split) <;> simp

@[simp] theorem askHome_frame (s : State) :
    (askHome s).pending = s.pending ∧ (askHome s).clock = s.clock ∧ (askHome s).pins = s.pins ∧
    (askHome s).captures = s.captures ∧ (askHome s).buttons = s.buttons ∧ (askHome s).ctl = s.ctl ∧
    (askHome s).config = s.config ∧ (askHome s).catalog = s.catalog ∧ (askHome s).lines = s.lines ∧
    (askHome s).accepted = s.accepted ∧ (askHome s).garments = s.garments ∧ (askHome s).pretreat = s.pretreat ∧
    (askHome s).press = s.press ∧ (askHome s).engine = s.engine ∧ (askHome s).staging = s.staging ∧
    (askHome s).port = s.port ∧ (askHome s).prints = s.prints ∧ (askHome s).lanes = s.lanes ∧
    (askHome s).flash = s.flash ∧ (askHome s).dryer = s.dryer ∧ (askHome s).pack = s.pack ∧
    (askHome s).link = s.link ∧ (askHome s).exch = s.exch ∧ (askHome s).reports = s.reports := by
  unfold askHome
  try dsimp only
  (repeat' split) <;> simp

@[simp] theorem dropHome_frame (s : State) :
    (dropHome s).pending = s.pending ∧ (dropHome s).clock = s.clock ∧ (dropHome s).pins = s.pins ∧
    (dropHome s).captures = s.captures ∧ (dropHome s).buttons = s.buttons ∧ (dropHome s).ctl = s.ctl ∧
    (dropHome s).config = s.config ∧ (dropHome s).catalog = s.catalog ∧ (dropHome s).lines = s.lines ∧
    (dropHome s).accepted = s.accepted ∧ (dropHome s).garments = s.garments ∧ (dropHome s).pretreat = s.pretreat ∧
    (dropHome s).press = s.press ∧ (dropHome s).engine = s.engine ∧ (dropHome s).staging = s.staging ∧
    (dropHome s).port = s.port ∧ (dropHome s).prints = s.prints ∧ (dropHome s).lanes = s.lanes ∧
    (dropHome s).flash = s.flash ∧ (dropHome s).dryer = s.dryer ∧ (dropHome s).pack = s.pack ∧
    (dropHome s).link = s.link ∧ (dropHome s).exch = s.exch ∧ (dropHome s).reports = s.reports := by
  unfold dropHome
  try dsimp only
  (repeat' split) <;> simp

@[simp] theorem enterRun_frame (s : State) :
    (enterRun s).pending = s.pending ∧ (enterRun s).clock = s.clock ∧ (enterRun s).pins = s.pins ∧
    (enterRun s).captures = s.captures ∧ (enterRun s).buttons = s.buttons ∧ (enterRun s).config = s.config ∧
    (enterRun s).catalog = s.catalog ∧ (enterRun s).lines = s.lines ∧ (enterRun s).accepted = s.accepted ∧
    (enterRun s).garments = s.garments ∧ (enterRun s).pretreat = s.pretreat ∧ (enterRun s).press = s.press ∧
    (enterRun s).engine = s.engine ∧ (enterRun s).staging = s.staging ∧ (enterRun s).port = s.port ∧
    (enterRun s).prints = s.prints ∧ (enterRun s).lanes = s.lanes ∧ (enterRun s).pack = s.pack ∧
    (enterRun s).exch = s.exch ∧ (enterRun s).reports = s.reports := by
  unfold enterRun
  try dsimp only
  (repeat' split) <;> simp

@[simp] theorem enterHold_frame (s : State) :
    (enterHold s).pending = s.pending ∧ (enterHold s).clock = s.clock ∧ (enterHold s).pins = s.pins ∧
    (enterHold s).captures = s.captures ∧ (enterHold s).buttons = s.buttons ∧ (enterHold s).config = s.config ∧
    (enterHold s).catalog = s.catalog ∧ (enterHold s).lines = s.lines ∧ (enterHold s).accepted = s.accepted ∧
    (enterHold s).garments = s.garments ∧ (enterHold s).carousel = s.carousel ∧ (enterHold s).pretreat = s.pretreat ∧
    (enterHold s).press = s.press ∧ (enterHold s).engine = s.engine ∧ (enterHold s).staging = s.staging ∧
    (enterHold s).port = s.port ∧ (enterHold s).prints = s.prints ∧ (enterHold s).lanes = s.lanes ∧
    (enterHold s).pack = s.pack ∧ (enterHold s).exch = s.exch ∧ (enterHold s).reports = s.reports := by
  unfold enterHold
  try dsimp only
  (repeat' split) <;> simp

@[simp] theorem enterIdle_frame (s : State) :
    (enterIdle s).pending = s.pending ∧ (enterIdle s).clock = s.clock ∧ (enterIdle s).pins = s.pins ∧
    (enterIdle s).captures = s.captures ∧ (enterIdle s).buttons = s.buttons ∧ (enterIdle s).config = s.config ∧
    (enterIdle s).catalog = s.catalog ∧ (enterIdle s).lines = s.lines ∧ (enterIdle s).accepted = s.accepted ∧
    (enterIdle s).garments = s.garments ∧ (enterIdle s).pretreat = s.pretreat ∧ (enterIdle s).press = s.press ∧
    (enterIdle s).engine = s.engine ∧ (enterIdle s).staging = s.staging ∧ (enterIdle s).port = s.port ∧
    (enterIdle s).prints = s.prints ∧ (enterIdle s).lanes = s.lanes ∧ (enterIdle s).flash = s.flash ∧
    (enterIdle s).pack = s.pack ∧ (enterIdle s).exch = s.exch := by
  unfold enterIdle
  try dsimp only
  (repeat' split) <;> simp

@[simp] theorem enterStopped_frame (s : State) :
    (enterStopped s).pending = s.pending ∧ (enterStopped s).clock = s.clock ∧ (enterStopped s).pins = s.pins ∧
    (enterStopped s).captures = s.captures ∧ (enterStopped s).buttons = s.buttons ∧
    (enterStopped s).config = s.config ∧ (enterStopped s).catalog = s.catalog ∧ (enterStopped s).lines = s.lines ∧
    (enterStopped s).accepted = s.accepted ∧ (enterStopped s).garments = s.garments ∧
    (enterStopped s).pretreat = s.pretreat ∧ (enterStopped s).press = s.press ∧ (enterStopped s).engine = s.engine ∧
    (enterStopped s).staging = s.staging ∧ (enterStopped s).port = s.port ∧ (enterStopped s).prints = s.prints ∧
    (enterStopped s).lanes = s.lanes ∧ (enterStopped s).flash = s.flash ∧ (enterStopped s).dryer = s.dryer ∧
    (enterStopped s).pack = s.pack ∧ (enterStopped s).link = s.link ∧ (enterStopped s).exch = s.exch ∧
    (enterStopped s).reports = s.reports := by
  unfold enterStopped
  try dsimp only
  (repeat' split) <;> simp

@[simp] theorem enterMode_frame (m : Mode) (s : State) :
    (enterMode m s).pending = s.pending ∧ (enterMode m s).clock = s.clock ∧ (enterMode m s).pins = s.pins ∧
    (enterMode m s).captures = s.captures ∧ (enterMode m s).buttons = s.buttons ∧ (enterMode m s).config = s.config ∧
    (enterMode m s).catalog = s.catalog ∧ (enterMode m s).lines = s.lines ∧ (enterMode m s).accepted = s.accepted ∧
    (enterMode m s).garments = s.garments ∧ (enterMode m s).pretreat = s.pretreat ∧ (enterMode m s).press = s.press ∧
    (enterMode m s).engine = s.engine ∧ (enterMode m s).staging = s.staging ∧ (enterMode m s).port = s.port ∧
    (enterMode m s).prints = s.prints ∧ (enterMode m s).lanes = s.lanes ∧ (enterMode m s).pack = s.pack ∧
    (enterMode m s).exch = s.exch := by
  unfold enterMode
  try dsimp only
  (repeat' split) <;> simp

@[simp] theorem changeLine_frame (m : Mode) (c : Causes) (s : State) :
    (changeLine m c s).pending = s.pending ∧ (changeLine m c s).clock = s.clock ∧ (changeLine m c s).pins = s.pins ∧
    (changeLine m c s).captures = s.captures ∧ (changeLine m c s).buttons = s.buttons ∧
    (changeLine m c s).config = s.config ∧ (changeLine m c s).catalog = s.catalog ∧
    (changeLine m c s).lines = s.lines ∧ (changeLine m c s).accepted = s.accepted ∧
    (changeLine m c s).garments = s.garments ∧ (changeLine m c s).pretreat = s.pretreat ∧
    (changeLine m c s).press = s.press ∧ (changeLine m c s).engine = s.engine ∧
    (changeLine m c s).staging = s.staging ∧ (changeLine m c s).port = s.port ∧ (changeLine m c s).prints = s.prints ∧
    (changeLine m c s).lanes = s.lanes ∧ (changeLine m c s).pack = s.pack ∧ (changeLine m c s).exch = s.exch := by
  unfold changeLine
  try dsimp only
  (repeat' split) <;> simp

@[simp] theorem holdWith_frame (c : Causes) (s : State) :
    (holdWith c s).pending = s.pending ∧ (holdWith c s).clock = s.clock ∧ (holdWith c s).pins = s.pins ∧
    (holdWith c s).captures = s.captures ∧ (holdWith c s).buttons = s.buttons ∧ (holdWith c s).config = s.config ∧
    (holdWith c s).catalog = s.catalog ∧ (holdWith c s).lines = s.lines ∧ (holdWith c s).accepted = s.accepted ∧
    (holdWith c s).garments = s.garments ∧ (holdWith c s).pretreat = s.pretreat ∧ (holdWith c s).press = s.press ∧
    (holdWith c s).engine = s.engine ∧ (holdWith c s).staging = s.staging ∧ (holdWith c s).port = s.port ∧
    (holdWith c s).prints = s.prints ∧ (holdWith c s).lanes = s.lanes ∧ (holdWith c s).pack = s.pack ∧
    (holdWith c s).exch = s.exch := by
  unfold holdWith
  try dsimp only
  (repeat' split) <;> simp

@[simp] theorem followModules_frame (s : State) :
    (followModules s).pending = s.pending ∧ (followModules s).clock = s.clock ∧ (followModules s).pins = s.pins ∧
    (followModules s).captures = s.captures ∧ (followModules s).buttons = s.buttons ∧
    (followModules s).config = s.config ∧ (followModules s).catalog = s.catalog ∧ (followModules s).lines = s.lines ∧
    (followModules s).accepted = s.accepted ∧ (followModules s).garments = s.garments ∧
    (followModules s).pretreat = s.pretreat ∧ (followModules s).press = s.press ∧
    (followModules s).engine = s.engine ∧ (followModules s).staging = s.staging ∧ (followModules s).port = s.port ∧
    (followModules s).prints = s.prints ∧ (followModules s).lanes = s.lanes ∧ (followModules s).pack = s.pack ∧
    (followModules s).exch = s.exch := by
  unfold followModules
  try dsimp only
  (repeat' split) <;> simp

@[simp] theorem moveLine_frame (m : Mode) (c : Causes) (s : State) :
    (moveLine m c s).pending = s.pending ∧ (moveLine m c s).clock = s.clock ∧ (moveLine m c s).pins = s.pins ∧
    (moveLine m c s).captures = s.captures ∧ (moveLine m c s).buttons = s.buttons ∧
    (moveLine m c s).config = s.config ∧ (moveLine m c s).catalog = s.catalog ∧ (moveLine m c s).lines = s.lines ∧
    (moveLine m c s).accepted = s.accepted ∧ (moveLine m c s).garments = s.garments ∧
    (moveLine m c s).pretreat = s.pretreat ∧ (moveLine m c s).press = s.press ∧ (moveLine m c s).engine = s.engine ∧
    (moveLine m c s).staging = s.staging ∧ (moveLine m c s).port = s.port ∧ (moveLine m c s).prints = s.prints ∧
    (moveLine m c s).lanes = s.lanes ∧ (moveLine m c s).pack = s.pack ∧ (moveLine m c s).exch = s.exch := by
  unfold moveLine
  try dsimp only
  (repeat' split) <;> simp

@[simp] theorem addConfig_frame (s : State) :
    (addConfig s).pending = s.pending ∧ (addConfig s).clock = s.clock ∧ (addConfig s).pins = s.pins ∧
    (addConfig s).captures = s.captures ∧ (addConfig s).buttons = s.buttons ∧ (addConfig s).config = s.config ∧
    (addConfig s).catalog = s.catalog ∧ (addConfig s).lines = s.lines ∧ (addConfig s).accepted = s.accepted ∧
    (addConfig s).garments = s.garments ∧ (addConfig s).pretreat = s.pretreat ∧ (addConfig s).press = s.press ∧
    (addConfig s).engine = s.engine ∧ (addConfig s).staging = s.staging ∧ (addConfig s).port = s.port ∧
    (addConfig s).prints = s.prints ∧ (addConfig s).lanes = s.lanes ∧ (addConfig s).pack = s.pack ∧
    (addConfig s).exch = s.exch := by
  unfold addConfig
  try dsimp only
  (repeat' split) <;> simp

@[simp] theorem refuseRun_frame (detail value : Nat) (config : Bool) (s : State) :
    (refuseRun detail value config s).pending = s.pending ∧ (refuseRun detail value config s).clock = s.clock ∧
    (refuseRun detail value config s).pins = s.pins ∧ (refuseRun detail value config s).captures = s.captures ∧
    (refuseRun detail value config s).buttons = s.buttons ∧ (refuseRun detail value config s).config = s.config ∧
    (refuseRun detail value config s).catalog = s.catalog ∧ (refuseRun detail value config s).lines = s.lines ∧
    (refuseRun detail value config s).accepted = s.accepted ∧
    (refuseRun detail value config s).garments = s.garments ∧
    (refuseRun detail value config s).pretreat = s.pretreat ∧ (refuseRun detail value config s).press = s.press ∧
    (refuseRun detail value config s).engine = s.engine ∧ (refuseRun detail value config s).staging = s.staging ∧
    (refuseRun detail value config s).port = s.port ∧ (refuseRun detail value config s).prints = s.prints ∧
    (refuseRun detail value config s).lanes = s.lanes ∧ (refuseRun detail value config s).pack = s.pack ∧
    (refuseRun detail value config s).exch = s.exch := by
  unfold refuseRun
  try dsimp only
  (repeat' split) <;> simp

@[simp] theorem acceptRun_frame (s : State) :
    (acceptRun s).pending = s.pending ∧ (acceptRun s).clock = s.clock ∧ (acceptRun s).pins = s.pins ∧
    (acceptRun s).captures = s.captures ∧ (acceptRun s).buttons = s.buttons ∧ (acceptRun s).config = s.config ∧
    (acceptRun s).catalog = s.catalog ∧ (acceptRun s).lines = s.lines ∧ (acceptRun s).accepted = s.accepted ∧
    (acceptRun s).garments = s.garments ∧ (acceptRun s).pretreat = s.pretreat ∧ (acceptRun s).press = s.press ∧
    (acceptRun s).engine = s.engine ∧ (acceptRun s).staging = s.staging ∧ (acceptRun s).port = s.port ∧
    (acceptRun s).prints = s.prints ∧ (acceptRun s).lanes = s.lanes ∧ (acceptRun s).pack = s.pack ∧
    (acceptRun s).exch = s.exch := by
  unfold acceptRun
  try dsimp only
  (repeat' split) <;> simp

@[simp] theorem settleHomed_frame (s : State) :
    (settleHomed s).pending = s.pending ∧ (settleHomed s).clock = s.clock ∧ (settleHomed s).pins = s.pins ∧
    (settleHomed s).captures = s.captures ∧ (settleHomed s).buttons = s.buttons ∧ (settleHomed s).config = s.config ∧
    (settleHomed s).catalog = s.catalog ∧ (settleHomed s).lines = s.lines ∧ (settleHomed s).accepted = s.accepted ∧
    (settleHomed s).garments = s.garments ∧ (settleHomed s).pretreat = s.pretreat ∧ (settleHomed s).press = s.press ∧
    (settleHomed s).engine = s.engine ∧ (settleHomed s).staging = s.staging ∧ (settleHomed s).port = s.port ∧
    (settleHomed s).prints = s.prints ∧ (settleHomed s).lanes = s.lanes ∧ (settleHomed s).pack = s.pack ∧
    (settleHomed s).exch = s.exch := by
  unfold settleHomed
  try dsimp only
  (repeat' split) <;> simp

@[simp] theorem settleFaulted_frame (s : State) :
    (settleFaulted s).pending = s.pending ∧ (settleFaulted s).clock = s.clock ∧ (settleFaulted s).pins = s.pins ∧
    (settleFaulted s).captures = s.captures ∧ (settleFaulted s).buttons = s.buttons ∧
    (settleFaulted s).config = s.config ∧ (settleFaulted s).catalog = s.catalog ∧ (settleFaulted s).lines = s.lines ∧
    (settleFaulted s).accepted = s.accepted ∧ (settleFaulted s).garments = s.garments ∧
    (settleFaulted s).pretreat = s.pretreat ∧ (settleFaulted s).press = s.press ∧
    (settleFaulted s).engine = s.engine ∧ (settleFaulted s).staging = s.staging ∧ (settleFaulted s).port = s.port ∧
    (settleFaulted s).prints = s.prints ∧ (settleFaulted s).lanes = s.lanes ∧ (settleFaulted s).pack = s.pack ∧
    (settleFaulted s).exch = s.exch := by
  unfold settleFaulted
  try dsimp only
  (repeat' split) <;> simp

@[simp] theorem zonesReady_frame (s : State) :
    (zonesReady s).pending = s.pending ∧ (zonesReady s).clock = s.clock ∧ (zonesReady s).pins = s.pins ∧
    (zonesReady s).captures = s.captures ∧ (zonesReady s).buttons = s.buttons ∧ (zonesReady s).config = s.config ∧
    (zonesReady s).catalog = s.catalog ∧ (zonesReady s).lines = s.lines ∧ (zonesReady s).accepted = s.accepted ∧
    (zonesReady s).garments = s.garments ∧ (zonesReady s).pretreat = s.pretreat ∧ (zonesReady s).press = s.press ∧
    (zonesReady s).engine = s.engine ∧ (zonesReady s).staging = s.staging ∧ (zonesReady s).port = s.port ∧
    (zonesReady s).prints = s.prints ∧ (zonesReady s).lanes = s.lanes ∧ (zonesReady s).pack = s.pack ∧
    (zonesReady s).exch = s.exch := by
  unfold zonesReady
  try dsimp only
  (repeat' split) <;> simp

@[simp] theorem putOrder_frame (o : Order) (s : State) :
    (putOrder o s).pending = s.pending ∧ (putOrder o s).clock = s.clock ∧ (putOrder o s).pins = s.pins ∧
    (putOrder o s).captures = s.captures ∧ (putOrder o s).buttons = s.buttons ∧ (putOrder o s).ctl = s.ctl ∧
    (putOrder o s).config = s.config ∧ (putOrder o s).catalog = s.catalog ∧ (putOrder o s).lines = s.lines ∧
    (putOrder o s).accepted = s.accepted ∧ (putOrder o s).garments = s.garments ∧
    (putOrder o s).carousel = s.carousel ∧ (putOrder o s).pretreat = s.pretreat ∧ (putOrder o s).press = s.press ∧
    (putOrder o s).engine = s.engine ∧ (putOrder o s).staging = s.staging ∧ (putOrder o s).port = s.port ∧
    (putOrder o s).prints = s.prints ∧ (putOrder o s).lanes = s.lanes ∧ (putOrder o s).flash = s.flash ∧
    (putOrder o s).dryer = s.dryer ∧ (putOrder o s).link = s.link ∧ (putOrder o s).exch = s.exch ∧
    (putOrder o s).reports = s.reports := by
  unfold putOrder
  try dsimp only
  (repeat' split) <;> simp

@[simp] theorem deleteOrder_frame (key : Word) (s : State) :
    (deleteOrder key s).pending = s.pending ∧ (deleteOrder key s).clock = s.clock ∧
    (deleteOrder key s).pins = s.pins ∧ (deleteOrder key s).captures = s.captures ∧
    (deleteOrder key s).buttons = s.buttons ∧ (deleteOrder key s).ctl = s.ctl ∧
    (deleteOrder key s).config = s.config ∧ (deleteOrder key s).catalog = s.catalog ∧
    (deleteOrder key s).lines = s.lines ∧ (deleteOrder key s).accepted = s.accepted ∧
    (deleteOrder key s).garments = s.garments ∧ (deleteOrder key s).carousel = s.carousel ∧
    (deleteOrder key s).pretreat = s.pretreat ∧ (deleteOrder key s).press = s.press ∧
    (deleteOrder key s).engine = s.engine ∧ (deleteOrder key s).staging = s.staging ∧
    (deleteOrder key s).port = s.port ∧ (deleteOrder key s).prints = s.prints ∧ (deleteOrder key s).lanes = s.lanes ∧
    (deleteOrder key s).flash = s.flash ∧ (deleteOrder key s).dryer = s.dryer ∧ (deleteOrder key s).link = s.link ∧
    (deleteOrder key s).exch = s.exch ∧ (deleteOrder key s).reports = s.reports := by
  unfold deleteOrder
  try dsimp only
  (repeat' split) <;> simp

@[simp] theorem writeItemBin_frame (bin : OrderBin) (s : State) (i : OrderItem) :
    (writeItemBin bin s i).pending = s.pending ∧ (writeItemBin bin s i).clock = s.clock ∧
    (writeItemBin bin s i).pins = s.pins ∧ (writeItemBin bin s i).captures = s.captures ∧
    (writeItemBin bin s i).buttons = s.buttons ∧ (writeItemBin bin s i).ctl = s.ctl ∧
    (writeItemBin bin s i).config = s.config ∧ (writeItemBin bin s i).catalog = s.catalog ∧
    (writeItemBin bin s i).accepted = s.accepted ∧ (writeItemBin bin s i).garments = s.garments ∧
    (writeItemBin bin s i).carousel = s.carousel ∧ (writeItemBin bin s i).pretreat = s.pretreat ∧
    (writeItemBin bin s i).press = s.press ∧ (writeItemBin bin s i).engine = s.engine ∧
    (writeItemBin bin s i).staging = s.staging ∧ (writeItemBin bin s i).port = s.port ∧
    (writeItemBin bin s i).prints = s.prints ∧ (writeItemBin bin s i).lanes = s.lanes ∧
    (writeItemBin bin s i).flash = s.flash ∧ (writeItemBin bin s i).dryer = s.dryer ∧
    (writeItemBin bin s i).pack = s.pack ∧ (writeItemBin bin s i).link = s.link ∧ (writeItemBin bin s i).exch = s.exch := by
  unfold writeItemBin
  try dsimp only
  (repeat' split) <;> simp

@[simp] theorem writeBins_frame (o : Order) (s : State) :
    (writeBins o s).pending = s.pending ∧ (writeBins o s).clock = s.clock ∧ (writeBins o s).pins = s.pins ∧
    (writeBins o s).captures = s.captures ∧ (writeBins o s).buttons = s.buttons ∧ (writeBins o s).ctl = s.ctl ∧
    (writeBins o s).config = s.config ∧ (writeBins o s).catalog = s.catalog ∧ (writeBins o s).accepted = s.accepted ∧
    (writeBins o s).garments = s.garments ∧ (writeBins o s).carousel = s.carousel ∧
    (writeBins o s).pretreat = s.pretreat ∧ (writeBins o s).press = s.press ∧ (writeBins o s).engine = s.engine ∧
    (writeBins o s).staging = s.staging ∧ (writeBins o s).port = s.port ∧ (writeBins o s).prints = s.prints ∧
    (writeBins o s).lanes = s.lanes ∧ (writeBins o s).flash = s.flash ∧ (writeBins o s).dryer = s.dryer ∧
    (writeBins o s).pack = s.pack ∧ (writeBins o s).link = s.link ∧ (writeBins o s).exch = s.exch := by
  unfold writeBins
  try dsimp only
  (repeat' split) <;> simp

@[simp] theorem acceptOrder_frame (key : Word) (expected : Nat) (item : OrderItem) (s : State) :
    (acceptOrder key expected item s).pending = s.pending ∧ (acceptOrder key expected item s).clock = s.clock ∧
    (acceptOrder key expected item s).pins = s.pins ∧ (acceptOrder key expected item s).captures = s.captures ∧
    (acceptOrder key expected item s).buttons = s.buttons ∧ (acceptOrder key expected item s).ctl = s.ctl ∧
    (acceptOrder key expected item s).config = s.config ∧ (acceptOrder key expected item s).catalog = s.catalog ∧
    (acceptOrder key expected item s).accepted = s.accepted ∧
    (acceptOrder key expected item s).garments = s.garments ∧
    (acceptOrder key expected item s).carousel = s.carousel ∧
    (acceptOrder key expected item s).pretreat = s.pretreat ∧ (acceptOrder key expected item s).press = s.press ∧
    (acceptOrder key expected item s).engine = s.engine ∧ (acceptOrder key expected item s).staging = s.staging ∧
    (acceptOrder key expected item s).port = s.port ∧ (acceptOrder key expected item s).prints = s.prints ∧
    (acceptOrder key expected item s).lanes = s.lanes ∧ (acceptOrder key expected item s).flash = s.flash ∧
    (acceptOrder key expected item s).dryer = s.dryer ∧ (acceptOrder key expected item s).link = s.link ∧
    (acceptOrder key expected item s).exch = s.exch := by
  unfold acceptOrder
  try dsimp only
  (repeat' split) <;> simp

@[simp] theorem judgeOrder_frame (o : Order) (s : State) :
    (judgeOrder o s).pending = s.pending ∧ (judgeOrder o s).clock = s.clock ∧ (judgeOrder o s).pins = s.pins ∧
    (judgeOrder o s).captures = s.captures ∧ (judgeOrder o s).buttons = s.buttons ∧ (judgeOrder o s).ctl = s.ctl ∧
    (judgeOrder o s).config = s.config ∧ (judgeOrder o s).catalog = s.catalog ∧ (judgeOrder o s).lines = s.lines ∧
    (judgeOrder o s).accepted = s.accepted ∧ (judgeOrder o s).garments = s.garments ∧
    (judgeOrder o s).carousel = s.carousel ∧ (judgeOrder o s).pretreat = s.pretreat ∧
    (judgeOrder o s).press = s.press ∧ (judgeOrder o s).engine = s.engine ∧ (judgeOrder o s).staging = s.staging ∧
    (judgeOrder o s).port = s.port ∧ (judgeOrder o s).prints = s.prints ∧ (judgeOrder o s).lanes = s.lanes ∧
    (judgeOrder o s).flash = s.flash ∧ (judgeOrder o s).dryer = s.dryer ∧ (judgeOrder o s).link = s.link ∧
    (judgeOrder o s).exch = s.exch := by
  unfold judgeOrder
  try dsimp only
  (repeat' split) <;> simp

@[simp] theorem finalOrder_frame (slot : Fin 128) (take : Byte) (key : Word) (s : State) :
    (finalOrder slot take key s).pending = s.pending ∧ (finalOrder slot take key s).clock = s.clock ∧
    (finalOrder slot take key s).pins = s.pins ∧ (finalOrder slot take key s).captures = s.captures ∧
    (finalOrder slot take key s).buttons = s.buttons ∧ (finalOrder slot take key s).ctl = s.ctl ∧
    (finalOrder slot take key s).config = s.config ∧ (finalOrder slot take key s).catalog = s.catalog ∧
    (finalOrder slot take key s).lines = s.lines ∧ (finalOrder slot take key s).accepted = s.accepted ∧
    (finalOrder slot take key s).garments = s.garments ∧ (finalOrder slot take key s).carousel = s.carousel ∧
    (finalOrder slot take key s).pretreat = s.pretreat ∧ (finalOrder slot take key s).press = s.press ∧
    (finalOrder slot take key s).engine = s.engine ∧ (finalOrder slot take key s).staging = s.staging ∧
    (finalOrder slot take key s).port = s.port ∧ (finalOrder slot take key s).prints = s.prints ∧
    (finalOrder slot take key s).lanes = s.lanes ∧ (finalOrder slot take key s).flash = s.flash ∧
    (finalOrder slot take key s).dryer = s.dryer ∧ (finalOrder slot take key s).link = s.link ∧
    (finalOrder slot take key s).exch = s.exch := by
  unfold finalOrder
  try dsimp only
  (repeat' split) <;> simp

@[simp] theorem finishLine_frame (i : Fin 128) (st : LineState) (r : Reason) (s : State) :
    (finishLine i st r s).pending = s.pending ∧ (finishLine i st r s).clock = s.clock ∧
    (finishLine i st r s).pins = s.pins ∧ (finishLine i st r s).captures = s.captures ∧
    (finishLine i st r s).buttons = s.buttons ∧ (finishLine i st r s).ctl = s.ctl ∧
    (finishLine i st r s).config = s.config ∧ (finishLine i st r s).catalog = s.catalog ∧
    (finishLine i st r s).garments = s.garments ∧ (finishLine i st r s).carousel = s.carousel ∧
    (finishLine i st r s).pretreat = s.pretreat ∧ (finishLine i st r s).press = s.press ∧
    (finishLine i st r s).engine = s.engine ∧ (finishLine i st r s).staging = s.staging ∧
    (finishLine i st r s).port = s.port ∧ (finishLine i st r s).prints = s.prints ∧
    (finishLine i st r s).lanes = s.lanes ∧ (finishLine i st r s).flash = s.flash ∧
    (finishLine i st r s).dryer = s.dryer ∧ (finishLine i st r s).link = s.link ∧ (finishLine i st r s).exch = s.exch := by
  unfold finishLine
  try dsimp only
  (repeat' split) <;> simp

@[simp] theorem settleCounts_frame (i : Fin 128) (s : State) :
    (settleCounts i s).pending = s.pending ∧ (settleCounts i s).clock = s.clock ∧ (settleCounts i s).pins = s.pins ∧
    (settleCounts i s).captures = s.captures ∧ (settleCounts i s).buttons = s.buttons ∧
    (settleCounts i s).ctl = s.ctl ∧ (settleCounts i s).config = s.config ∧ (settleCounts i s).catalog = s.catalog ∧
    (settleCounts i s).garments = s.garments ∧ (settleCounts i s).carousel = s.carousel ∧
    (settleCounts i s).pretreat = s.pretreat ∧ (settleCounts i s).press = s.press ∧
    (settleCounts i s).engine = s.engine ∧ (settleCounts i s).staging = s.staging ∧ (settleCounts i s).port = s.port ∧
    (settleCounts i s).prints = s.prints ∧ (settleCounts i s).lanes = s.lanes ∧ (settleCounts i s).flash = s.flash ∧
    (settleCounts i s).dryer = s.dryer ∧ (settleCounts i s).link = s.link ∧ (settleCounts i s).exch = s.exch := by
  unfold settleCounts
  try dsimp only
  (repeat' split) <;> simp

@[simp] theorem lowerBound_frame (i : Fin 128) (s : State) :
    (lowerBound i s).pending = s.pending ∧ (lowerBound i s).clock = s.clock ∧ (lowerBound i s).pins = s.pins ∧
    (lowerBound i s).captures = s.captures ∧ (lowerBound i s).buttons = s.buttons ∧ (lowerBound i s).ctl = s.ctl ∧
    (lowerBound i s).config = s.config ∧ (lowerBound i s).catalog = s.catalog ∧
    (lowerBound i s).garments = s.garments ∧ (lowerBound i s).carousel = s.carousel ∧
    (lowerBound i s).pretreat = s.pretreat ∧ (lowerBound i s).press = s.press ∧ (lowerBound i s).engine = s.engine ∧
    (lowerBound i s).staging = s.staging ∧ (lowerBound i s).port = s.port ∧ (lowerBound i s).prints = s.prints ∧
    (lowerBound i s).lanes = s.lanes ∧ (lowerBound i s).flash = s.flash ∧ (lowerBound i s).dryer = s.dryer ∧
    (lowerBound i s).link = s.link ∧ (lowerBound i s).exch = s.exch := by
  unfold lowerBound
  try dsimp only
  (repeat' split) <;> simp

@[simp] theorem countFinished_frame (i : Fin 128) (s : State) :
    (countFinished i s).pending = s.pending ∧ (countFinished i s).clock = s.clock ∧
    (countFinished i s).pins = s.pins ∧ (countFinished i s).captures = s.captures ∧
    (countFinished i s).buttons = s.buttons ∧ (countFinished i s).ctl = s.ctl ∧
    (countFinished i s).config = s.config ∧ (countFinished i s).catalog = s.catalog ∧
    (countFinished i s).garments = s.garments ∧ (countFinished i s).carousel = s.carousel ∧
    (countFinished i s).pretreat = s.pretreat ∧ (countFinished i s).press = s.press ∧
    (countFinished i s).engine = s.engine ∧ (countFinished i s).staging = s.staging ∧
    (countFinished i s).port = s.port ∧ (countFinished i s).prints = s.prints ∧ (countFinished i s).lanes = s.lanes ∧
    (countFinished i s).flash = s.flash ∧ (countFinished i s).dryer = s.dryer ∧ (countFinished i s).link = s.link ∧
    (countFinished i s).exch = s.exch := by
  unfold countFinished
  try dsimp only
  (repeat' split) <;> simp

@[simp] theorem countFailed_frame (i : Fin 128) (s : State) :
    (countFailed i s).pending = s.pending ∧ (countFailed i s).clock = s.clock ∧ (countFailed i s).pins = s.pins ∧
    (countFailed i s).captures = s.captures ∧ (countFailed i s).buttons = s.buttons ∧ (countFailed i s).ctl = s.ctl ∧
    (countFailed i s).config = s.config ∧ (countFailed i s).catalog = s.catalog ∧
    (countFailed i s).garments = s.garments ∧ (countFailed i s).carousel = s.carousel ∧
    (countFailed i s).pretreat = s.pretreat ∧ (countFailed i s).press = s.press ∧
    (countFailed i s).engine = s.engine ∧ (countFailed i s).staging = s.staging ∧ (countFailed i s).port = s.port ∧
    (countFailed i s).prints = s.prints ∧ (countFailed i s).lanes = s.lanes ∧ (countFailed i s).flash = s.flash ∧
    (countFailed i s).dryer = s.dryer ∧ (countFailed i s).link = s.link ∧ (countFailed i s).exch = s.exch := by
  unfold countFailed
  try dsimp only
  (repeat' split) <;> simp

@[simp] theorem setLastDose_frame (dose : Nat) (i : Fin 128) (s : State) :
    (setLastDose dose i s).pending = s.pending ∧ (setLastDose dose i s).clock = s.clock ∧
    (setLastDose dose i s).pins = s.pins ∧ (setLastDose dose i s).captures = s.captures ∧
    (setLastDose dose i s).buttons = s.buttons ∧ (setLastDose dose i s).ctl = s.ctl ∧
    (setLastDose dose i s).config = s.config ∧ (setLastDose dose i s).catalog = s.catalog ∧
    (setLastDose dose i s).accepted = s.accepted ∧ (setLastDose dose i s).garments = s.garments ∧
    (setLastDose dose i s).carousel = s.carousel ∧ (setLastDose dose i s).pretreat = s.pretreat ∧
    (setLastDose dose i s).press = s.press ∧ (setLastDose dose i s).engine = s.engine ∧
    (setLastDose dose i s).staging = s.staging ∧ (setLastDose dose i s).port = s.port ∧
    (setLastDose dose i s).prints = s.prints ∧ (setLastDose dose i s).lanes = s.lanes ∧
    (setLastDose dose i s).flash = s.flash ∧ (setLastDose dose i s).dryer = s.dryer ∧
    (setLastDose dose i s).pack = s.pack ∧ (setLastDose dose i s).link = s.link ∧ (setLastDose dose i s).exch = s.exch := by
  unfold setLastDose
  try dsimp only
  (repeat' split) <;> simp

@[simp] theorem addInk_frame (counters : Tbl 6 Nat) (i : Fin 128) (s : State) :
    (addInk counters i s).pending = s.pending ∧ (addInk counters i s).clock = s.clock ∧
    (addInk counters i s).pins = s.pins ∧ (addInk counters i s).captures = s.captures ∧
    (addInk counters i s).buttons = s.buttons ∧ (addInk counters i s).ctl = s.ctl ∧
    (addInk counters i s).config = s.config ∧ (addInk counters i s).catalog = s.catalog ∧
    (addInk counters i s).accepted = s.accepted ∧ (addInk counters i s).garments = s.garments ∧
    (addInk counters i s).carousel = s.carousel ∧ (addInk counters i s).pretreat = s.pretreat ∧
    (addInk counters i s).press = s.press ∧ (addInk counters i s).engine = s.engine ∧
    (addInk counters i s).staging = s.staging ∧ (addInk counters i s).port = s.port ∧
    (addInk counters i s).prints = s.prints ∧ (addInk counters i s).lanes = s.lanes ∧
    (addInk counters i s).flash = s.flash ∧ (addInk counters i s).dryer = s.dryer ∧
    (addInk counters i s).pack = s.pack ∧ (addInk counters i s).link = s.link ∧ (addInk counters i s).exch = s.exch := by
  unfold addInk
  try dsimp only
  (repeat' split) <;> simp

@[simp] theorem putPlaten_frame (p : Fin 12) (e : Platen) (s : State) :
    (putPlaten p e s).pending = s.pending ∧ (putPlaten p e s).clock = s.clock ∧ (putPlaten p e s).pins = s.pins ∧
    (putPlaten p e s).captures = s.captures ∧ (putPlaten p e s).buttons = s.buttons ∧ (putPlaten p e s).ctl = s.ctl ∧
    (putPlaten p e s).config = s.config ∧ (putPlaten p e s).catalog = s.catalog ∧ (putPlaten p e s).lines = s.lines ∧
    (putPlaten p e s).accepted = s.accepted ∧ (putPlaten p e s).garments = s.garments ∧
    (putPlaten p e s).pretreat = s.pretreat ∧ (putPlaten p e s).press = s.press ∧
    (putPlaten p e s).engine = s.engine ∧ (putPlaten p e s).staging = s.staging ∧ (putPlaten p e s).port = s.port ∧
    (putPlaten p e s).prints = s.prints ∧ (putPlaten p e s).lanes = s.lanes ∧ (putPlaten p e s).flash = s.flash ∧
    (putPlaten p e s).dryer = s.dryer ∧ (putPlaten p e s).pack = s.pack ∧ (putPlaten p e s).link = s.link ∧
    (putPlaten p e s).exch = s.exch ∧ (putPlaten p e s).reports = s.reports := by
  unfold putPlaten
  try dsimp only
  (repeat' split) <;> simp

@[simp] theorem loadPlaten_frame (p : Fin 12) (g : Fin 32) (s : State) :
    (loadPlaten p g s).pending = s.pending ∧ (loadPlaten p g s).clock = s.clock ∧ (loadPlaten p g s).pins = s.pins ∧
    (loadPlaten p g s).captures = s.captures ∧ (loadPlaten p g s).buttons = s.buttons ∧
    (loadPlaten p g s).ctl = s.ctl ∧ (loadPlaten p g s).config = s.config ∧ (loadPlaten p g s).catalog = s.catalog ∧
    (loadPlaten p g s).lines = s.lines ∧ (loadPlaten p g s).accepted = s.accepted ∧
    (loadPlaten p g s).garments = s.garments ∧ (loadPlaten p g s).pretreat = s.pretreat ∧
    (loadPlaten p g s).press = s.press ∧ (loadPlaten p g s).engine = s.engine ∧
    (loadPlaten p g s).staging = s.staging ∧ (loadPlaten p g s).port = s.port ∧ (loadPlaten p g s).prints = s.prints ∧
    (loadPlaten p g s).lanes = s.lanes ∧ (loadPlaten p g s).flash = s.flash ∧ (loadPlaten p g s).dryer = s.dryer ∧
    (loadPlaten p g s).pack = s.pack ∧ (loadPlaten p g s).link = s.link ∧ (loadPlaten p g s).exch = s.exch ∧
    (loadPlaten p g s).reports = s.reports := by
  unfold loadPlaten
  try dsimp only
  (repeat' split) <;> simp

@[simp] theorem emptyPlaten_frame (p : Fin 12) (s : State) :
    (emptyPlaten p s).pending = s.pending ∧ (emptyPlaten p s).clock = s.clock ∧ (emptyPlaten p s).pins = s.pins ∧
    (emptyPlaten p s).captures = s.captures ∧ (emptyPlaten p s).buttons = s.buttons ∧ (emptyPlaten p s).ctl = s.ctl ∧
    (emptyPlaten p s).config = s.config ∧ (emptyPlaten p s).catalog = s.catalog ∧ (emptyPlaten p s).lines = s.lines ∧
    (emptyPlaten p s).accepted = s.accepted ∧ (emptyPlaten p s).garments = s.garments ∧
    (emptyPlaten p s).pretreat = s.pretreat ∧ (emptyPlaten p s).press = s.press ∧
    (emptyPlaten p s).engine = s.engine ∧ (emptyPlaten p s).staging = s.staging ∧ (emptyPlaten p s).port = s.port ∧
    (emptyPlaten p s).prints = s.prints ∧ (emptyPlaten p s).lanes = s.lanes ∧ (emptyPlaten p s).flash = s.flash ∧
    (emptyPlaten p s).dryer = s.dryer ∧ (emptyPlaten p s).pack = s.pack ∧ (emptyPlaten p s).link = s.link ∧
    (emptyPlaten p s).exch = s.exch ∧ (emptyPlaten p s).reports = s.reports := by
  unfold emptyPlaten
  try dsimp only
  (repeat' split) <;> simp

@[simp] theorem takeEnables_frame (enables : Tbl 12 Bool) (s : State) :
    (takeEnables enables s).pending = s.pending ∧ (takeEnables enables s).clock = s.clock ∧
    (takeEnables enables s).pins = s.pins ∧ (takeEnables enables s).captures = s.captures ∧
    (takeEnables enables s).buttons = s.buttons ∧ (takeEnables enables s).ctl = s.ctl ∧
    (takeEnables enables s).config = s.config ∧ (takeEnables enables s).catalog = s.catalog ∧
    (takeEnables enables s).lines = s.lines ∧ (takeEnables enables s).accepted = s.accepted ∧
    (takeEnables enables s).garments = s.garments ∧ (takeEnables enables s).pretreat = s.pretreat ∧
    (takeEnables enables s).press = s.press ∧ (takeEnables enables s).engine = s.engine ∧
    (takeEnables enables s).staging = s.staging ∧ (takeEnables enables s).port = s.port ∧
    (takeEnables enables s).prints = s.prints ∧ (takeEnables enables s).lanes = s.lanes ∧
    (takeEnables enables s).flash = s.flash ∧ (takeEnables enables s).dryer = s.dryer ∧
    (takeEnables enables s).pack = s.pack ∧ (takeEnables enables s).link = s.link ∧
    (takeEnables enables s).exch = s.exch ∧ (takeEnables enables s).reports = s.reports := by
  unfold takeEnables
  try dsimp only
  (repeat' split) <;> simp

@[simp] theorem setReleased_frame (st : Station) (s : State) :
    (setReleased st s).pending = s.pending ∧ (setReleased st s).clock = s.clock ∧ (setReleased st s).pins = s.pins ∧
    (setReleased st s).captures = s.captures ∧ (setReleased st s).buttons = s.buttons ∧
    (setReleased st s).ctl = s.ctl ∧ (setReleased st s).config = s.config ∧ (setReleased st s).catalog = s.catalog ∧
    (setReleased st s).lines = s.lines ∧ (setReleased st s).accepted = s.accepted ∧
    (setReleased st s).garments = s.garments ∧ (setReleased st s).pretreat = s.pretreat ∧
    (setReleased st s).press = s.press ∧ (setReleased st s).engine = s.engine ∧
    (setReleased st s).staging = s.staging ∧ (setReleased st s).port = s.port ∧ (setReleased st s).prints = s.prints ∧
    (setReleased st s).lanes = s.lanes ∧ (setReleased st s).flash = s.flash ∧ (setReleased st s).dryer = s.dryer ∧
    (setReleased st s).pack = s.pack ∧ (setReleased st s).link = s.link ∧ (setReleased st s).exch = s.exch ∧
    (setReleased st s).reports = s.reports := by
  unfold setReleased
  try dsimp only
  (repeat' split) <;> simp

@[simp] theorem releaseStation_frame (st : Station) (p : Fin 12) (s : State) :
    (releaseStation st p s).pending = s.pending ∧ (releaseStation st p s).clock = s.clock ∧
    (releaseStation st p s).pins = s.pins ∧ (releaseStation st p s).captures = s.captures ∧
    (releaseStation st p s).buttons = s.buttons ∧ (releaseStation st p s).ctl = s.ctl ∧
    (releaseStation st p s).config = s.config ∧ (releaseStation st p s).catalog = s.catalog ∧
    (releaseStation st p s).lines = s.lines ∧ (releaseStation st p s).accepted = s.accepted ∧
    (releaseStation st p s).garments = s.garments ∧ (releaseStation st p s).pretreat = s.pretreat ∧
    (releaseStation st p s).press = s.press ∧ (releaseStation st p s).engine = s.engine ∧
    (releaseStation st p s).staging = s.staging ∧ (releaseStation st p s).port = s.port ∧
    (releaseStation st p s).prints = s.prints ∧ (releaseStation st p s).lanes = s.lanes ∧
    (releaseStation st p s).flash = s.flash ∧ (releaseStation st p s).dryer = s.dryer ∧
    (releaseStation st p s).pack = s.pack ∧ (releaseStation st p s).link = s.link ∧
    (releaseStation st p s).exch = s.exch ∧ (releaseStation st p s).reports = s.reports := by
  unfold releaseStation
  try dsimp only
  (repeat' split) <;> simp

@[simp] theorem decideUnload_frame (s : State) :
    (decideUnload s).pending = s.pending ∧ (decideUnload s).clock = s.clock ∧ (decideUnload s).pins = s.pins ∧
    (decideUnload s).captures = s.captures ∧ (decideUnload s).buttons = s.buttons ∧ (decideUnload s).ctl = s.ctl ∧
    (decideUnload s).config = s.config ∧ (decideUnload s).catalog = s.catalog ∧ (decideUnload s).lines = s.lines ∧
    (decideUnload s).accepted = s.accepted ∧ (decideUnload s).pretreat = s.pretreat ∧
    (decideUnload s).press = s.press ∧ (decideUnload s).engine = s.engine ∧ (decideUnload s).staging = s.staging ∧
    (decideUnload s).port = s.port ∧ (decideUnload s).prints = s.prints ∧ (decideUnload s).lanes = s.lanes ∧
    (decideUnload s).flash = s.flash ∧ (decideUnload s).dryer = s.dryer ∧ (decideUnload s).pack = s.pack ∧
    (decideUnload s).link = s.link ∧ (decideUnload s).exch = s.exch ∧ (decideUnload s).reports = s.reports := by
  unfold decideUnload
  try dsimp only
  (repeat' split) <;> simp

@[simp] theorem noticeUnload_frame (g : Fin 32) (s : State) :
    (noticeUnload g s).pending = s.pending ∧ (noticeUnload g s).clock = s.clock ∧ (noticeUnload g s).pins = s.pins ∧
    (noticeUnload g s).captures = s.captures ∧ (noticeUnload g s).buttons = s.buttons ∧
    (noticeUnload g s).ctl = s.ctl ∧ (noticeUnload g s).config = s.config ∧ (noticeUnload g s).catalog = s.catalog ∧
    (noticeUnload g s).lines = s.lines ∧ (noticeUnload g s).accepted = s.accepted ∧
    (noticeUnload g s).pretreat = s.pretreat ∧ (noticeUnload g s).press = s.press ∧
    (noticeUnload g s).engine = s.engine ∧ (noticeUnload g s).staging = s.staging ∧ (noticeUnload g s).port = s.port ∧
    (noticeUnload g s).prints = s.prints ∧ (noticeUnload g s).lanes = s.lanes ∧ (noticeUnload g s).flash = s.flash ∧
    (noticeUnload g s).dryer = s.dryer ∧ (noticeUnload g s).pack = s.pack ∧ (noticeUnload g s).link = s.link ∧
    (noticeUnload g s).exch = s.exch ∧ (noticeUnload g s).reports = s.reports := by
  unfold noticeUnload
  try dsimp only
  (repeat' split) <;> simp

@[simp] theorem clearGarment_frame (g : Fin 32) (s : State) :
    (clearGarment g s).pending = s.pending ∧ (clearGarment g s).clock = s.clock ∧ (clearGarment g s).pins = s.pins ∧
    (clearGarment g s).captures = s.captures ∧ (clearGarment g s).buttons = s.buttons ∧
    (clearGarment g s).ctl = s.ctl ∧ (clearGarment g s).config = s.config ∧ (clearGarment g s).catalog = s.catalog ∧
    (clearGarment g s).lines = s.lines ∧ (clearGarment g s).accepted = s.accepted ∧
    (clearGarment g s).carousel = s.carousel ∧ (clearGarment g s).pretreat = s.pretreat ∧
    (clearGarment g s).press = s.press ∧ (clearGarment g s).engine = s.engine ∧
    (clearGarment g s).staging = s.staging ∧ (clearGarment g s).port = s.port ∧ (clearGarment g s).prints = s.prints ∧
    (clearGarment g s).lanes = s.lanes ∧ (clearGarment g s).flash = s.flash ∧ (clearGarment g s).dryer = s.dryer ∧
    (clearGarment g s).pack = s.pack ∧ (clearGarment g s).link = s.link ∧ (clearGarment g s).exch = s.exch ∧
    (clearGarment g s).reports = s.reports := by
  unfold clearGarment
  try dsimp only
  (repeat' split) <;> simp

@[simp] theorem deleteGarment_frame (g : Fin 32) (s : State) :
    (deleteGarment g s).pending = s.pending ∧ (deleteGarment g s).clock = s.clock ∧
    (deleteGarment g s).pins = s.pins ∧ (deleteGarment g s).captures = s.captures ∧
    (deleteGarment g s).buttons = s.buttons ∧ (deleteGarment g s).ctl = s.ctl ∧
    (deleteGarment g s).config = s.config ∧ (deleteGarment g s).catalog = s.catalog ∧
    (deleteGarment g s).accepted = s.accepted ∧ (deleteGarment g s).pretreat = s.pretreat ∧
    (deleteGarment g s).press = s.press ∧ (deleteGarment g s).engine = s.engine ∧
    (deleteGarment g s).staging = s.staging ∧ (deleteGarment g s).port = s.port ∧
    (deleteGarment g s).prints = s.prints ∧ (deleteGarment g s).lanes = s.lanes ∧
    (deleteGarment g s).flash = s.flash ∧ (deleteGarment g s).dryer = s.dryer ∧ (deleteGarment g s).pack = s.pack ∧
    (deleteGarment g s).link = s.link ∧ (deleteGarment g s).exch = s.exch := by
  unfold deleteGarment ifCurrent
  try dsimp only
  (repeat' split) <;> simp

@[simp] theorem appendTransfer_frame (g : Fin 32) (s : State) :
    (appendTransfer g s).pending = s.pending ∧ (appendTransfer g s).clock = s.clock ∧
    (appendTransfer g s).pins = s.pins ∧ (appendTransfer g s).captures = s.captures ∧
    (appendTransfer g s).buttons = s.buttons ∧ (appendTransfer g s).ctl = s.ctl ∧
    (appendTransfer g s).config = s.config ∧ (appendTransfer g s).catalog = s.catalog ∧
    (appendTransfer g s).lines = s.lines ∧ (appendTransfer g s).accepted = s.accepted ∧
    (appendTransfer g s).carousel = s.carousel ∧ (appendTransfer g s).pretreat = s.pretreat ∧
    (appendTransfer g s).press = s.press ∧ (appendTransfer g s).engine = s.engine ∧
    (appendTransfer g s).staging = s.staging ∧ (appendTransfer g s).port = s.port ∧
    (appendTransfer g s).prints = s.prints ∧ (appendTransfer g s).lanes = s.lanes ∧
    (appendTransfer g s).flash = s.flash ∧ (appendTransfer g s).pack = s.pack ∧ (appendTransfer g s).link = s.link ∧
    (appendTransfer g s).exch = s.exch ∧ (appendTransfer g s).reports = s.reports := by
  unfold appendTransfer
  try dsimp only
  (repeat' split) <;> simp

@[simp] theorem putWalker_frame (c : Fin 6) (w : Walker) (s : State) :
    (putWalker c w s).pending = s.pending ∧ (putWalker c w s).clock = s.clock ∧ (putWalker c w s).pins = s.pins ∧
    (putWalker c w s).captures = s.captures ∧ (putWalker c w s).buttons = s.buttons ∧ (putWalker c w s).ctl = s.ctl ∧
    (putWalker c w s).config = s.config ∧ (putWalker c w s).catalog = s.catalog ∧ (putWalker c w s).lines = s.lines ∧
    (putWalker c w s).accepted = s.accepted ∧ (putWalker c w s).garments = s.garments ∧
    (putWalker c w s).carousel = s.carousel ∧ (putWalker c w s).pretreat = s.pretreat ∧
    (putWalker c w s).press = s.press ∧ (putWalker c w s).staging = s.staging ∧ (putWalker c w s).port = s.port ∧
    (putWalker c w s).prints = s.prints ∧ (putWalker c w s).lanes = s.lanes ∧ (putWalker c w s).flash = s.flash ∧
    (putWalker c w s).dryer = s.dryer ∧ (putWalker c w s).pack = s.pack ∧ (putWalker c w s).link = s.link ∧
    (putWalker c w s).exch = s.exch ∧ (putWalker c w s).reports = s.reports := by
  unfold putWalker
  try dsimp only
  (repeat' split) <;> simp

@[simp] theorem putBank_frame (b : Fin 8) (k : Bank) (s : State) :
    (putBank b k s).pending = s.pending ∧ (putBank b k s).clock = s.clock ∧ (putBank b k s).pins = s.pins ∧
    (putBank b k s).captures = s.captures ∧ (putBank b k s).buttons = s.buttons ∧ (putBank b k s).ctl = s.ctl ∧
    (putBank b k s).config = s.config ∧ (putBank b k s).catalog = s.catalog ∧ (putBank b k s).lines = s.lines ∧
    (putBank b k s).accepted = s.accepted ∧ (putBank b k s).garments = s.garments ∧
    (putBank b k s).carousel = s.carousel ∧ (putBank b k s).pretreat = s.pretreat ∧ (putBank b k s).press = s.press ∧
    (putBank b k s).staging = s.staging ∧ (putBank b k s).port = s.port ∧ (putBank b k s).prints = s.prints ∧
    (putBank b k s).lanes = s.lanes ∧ (putBank b k s).flash = s.flash ∧ (putBank b k s).dryer = s.dryer ∧
    (putBank b k s).pack = s.pack ∧ (putBank b k s).link = s.link ∧ (putBank b k s).exch = s.exch ∧
    (putBank b k s).reports = s.reports := by
  unfold putBank
  try dsimp only
  (repeat' split) <;> simp

@[simp] theorem putStaged_frame (c : Fin 6) (q : List (Fin 8)) (s : State) :
    (putStaged c q s).pending = s.pending ∧ (putStaged c q s).clock = s.clock ∧ (putStaged c q s).pins = s.pins ∧
    (putStaged c q s).captures = s.captures ∧ (putStaged c q s).buttons = s.buttons ∧ (putStaged c q s).ctl = s.ctl ∧
    (putStaged c q s).config = s.config ∧ (putStaged c q s).catalog = s.catalog ∧ (putStaged c q s).lines = s.lines ∧
    (putStaged c q s).accepted = s.accepted ∧ (putStaged c q s).garments = s.garments ∧
    (putStaged c q s).carousel = s.carousel ∧ (putStaged c q s).pretreat = s.pretreat ∧
    (putStaged c q s).press = s.press ∧ (putStaged c q s).staging = s.staging ∧ (putStaged c q s).port = s.port ∧
    (putStaged c q s).prints = s.prints ∧ (putStaged c q s).lanes = s.lanes ∧ (putStaged c q s).flash = s.flash ∧
    (putStaged c q s).dryer = s.dryer ∧ (putStaged c q s).pack = s.pack ∧ (putStaged c q s).link = s.link ∧
    (putStaged c q s).exch = s.exch ∧ (putStaged c q s).reports = s.reports := by
  unfold putStaged
  try dsimp only
  (repeat' split) <;> simp

@[simp] theorem putTally_frame (u : Printer) (ps : List TallyPlace) (s : State) :
    (putTally u ps s).pending = s.pending ∧ (putTally u ps s).clock = s.clock ∧ (putTally u ps s).pins = s.pins ∧
    (putTally u ps s).captures = s.captures ∧ (putTally u ps s).buttons = s.buttons ∧ (putTally u ps s).ctl = s.ctl ∧
    (putTally u ps s).config = s.config ∧ (putTally u ps s).catalog = s.catalog ∧ (putTally u ps s).lines = s.lines ∧
    (putTally u ps s).accepted = s.accepted ∧ (putTally u ps s).garments = s.garments ∧
    (putTally u ps s).carousel = s.carousel ∧ (putTally u ps s).pretreat = s.pretreat ∧
    (putTally u ps s).press = s.press ∧ (putTally u ps s).staging = s.staging ∧ (putTally u ps s).port = s.port ∧
    (putTally u ps s).prints = s.prints ∧ (putTally u ps s).lanes = s.lanes ∧ (putTally u ps s).flash = s.flash ∧
    (putTally u ps s).dryer = s.dryer ∧ (putTally u ps s).pack = s.pack ∧ (putTally u ps s).link = s.link ∧
    (putTally u ps s).exch = s.exch ∧ (putTally u ps s).reports = s.reports := by
  unfold putTally
  try dsimp only
  (repeat' split) <;> simp

@[simp] theorem putFetch_frame (f : Option Fetch) (s : State) :
    (putFetch f s).pending = s.pending ∧ (putFetch f s).clock = s.clock ∧ (putFetch f s).pins = s.pins ∧
    (putFetch f s).captures = s.captures ∧ (putFetch f s).buttons = s.buttons ∧ (putFetch f s).ctl = s.ctl ∧
    (putFetch f s).config = s.config ∧ (putFetch f s).catalog = s.catalog ∧ (putFetch f s).lines = s.lines ∧
    (putFetch f s).accepted = s.accepted ∧ (putFetch f s).garments = s.garments ∧
    (putFetch f s).carousel = s.carousel ∧ (putFetch f s).pretreat = s.pretreat ∧ (putFetch f s).press = s.press ∧
    (putFetch f s).staging = s.staging ∧ (putFetch f s).port = s.port ∧ (putFetch f s).prints = s.prints ∧
    (putFetch f s).lanes = s.lanes ∧ (putFetch f s).flash = s.flash ∧ (putFetch f s).dryer = s.dryer ∧
    (putFetch f s).pack = s.pack ∧ (putFetch f s).link = s.link ∧ (putFetch f s).exch = s.exch ∧
    (putFetch f s).reports = s.reports := by
  unfold putFetch
  try dsimp only
  (repeat' split) <;> simp

@[simp] theorem putUnit_frame (u : Printer) (p : PrintUnit) (s : State) :
    (putUnit u p s).pending = s.pending ∧ (putUnit u p s).clock = s.clock ∧ (putUnit u p s).pins = s.pins ∧
    (putUnit u p s).captures = s.captures ∧ (putUnit u p s).buttons = s.buttons ∧ (putUnit u p s).ctl = s.ctl ∧
    (putUnit u p s).config = s.config ∧ (putUnit u p s).catalog = s.catalog ∧ (putUnit u p s).lines = s.lines ∧
    (putUnit u p s).accepted = s.accepted ∧ (putUnit u p s).garments = s.garments ∧
    (putUnit u p s).carousel = s.carousel ∧ (putUnit u p s).pretreat = s.pretreat ∧ (putUnit u p s).press = s.press ∧
    (putUnit u p s).engine = s.engine ∧ (putUnit u p s).staging = s.staging ∧ (putUnit u p s).port = s.port ∧
    (putUnit u p s).lanes = s.lanes ∧ (putUnit u p s).flash = s.flash ∧ (putUnit u p s).dryer = s.dryer ∧
    (putUnit u p s).pack = s.pack ∧ (putUnit u p s).link = s.link ∧ (putUnit u p s).exch = s.exch ∧
    (putUnit u p s).reports = s.reports := by
  unfold putUnit
  try dsimp only
  (repeat' split) <;> simp

@[simp] theorem freeBank_frame (b : Fin 8) (s : State) :
    (freeBank b s).pending = s.pending ∧ (freeBank b s).clock = s.clock ∧ (freeBank b s).pins = s.pins ∧
    (freeBank b s).captures = s.captures ∧ (freeBank b s).buttons = s.buttons ∧ (freeBank b s).ctl = s.ctl ∧
    (freeBank b s).config = s.config ∧ (freeBank b s).catalog = s.catalog ∧ (freeBank b s).lines = s.lines ∧
    (freeBank b s).accepted = s.accepted ∧ (freeBank b s).garments = s.garments ∧
    (freeBank b s).carousel = s.carousel ∧ (freeBank b s).pretreat = s.pretreat ∧ (freeBank b s).press = s.press ∧
    (freeBank b s).staging = s.staging ∧ (freeBank b s).port = s.port ∧ (freeBank b s).prints = s.prints ∧
    (freeBank b s).lanes = s.lanes ∧ (freeBank b s).flash = s.flash ∧ (freeBank b s).dryer = s.dryer ∧
    (freeBank b s).pack = s.pack ∧ (freeBank b s).link = s.link ∧ (freeBank b s).exch = s.exch ∧
    (freeBank b s).reports = s.reports := by
  unfold freeBank
  try dsimp only
  (repeat' split) <;> simp

@[simp] theorem requestFree_frame (b : Fin 8) (s : State) :
    (requestFree b s).pending = s.pending ∧ (requestFree b s).clock = s.clock ∧ (requestFree b s).pins = s.pins ∧
    (requestFree b s).captures = s.captures ∧ (requestFree b s).buttons = s.buttons ∧ (requestFree b s).ctl = s.ctl ∧
    (requestFree b s).config = s.config ∧ (requestFree b s).catalog = s.catalog ∧ (requestFree b s).lines = s.lines ∧
    (requestFree b s).accepted = s.accepted ∧ (requestFree b s).garments = s.garments ∧
    (requestFree b s).carousel = s.carousel ∧ (requestFree b s).pretreat = s.pretreat ∧
    (requestFree b s).press = s.press ∧ (requestFree b s).staging = s.staging ∧ (requestFree b s).port = s.port ∧
    (requestFree b s).prints = s.prints ∧ (requestFree b s).lanes = s.lanes ∧ (requestFree b s).flash = s.flash ∧
    (requestFree b s).dryer = s.dryer ∧ (requestFree b s).pack = s.pack ∧ (requestFree b s).link = s.link ∧
    (requestFree b s).exch = s.exch ∧ (requestFree b s).reports = s.reports := by
  unfold requestFree
  try dsimp only
  (repeat' split) <;> simp

@[simp] theorem requestFrees_frame (c : Fin 6) (g : GarmentId) (p : Nat → Bool) (s : State) :
    (requestFrees c g p s).pending = s.pending ∧ (requestFrees c g p s).clock = s.clock ∧
    (requestFrees c g p s).pins = s.pins ∧ (requestFrees c g p s).captures = s.captures ∧
    (requestFrees c g p s).buttons = s.buttons ∧ (requestFrees c g p s).ctl = s.ctl ∧
    (requestFrees c g p s).config = s.config ∧ (requestFrees c g p s).catalog = s.catalog ∧
    (requestFrees c g p s).lines = s.lines ∧ (requestFrees c g p s).accepted = s.accepted ∧
    (requestFrees c g p s).garments = s.garments ∧ (requestFrees c g p s).carousel = s.carousel ∧
    (requestFrees c g p s).pretreat = s.pretreat ∧ (requestFrees c g p s).press = s.press ∧
    (requestFrees c g p s).staging = s.staging ∧ (requestFrees c g p s).port = s.port ∧
    (requestFrees c g p s).prints = s.prints ∧ (requestFrees c g p s).lanes = s.lanes ∧
    (requestFrees c g p s).flash = s.flash ∧ (requestFrees c g p s).dryer = s.dryer ∧
    (requestFrees c g p s).pack = s.pack ∧ (requestFrees c g p s).link = s.link ∧
    (requestFrees c g p s).exch = s.exch ∧ (requestFrees c g p s).reports = s.reports := by
  unfold requestFrees
  try dsimp only
  (repeat' split) <;> simp

@[simp] theorem takeStart_frame (c : Fin 6) (ps : PlaneStart) (s : State) :
    (takeStart c ps s).pending = s.pending ∧ (takeStart c ps s).clock = s.clock ∧ (takeStart c ps s).pins = s.pins ∧
    (takeStart c ps s).captures = s.captures ∧ (takeStart c ps s).buttons = s.buttons ∧
    (takeStart c ps s).ctl = s.ctl ∧ (takeStart c ps s).config = s.config ∧ (takeStart c ps s).catalog = s.catalog ∧
    (takeStart c ps s).lines = s.lines ∧ (takeStart c ps s).accepted = s.accepted ∧
    (takeStart c ps s).garments = s.garments ∧ (takeStart c ps s).carousel = s.carousel ∧
    (takeStart c ps s).pretreat = s.pretreat ∧ (takeStart c ps s).press = s.press ∧
    (takeStart c ps s).staging = s.staging ∧ (takeStart c ps s).port = s.port ∧ (takeStart c ps s).prints = s.prints ∧
    (takeStart c ps s).lanes = s.lanes ∧ (takeStart c ps s).flash = s.flash ∧ (takeStart c ps s).dryer = s.dryer ∧
    (takeStart c ps s).pack = s.pack ∧ (takeStart c ps s).link = s.link ∧ (takeStart c ps s).exch = s.exch ∧
    (takeStart c ps s).reports = s.reports := by
  unfold takeStart
  try dsimp only
  (repeat' split) <;> simp

@[simp] theorem idleWalker_frame (c : Fin 6) (s : State) :
    (idleWalker c s).pending = s.pending ∧ (idleWalker c s).clock = s.clock ∧ (idleWalker c s).pins = s.pins ∧
    (idleWalker c s).captures = s.captures ∧ (idleWalker c s).buttons = s.buttons ∧ (idleWalker c s).ctl = s.ctl ∧
    (idleWalker c s).config = s.config ∧ (idleWalker c s).catalog = s.catalog ∧ (idleWalker c s).lines = s.lines ∧
    (idleWalker c s).accepted = s.accepted ∧ (idleWalker c s).garments = s.garments ∧
    (idleWalker c s).carousel = s.carousel ∧ (idleWalker c s).pretreat = s.pretreat ∧
    (idleWalker c s).press = s.press ∧ (idleWalker c s).staging = s.staging ∧ (idleWalker c s).port = s.port ∧
    (idleWalker c s).prints = s.prints ∧ (idleWalker c s).lanes = s.lanes ∧ (idleWalker c s).flash = s.flash ∧
    (idleWalker c s).dryer = s.dryer ∧ (idleWalker c s).pack = s.pack ∧ (idleWalker c s).link = s.link ∧
    (idleWalker c s).exch = s.exch ∧ (idleWalker c s).reports = s.reports := by
  unfold idleWalker
  try dsimp only
  (repeat' split) <;> simp

@[simp] theorem stopWalker_frame (c : Fin 6) (s : State) :
    (stopWalker c s).pending = s.pending ∧ (stopWalker c s).clock = s.clock ∧ (stopWalker c s).pins = s.pins ∧
    (stopWalker c s).captures = s.captures ∧ (stopWalker c s).buttons = s.buttons ∧ (stopWalker c s).ctl = s.ctl ∧
    (stopWalker c s).config = s.config ∧ (stopWalker c s).catalog = s.catalog ∧ (stopWalker c s).lines = s.lines ∧
    (stopWalker c s).accepted = s.accepted ∧ (stopWalker c s).garments = s.garments ∧
    (stopWalker c s).carousel = s.carousel ∧ (stopWalker c s).pretreat = s.pretreat ∧
    (stopWalker c s).press = s.press ∧ (stopWalker c s).staging = s.staging ∧ (stopWalker c s).port = s.port ∧
    (stopWalker c s).prints = s.prints ∧ (stopWalker c s).lanes = s.lanes ∧ (stopWalker c s).flash = s.flash ∧
    (stopWalker c s).dryer = s.dryer ∧ (stopWalker c s).pack = s.pack ∧ (stopWalker c s).link = s.link ∧
    (stopWalker c s).exch = s.exch ∧ (stopWalker c s).reports = s.reports := by
  unfold stopWalker
  try dsimp only
  (repeat' split) <;> simp

@[simp] theorem dropTally_frame (u : Printer) (g : GarmentId) (s : State) :
    (dropTally u g s).pending = s.pending ∧ (dropTally u g s).clock = s.clock ∧ (dropTally u g s).pins = s.pins ∧
    (dropTally u g s).captures = s.captures ∧ (dropTally u g s).buttons = s.buttons ∧ (dropTally u g s).ctl = s.ctl ∧
    (dropTally u g s).config = s.config ∧ (dropTally u g s).catalog = s.catalog ∧ (dropTally u g s).lines = s.lines ∧
    (dropTally u g s).accepted = s.accepted ∧ (dropTally u g s).garments = s.garments ∧
    (dropTally u g s).carousel = s.carousel ∧ (dropTally u g s).pretreat = s.pretreat ∧
    (dropTally u g s).press = s.press ∧ (dropTally u g s).staging = s.staging ∧ (dropTally u g s).port = s.port ∧
    (dropTally u g s).prints = s.prints ∧ (dropTally u g s).lanes = s.lanes ∧ (dropTally u g s).flash = s.flash ∧
    (dropTally u g s).dryer = s.dryer ∧ (dropTally u g s).pack = s.pack ∧ (dropTally u g s).link = s.link ∧
    (dropTally u g s).exch = s.exch ∧ (dropTally u g s).reports = s.reports := by
  unfold dropTally
  try dsimp only
  (repeat' split) <;> simp

@[simp] theorem setCount_frame (u : Printer) (g : GarmentId) (n : Nat) (s : State) :
    (setCount u g n s).pending = s.pending ∧ (setCount u g n s).clock = s.clock ∧ (setCount u g n s).pins = s.pins ∧
    (setCount u g n s).captures = s.captures ∧ (setCount u g n s).buttons = s.buttons ∧
    (setCount u g n s).ctl = s.ctl ∧ (setCount u g n s).config = s.config ∧ (setCount u g n s).catalog = s.catalog ∧
    (setCount u g n s).lines = s.lines ∧ (setCount u g n s).accepted = s.accepted ∧
    (setCount u g n s).garments = s.garments ∧ (setCount u g n s).carousel = s.carousel ∧
    (setCount u g n s).pretreat = s.pretreat ∧ (setCount u g n s).press = s.press ∧
    (setCount u g n s).staging = s.staging ∧ (setCount u g n s).port = s.port ∧ (setCount u g n s).prints = s.prints ∧
    (setCount u g n s).lanes = s.lanes ∧ (setCount u g n s).flash = s.flash ∧ (setCount u g n s).dryer = s.dryer ∧
    (setCount u g n s).pack = s.pack ∧ (setCount u g n s).link = s.link ∧ (setCount u g n s).exch = s.exch ∧
    (setCount u g n s).reports = s.reports := by
  unfold setCount
  try dsimp only
  (repeat' split) <;> simp

@[simp] theorem planeStart_frame (c : Fin 6) (ps : PlaneStart) (s : State) :
    (planeStart c ps s).pending = s.pending ∧ (planeStart c ps s).clock = s.clock ∧
    (planeStart c ps s).pins = s.pins ∧ (planeStart c ps s).captures = s.captures ∧
    (planeStart c ps s).buttons = s.buttons ∧ (planeStart c ps s).ctl = s.ctl ∧
    (planeStart c ps s).config = s.config ∧ (planeStart c ps s).catalog = s.catalog ∧
    (planeStart c ps s).lines = s.lines ∧ (planeStart c ps s).accepted = s.accepted ∧
    (planeStart c ps s).garments = s.garments ∧ (planeStart c ps s).carousel = s.carousel ∧
    (planeStart c ps s).pretreat = s.pretreat ∧ (planeStart c ps s).press = s.press ∧
    (planeStart c ps s).staging = s.staging ∧ (planeStart c ps s).port = s.port ∧
    (planeStart c ps s).prints = s.prints ∧ (planeStart c ps s).lanes = s.lanes ∧
    (planeStart c ps s).flash = s.flash ∧ (planeStart c ps s).dryer = s.dryer ∧ (planeStart c ps s).pack = s.pack ∧
    (planeStart c ps s).link = s.link ∧ (planeStart c ps s).exch = s.exch ∧ (planeStart c ps s).reports = s.reports := by
  unfold planeStart
  try dsimp only
  (repeat' split) <;> simp

@[simp] theorem dropPending_frame (c : Fin 6) (g : GarmentId) (s : State) :
    (dropPending c g s).pending = s.pending ∧ (dropPending c g s).clock = s.clock ∧
    (dropPending c g s).pins = s.pins ∧ (dropPending c g s).captures = s.captures ∧
    (dropPending c g s).buttons = s.buttons ∧ (dropPending c g s).ctl = s.ctl ∧
    (dropPending c g s).config = s.config ∧ (dropPending c g s).catalog = s.catalog ∧
    (dropPending c g s).lines = s.lines ∧ (dropPending c g s).accepted = s.accepted ∧
    (dropPending c g s).garments = s.garments ∧ (dropPending c g s).carousel = s.carousel ∧
    (dropPending c g s).pretreat = s.pretreat ∧ (dropPending c g s).press = s.press ∧
    (dropPending c g s).staging = s.staging ∧ (dropPending c g s).port = s.port ∧
    (dropPending c g s).prints = s.prints ∧ (dropPending c g s).lanes = s.lanes ∧
    (dropPending c g s).flash = s.flash ∧ (dropPending c g s).dryer = s.dryer ∧ (dropPending c g s).pack = s.pack ∧
    (dropPending c g s).link = s.link ∧ (dropPending c g s).exch = s.exch ∧ (dropPending c g s).reports = s.reports := by
  unfold dropPending
  try dsimp only
  (repeat' split) <;> simp

@[simp] theorem cancelChannel_frame (g : GarmentId) (s : State) (c : Fin 6) :
    (cancelChannel g s c).pending = s.pending ∧ (cancelChannel g s c).clock = s.clock ∧
    (cancelChannel g s c).pins = s.pins ∧ (cancelChannel g s c).captures = s.captures ∧
    (cancelChannel g s c).buttons = s.buttons ∧ (cancelChannel g s c).ctl = s.ctl ∧
    (cancelChannel g s c).config = s.config ∧ (cancelChannel g s c).catalog = s.catalog ∧
    (cancelChannel g s c).lines = s.lines ∧ (cancelChannel g s c).accepted = s.accepted ∧
    (cancelChannel g s c).garments = s.garments ∧ (cancelChannel g s c).carousel = s.carousel ∧
    (cancelChannel g s c).pretreat = s.pretreat ∧ (cancelChannel g s c).press = s.press ∧
    (cancelChannel g s c).staging = s.staging ∧ (cancelChannel g s c).port = s.port ∧
    (cancelChannel g s c).prints = s.prints ∧ (cancelChannel g s c).lanes = s.lanes ∧
    (cancelChannel g s c).flash = s.flash ∧ (cancelChannel g s c).dryer = s.dryer ∧
    (cancelChannel g s c).pack = s.pack ∧ (cancelChannel g s c).link = s.link ∧ (cancelChannel g s c).exch = s.exch ∧
    (cancelChannel g s c).reports = s.reports := by
  unfold cancelChannel
  try dsimp only
  (repeat' split) <;> simp

@[simp] theorem abruptCancel_frame (u : Printer) (g : GarmentId) (s : State) :
    (abruptCancel u g s).pending = s.pending ∧ (abruptCancel u g s).clock = s.clock ∧
    (abruptCancel u g s).pins = s.pins ∧ (abruptCancel u g s).captures = s.captures ∧
    (abruptCancel u g s).buttons = s.buttons ∧ (abruptCancel u g s).ctl = s.ctl ∧
    (abruptCancel u g s).config = s.config ∧ (abruptCancel u g s).catalog = s.catalog ∧
    (abruptCancel u g s).lines = s.lines ∧ (abruptCancel u g s).accepted = s.accepted ∧
    (abruptCancel u g s).garments = s.garments ∧ (abruptCancel u g s).carousel = s.carousel ∧
    (abruptCancel u g s).pretreat = s.pretreat ∧ (abruptCancel u g s).press = s.press ∧
    (abruptCancel u g s).staging = s.staging ∧ (abruptCancel u g s).port = s.port ∧
    (abruptCancel u g s).prints = s.prints ∧ (abruptCancel u g s).lanes = s.lanes ∧
    (abruptCancel u g s).flash = s.flash ∧ (abruptCancel u g s).dryer = s.dryer ∧ (abruptCancel u g s).pack = s.pack ∧
    (abruptCancel u g s).link = s.link ∧ (abruptCancel u g s).exch = s.exch ∧ (abruptCancel u g s).reports = s.reports := by
  unfold abruptCancel
  try dsimp only
  (repeat' split) <;> simp

@[simp] theorem fadeChannel_frame (g : GarmentId) (keep : Option Nat) (s : State) (c : Fin 6) :
    (fadeChannel g keep s c).pending = s.pending ∧ (fadeChannel g keep s c).clock = s.clock ∧
    (fadeChannel g keep s c).pins = s.pins ∧ (fadeChannel g keep s c).captures = s.captures ∧
    (fadeChannel g keep s c).buttons = s.buttons ∧ (fadeChannel g keep s c).ctl = s.ctl ∧
    (fadeChannel g keep s c).config = s.config ∧ (fadeChannel g keep s c).catalog = s.catalog ∧
    (fadeChannel g keep s c).lines = s.lines ∧ (fadeChannel g keep s c).accepted = s.accepted ∧
    (fadeChannel g keep s c).garments = s.garments ∧ (fadeChannel g keep s c).carousel = s.carousel ∧
    (fadeChannel g keep s c).pretreat = s.pretreat ∧ (fadeChannel g keep s c).press = s.press ∧
    (fadeChannel g keep s c).staging = s.staging ∧ (fadeChannel g keep s c).port = s.port ∧
    (fadeChannel g keep s c).prints = s.prints ∧ (fadeChannel g keep s c).lanes = s.lanes ∧
    (fadeChannel g keep s c).flash = s.flash ∧ (fadeChannel g keep s c).dryer = s.dryer ∧
    (fadeChannel g keep s c).pack = s.pack ∧ (fadeChannel g keep s c).link = s.link ∧
    (fadeChannel g keep s c).exch = s.exch ∧ (fadeChannel g keep s c).reports = s.reports := by
  unfold fadeChannel
  try dsimp only
  (repeat' split) <;> simp

@[simp] theorem gracefulCancel_frame (u : Printer) (g : GarmentId) (keep : Option Nat) (s : State) :
    (gracefulCancel u g keep s).pending = s.pending ∧ (gracefulCancel u g keep s).clock = s.clock ∧
    (gracefulCancel u g keep s).pins = s.pins ∧ (gracefulCancel u g keep s).captures = s.captures ∧
    (gracefulCancel u g keep s).buttons = s.buttons ∧ (gracefulCancel u g keep s).ctl = s.ctl ∧
    (gracefulCancel u g keep s).config = s.config ∧ (gracefulCancel u g keep s).catalog = s.catalog ∧
    (gracefulCancel u g keep s).lines = s.lines ∧ (gracefulCancel u g keep s).accepted = s.accepted ∧
    (gracefulCancel u g keep s).garments = s.garments ∧ (gracefulCancel u g keep s).carousel = s.carousel ∧
    (gracefulCancel u g keep s).pretreat = s.pretreat ∧ (gracefulCancel u g keep s).press = s.press ∧
    (gracefulCancel u g keep s).staging = s.staging ∧ (gracefulCancel u g keep s).port = s.port ∧
    (gracefulCancel u g keep s).prints = s.prints ∧ (gracefulCancel u g keep s).lanes = s.lanes ∧
    (gracefulCancel u g keep s).flash = s.flash ∧ (gracefulCancel u g keep s).dryer = s.dryer ∧
    (gracefulCancel u g keep s).pack = s.pack ∧ (gracefulCancel u g keep s).link = s.link ∧
    (gracefulCancel u g keep s).exch = s.exch ∧ (gracefulCancel u g keep s).reports = s.reports := by
  unfold gracefulCancel
  try dsimp only
  (repeat' split) <;> simp

@[simp] theorem noticeEngine_frame (g : GarmentId) (s : State) :
    (noticeEngine g s).pending = s.pending ∧ (noticeEngine g s).clock = s.clock ∧ (noticeEngine g s).pins = s.pins ∧
    (noticeEngine g s).captures = s.captures ∧ (noticeEngine g s).buttons = s.buttons ∧
    (noticeEngine g s).ctl = s.ctl ∧ (noticeEngine g s).config = s.config ∧ (noticeEngine g s).catalog = s.catalog ∧
    (noticeEngine g s).lines = s.lines ∧ (noticeEngine g s).accepted = s.accepted ∧
    (noticeEngine g s).garments = s.garments ∧ (noticeEngine g s).carousel = s.carousel ∧
    (noticeEngine g s).pretreat = s.pretreat ∧ (noticeEngine g s).press = s.press ∧
    (noticeEngine g s).staging = s.staging ∧ (noticeEngine g s).port = s.port ∧ (noticeEngine g s).prints = s.prints ∧
    (noticeEngine g s).lanes = s.lanes ∧ (noticeEngine g s).flash = s.flash ∧ (noticeEngine g s).dryer = s.dryer ∧
    (noticeEngine g s).pack = s.pack ∧ (noticeEngine g s).link = s.link ∧ (noticeEngine g s).exch = s.exch ∧
    (noticeEngine g s).reports = s.reports := by
  unfold noticeEngine
  simp only [List.foldl]
  (repeat' split) <;> simp

@[simp] theorem askBurst_frame (d : Descriptor) (i : Nat) (s : State) :
    (askBurst d i s).pending = s.pending ∧ (askBurst d i s).clock = s.clock ∧ (askBurst d i s).pins = s.pins ∧
    (askBurst d i s).captures = s.captures ∧ (askBurst d i s).buttons = s.buttons ∧ (askBurst d i s).ctl = s.ctl ∧
    (askBurst d i s).config = s.config ∧ (askBurst d i s).catalog = s.catalog ∧ (askBurst d i s).lines = s.lines ∧
    (askBurst d i s).accepted = s.accepted ∧ (askBurst d i s).garments = s.garments ∧
    (askBurst d i s).carousel = s.carousel ∧ (askBurst d i s).pretreat = s.pretreat ∧
    (askBurst d i s).press = s.press ∧ (askBurst d i s).engine = s.engine ∧ (askBurst d i s).staging = s.staging ∧
    (askBurst d i s).prints = s.prints ∧ (askBurst d i s).lanes = s.lanes ∧ (askBurst d i s).flash = s.flash ∧
    (askBurst d i s).dryer = s.dryer ∧ (askBurst d i s).pack = s.pack ∧ (askBurst d i s).link = s.link ∧
    (askBurst d i s).exch = s.exch ∧ (askBurst d i s).reports = s.reports := by
  unfold askBurst
  try dsimp only
  (repeat' split) <;> simp

@[simp] theorem putLane_frame (c : Fin 6) (l : Lane) (s : State) :
    (putLane c l s).pending = s.pending ∧ (putLane c l s).clock = s.clock ∧ (putLane c l s).pins = s.pins ∧
    (putLane c l s).captures = s.captures ∧ (putLane c l s).buttons = s.buttons ∧ (putLane c l s).ctl = s.ctl ∧
    (putLane c l s).config = s.config ∧ (putLane c l s).catalog = s.catalog ∧ (putLane c l s).lines = s.lines ∧
    (putLane c l s).accepted = s.accepted ∧ (putLane c l s).garments = s.garments ∧
    (putLane c l s).carousel = s.carousel ∧ (putLane c l s).pretreat = s.pretreat ∧ (putLane c l s).press = s.press ∧
    (putLane c l s).engine = s.engine ∧ (putLane c l s).staging = s.staging ∧ (putLane c l s).port = s.port ∧
    (putLane c l s).prints = s.prints ∧ (putLane c l s).flash = s.flash ∧ (putLane c l s).dryer = s.dryer ∧
    (putLane c l s).pack = s.pack ∧ (putLane c l s).link = s.link ∧ (putLane c l s).exch = s.exch ∧
    (putLane c l s).reports = s.reports := by
  unfold putLane
  try dsimp only
  (repeat' split) <;> simp

@[simp] theorem endEmission_frame (b : Fin 8) (s : State) :
    (endEmission b s).pending = s.pending ∧ (endEmission b s).clock = s.clock ∧ (endEmission b s).pins = s.pins ∧
    (endEmission b s).captures = s.captures ∧ (endEmission b s).buttons = s.buttons ∧ (endEmission b s).ctl = s.ctl ∧
    (endEmission b s).config = s.config ∧ (endEmission b s).catalog = s.catalog ∧ (endEmission b s).lines = s.lines ∧
    (endEmission b s).accepted = s.accepted ∧ (endEmission b s).garments = s.garments ∧
    (endEmission b s).carousel = s.carousel ∧ (endEmission b s).pretreat = s.pretreat ∧
    (endEmission b s).press = s.press ∧ (endEmission b s).staging = s.staging ∧ (endEmission b s).port = s.port ∧
    (endEmission b s).prints = s.prints ∧ (endEmission b s).lanes = s.lanes ∧ (endEmission b s).flash = s.flash ∧
    (endEmission b s).dryer = s.dryer ∧ (endEmission b s).pack = s.pack ∧ (endEmission b s).link = s.link ∧
    (endEmission b s).exch = s.exch ∧ (endEmission b s).reports = s.reports := by
  unfold endEmission
  try dsimp only
  (repeat' split) <;> simp

@[simp] theorem stopLane_frame (s : State) (c : Fin 6) :
    (stopLane s c).pending = s.pending ∧ (stopLane s c).clock = s.clock ∧ (stopLane s c).pins = s.pins ∧
    (stopLane s c).captures = s.captures ∧ (stopLane s c).buttons = s.buttons ∧ (stopLane s c).ctl = s.ctl ∧
    (stopLane s c).config = s.config ∧ (stopLane s c).catalog = s.catalog ∧ (stopLane s c).lines = s.lines ∧
    (stopLane s c).accepted = s.accepted ∧ (stopLane s c).garments = s.garments ∧
    (stopLane s c).carousel = s.carousel ∧ (stopLane s c).pretreat = s.pretreat ∧ (stopLane s c).press = s.press ∧
    (stopLane s c).staging = s.staging ∧ (stopLane s c).port = s.port ∧ (stopLane s c).prints = s.prints ∧
    (stopLane s c).flash = s.flash ∧ (stopLane s c).dryer = s.dryer ∧ (stopLane s c).pack = s.pack ∧
    (stopLane s c).link = s.link ∧ (stopLane s c).exch = s.exch ∧ (stopLane s c).reports = s.reports := by
  unfold stopLane
  try dsimp only
  (repeat' split) <;> simp

@[simp] theorem stopLanes_frame (u : Printer) (s : State) :
    (stopLanes u s).pending = s.pending ∧ (stopLanes u s).clock = s.clock ∧ (stopLanes u s).pins = s.pins ∧
    (stopLanes u s).captures = s.captures ∧ (stopLanes u s).buttons = s.buttons ∧ (stopLanes u s).ctl = s.ctl ∧
    (stopLanes u s).config = s.config ∧ (stopLanes u s).catalog = s.catalog ∧ (stopLanes u s).lines = s.lines ∧
    (stopLanes u s).accepted = s.accepted ∧ (stopLanes u s).garments = s.garments ∧
    (stopLanes u s).carousel = s.carousel ∧ (stopLanes u s).pretreat = s.pretreat ∧ (stopLanes u s).press = s.press ∧
    (stopLanes u s).staging = s.staging ∧ (stopLanes u s).port = s.port ∧ (stopLanes u s).prints = s.prints ∧
    (stopLanes u s).flash = s.flash ∧ (stopLanes u s).dryer = s.dryer ∧ (stopLanes u s).pack = s.pack ∧
    (stopLanes u s).link = s.link ∧ (stopLanes u s).exch = s.exch ∧ (stopLanes u s).reports = s.reports := by
  unfold stopLanes
  try dsimp only
  (repeat' split) <;> simp

@[simp] theorem emitBank_frame (c : Fin 6) (b : Fin 8) (s : State) :
    (emitBank c b s).pending = s.pending ∧ (emitBank c b s).clock = s.clock ∧ (emitBank c b s).pins = s.pins ∧
    (emitBank c b s).captures = s.captures ∧ (emitBank c b s).buttons = s.buttons ∧ (emitBank c b s).ctl = s.ctl ∧
    (emitBank c b s).config = s.config ∧ (emitBank c b s).catalog = s.catalog ∧ (emitBank c b s).lines = s.lines ∧
    (emitBank c b s).accepted = s.accepted ∧ (emitBank c b s).garments = s.garments ∧
    (emitBank c b s).carousel = s.carousel ∧ (emitBank c b s).pretreat = s.pretreat ∧
    (emitBank c b s).press = s.press ∧ (emitBank c b s).staging = s.staging ∧ (emitBank c b s).port = s.port ∧
    (emitBank c b s).prints = s.prints ∧ (emitBank c b s).flash = s.flash ∧ (emitBank c b s).dryer = s.dryer ∧
    (emitBank c b s).pack = s.pack ∧ (emitBank c b s).link = s.link ∧ (emitBank c b s).exch = s.exch ∧
    (emitBank c b s).reports = s.reports := by
  unfold emitBank
  try dsimp only
  (repeat' split) <;> simp

@[simp] theorem emitOrStop_frame (c : Fin 6) (b : Option (Fin 8)) (s : State) :
    (emitOrStop c b s).pending = s.pending ∧ (emitOrStop c b s).clock = s.clock ∧ (emitOrStop c b s).pins = s.pins ∧
    (emitOrStop c b s).captures = s.captures ∧ (emitOrStop c b s).buttons = s.buttons ∧
    (emitOrStop c b s).ctl = s.ctl ∧ (emitOrStop c b s).config = s.config ∧ (emitOrStop c b s).catalog = s.catalog ∧
    (emitOrStop c b s).lines = s.lines ∧ (emitOrStop c b s).accepted = s.accepted ∧
    (emitOrStop c b s).garments = s.garments ∧ (emitOrStop c b s).carousel = s.carousel ∧
    (emitOrStop c b s).pretreat = s.pretreat ∧ (emitOrStop c b s).press = s.press ∧
    (emitOrStop c b s).staging = s.staging ∧ (emitOrStop c b s).port = s.port ∧ (emitOrStop c b s).prints = s.prints ∧
    (emitOrStop c b s).flash = s.flash ∧ (emitOrStop c b s).dryer = s.dryer ∧ (emitOrStop c b s).pack = s.pack ∧
    (emitOrStop c b s).link = s.link ∧ (emitOrStop c b s).exch = s.exch ∧ (emitOrStop c b s).reports = s.reports := by
  unfold emitOrStop
  try dsimp only
  (repeat' split) <;> simp

@[simp] theorem beginPass_frame (g : GarmentId) (k : Nat) (s : State) (c : Fin 6) :
    (beginPass g k s c).pending = s.pending ∧ (beginPass g k s c).clock = s.clock ∧
    (beginPass g k s c).pins = s.pins ∧ (beginPass g k s c).captures = s.captures ∧
    (beginPass g k s c).buttons = s.buttons ∧ (beginPass g k s c).ctl = s.ctl ∧
    (beginPass g k s c).config = s.config ∧ (beginPass g k s c).catalog = s.catalog ∧
    (beginPass g k s c).lines = s.lines ∧ (beginPass g k s c).accepted = s.accepted ∧
    (beginPass g k s c).garments = s.garments ∧ (beginPass g k s c).carousel = s.carousel ∧
    (beginPass g k s c).pretreat = s.pretreat ∧ (beginPass g k s c).press = s.press ∧
    (beginPass g k s c).staging = s.staging ∧ (beginPass g k s c).port = s.port ∧
    (beginPass g k s c).prints = s.prints ∧ (beginPass g k s c).flash = s.flash ∧
    (beginPass g k s c).dryer = s.dryer ∧ (beginPass g k s c).pack = s.pack ∧ (beginPass g k s c).link = s.link ∧
    (beginPass g k s c).exch = s.exch ∧ (beginPass g k s c).reports = s.reports := by
  unfold beginPass
  try dsimp only
  (repeat' split) <;> simp

@[simp] theorem stepPass_frame (u : Printer) (g : GarmentId) (s : State) :
    (stepPass u g s).pending = s.pending ∧ (stepPass u g s).clock = s.clock ∧ (stepPass u g s).pins = s.pins ∧
    (stepPass u g s).captures = s.captures ∧ (stepPass u g s).buttons = s.buttons ∧ (stepPass u g s).ctl = s.ctl ∧
    (stepPass u g s).config = s.config ∧ (stepPass u g s).catalog = s.catalog ∧ (stepPass u g s).lines = s.lines ∧
    (stepPass u g s).accepted = s.accepted ∧ (stepPass u g s).garments = s.garments ∧
    (stepPass u g s).carousel = s.carousel ∧ (stepPass u g s).pretreat = s.pretreat ∧
    (stepPass u g s).press = s.press ∧ (stepPass u g s).staging = s.staging ∧ (stepPass u g s).port = s.port ∧
    (stepPass u g s).flash = s.flash ∧ (stepPass u g s).dryer = s.dryer ∧ (stepPass u g s).pack = s.pack ∧
    (stepPass u g s).link = s.link ∧ (stepPass u g s).exch = s.exch ∧ (stepPass u g s).reports = s.reports := by
  unfold stepPass
  try dsimp only
  (repeat' split) <;> simp

@[simp] theorem idleUnit_frame (u : Printer) (s : State) :
    (idleUnit u s).pending = s.pending ∧ (idleUnit u s).clock = s.clock ∧ (idleUnit u s).pins = s.pins ∧
    (idleUnit u s).captures = s.captures ∧ (idleUnit u s).buttons = s.buttons ∧ (idleUnit u s).ctl = s.ctl ∧
    (idleUnit u s).config = s.config ∧ (idleUnit u s).catalog = s.catalog ∧ (idleUnit u s).lines = s.lines ∧
    (idleUnit u s).accepted = s.accepted ∧ (idleUnit u s).garments = s.garments ∧
    (idleUnit u s).carousel = s.carousel ∧ (idleUnit u s).pretreat = s.pretreat ∧ (idleUnit u s).press = s.press ∧
    (idleUnit u s).engine = s.engine ∧ (idleUnit u s).staging = s.staging ∧ (idleUnit u s).port = s.port ∧
    (idleUnit u s).lanes = s.lanes ∧ (idleUnit u s).flash = s.flash ∧ (idleUnit u s).dryer = s.dryer ∧
    (idleUnit u s).pack = s.pack ∧ (idleUnit u s).link = s.link ∧ (idleUnit u s).exch = s.exch ∧
    (idleUnit u s).reports = s.reports := by
  unfold idleUnit
  try dsimp only
  (repeat' split) <;> simp

@[simp] theorem leaveUnit_frame (u : Printer) (j : PrintJob) (s : State) :
    (leaveUnit u j s).pending = s.pending ∧ (leaveUnit u j s).clock = s.clock ∧ (leaveUnit u j s).pins = s.pins ∧
    (leaveUnit u j s).captures = s.captures ∧ (leaveUnit u j s).buttons = s.buttons ∧ (leaveUnit u j s).ctl = s.ctl ∧
    (leaveUnit u j s).config = s.config ∧ (leaveUnit u j s).catalog = s.catalog ∧ (leaveUnit u j s).lines = s.lines ∧
    (leaveUnit u j s).accepted = s.accepted ∧ (leaveUnit u j s).garments = s.garments ∧
    (leaveUnit u j s).pretreat = s.pretreat ∧ (leaveUnit u j s).press = s.press ∧
    (leaveUnit u j s).engine = s.engine ∧ (leaveUnit u j s).staging = s.staging ∧ (leaveUnit u j s).port = s.port ∧
    (leaveUnit u j s).lanes = s.lanes ∧ (leaveUnit u j s).flash = s.flash ∧ (leaveUnit u j s).dryer = s.dryer ∧
    (leaveUnit u j s).pack = s.pack ∧ (leaveUnit u j s).link = s.link ∧ (leaveUnit u j s).exch = s.exch ∧
    (leaveUnit u j s).reports = s.reports := by
  unfold leaveUnit
  try dsimp only
  (repeat' split) <;> simp

@[simp] theorem printOver_frame (u : Printer) (j : PrintJob) (s : State) :
    (printOver u j s).pending = s.pending ∧ (printOver u j s).clock = s.clock ∧ (printOver u j s).pins = s.pins ∧
    (printOver u j s).captures = s.captures ∧ (printOver u j s).buttons = s.buttons ∧ (printOver u j s).ctl = s.ctl ∧
    (printOver u j s).config = s.config ∧ (printOver u j s).catalog = s.catalog ∧ (printOver u j s).lines = s.lines ∧
    (printOver u j s).accepted = s.accepted ∧ (printOver u j s).garments = s.garments ∧
    (printOver u j s).pretreat = s.pretreat ∧ (printOver u j s).press = s.press ∧
    (printOver u j s).staging = s.staging ∧ (printOver u j s).port = s.port ∧ (printOver u j s).lanes = s.lanes ∧
    (printOver u j s).flash = s.flash ∧ (printOver u j s).dryer = s.dryer ∧ (printOver u j s).pack = s.pack ∧
    (printOver u j s).link = s.link ∧ (printOver u j s).exch = s.exch ∧ (printOver u j s).reports = s.reports := by
  unfold printOver
  try dsimp only
  (repeat' split) <;> simp

@[simp] theorem stopCarriage_frame (u : Printer) (s : State) :
    (stopCarriage u s).pending = s.pending ∧ (stopCarriage u s).clock = s.clock ∧ (stopCarriage u s).pins = s.pins ∧
    (stopCarriage u s).captures = s.captures ∧ (stopCarriage u s).buttons = s.buttons ∧
    (stopCarriage u s).ctl = s.ctl ∧ (stopCarriage u s).config = s.config ∧ (stopCarriage u s).catalog = s.catalog ∧
    (stopCarriage u s).lines = s.lines ∧ (stopCarriage u s).accepted = s.accepted ∧
    (stopCarriage u s).garments = s.garments ∧ (stopCarriage u s).carousel = s.carousel ∧
    (stopCarriage u s).pretreat = s.pretreat ∧ (stopCarriage u s).press = s.press ∧
    (stopCarriage u s).engine = s.engine ∧ (stopCarriage u s).staging = s.staging ∧ (stopCarriage u s).port = s.port ∧
    (stopCarriage u s).prints = s.prints ∧ (stopCarriage u s).lanes = s.lanes ∧ (stopCarriage u s).flash = s.flash ∧
    (stopCarriage u s).dryer = s.dryer ∧ (stopCarriage u s).pack = s.pack ∧ (stopCarriage u s).exch = s.exch ∧
    (stopCarriage u s).reports = s.reports := by
  unfold stopCarriage
  try dsimp only
  (repeat' split) <;> simp

@[simp] theorem quietCut_frame (u : Printer) (j : PrintJob) (s : State) :
    (quietCut u j s).pending = s.pending ∧ (quietCut u j s).clock = s.clock ∧ (quietCut u j s).pins = s.pins ∧
    (quietCut u j s).captures = s.captures ∧ (quietCut u j s).buttons = s.buttons ∧ (quietCut u j s).ctl = s.ctl ∧
    (quietCut u j s).config = s.config ∧ (quietCut u j s).catalog = s.catalog ∧ (quietCut u j s).lines = s.lines ∧
    (quietCut u j s).accepted = s.accepted ∧ (quietCut u j s).pretreat = s.pretreat ∧
    (quietCut u j s).press = s.press ∧ (quietCut u j s).staging = s.staging ∧ (quietCut u j s).port = s.port ∧
    (quietCut u j s).flash = s.flash ∧ (quietCut u j s).dryer = s.dryer ∧ (quietCut u j s).pack = s.pack ∧
    (quietCut u j s).exch = s.exch ∧ (quietCut u j s).reports = s.reports := by
  unfold quietCut
  try dsimp only
  (repeat' split) <;> simp

@[simp] theorem fadeOut_frame (u : Printer) (j : PrintJob) (s : State) :
    (fadeOut u j s).pending = s.pending ∧ (fadeOut u j s).clock = s.clock ∧ (fadeOut u j s).pins = s.pins ∧
    (fadeOut u j s).captures = s.captures ∧ (fadeOut u j s).buttons = s.buttons ∧ (fadeOut u j s).ctl = s.ctl ∧
    (fadeOut u j s).config = s.config ∧ (fadeOut u j s).catalog = s.catalog ∧ (fadeOut u j s).lines = s.lines ∧
    (fadeOut u j s).accepted = s.accepted ∧ (fadeOut u j s).garments = s.garments ∧
    (fadeOut u j s).pretreat = s.pretreat ∧ (fadeOut u j s).press = s.press ∧ (fadeOut u j s).staging = s.staging ∧
    (fadeOut u j s).port = s.port ∧ (fadeOut u j s).lanes = s.lanes ∧ (fadeOut u j s).flash = s.flash ∧
    (fadeOut u j s).dryer = s.dryer ∧ (fadeOut u j s).pack = s.pack ∧ (fadeOut u j s).link = s.link ∧
    (fadeOut u j s).exch = s.exch ∧ (fadeOut u j s).reports = s.reports := by
  unfold fadeOut
  try dsimp only
  (repeat' split) <;> simp

@[simp] theorem fadeAfter_frame (u : Printer) (j : PrintJob) (s : State) :
    (fadeAfter u j s).pending = s.pending ∧ (fadeAfter u j s).clock = s.clock ∧ (fadeAfter u j s).pins = s.pins ∧
    (fadeAfter u j s).captures = s.captures ∧ (fadeAfter u j s).buttons = s.buttons ∧ (fadeAfter u j s).ctl = s.ctl ∧
    (fadeAfter u j s).config = s.config ∧ (fadeAfter u j s).catalog = s.catalog ∧ (fadeAfter u j s).lines = s.lines ∧
    (fadeAfter u j s).accepted = s.accepted ∧ (fadeAfter u j s).garments = s.garments ∧
    (fadeAfter u j s).carousel = s.carousel ∧ (fadeAfter u j s).pretreat = s.pretreat ∧
    (fadeAfter u j s).press = s.press ∧ (fadeAfter u j s).staging = s.staging ∧ (fadeAfter u j s).port = s.port ∧
    (fadeAfter u j s).lanes = s.lanes ∧ (fadeAfter u j s).flash = s.flash ∧ (fadeAfter u j s).dryer = s.dryer ∧
    (fadeAfter u j s).pack = s.pack ∧ (fadeAfter u j s).link = s.link ∧ (fadeAfter u j s).exch = s.exch ∧
    (fadeAfter u j s).reports = s.reports := by
  unfold fadeAfter
  try dsimp only
  (repeat' split) <;> simp

@[simp] theorem noticeCurrent_frame (u : Printer) (j : PrintJob) (n : Notice) (s : State) :
    (noticeCurrent u j n s).pending = s.pending ∧ (noticeCurrent u j n s).clock = s.clock ∧
    (noticeCurrent u j n s).pins = s.pins ∧ (noticeCurrent u j n s).captures = s.captures ∧
    (noticeCurrent u j n s).buttons = s.buttons ∧ (noticeCurrent u j n s).ctl = s.ctl ∧
    (noticeCurrent u j n s).config = s.config ∧ (noticeCurrent u j n s).catalog = s.catalog ∧
    (noticeCurrent u j n s).lines = s.lines ∧ (noticeCurrent u j n s).accepted = s.accepted ∧
    (noticeCurrent u j n s).pretreat = s.pretreat ∧ (noticeCurrent u j n s).press = s.press ∧
    (noticeCurrent u j n s).staging = s.staging ∧ (noticeCurrent u j n s).port = s.port ∧
    (noticeCurrent u j n s).flash = s.flash ∧ (noticeCurrent u j n s).dryer = s.dryer ∧
    (noticeCurrent u j n s).pack = s.pack ∧ (noticeCurrent u j n s).exch = s.exch ∧
    (noticeCurrent u j n s).reports = s.reports := by
  unfold noticeCurrent
  try dsimp only
  (repeat' split) <;> simp

@[simp] theorem noticeTallied_frame (u : Printer) (g : GarmentId) (n : Notice) (s : State) :
    (noticeTallied u g n s).pending = s.pending ∧ (noticeTallied u g n s).clock = s.clock ∧
    (noticeTallied u g n s).pins = s.pins ∧ (noticeTallied u g n s).captures = s.captures ∧
    (noticeTallied u g n s).buttons = s.buttons ∧ (noticeTallied u g n s).ctl = s.ctl ∧
    (noticeTallied u g n s).config = s.config ∧ (noticeTallied u g n s).catalog = s.catalog ∧
    (noticeTallied u g n s).lines = s.lines ∧ (noticeTallied u g n s).accepted = s.accepted ∧
    (noticeTallied u g n s).garments = s.garments ∧ (noticeTallied u g n s).carousel = s.carousel ∧
    (noticeTallied u g n s).pretreat = s.pretreat ∧ (noticeTallied u g n s).press = s.press ∧
    (noticeTallied u g n s).staging = s.staging ∧ (noticeTallied u g n s).port = s.port ∧
    (noticeTallied u g n s).prints = s.prints ∧ (noticeTallied u g n s).lanes = s.lanes ∧
    (noticeTallied u g n s).flash = s.flash ∧ (noticeTallied u g n s).dryer = s.dryer ∧
    (noticeTallied u g n s).pack = s.pack ∧ (noticeTallied u g n s).link = s.link ∧
    (noticeTallied u g n s).exch = s.exch ∧ (noticeTallied u g n s).reports = s.reports := by
  unfold noticeTallied
  try dsimp only
  (repeat' split) <;> simp

@[simp] theorem noticePrint_frame (u : Printer) (g : GarmentId) (n : Notice) (s : State) :
    (noticePrint u g n s).pending = s.pending ∧ (noticePrint u g n s).clock = s.clock ∧
    (noticePrint u g n s).pins = s.pins ∧ (noticePrint u g n s).captures = s.captures ∧
    (noticePrint u g n s).buttons = s.buttons ∧ (noticePrint u g n s).ctl = s.ctl ∧
    (noticePrint u g n s).config = s.config ∧ (noticePrint u g n s).catalog = s.catalog ∧
    (noticePrint u g n s).lines = s.lines ∧ (noticePrint u g n s).accepted = s.accepted ∧
    (noticePrint u g n s).pretreat = s.pretreat ∧ (noticePrint u g n s).press = s.press ∧
    (noticePrint u g n s).staging = s.staging ∧ (noticePrint u g n s).port = s.port ∧
    (noticePrint u g n s).flash = s.flash ∧ (noticePrint u g n s).dryer = s.dryer ∧
    (noticePrint u g n s).pack = s.pack ∧ (noticePrint u g n s).exch = s.exch ∧
    (noticePrint u g n s).reports = s.reports := by
  unfold noticePrint
  try dsimp only
  (repeat' split) <;> simp

@[simp] theorem tankIncident_frame (k : IncidentKind) (t : Tank) (s : State) :
    (tankIncident k t s).pending = s.pending ∧ (tankIncident k t s).clock = s.clock ∧
    (tankIncident k t s).pins = s.pins ∧ (tankIncident k t s).captures = s.captures ∧
    (tankIncident k t s).buttons = s.buttons ∧ (tankIncident k t s).ctl = s.ctl ∧
    (tankIncident k t s).config = s.config ∧ (tankIncident k t s).catalog = s.catalog ∧
    (tankIncident k t s).lines = s.lines ∧ (tankIncident k t s).accepted = s.accepted ∧
    (tankIncident k t s).garments = s.garments ∧ (tankIncident k t s).carousel = s.carousel ∧
    (tankIncident k t s).pretreat = s.pretreat ∧ (tankIncident k t s).press = s.press ∧
    (tankIncident k t s).engine = s.engine ∧ (tankIncident k t s).staging = s.staging ∧
    (tankIncident k t s).port = s.port ∧ (tankIncident k t s).prints = s.prints ∧
    (tankIncident k t s).lanes = s.lanes ∧ (tankIncident k t s).flash = s.flash ∧
    (tankIncident k t s).dryer = s.dryer ∧ (tankIncident k t s).pack = s.pack ∧ (tankIncident k t s).link = s.link ∧
    (tankIncident k t s).exch = s.exch := by
  unfold tankIncident
  try dsimp only
  (repeat' split) <;> simp

@[simp] theorem tankFall_frame (old : TankState) (t : Tank) (s : State) :
    (tankFall old t s).pending = s.pending ∧ (tankFall old t s).clock = s.clock ∧ (tankFall old t s).pins = s.pins ∧
    (tankFall old t s).captures = s.captures ∧ (tankFall old t s).buttons = s.buttons ∧
    (tankFall old t s).ctl = s.ctl ∧ (tankFall old t s).config = s.config ∧ (tankFall old t s).catalog = s.catalog ∧
    (tankFall old t s).lines = s.lines ∧ (tankFall old t s).accepted = s.accepted ∧
    (tankFall old t s).garments = s.garments ∧ (tankFall old t s).carousel = s.carousel ∧
    (tankFall old t s).pretreat = s.pretreat ∧ (tankFall old t s).press = s.press ∧
    (tankFall old t s).engine = s.engine ∧ (tankFall old t s).staging = s.staging ∧ (tankFall old t s).port = s.port ∧
    (tankFall old t s).prints = s.prints ∧ (tankFall old t s).lanes = s.lanes ∧ (tankFall old t s).flash = s.flash ∧
    (tankFall old t s).dryer = s.dryer ∧ (tankFall old t s).pack = s.pack ∧ (tankFall old t s).link = s.link ∧
    (tankFall old t s).exch = s.exch := by
  unfold tankFall
  try dsimp only
  (repeat' split) <;> simp

@[simp] theorem putTank_frame (t : Tank) (s : State) :
    (putTank t s).pending = s.pending ∧ (putTank t s).clock = s.clock ∧ (putTank t s).pins = s.pins ∧
    (putTank t s).captures = s.captures ∧ (putTank t s).buttons = s.buttons ∧ (putTank t s).ctl = s.ctl ∧
    (putTank t s).config = s.config ∧ (putTank t s).catalog = s.catalog ∧ (putTank t s).lines = s.lines ∧
    (putTank t s).accepted = s.accepted ∧ (putTank t s).garments = s.garments ∧ (putTank t s).carousel = s.carousel ∧
    (putTank t s).press = s.press ∧ (putTank t s).engine = s.engine ∧ (putTank t s).staging = s.staging ∧
    (putTank t s).port = s.port ∧ (putTank t s).prints = s.prints ∧ (putTank t s).lanes = s.lanes ∧
    (putTank t s).flash = s.flash ∧ (putTank t s).dryer = s.dryer ∧ (putTank t s).pack = s.pack ∧
    (putTank t s).link = s.link ∧ (putTank t s).exch = s.exch ∧ (putTank t s).reports = s.reports := by
  unfold putTank
  try dsimp only
  (repeat' split) <;> simp

@[simp] theorem useFluid_frame (fluid : Nat) (s : State) :
    (useFluid fluid s).pending = s.pending ∧ (useFluid fluid s).clock = s.clock ∧ (useFluid fluid s).pins = s.pins ∧
    (useFluid fluid s).captures = s.captures ∧ (useFluid fluid s).buttons = s.buttons ∧
    (useFluid fluid s).ctl = s.ctl ∧ (useFluid fluid s).config = s.config ∧ (useFluid fluid s).catalog = s.catalog ∧
    (useFluid fluid s).lines = s.lines ∧ (useFluid fluid s).accepted = s.accepted ∧
    (useFluid fluid s).garments = s.garments ∧ (useFluid fluid s).carousel = s.carousel ∧
    (useFluid fluid s).press = s.press ∧ (useFluid fluid s).engine = s.engine ∧
    (useFluid fluid s).staging = s.staging ∧ (useFluid fluid s).port = s.port ∧ (useFluid fluid s).prints = s.prints ∧
    (useFluid fluid s).lanes = s.lanes ∧ (useFluid fluid s).flash = s.flash ∧ (useFluid fluid s).dryer = s.dryer ∧
    (useFluid fluid s).pack = s.pack ∧ (useFluid fluid s).link = s.link ∧ (useFluid fluid s).exch = s.exch := by
  unfold useFluid
  try dsimp only
  (repeat' split) <;> simp

@[simp] theorem putValve_frame (z : Fin 8) (v : Valve) (s : State) :
    (putValve z v s).pending = s.pending ∧ (putValve z v s).clock = s.clock ∧ (putValve z v s).pins = s.pins ∧
    (putValve z v s).captures = s.captures ∧ (putValve z v s).buttons = s.buttons ∧ (putValve z v s).ctl = s.ctl ∧
    (putValve z v s).config = s.config ∧ (putValve z v s).catalog = s.catalog ∧ (putValve z v s).lines = s.lines ∧
    (putValve z v s).accepted = s.accepted ∧ (putValve z v s).garments = s.garments ∧
    (putValve z v s).carousel = s.carousel ∧ (putValve z v s).press = s.press ∧ (putValve z v s).engine = s.engine ∧
    (putValve z v s).staging = s.staging ∧ (putValve z v s).port = s.port ∧ (putValve z v s).prints = s.prints ∧
    (putValve z v s).lanes = s.lanes ∧ (putValve z v s).flash = s.flash ∧ (putValve z v s).dryer = s.dryer ∧
    (putValve z v s).pack = s.pack ∧ (putValve z v s).link = s.link ∧ (putValve z v s).exch = s.exch ∧
    (putValve z v s).reports = s.reports := by
  unfold putValve
  try dsimp only
  (repeat' split) <;> simp

@[simp] theorem closeValve_frame (s : State) (z : Fin 8) :
    (closeValve s z).pending = s.pending ∧ (closeValve s z).clock = s.clock ∧ (closeValve s z).pins = s.pins ∧
    (closeValve s z).captures = s.captures ∧ (closeValve s z).buttons = s.buttons ∧ (closeValve s z).ctl = s.ctl ∧
    (closeValve s z).config = s.config ∧ (closeValve s z).catalog = s.catalog ∧ (closeValve s z).lines = s.lines ∧
    (closeValve s z).accepted = s.accepted ∧ (closeValve s z).garments = s.garments ∧
    (closeValve s z).carousel = s.carousel ∧ (closeValve s z).press = s.press ∧ (closeValve s z).engine = s.engine ∧
    (closeValve s z).staging = s.staging ∧ (closeValve s z).port = s.port ∧ (closeValve s z).prints = s.prints ∧
    (closeValve s z).lanes = s.lanes ∧ (closeValve s z).flash = s.flash ∧ (closeValve s z).dryer = s.dryer ∧
    (closeValve s z).pack = s.pack ∧ (closeValve s z).link = s.link ∧ (closeValve s z).exch = s.exch := by
  unfold closeValve
  try dsimp only
  (repeat' split) <;> simp

@[simp] theorem closeValves_frame (s : State) :
    (closeValves s).pending = s.pending ∧ (closeValves s).clock = s.clock ∧ (closeValves s).pins = s.pins ∧
    (closeValves s).captures = s.captures ∧ (closeValves s).buttons = s.buttons ∧ (closeValves s).ctl = s.ctl ∧
    (closeValves s).config = s.config ∧ (closeValves s).catalog = s.catalog ∧ (closeValves s).lines = s.lines ∧
    (closeValves s).accepted = s.accepted ∧ (closeValves s).garments = s.garments ∧
    (closeValves s).carousel = s.carousel ∧ (closeValves s).press = s.press ∧ (closeValves s).engine = s.engine ∧
    (closeValves s).staging = s.staging ∧ (closeValves s).port = s.port ∧ (closeValves s).prints = s.prints ∧
    (closeValves s).lanes = s.lanes ∧ (closeValves s).flash = s.flash ∧ (closeValves s).dryer = s.dryer ∧
    (closeValves s).pack = s.pack ∧ (closeValves s).link = s.link ∧ (closeValves s).exch = s.exch := by
  unfold closeValves
  try dsimp only
  (repeat' split) <;> simp

@[simp] theorem idlePretreat_frame (s : State) :
    (idlePretreat s).pending = s.pending ∧ (idlePretreat s).clock = s.clock ∧ (idlePretreat s).pins = s.pins ∧
    (idlePretreat s).captures = s.captures ∧ (idlePretreat s).buttons = s.buttons ∧ (idlePretreat s).ctl = s.ctl ∧
    (idlePretreat s).config = s.config ∧ (idlePretreat s).catalog = s.catalog ∧ (idlePretreat s).lines = s.lines ∧
    (idlePretreat s).accepted = s.accepted ∧ (idlePretreat s).garments = s.garments ∧
    (idlePretreat s).carousel = s.carousel ∧ (idlePretreat s).press = s.press ∧ (idlePretreat s).engine = s.engine ∧
    (idlePretreat s).staging = s.staging ∧ (idlePretreat s).port = s.port ∧ (idlePretreat s).prints = s.prints ∧
    (idlePretreat s).lanes = s.lanes ∧ (idlePretreat s).flash = s.flash ∧ (idlePretreat s).dryer = s.dryer ∧
    (idlePretreat s).pack = s.pack ∧ (idlePretreat s).link = s.link ∧ (idlePretreat s).exch = s.exch ∧
    (idlePretreat s).reports = s.reports := by
  unfold idlePretreat
  try dsimp only
  (repeat' split) <;> simp

@[simp] theorem leavePretreat_frame (j : Job) (s : State) :
    (leavePretreat j s).pending = s.pending ∧ (leavePretreat j s).clock = s.clock ∧
    (leavePretreat j s).pins = s.pins ∧ (leavePretreat j s).captures = s.captures ∧
    (leavePretreat j s).buttons = s.buttons ∧ (leavePretreat j s).ctl = s.ctl ∧
    (leavePretreat j s).config = s.config ∧ (leavePretreat j s).catalog = s.catalog ∧
    (leavePretreat j s).lines = s.lines ∧ (leavePretreat j s).accepted = s.accepted ∧
    (leavePretreat j s).garments = s.garments ∧ (leavePretreat j s).press = s.press ∧
    (leavePretreat j s).engine = s.engine ∧ (leavePretreat j s).staging = s.staging ∧
    (leavePretreat j s).port = s.port ∧ (leavePretreat j s).prints = s.prints ∧ (leavePretreat j s).lanes = s.lanes ∧
    (leavePretreat j s).flash = s.flash ∧ (leavePretreat j s).dryer = s.dryer ∧ (leavePretreat j s).pack = s.pack ∧
    (leavePretreat j s).link = s.link ∧ (leavePretreat j s).exch = s.exch ∧ (leavePretreat j s).reports = s.reports := by
  unfold leavePretreat
  try dsimp only
  (repeat' split) <;> simp

@[simp] theorem idlePress_frame (s : State) :
    (idlePress s).pending = s.pending ∧ (idlePress s).clock = s.clock ∧ (idlePress s).pins = s.pins ∧
    (idlePress s).captures = s.captures ∧ (idlePress s).buttons = s.buttons ∧ (idlePress s).ctl = s.ctl ∧
    (idlePress s).config = s.config ∧ (idlePress s).catalog = s.catalog ∧ (idlePress s).lines = s.lines ∧
    (idlePress s).accepted = s.accepted ∧ (idlePress s).garments = s.garments ∧ (idlePress s).carousel = s.carousel ∧
    (idlePress s).pretreat = s.pretreat ∧ (idlePress s).engine = s.engine ∧ (idlePress s).staging = s.staging ∧
    (idlePress s).port = s.port ∧ (idlePress s).prints = s.prints ∧ (idlePress s).lanes = s.lanes ∧
    (idlePress s).flash = s.flash ∧ (idlePress s).dryer = s.dryer ∧ (idlePress s).pack = s.pack ∧
    (idlePress s).link = s.link ∧ (idlePress s).exch = s.exch ∧ (idlePress s).reports = s.reports := by
  unfold idlePress
  try dsimp only
  (repeat' split) <;> simp

@[simp] theorem leavePress_frame (j : Job) (s : State) :
    (leavePress j s).pending = s.pending ∧ (leavePress j s).clock = s.clock ∧ (leavePress j s).pins = s.pins ∧
    (leavePress j s).captures = s.captures ∧ (leavePress j s).buttons = s.buttons ∧ (leavePress j s).ctl = s.ctl ∧
    (leavePress j s).config = s.config ∧ (leavePress j s).catalog = s.catalog ∧ (leavePress j s).lines = s.lines ∧
    (leavePress j s).accepted = s.accepted ∧ (leavePress j s).garments = s.garments ∧
    (leavePress j s).pretreat = s.pretreat ∧ (leavePress j s).engine = s.engine ∧
    (leavePress j s).staging = s.staging ∧ (leavePress j s).port = s.port ∧ (leavePress j s).prints = s.prints ∧
    (leavePress j s).lanes = s.lanes ∧ (leavePress j s).flash = s.flash ∧ (leavePress j s).dryer = s.dryer ∧
    (leavePress j s).pack = s.pack ∧ (leavePress j s).link = s.link ∧ (leavePress j s).exch = s.exch ∧
    (leavePress j s).reports = s.reports := by
  unfold leavePress
  try dsimp only
  (repeat' split) <;> simp

@[simp] theorem idleFlash_frame (s : State) :
    (idleFlash s).pending = s.pending ∧ (idleFlash s).clock = s.clock ∧ (idleFlash s).pins = s.pins ∧
    (idleFlash s).captures = s.captures ∧ (idleFlash s).buttons = s.buttons ∧ (idleFlash s).ctl = s.ctl ∧
    (idleFlash s).config = s.config ∧ (idleFlash s).catalog = s.catalog ∧ (idleFlash s).lines = s.lines ∧
    (idleFlash s).accepted = s.accepted ∧ (idleFlash s).garments = s.garments ∧ (idleFlash s).carousel = s.carousel ∧
    (idleFlash s).pretreat = s.pretreat ∧ (idleFlash s).press = s.press ∧ (idleFlash s).engine = s.engine ∧
    (idleFlash s).staging = s.staging ∧ (idleFlash s).port = s.port ∧ (idleFlash s).prints = s.prints ∧
    (idleFlash s).lanes = s.lanes ∧ (idleFlash s).dryer = s.dryer ∧ (idleFlash s).pack = s.pack ∧
    (idleFlash s).link = s.link ∧ (idleFlash s).exch = s.exch ∧ (idleFlash s).reports = s.reports := by
  unfold idleFlash
  try dsimp only
  (repeat' split) <;> simp

@[simp] theorem leaveFlash_frame (j : PrintJob) (s : State) :
    (leaveFlash j s).pending = s.pending ∧ (leaveFlash j s).clock = s.clock ∧ (leaveFlash j s).pins = s.pins ∧
    (leaveFlash j s).captures = s.captures ∧ (leaveFlash j s).buttons = s.buttons ∧ (leaveFlash j s).ctl = s.ctl ∧
    (leaveFlash j s).config = s.config ∧ (leaveFlash j s).catalog = s.catalog ∧ (leaveFlash j s).lines = s.lines ∧
    (leaveFlash j s).accepted = s.accepted ∧ (leaveFlash j s).garments = s.garments ∧
    (leaveFlash j s).pretreat = s.pretreat ∧ (leaveFlash j s).press = s.press ∧ (leaveFlash j s).engine = s.engine ∧
    (leaveFlash j s).staging = s.staging ∧ (leaveFlash j s).port = s.port ∧ (leaveFlash j s).prints = s.prints ∧
    (leaveFlash j s).lanes = s.lanes ∧ (leaveFlash j s).dryer = s.dryer ∧ (leaveFlash j s).pack = s.pack ∧
    (leaveFlash j s).link = s.link ∧ (leaveFlash j s).exch = s.exch ∧ (leaveFlash j s).reports = s.reports := by
  unfold leaveFlash
  try dsimp only
  (repeat' split) <;> simp

@[simp] theorem flashOver_frame (s : State) :
    (flashOver s).pending = s.pending ∧ (flashOver s).clock = s.clock ∧ (flashOver s).pins = s.pins ∧
    (flashOver s).captures = s.captures ∧ (flashOver s).buttons = s.buttons ∧ (flashOver s).ctl = s.ctl ∧
    (flashOver s).config = s.config ∧ (flashOver s).catalog = s.catalog ∧ (flashOver s).lines = s.lines ∧
    (flashOver s).accepted = s.accepted ∧ (flashOver s).garments = s.garments ∧ (flashOver s).pretreat = s.pretreat ∧
    (flashOver s).press = s.press ∧ (flashOver s).engine = s.engine ∧ (flashOver s).staging = s.staging ∧
    (flashOver s).port = s.port ∧ (flashOver s).prints = s.prints ∧ (flashOver s).lanes = s.lanes ∧
    (flashOver s).dryer = s.dryer ∧ (flashOver s).pack = s.pack ∧ (flashOver s).link = s.link ∧
    (flashOver s).exch = s.exch ∧ (flashOver s).reports = s.reports := by
  unfold flashOver
  try dsimp only
  (repeat' split) <;> simp

@[simp] theorem enterEnding_frame (s : State) :
    (enterEnding s).pending = s.pending ∧ (enterEnding s).clock = s.clock ∧ (enterEnding s).pins = s.pins ∧
    (enterEnding s).captures = s.captures ∧ (enterEnding s).buttons = s.buttons ∧ (enterEnding s).ctl = s.ctl ∧
    (enterEnding s).config = s.config ∧ (enterEnding s).catalog = s.catalog ∧ (enterEnding s).lines = s.lines ∧
    (enterEnding s).accepted = s.accepted ∧ (enterEnding s).garments = s.garments ∧
    (enterEnding s).carousel = s.carousel ∧ (enterEnding s).pretreat = s.pretreat ∧ (enterEnding s).press = s.press ∧
    (enterEnding s).engine = s.engine ∧ (enterEnding s).staging = s.staging ∧ (enterEnding s).port = s.port ∧
    (enterEnding s).prints = s.prints ∧ (enterEnding s).lanes = s.lanes ∧ (enterEnding s).dryer = s.dryer ∧
    (enterEnding s).pack = s.pack ∧ (enterEnding s).link = s.link ∧ (enterEnding s).exch = s.exch ∧
    (enterEnding s).reports = s.reports := by
  unfold enterEnding
  try dsimp only
  (repeat' split) <;> simp

@[simp] theorem heatOff_frame (s : State) :
    (heatOff s).pending = s.pending ∧ (heatOff s).clock = s.clock ∧ (heatOff s).pins = s.pins ∧
    (heatOff s).captures = s.captures ∧ (heatOff s).buttons = s.buttons ∧ (heatOff s).ctl = s.ctl ∧
    (heatOff s).config = s.config ∧ (heatOff s).catalog = s.catalog ∧ (heatOff s).lines = s.lines ∧
    (heatOff s).accepted = s.accepted ∧ (heatOff s).garments = s.garments ∧ (heatOff s).pretreat = s.pretreat ∧
    (heatOff s).press = s.press ∧ (heatOff s).engine = s.engine ∧ (heatOff s).staging = s.staging ∧
    (heatOff s).port = s.port ∧ (heatOff s).prints = s.prints ∧ (heatOff s).lanes = s.lanes ∧
    (heatOff s).dryer = s.dryer ∧ (heatOff s).pack = s.pack ∧ (heatOff s).exch = s.exch ∧
    (heatOff s).reports = s.reports := by
  unfold heatOff
  try dsimp only
  (repeat' split) <;> simp

@[simp] theorem endExposure_frame (s : State) :
    (endExposure s).pending = s.pending ∧ (endExposure s).clock = s.clock ∧ (endExposure s).pins = s.pins ∧
    (endExposure s).captures = s.captures ∧ (endExposure s).buttons = s.buttons ∧ (endExposure s).ctl = s.ctl ∧
    (endExposure s).config = s.config ∧ (endExposure s).catalog = s.catalog ∧ (endExposure s).lines = s.lines ∧
    (endExposure s).accepted = s.accepted ∧ (endExposure s).garments = s.garments ∧
    (endExposure s).pretreat = s.pretreat ∧ (endExposure s).press = s.press ∧ (endExposure s).engine = s.engine ∧
    (endExposure s).staging = s.staging ∧ (endExposure s).port = s.port ∧ (endExposure s).prints = s.prints ∧
    (endExposure s).lanes = s.lanes ∧ (endExposure s).dryer = s.dryer ∧ (endExposure s).pack = s.pack ∧
    (endExposure s).exch = s.exch ∧ (endExposure s).reports = s.reports := by
  unfold endExposure
  try dsimp only
  (repeat' split) <;> simp

@[simp] theorem noticePretreat_frame (g : Fin 32) (s : State) :
    (noticePretreat g s).pending = s.pending ∧ (noticePretreat g s).clock = s.clock ∧
    (noticePretreat g s).pins = s.pins ∧ (noticePretreat g s).captures = s.captures ∧
    (noticePretreat g s).buttons = s.buttons ∧ (noticePretreat g s).ctl = s.ctl ∧
    (noticePretreat g s).config = s.config ∧ (noticePretreat g s).catalog = s.catalog ∧
    (noticePretreat g s).lines = s.lines ∧ (noticePretreat g s).accepted = s.accepted ∧
    (noticePretreat g s).garments = s.garments ∧ (noticePretreat g s).press = s.press ∧
    (noticePretreat g s).engine = s.engine ∧ (noticePretreat g s).staging = s.staging ∧
    (noticePretreat g s).port = s.port ∧ (noticePretreat g s).prints = s.prints ∧
    (noticePretreat g s).lanes = s.lanes ∧ (noticePretreat g s).flash = s.flash ∧
    (noticePretreat g s).dryer = s.dryer ∧ (noticePretreat g s).pack = s.pack ∧ (noticePretreat g s).link = s.link ∧
    (noticePretreat g s).exch = s.exch ∧ (noticePretreat g s).reports = s.reports := by
  unfold noticePretreat
  try dsimp only
  (repeat' split) <;> simp

@[simp] theorem noticePress_frame (g : Fin 32) (s : State) :
    (noticePress g s).pending = s.pending ∧ (noticePress g s).clock = s.clock ∧ (noticePress g s).pins = s.pins ∧
    (noticePress g s).captures = s.captures ∧ (noticePress g s).buttons = s.buttons ∧ (noticePress g s).ctl = s.ctl ∧
    (noticePress g s).config = s.config ∧ (noticePress g s).catalog = s.catalog ∧ (noticePress g s).lines = s.lines ∧
    (noticePress g s).accepted = s.accepted ∧ (noticePress g s).garments = s.garments ∧
    (noticePress g s).pretreat = s.pretreat ∧ (noticePress g s).engine = s.engine ∧
    (noticePress g s).staging = s.staging ∧ (noticePress g s).port = s.port ∧ (noticePress g s).prints = s.prints ∧
    (noticePress g s).lanes = s.lanes ∧ (noticePress g s).flash = s.flash ∧ (noticePress g s).dryer = s.dryer ∧
    (noticePress g s).pack = s.pack ∧ (noticePress g s).link = s.link ∧ (noticePress g s).exch = s.exch ∧
    (noticePress g s).reports = s.reports := by
  unfold noticePress
  try dsimp only
  (repeat' split) <;> simp

@[simp] theorem noticeExposure_frame (g : Fin 32) (n : Notice) (s : State) :
    (noticeExposure g n s).pending = s.pending ∧ (noticeExposure g n s).clock = s.clock ∧
    (noticeExposure g n s).pins = s.pins ∧ (noticeExposure g n s).captures = s.captures ∧
    (noticeExposure g n s).buttons = s.buttons ∧ (noticeExposure g n s).ctl = s.ctl ∧
    (noticeExposure g n s).config = s.config ∧ (noticeExposure g n s).catalog = s.catalog ∧
    (noticeExposure g n s).lines = s.lines ∧ (noticeExposure g n s).accepted = s.accepted ∧
    (noticeExposure g n s).pretreat = s.pretreat ∧ (noticeExposure g n s).press = s.press ∧
    (noticeExposure g n s).engine = s.engine ∧ (noticeExposure g n s).staging = s.staging ∧
    (noticeExposure g n s).port = s.port ∧ (noticeExposure g n s).prints = s.prints ∧
    (noticeExposure g n s).lanes = s.lanes ∧ (noticeExposure g n s).dryer = s.dryer ∧
    (noticeExposure g n s).pack = s.pack ∧ (noticeExposure g n s).exch = s.exch ∧
    (noticeExposure g n s).reports = s.reports := by
  unfold noticeExposure
  try dsimp only
  (repeat' split) <;> simp

@[simp] theorem noticeFlash_frame (g : GarmentId) (n : Notice) (s : State) :
    (noticeFlash g n s).pending = s.pending ∧ (noticeFlash g n s).clock = s.clock ∧
    (noticeFlash g n s).pins = s.pins ∧ (noticeFlash g n s).captures = s.captures ∧
    (noticeFlash g n s).buttons = s.buttons ∧ (noticeFlash g n s).ctl = s.ctl ∧
    (noticeFlash g n s).config = s.config ∧ (noticeFlash g n s).catalog = s.catalog ∧
    (noticeFlash g n s).lines = s.lines ∧ (noticeFlash g n s).accepted = s.accepted ∧
    (noticeFlash g n s).pretreat = s.pretreat ∧ (noticeFlash g n s).press = s.press ∧
    (noticeFlash g n s).engine = s.engine ∧ (noticeFlash g n s).staging = s.staging ∧
    (noticeFlash g n s).port = s.port ∧ (noticeFlash g n s).prints = s.prints ∧ (noticeFlash g n s).lanes = s.lanes ∧
    (noticeFlash g n s).dryer = s.dryer ∧ (noticeFlash g n s).pack = s.pack ∧ (noticeFlash g n s).exch = s.exch ∧
    (noticeFlash g n s).reports = s.reports := by
  unfold noticeFlash
  try dsimp only
  (repeat' split) <;> simp

end Sys2Proof.Machine
end

