-- ==== Sys2Proof/Laws/Frame2.lean ====
section
/-! SUPPORT. What every operation of GarmentOps, CutOps, ArrivalOps, DryerOps, MatchOps, PackOps leaves unchanged: one lemma per operation, a conjunction over the
fields it never touches. -/

namespace Sys2Proof.Machine

@[simp] theorem noticeFetch_frame (g : GarmentId) (n : Notice) (s : State) :
    (noticeFetch g n s).pending = s.pending ∧ (noticeFetch g n s).clock = s.clock ∧
    (noticeFetch g n s).pins = s.pins ∧ (noticeFetch g n s).captures = s.captures ∧
    (noticeFetch g n s).buttons = s.buttons ∧ (noticeFetch g n s).ctl = s.ctl ∧
    (noticeFetch g n s).config = s.config ∧ (noticeFetch g n s).catalog = s.catalog ∧
    (noticeFetch g n s).lines = s.lines ∧ (noticeFetch g n s).accepted = s.accepted ∧
    (noticeFetch g n s).garments = s.garments ∧ (noticeFetch g n s).carousel = s.carousel ∧
    (noticeFetch g n s).pretreat = s.pretreat ∧ (noticeFetch g n s).press = s.press ∧
    (noticeFetch g n s).staging = s.staging ∧ (noticeFetch g n s).port = s.port ∧
    (noticeFetch g n s).prints = s.prints ∧ (noticeFetch g n s).lanes = s.lanes ∧
    (noticeFetch g n s).flash = s.flash ∧ (noticeFetch g n s).dryer = s.dryer ∧ (noticeFetch g n s).pack = s.pack ∧
    (noticeFetch g n s).link = s.link ∧ (noticeFetch g n s).exch = s.exch ∧ (noticeFetch g n s).reports = s.reports := by
  unfold noticeFetch
  try dsimp only
  (repeat' split) <;> simp

@[simp] theorem noticeAll_frame (g : Fin 32) (r : Garment) (n : Notice) (s : State) :
    (noticeAll g r n s).pending = s.pending ∧ (noticeAll g r n s).clock = s.clock ∧
    (noticeAll g r n s).pins = s.pins ∧ (noticeAll g r n s).captures = s.captures ∧
    (noticeAll g r n s).buttons = s.buttons ∧ (noticeAll g r n s).ctl = s.ctl ∧
    (noticeAll g r n s).config = s.config ∧ (noticeAll g r n s).catalog = s.catalog ∧
    (noticeAll g r n s).lines = s.lines ∧ (noticeAll g r n s).accepted = s.accepted ∧
    (noticeAll g r n s).staging = s.staging ∧ (noticeAll g r n s).port = s.port ∧
    (noticeAll g r n s).dryer = s.dryer ∧ (noticeAll g r n s).pack = s.pack ∧ (noticeAll g r n s).exch = s.exch ∧
    (noticeAll g r n s).reports = s.reports := by
  unfold noticeAll
  try dsimp only
  (repeat' split) <;> simp

@[simp] theorem failCounted_frame (g : Fin 32) (r : Garment) (code : FaultCode) (s : State) :
    (failCounted g r code s).pending = s.pending ∧ (failCounted g r code s).clock = s.clock ∧
    (failCounted g r code s).pins = s.pins ∧ (failCounted g r code s).captures = s.captures ∧
    (failCounted g r code s).buttons = s.buttons ∧ (failCounted g r code s).ctl = s.ctl ∧
    (failCounted g r code s).config = s.config ∧ (failCounted g r code s).catalog = s.catalog ∧
    (failCounted g r code s).staging = s.staging ∧ (failCounted g r code s).port = s.port ∧
    (failCounted g r code s).dryer = s.dryer ∧ (failCounted g r code s).exch = s.exch := by
  unfold failCounted ifCurrent
  try dsimp only
  (repeat' split) <;> simp

@[simp] theorem failOp_frame (g : Fin 32) (code : FaultCode) (s : State) :
    (failOp g code s).pending = s.pending ∧ (failOp g code s).clock = s.clock ∧ (failOp g code s).pins = s.pins ∧
    (failOp g code s).captures = s.captures ∧ (failOp g code s).buttons = s.buttons ∧ (failOp g code s).ctl = s.ctl ∧
    (failOp g code s).config = s.config ∧ (failOp g code s).catalog = s.catalog ∧
    (failOp g code s).staging = s.staging ∧ (failOp g code s).port = s.port ∧ (failOp g code s).dryer = s.dryer ∧
    (failOp g code s).exch = s.exch := by
  unfold failOp
  try dsimp only
  (repeat' split) <;> simp

@[simp] theorem stripGarment_frame (g : Fin 32) (r : Garment) (s : State) :
    (stripGarment g r s).pending = s.pending ∧ (stripGarment g r s).clock = s.clock ∧
    (stripGarment g r s).pins = s.pins ∧ (stripGarment g r s).captures = s.captures ∧
    (stripGarment g r s).buttons = s.buttons ∧ (stripGarment g r s).ctl = s.ctl ∧
    (stripGarment g r s).config = s.config ∧ (stripGarment g r s).catalog = s.catalog ∧
    (stripGarment g r s).staging = s.staging ∧ (stripGarment g r s).port = s.port ∧
    (stripGarment g r s).dryer = s.dryer ∧ (stripGarment g r s).exch = s.exch := by
  unfold stripGarment ifCurrent
  try dsimp only
  (repeat' split) <;> simp

@[simp] theorem carryGarment_frame (g : Fin 32) (r : Garment) (s : State) :
    (carryGarment g r s).pending = s.pending ∧ (carryGarment g r s).clock = s.clock ∧
    (carryGarment g r s).pins = s.pins ∧ (carryGarment g r s).captures = s.captures ∧
    (carryGarment g r s).buttons = s.buttons ∧ (carryGarment g r s).ctl = s.ctl ∧
    (carryGarment g r s).config = s.config ∧ (carryGarment g r s).catalog = s.catalog ∧
    (carryGarment g r s).lines = s.lines ∧ (carryGarment g r s).accepted = s.accepted ∧
    (carryGarment g r s).staging = s.staging ∧ (carryGarment g r s).port = s.port ∧
    (carryGarment g r s).dryer = s.dryer ∧ (carryGarment g r s).pack = s.pack ∧ (carryGarment g r s).exch = s.exch ∧
    (carryGarment g r s).reports = s.reports := by
  unfold carryGarment
  try dsimp only
  (repeat' split) <;> simp

@[simp] theorem voidGarment_frame (slot : Fin 128) (take : Byte) (s : State) (g : Fin 32) :
    (voidGarment slot take s g).pending = s.pending ∧ (voidGarment slot take s g).clock = s.clock ∧
    (voidGarment slot take s g).pins = s.pins ∧ (voidGarment slot take s g).captures = s.captures ∧
    (voidGarment slot take s g).buttons = s.buttons ∧ (voidGarment slot take s g).ctl = s.ctl ∧
    (voidGarment slot take s g).config = s.config ∧ (voidGarment slot take s g).catalog = s.catalog ∧
    (voidGarment slot take s g).staging = s.staging ∧ (voidGarment slot take s g).port = s.port ∧
    (voidGarment slot take s g).dryer = s.dryer ∧ (voidGarment slot take s g).exch = s.exch := by
  unfold voidGarment
  try dsimp only
  (repeat' split) <;> simp

@[simp] theorem voidGarments_frame (slot : Fin 128) (s : State) :
    (voidGarments slot s).pending = s.pending ∧ (voidGarments slot s).clock = s.clock ∧
    (voidGarments slot s).pins = s.pins ∧ (voidGarments slot s).captures = s.captures ∧
    (voidGarments slot s).buttons = s.buttons ∧ (voidGarments slot s).ctl = s.ctl ∧
    (voidGarments slot s).config = s.config ∧ (voidGarments slot s).catalog = s.catalog ∧
    (voidGarments slot s).staging = s.staging ∧ (voidGarments slot s).port = s.port ∧
    (voidGarments slot s).dryer = s.dryer ∧ (voidGarments slot s).exch = s.exch := by
  unfold voidGarments
  try dsimp only
  (repeat' split) <;> simp

@[simp] theorem closeVoid_frame (slot : Fin 128) (s : State) :
    (closeVoid slot s).pending = s.pending ∧ (closeVoid slot s).clock = s.clock ∧ (closeVoid slot s).pins = s.pins ∧
    (closeVoid slot s).captures = s.captures ∧ (closeVoid slot s).buttons = s.buttons ∧
    (closeVoid slot s).ctl = s.ctl ∧ (closeVoid slot s).config = s.config ∧ (closeVoid slot s).catalog = s.catalog ∧
    (closeVoid slot s).accepted = s.accepted ∧ (closeVoid slot s).garments = s.garments ∧
    (closeVoid slot s).carousel = s.carousel ∧ (closeVoid slot s).pretreat = s.pretreat ∧
    (closeVoid slot s).press = s.press ∧ (closeVoid slot s).engine = s.engine ∧
    (closeVoid slot s).staging = s.staging ∧ (closeVoid slot s).port = s.port ∧ (closeVoid slot s).prints = s.prints ∧
    (closeVoid slot s).lanes = s.lanes ∧ (closeVoid slot s).flash = s.flash ∧ (closeVoid slot s).dryer = s.dryer ∧
    (closeVoid slot s).pack = s.pack ∧ (closeVoid slot s).link = s.link ∧ (closeVoid slot s).exch = s.exch := by
  unfold closeVoid
  try dsimp only
  (repeat' split) <;> simp

@[simp] theorem voidLine_frame (slot : Fin 128) (s : State) :
    (voidLine slot s).pending = s.pending ∧ (voidLine slot s).clock = s.clock ∧ (voidLine slot s).pins = s.pins ∧
    (voidLine slot s).captures = s.captures ∧ (voidLine slot s).buttons = s.buttons ∧ (voidLine slot s).ctl = s.ctl ∧
    (voidLine slot s).config = s.config ∧ (voidLine slot s).catalog = s.catalog ∧
    (voidLine slot s).staging = s.staging ∧ (voidLine slot s).port = s.port ∧ (voidLine slot s).dryer = s.dryer ∧
    (voidLine slot s).exch = s.exch := by
  unfold voidLine
  try dsimp only
  (repeat' split) <;> simp

@[simp] theorem raisePassCut_frame (detail row : Nat) (s : State) :
    (raisePassCut detail row s).pending = s.pending ∧ (raisePassCut detail row s).clock = s.clock ∧
    (raisePassCut detail row s).pins = s.pins ∧ (raisePassCut detail row s).captures = s.captures ∧
    (raisePassCut detail row s).buttons = s.buttons ∧ (raisePassCut detail row s).ctl = s.ctl ∧
    (raisePassCut detail row s).config = s.config ∧ (raisePassCut detail row s).catalog = s.catalog ∧
    (raisePassCut detail row s).lines = s.lines ∧ (raisePassCut detail row s).accepted = s.accepted ∧
    (raisePassCut detail row s).garments = s.garments ∧ (raisePassCut detail row s).carousel = s.carousel ∧
    (raisePassCut detail row s).pretreat = s.pretreat ∧ (raisePassCut detail row s).press = s.press ∧
    (raisePassCut detail row s).engine = s.engine ∧ (raisePassCut detail row s).staging = s.staging ∧
    (raisePassCut detail row s).port = s.port ∧ (raisePassCut detail row s).prints = s.prints ∧
    (raisePassCut detail row s).lanes = s.lanes ∧ (raisePassCut detail row s).flash = s.flash ∧
    (raisePassCut detail row s).dryer = s.dryer ∧ (raisePassCut detail row s).pack = s.pack ∧
    (raisePassCut detail row s).link = s.link ∧ (raisePassCut detail row s).exch = s.exch := by
  unfold raisePassCut
  try dsimp only
  (repeat' split) <;> simp

@[simp] theorem markPretreat_frame (g : Fin 32) (m : Mark) (s : State) :
    (markPretreat g m s).pending = s.pending ∧ (markPretreat g m s).clock = s.clock ∧
    (markPretreat g m s).pins = s.pins ∧ (markPretreat g m s).captures = s.captures ∧
    (markPretreat g m s).buttons = s.buttons ∧ (markPretreat g m s).ctl = s.ctl ∧
    (markPretreat g m s).config = s.config ∧ (markPretreat g m s).catalog = s.catalog ∧
    (markPretreat g m s).lines = s.lines ∧ (markPretreat g m s).accepted = s.accepted ∧
    (markPretreat g m s).carousel = s.carousel ∧ (markPretreat g m s).pretreat = s.pretreat ∧
    (markPretreat g m s).press = s.press ∧ (markPretreat g m s).engine = s.engine ∧
    (markPretreat g m s).staging = s.staging ∧ (markPretreat g m s).port = s.port ∧
    (markPretreat g m s).prints = s.prints ∧ (markPretreat g m s).lanes = s.lanes ∧
    (markPretreat g m s).flash = s.flash ∧ (markPretreat g m s).dryer = s.dryer ∧ (markPretreat g m s).pack = s.pack ∧
    (markPretreat g m s).link = s.link ∧ (markPretreat g m s).exch = s.exch ∧ (markPretreat g m s).reports = s.reports := by
  unfold markPretreat
  try dsimp only
  (repeat' split) <;> simp

@[simp] theorem failPass_frame (j : Job) (detail row : Nat) (s : State) :
    (failPass j detail row s).pending = s.pending ∧ (failPass j detail row s).clock = s.clock ∧
    (failPass j detail row s).pins = s.pins ∧ (failPass j detail row s).captures = s.captures ∧
    (failPass j detail row s).buttons = s.buttons ∧ (failPass j detail row s).ctl = s.ctl ∧
    (failPass j detail row s).config = s.config ∧ (failPass j detail row s).catalog = s.catalog ∧
    (failPass j detail row s).staging = s.staging ∧ (failPass j detail row s).port = s.port ∧
    (failPass j detail row s).dryer = s.dryer ∧ (failPass j detail row s).exch = s.exch := by
  unfold failPass
  try dsimp only
  (repeat' split) <;> simp

@[simp] theorem stopSpray_frame (s : State) :
    (stopSpray s).pending = s.pending ∧ (stopSpray s).clock = s.clock ∧ (stopSpray s).pins = s.pins ∧
    (stopSpray s).captures = s.captures ∧ (stopSpray s).buttons = s.buttons ∧ (stopSpray s).ctl = s.ctl ∧
    (stopSpray s).config = s.config ∧ (stopSpray s).catalog = s.catalog ∧ (stopSpray s).lines = s.lines ∧
    (stopSpray s).accepted = s.accepted ∧ (stopSpray s).garments = s.garments ∧ (stopSpray s).carousel = s.carousel ∧
    (stopSpray s).pretreat = s.pretreat ∧ (stopSpray s).press = s.press ∧ (stopSpray s).engine = s.engine ∧
    (stopSpray s).staging = s.staging ∧ (stopSpray s).port = s.port ∧ (stopSpray s).prints = s.prints ∧
    (stopSpray s).lanes = s.lanes ∧ (stopSpray s).flash = s.flash ∧ (stopSpray s).dryer = s.dryer ∧
    (stopSpray s).pack = s.pack ∧ (stopSpray s).exch = s.exch ∧ (stopSpray s).reports = s.reports := by
  unfold stopSpray
  try dsimp only
  (repeat' split) <;> simp

@[simp] theorem passCut_frame (detail : Nat) (s : State) :
    (passCut detail s).pending = s.pending ∧ (passCut detail s).clock = s.clock ∧ (passCut detail s).pins = s.pins ∧
    (passCut detail s).captures = s.captures ∧ (passCut detail s).buttons = s.buttons ∧
    (passCut detail s).ctl = s.ctl ∧ (passCut detail s).config = s.config ∧ (passCut detail s).catalog = s.catalog ∧
    (passCut detail s).staging = s.staging ∧ (passCut detail s).port = s.port ∧ (passCut detail s).dryer = s.dryer ∧
    (passCut detail s).exch = s.exch := by
  unfold passCut
  try dsimp only
  (repeat' split) <;> simp

@[simp] theorem passComplete_frame (s : State) :
    (passComplete s).pending = s.pending ∧ (passComplete s).clock = s.clock ∧ (passComplete s).pins = s.pins ∧
    (passComplete s).captures = s.captures ∧ (passComplete s).buttons = s.buttons ∧ (passComplete s).ctl = s.ctl ∧
    (passComplete s).config = s.config ∧ (passComplete s).catalog = s.catalog ∧ (passComplete s).staging = s.staging ∧
    (passComplete s).port = s.port ∧ (passComplete s).dryer = s.dryer ∧ (passComplete s).exch = s.exch := by
  unfold passComplete
  try dsimp only
  (repeat' split) <;> simp

@[simp] theorem passDone_frame (s : State) :
    (passDone s).pending = s.pending ∧ (passDone s).clock = s.clock ∧ (passDone s).pins = s.pins ∧
    (passDone s).captures = s.captures ∧ (passDone s).buttons = s.buttons ∧ (passDone s).ctl = s.ctl ∧
    (passDone s).config = s.config ∧ (passDone s).catalog = s.catalog ∧ (passDone s).staging = s.staging ∧
    (passDone s).port = s.port ∧ (passDone s).dryer = s.dryer ∧ (passDone s).exch = s.exch := by
  unfold passDone
  try dsimp only
  (repeat' split) <;> simp

@[simp] theorem raisePressSkipped_frame (g : Fin 32) (detail : Nat) (s : State) :
    (raisePressSkipped g detail s).pending = s.pending ∧ (raisePressSkipped g detail s).clock = s.clock ∧
    (raisePressSkipped g detail s).pins = s.pins ∧ (raisePressSkipped g detail s).captures = s.captures ∧
    (raisePressSkipped g detail s).buttons = s.buttons ∧ (raisePressSkipped g detail s).ctl = s.ctl ∧
    (raisePressSkipped g detail s).config = s.config ∧ (raisePressSkipped g detail s).catalog = s.catalog ∧
    (raisePressSkipped g detail s).lines = s.lines ∧ (raisePressSkipped g detail s).accepted = s.accepted ∧
    (raisePressSkipped g detail s).garments = s.garments ∧ (raisePressSkipped g detail s).carousel = s.carousel ∧
    (raisePressSkipped g detail s).pretreat = s.pretreat ∧ (raisePressSkipped g detail s).press = s.press ∧
    (raisePressSkipped g detail s).engine = s.engine ∧ (raisePressSkipped g detail s).staging = s.staging ∧
    (raisePressSkipped g detail s).port = s.port ∧ (raisePressSkipped g detail s).prints = s.prints ∧
    (raisePressSkipped g detail s).lanes = s.lanes ∧ (raisePressSkipped g detail s).flash = s.flash ∧
    (raisePressSkipped g detail s).dryer = s.dryer ∧ (raisePressSkipped g detail s).pack = s.pack ∧
    (raisePressSkipped g detail s).link = s.link ∧ (raisePressSkipped g detail s).exch = s.exch := by
  unfold raisePressSkipped
  try dsimp only
  (repeat' split) <;> simp

@[simp] theorem skipPress_frame (j : Job) (detail : Nat) (s : State) :
    (skipPress j detail s).pending = s.pending ∧ (skipPress j detail s).clock = s.clock ∧
    (skipPress j detail s).pins = s.pins ∧ (skipPress j detail s).captures = s.captures ∧
    (skipPress j detail s).buttons = s.buttons ∧ (skipPress j detail s).ctl = s.ctl ∧
    (skipPress j detail s).config = s.config ∧ (skipPress j detail s).catalog = s.catalog ∧
    (skipPress j detail s).lines = s.lines ∧ (skipPress j detail s).accepted = s.accepted ∧
    (skipPress j detail s).pretreat = s.pretreat ∧ (skipPress j detail s).engine = s.engine ∧
    (skipPress j detail s).staging = s.staging ∧ (skipPress j detail s).port = s.port ∧
    (skipPress j detail s).prints = s.prints ∧ (skipPress j detail s).lanes = s.lanes ∧
    (skipPress j detail s).flash = s.flash ∧ (skipPress j detail s).dryer = s.dryer ∧
    (skipPress j detail s).pack = s.pack ∧ (skipPress j detail s).link = s.link ∧ (skipPress j detail s).exch = s.exch := by
  unfold skipPress
  try dsimp only
  (repeat' split) <;> simp

@[simp] theorem pressCut_frame (detail : Nat) (s : State) :
    (pressCut detail s).pending = s.pending ∧ (pressCut detail s).clock = s.clock ∧
    (pressCut detail s).pins = s.pins ∧ (pressCut detail s).captures = s.captures ∧
    (pressCut detail s).buttons = s.buttons ∧ (pressCut detail s).ctl = s.ctl ∧
    (pressCut detail s).config = s.config ∧ (pressCut detail s).catalog = s.catalog ∧
    (pressCut detail s).lines = s.lines ∧ (pressCut detail s).accepted = s.accepted ∧
    (pressCut detail s).pretreat = s.pretreat ∧ (pressCut detail s).engine = s.engine ∧
    (pressCut detail s).staging = s.staging ∧ (pressCut detail s).port = s.port ∧
    (pressCut detail s).prints = s.prints ∧ (pressCut detail s).lanes = s.lanes ∧
    (pressCut detail s).flash = s.flash ∧ (pressCut detail s).dryer = s.dryer ∧ (pressCut detail s).pack = s.pack ∧
    (pressCut detail s).exch = s.exch := by
  unfold pressCut
  try dsimp only
  (repeat' split) <;> simp

@[simp] theorem pressComplete_frame (s : State) :
    (pressComplete s).pending = s.pending ∧ (pressComplete s).clock = s.clock ∧ (pressComplete s).pins = s.pins ∧
    (pressComplete s).captures = s.captures ∧ (pressComplete s).buttons = s.buttons ∧ (pressComplete s).ctl = s.ctl ∧
    (pressComplete s).config = s.config ∧ (pressComplete s).catalog = s.catalog ∧ (pressComplete s).lines = s.lines ∧
    (pressComplete s).accepted = s.accepted ∧ (pressComplete s).pretreat = s.pretreat ∧
    (pressComplete s).engine = s.engine ∧ (pressComplete s).staging = s.staging ∧ (pressComplete s).port = s.port ∧
    (pressComplete s).prints = s.prints ∧ (pressComplete s).lanes = s.lanes ∧ (pressComplete s).flash = s.flash ∧
    (pressComplete s).dryer = s.dryer ∧ (pressComplete s).pack = s.pack ∧ (pressComplete s).link = s.link ∧
    (pressComplete s).exch = s.exch ∧ (pressComplete s).reports = s.reports := by
  unfold pressComplete
  try dsimp only
  (repeat' split) <;> simp

@[simp] theorem raisePrintCut_frame (u : Printer) (g : Fin 32) (cause swath : Nat) (s : State) :
    (raisePrintCut u g cause swath s).pending = s.pending ∧ (raisePrintCut u g cause swath s).clock = s.clock ∧
    (raisePrintCut u g cause swath s).pins = s.pins ∧ (raisePrintCut u g cause swath s).captures = s.captures ∧
    (raisePrintCut u g cause swath s).buttons = s.buttons ∧ (raisePrintCut u g cause swath s).ctl = s.ctl ∧
    (raisePrintCut u g cause swath s).config = s.config ∧ (raisePrintCut u g cause swath s).catalog = s.catalog ∧
    (raisePrintCut u g cause swath s).lines = s.lines ∧ (raisePrintCut u g cause swath s).accepted = s.accepted ∧
    (raisePrintCut u g cause swath s).garments = s.garments ∧
    (raisePrintCut u g cause swath s).carousel = s.carousel ∧
    (raisePrintCut u g cause swath s).pretreat = s.pretreat ∧ (raisePrintCut u g cause swath s).press = s.press ∧
    (raisePrintCut u g cause swath s).engine = s.engine ∧ (raisePrintCut u g cause swath s).staging = s.staging ∧
    (raisePrintCut u g cause swath s).port = s.port ∧ (raisePrintCut u g cause swath s).prints = s.prints ∧
    (raisePrintCut u g cause swath s).lanes = s.lanes ∧ (raisePrintCut u g cause swath s).flash = s.flash ∧
    (raisePrintCut u g cause swath s).dryer = s.dryer ∧ (raisePrintCut u g cause swath s).pack = s.pack ∧
    (raisePrintCut u g cause swath s).link = s.link ∧ (raisePrintCut u g cause swath s).exch = s.exch := by
  unfold raisePrintCut
  try dsimp only
  (repeat' split) <;> simp

@[simp] theorem haltPrint_frame (u : Printer) (j : PrintJob) (s : State) :
    (haltPrint u j s).pending = s.pending ∧ (haltPrint u j s).clock = s.clock ∧ (haltPrint u j s).pins = s.pins ∧
    (haltPrint u j s).captures = s.captures ∧ (haltPrint u j s).buttons = s.buttons ∧ (haltPrint u j s).ctl = s.ctl ∧
    (haltPrint u j s).config = s.config ∧ (haltPrint u j s).catalog = s.catalog ∧ (haltPrint u j s).lines = s.lines ∧
    (haltPrint u j s).accepted = s.accepted ∧ (haltPrint u j s).carousel = s.carousel ∧
    (haltPrint u j s).pretreat = s.pretreat ∧ (haltPrint u j s).press = s.press ∧
    (haltPrint u j s).staging = s.staging ∧ (haltPrint u j s).port = s.port ∧ (haltPrint u j s).flash = s.flash ∧
    (haltPrint u j s).dryer = s.dryer ∧ (haltPrint u j s).pack = s.pack ∧ (haltPrint u j s).link = s.link ∧
    (haltPrint u j s).exch = s.exch ∧ (haltPrint u j s).reports = s.reports := by
  unfold haltPrint
  try dsimp only
  (repeat' split) <;> simp

@[simp] theorem dropPrint_frame (u : Printer) (j : PrintJob) (code : FaultCode) (s : State) :
    (dropPrint u j code s).pending = s.pending ∧ (dropPrint u j code s).clock = s.clock ∧
    (dropPrint u j code s).pins = s.pins ∧ (dropPrint u j code s).captures = s.captures ∧
    (dropPrint u j code s).buttons = s.buttons ∧ (dropPrint u j code s).ctl = s.ctl ∧
    (dropPrint u j code s).config = s.config ∧ (dropPrint u j code s).catalog = s.catalog ∧
    (dropPrint u j code s).staging = s.staging ∧ (dropPrint u j code s).port = s.port ∧
    (dropPrint u j code s).dryer = s.dryer ∧ (dropPrint u j code s).exch = s.exch := by
  unfold dropPrint
  try dsimp only
  (repeat' split) <;> simp

@[simp] theorem printCut_frame (u : Printer) (cause : Nat) (s : State) :
    (printCut u cause s).pending = s.pending ∧ (printCut u cause s).clock = s.clock ∧
    (printCut u cause s).pins = s.pins ∧ (printCut u cause s).captures = s.captures ∧
    (printCut u cause s).buttons = s.buttons ∧ (printCut u cause s).ctl = s.ctl ∧
    (printCut u cause s).config = s.config ∧ (printCut u cause s).catalog = s.catalog ∧
    (printCut u cause s).staging = s.staging ∧ (printCut u cause s).port = s.port ∧
    (printCut u cause s).dryer = s.dryer ∧ (printCut u cause s).exch = s.exch := by
  unfold printCut
  try dsimp only
  (repeat' split) <;> simp

@[simp] theorem lanesOff_frame (u : Printer) (s : State) :
    (lanesOff u s).pending = s.pending ∧ (lanesOff u s).clock = s.clock ∧ (lanesOff u s).pins = s.pins ∧
    (lanesOff u s).captures = s.captures ∧ (lanesOff u s).buttons = s.buttons ∧ (lanesOff u s).ctl = s.ctl ∧
    (lanesOff u s).config = s.config ∧ (lanesOff u s).catalog = s.catalog ∧ (lanesOff u s).lines = s.lines ∧
    (lanesOff u s).accepted = s.accepted ∧ (lanesOff u s).garments = s.garments ∧
    (lanesOff u s).carousel = s.carousel ∧ (lanesOff u s).pretreat = s.pretreat ∧ (lanesOff u s).press = s.press ∧
    (lanesOff u s).engine = s.engine ∧ (lanesOff u s).staging = s.staging ∧ (lanesOff u s).port = s.port ∧
    (lanesOff u s).prints = s.prints ∧ (lanesOff u s).flash = s.flash ∧ (lanesOff u s).dryer = s.dryer ∧
    (lanesOff u s).pack = s.pack ∧ (lanesOff u s).link = s.link ∧ (lanesOff u s).exch = s.exch ∧
    (lanesOff u s).reports = s.reports := by
  unfold lanesOff
  try dsimp only
  (repeat' split) <;> simp

@[simp] theorem nextSwath_frame (u : Printer) (s : State) :
    (nextSwath u s).pending = s.pending ∧ (nextSwath u s).clock = s.clock ∧ (nextSwath u s).pins = s.pins ∧
    (nextSwath u s).captures = s.captures ∧ (nextSwath u s).buttons = s.buttons ∧ (nextSwath u s).ctl = s.ctl ∧
    (nextSwath u s).config = s.config ∧ (nextSwath u s).catalog = s.catalog ∧ (nextSwath u s).lines = s.lines ∧
    (nextSwath u s).accepted = s.accepted ∧ (nextSwath u s).garments = s.garments ∧
    (nextSwath u s).carousel = s.carousel ∧ (nextSwath u s).pretreat = s.pretreat ∧ (nextSwath u s).press = s.press ∧
    (nextSwath u s).engine = s.engine ∧ (nextSwath u s).staging = s.staging ∧ (nextSwath u s).port = s.port ∧
    (nextSwath u s).lanes = s.lanes ∧ (nextSwath u s).flash = s.flash ∧ (nextSwath u s).dryer = s.dryer ∧
    (nextSwath u s).pack = s.pack ∧ (nextSwath u s).link = s.link ∧ (nextSwath u s).exch = s.exch ∧
    (nextSwath u s).reports = s.reports := by
  unfold nextSwath
  try dsimp only
  (repeat' split) <;> simp

@[simp] theorem swathDone_frame (u : Printer) (j : PrintJob) (s : State) :
    (swathDone u j s).pending = s.pending ∧ (swathDone u j s).clock = s.clock ∧ (swathDone u j s).pins = s.pins ∧
    (swathDone u j s).captures = s.captures ∧ (swathDone u j s).buttons = s.buttons ∧ (swathDone u j s).ctl = s.ctl ∧
    (swathDone u j s).config = s.config ∧ (swathDone u j s).catalog = s.catalog ∧ (swathDone u j s).lines = s.lines ∧
    (swathDone u j s).accepted = s.accepted ∧ (swathDone u j s).pretreat = s.pretreat ∧
    (swathDone u j s).press = s.press ∧ (swathDone u j s).staging = s.staging ∧ (swathDone u j s).port = s.port ∧
    (swathDone u j s).flash = s.flash ∧ (swathDone u j s).dryer = s.dryer ∧ (swathDone u j s).pack = s.pack ∧
    (swathDone u j s).link = s.link ∧ (swathDone u j s).exch = s.exch ∧ (swathDone u j s).reports = s.reports := by
  unfold swathDone
  try dsimp only
  (repeat' split) <;> simp

@[simp] theorem judgeSwath_frame (u : Printer) (s : State) :
    (judgeSwath u s).pending = s.pending ∧ (judgeSwath u s).clock = s.clock ∧ (judgeSwath u s).pins = s.pins ∧
    (judgeSwath u s).captures = s.captures ∧ (judgeSwath u s).buttons = s.buttons ∧ (judgeSwath u s).ctl = s.ctl ∧
    (judgeSwath u s).config = s.config ∧ (judgeSwath u s).catalog = s.catalog ∧ (judgeSwath u s).staging = s.staging ∧
    (judgeSwath u s).port = s.port ∧ (judgeSwath u s).dryer = s.dryer ∧ (judgeSwath u s).exch = s.exch := by
  unfold judgeSwath
  try dsimp only
  (repeat' split) <;> simp

@[simp] theorem raiseFlashCut_frame (g : Fin 32) (cause : Nat) (s : State) :
    (raiseFlashCut g cause s).pending = s.pending ∧ (raiseFlashCut g cause s).clock = s.clock ∧
    (raiseFlashCut g cause s).pins = s.pins ∧ (raiseFlashCut g cause s).captures = s.captures ∧
    (raiseFlashCut g cause s).buttons = s.buttons ∧ (raiseFlashCut g cause s).ctl = s.ctl ∧
    (raiseFlashCut g cause s).config = s.config ∧ (raiseFlashCut g cause s).catalog = s.catalog ∧
    (raiseFlashCut g cause s).lines = s.lines ∧ (raiseFlashCut g cause s).accepted = s.accepted ∧
    (raiseFlashCut g cause s).garments = s.garments ∧ (raiseFlashCut g cause s).carousel = s.carousel ∧
    (raiseFlashCut g cause s).pretreat = s.pretreat ∧ (raiseFlashCut g cause s).press = s.press ∧
    (raiseFlashCut g cause s).engine = s.engine ∧ (raiseFlashCut g cause s).staging = s.staging ∧
    (raiseFlashCut g cause s).port = s.port ∧ (raiseFlashCut g cause s).prints = s.prints ∧
    (raiseFlashCut g cause s).lanes = s.lanes ∧ (raiseFlashCut g cause s).flash = s.flash ∧
    (raiseFlashCut g cause s).dryer = s.dryer ∧ (raiseFlashCut g cause s).pack = s.pack ∧
    (raiseFlashCut g cause s).link = s.link ∧ (raiseFlashCut g cause s).exch = s.exch := by
  unfold raiseFlashCut
  try dsimp only
  (repeat' split) <;> simp

@[simp] theorem markFlash_frame (g : Fin 32) (m : Mark) (s : State) :
    (markFlash g m s).pending = s.pending ∧ (markFlash g m s).clock = s.clock ∧ (markFlash g m s).pins = s.pins ∧
    (markFlash g m s).captures = s.captures ∧ (markFlash g m s).buttons = s.buttons ∧ (markFlash g m s).ctl = s.ctl ∧
    (markFlash g m s).config = s.config ∧ (markFlash g m s).catalog = s.catalog ∧ (markFlash g m s).lines = s.lines ∧
    (markFlash g m s).accepted = s.accepted ∧ (markFlash g m s).carousel = s.carousel ∧
    (markFlash g m s).pretreat = s.pretreat ∧ (markFlash g m s).press = s.press ∧
    (markFlash g m s).engine = s.engine ∧ (markFlash g m s).staging = s.staging ∧ (markFlash g m s).port = s.port ∧
    (markFlash g m s).prints = s.prints ∧ (markFlash g m s).lanes = s.lanes ∧ (markFlash g m s).flash = s.flash ∧
    (markFlash g m s).dryer = s.dryer ∧ (markFlash g m s).pack = s.pack ∧ (markFlash g m s).link = s.link ∧
    (markFlash g m s).exch = s.exch ∧ (markFlash g m s).reports = s.reports := by
  unfold markFlash
  try dsimp only
  (repeat' split) <;> simp

@[simp] theorem flashCut_frame (cause : Nat) (s : State) :
    (flashCut cause s).pending = s.pending ∧ (flashCut cause s).clock = s.clock ∧ (flashCut cause s).pins = s.pins ∧
    (flashCut cause s).captures = s.captures ∧ (flashCut cause s).buttons = s.buttons ∧
    (flashCut cause s).ctl = s.ctl ∧ (flashCut cause s).config = s.config ∧ (flashCut cause s).catalog = s.catalog ∧
    (flashCut cause s).staging = s.staging ∧ (flashCut cause s).port = s.port ∧ (flashCut cause s).dryer = s.dryer ∧
    (flashCut cause s).exch = s.exch := by
  unfold flashCut
  try dsimp only
  (repeat' split) <;> simp

@[simp] theorem flashDone_frame (s : State) :
    (flashDone s).pending = s.pending ∧ (flashDone s).clock = s.clock ∧ (flashDone s).pins = s.pins ∧
    (flashDone s).captures = s.captures ∧ (flashDone s).buttons = s.buttons ∧ (flashDone s).ctl = s.ctl ∧
    (flashDone s).config = s.config ∧ (flashDone s).catalog = s.catalog ∧ (flashDone s).lines = s.lines ∧
    (flashDone s).accepted = s.accepted ∧ (flashDone s).pretreat = s.pretreat ∧ (flashDone s).press = s.press ∧
    (flashDone s).engine = s.engine ∧ (flashDone s).staging = s.staging ∧ (flashDone s).port = s.port ∧
    (flashDone s).prints = s.prints ∧ (flashDone s).lanes = s.lanes ∧ (flashDone s).dryer = s.dryer ∧
    (flashDone s).pack = s.pack ∧ (flashDone s).exch = s.exch ∧ (flashDone s).reports = s.reports := by
  unfold flashDone
  try dsimp only
  (repeat' split) <;> simp

@[simp] theorem raiseChainFault_frame (c : Fin 6) (f : ChainFault) (tag : Nat) (g : Fin 32) (s : State) :
    (raiseChainFault c f tag g s).pending = s.pending ∧ (raiseChainFault c f tag g s).clock = s.clock ∧
    (raiseChainFault c f tag g s).pins = s.pins ∧ (raiseChainFault c f tag g s).captures = s.captures ∧
    (raiseChainFault c f tag g s).buttons = s.buttons ∧ (raiseChainFault c f tag g s).ctl = s.ctl ∧
    (raiseChainFault c f tag g s).config = s.config ∧ (raiseChainFault c f tag g s).catalog = s.catalog ∧
    (raiseChainFault c f tag g s).lines = s.lines ∧ (raiseChainFault c f tag g s).accepted = s.accepted ∧
    (raiseChainFault c f tag g s).garments = s.garments ∧ (raiseChainFault c f tag g s).carousel = s.carousel ∧
    (raiseChainFault c f tag g s).pretreat = s.pretreat ∧ (raiseChainFault c f tag g s).press = s.press ∧
    (raiseChainFault c f tag g s).engine = s.engine ∧ (raiseChainFault c f tag g s).staging = s.staging ∧
    (raiseChainFault c f tag g s).port = s.port ∧ (raiseChainFault c f tag g s).prints = s.prints ∧
    (raiseChainFault c f tag g s).lanes = s.lanes ∧ (raiseChainFault c f tag g s).flash = s.flash ∧
    (raiseChainFault c f tag g s).dryer = s.dryer ∧ (raiseChainFault c f tag g s).pack = s.pack ∧
    (raiseChainFault c f tag g s).link = s.link ∧ (raiseChainFault c f tag g s).exch = s.exch := by
  unfold raiseChainFault
  try dsimp only
  (repeat' split) <;> simp

@[simp] theorem chainFaulted_frame (c : Fin 6) (f : ChainFault) (tag : Nat) (g : GarmentId) (s : State) :
    (chainFaulted c f tag g s).pending = s.pending ∧ (chainFaulted c f tag g s).clock = s.clock ∧
    (chainFaulted c f tag g s).pins = s.pins ∧ (chainFaulted c f tag g s).captures = s.captures ∧
    (chainFaulted c f tag g s).buttons = s.buttons ∧ (chainFaulted c f tag g s).ctl = s.ctl ∧
    (chainFaulted c f tag g s).config = s.config ∧ (chainFaulted c f tag g s).catalog = s.catalog ∧
    (chainFaulted c f tag g s).staging = s.staging ∧ (chainFaulted c f tag g s).port = s.port ∧
    (chainFaulted c f tag g s).dryer = s.dryer ∧ (chainFaulted c f tag g s).exch = s.exch := by
  unfold chainFaulted
  try dsimp only
  (repeat' split) <;> simp

@[simp] theorem endOp_frame (s : State) :
    (endOp s).pending = s.pending ∧ (endOp s).clock = s.clock ∧ (endOp s).pins = s.pins ∧
    (endOp s).captures = s.captures ∧ (endOp s).buttons = s.buttons ∧ (endOp s).ctl = s.ctl ∧
    (endOp s).config = s.config ∧ (endOp s).catalog = s.catalog ∧ (endOp s).lines = s.lines ∧
    (endOp s).accepted = s.accepted ∧ (endOp s).garments = s.garments ∧ (endOp s).pretreat = s.pretreat ∧
    (endOp s).press = s.press ∧ (endOp s).engine = s.engine ∧ (endOp s).staging = s.staging ∧
    (endOp s).port = s.port ∧ (endOp s).prints = s.prints ∧ (endOp s).lanes = s.lanes ∧ (endOp s).flash = s.flash ∧
    (endOp s).dryer = s.dryer ∧ (endOp s).pack = s.pack ∧ (endOp s).link = s.link ∧ (endOp s).exch = s.exch ∧
    (endOp s).reports = s.reports := by
  unfold endOp
  try dsimp only
  (repeat' split) <;> simp

@[simp] theorem indexFault_frame (cause : Nat) (s : State) :
    (indexFault cause s).pending = s.pending ∧ (indexFault cause s).clock = s.clock ∧
    (indexFault cause s).pins = s.pins ∧ (indexFault cause s).captures = s.captures ∧
    (indexFault cause s).buttons = s.buttons ∧ (indexFault cause s).config = s.config ∧
    (indexFault cause s).catalog = s.catalog ∧ (indexFault cause s).lines = s.lines ∧
    (indexFault cause s).accepted = s.accepted ∧ (indexFault cause s).garments = s.garments ∧
    (indexFault cause s).pretreat = s.pretreat ∧ (indexFault cause s).press = s.press ∧
    (indexFault cause s).engine = s.engine ∧ (indexFault cause s).staging = s.staging ∧
    (indexFault cause s).port = s.port ∧ (indexFault cause s).prints = s.prints ∧
    (indexFault cause s).lanes = s.lanes ∧ (indexFault cause s).pack = s.pack ∧ (indexFault cause s).exch = s.exch := by
  unfold indexFault
  try dsimp only
  (repeat' split) <;> simp

@[simp] theorem arrivePretreat_frame (p : Fin 12) (g : Fin 32) (r : Garment) (s : State) :
    (arrivePretreat p g r s).pending = s.pending ∧ (arrivePretreat p g r s).clock = s.clock ∧
    (arrivePretreat p g r s).pins = s.pins ∧ (arrivePretreat p g r s).captures = s.captures ∧
    (arrivePretreat p g r s).buttons = s.buttons ∧ (arrivePretreat p g r s).ctl = s.ctl ∧
    (arrivePretreat p g r s).config = s.config ∧ (arrivePretreat p g r s).catalog = s.catalog ∧
    (arrivePretreat p g r s).lines = s.lines ∧ (arrivePretreat p g r s).accepted = s.accepted ∧
    (arrivePretreat p g r s).press = s.press ∧ (arrivePretreat p g r s).engine = s.engine ∧
    (arrivePretreat p g r s).staging = s.staging ∧ (arrivePretreat p g r s).port = s.port ∧
    (arrivePretreat p g r s).prints = s.prints ∧ (arrivePretreat p g r s).lanes = s.lanes ∧
    (arrivePretreat p g r s).flash = s.flash ∧ (arrivePretreat p g r s).dryer = s.dryer ∧
    (arrivePretreat p g r s).pack = s.pack ∧ (arrivePretreat p g r s).link = s.link ∧
    (arrivePretreat p g r s).exch = s.exch ∧ (arrivePretreat p g r s).reports = s.reports := by
  unfold arrivePretreat
  try dsimp only
  (repeat' split) <;> simp

@[simp] theorem arrivePress_frame (p : Fin 12) (g : Fin 32) (r : Garment) (s : State) :
    (arrivePress p g r s).pending = s.pending ∧ (arrivePress p g r s).clock = s.clock ∧
    (arrivePress p g r s).pins = s.pins ∧ (arrivePress p g r s).captures = s.captures ∧
    (arrivePress p g r s).buttons = s.buttons ∧ (arrivePress p g r s).ctl = s.ctl ∧
    (arrivePress p g r s).config = s.config ∧ (arrivePress p g r s).catalog = s.catalog ∧
    (arrivePress p g r s).lines = s.lines ∧ (arrivePress p g r s).accepted = s.accepted ∧
    (arrivePress p g r s).pretreat = s.pretreat ∧ (arrivePress p g r s).engine = s.engine ∧
    (arrivePress p g r s).staging = s.staging ∧ (arrivePress p g r s).port = s.port ∧
    (arrivePress p g r s).prints = s.prints ∧ (arrivePress p g r s).lanes = s.lanes ∧
    (arrivePress p g r s).flash = s.flash ∧ (arrivePress p g r s).dryer = s.dryer ∧
    (arrivePress p g r s).pack = s.pack ∧ (arrivePress p g r s).link = s.link ∧ (arrivePress p g r s).exch = s.exch := by
  unfold arrivePress
  try dsimp only
  (repeat' split) <;> simp

@[simp] theorem arrivePrint_frame (u : Printer) (p : Fin 12) (g : Fin 32) (r : Garment) (s : State) :
    (arrivePrint u p g r s).pending = s.pending ∧ (arrivePrint u p g r s).clock = s.clock ∧
    (arrivePrint u p g r s).pins = s.pins ∧ (arrivePrint u p g r s).captures = s.captures ∧
    (arrivePrint u p g r s).buttons = s.buttons ∧ (arrivePrint u p g r s).ctl = s.ctl ∧
    (arrivePrint u p g r s).config = s.config ∧ (arrivePrint u p g r s).catalog = s.catalog ∧
    (arrivePrint u p g r s).lines = s.lines ∧ (arrivePrint u p g r s).accepted = s.accepted ∧
    (arrivePrint u p g r s).pretreat = s.pretreat ∧ (arrivePrint u p g r s).press = s.press ∧
    (arrivePrint u p g r s).engine = s.engine ∧ (arrivePrint u p g r s).staging = s.staging ∧
    (arrivePrint u p g r s).port = s.port ∧ (arrivePrint u p g r s).lanes = s.lanes ∧
    (arrivePrint u p g r s).flash = s.flash ∧ (arrivePrint u p g r s).dryer = s.dryer ∧
    (arrivePrint u p g r s).pack = s.pack ∧ (arrivePrint u p g r s).link = s.link ∧
    (arrivePrint u p g r s).exch = s.exch ∧ (arrivePrint u p g r s).reports = s.reports := by
  unfold arrivePrint
  try dsimp only
  (repeat' split) <;> simp

@[simp] theorem skipFlash_frame (p : Fin 12) (g : Fin 32) (r : Garment) (s : State) :
    (skipFlash p g r s).pending = s.pending ∧ (skipFlash p g r s).clock = s.clock ∧
    (skipFlash p g r s).pins = s.pins ∧ (skipFlash p g r s).captures = s.captures ∧
    (skipFlash p g r s).buttons = s.buttons ∧ (skipFlash p g r s).ctl = s.ctl ∧
    (skipFlash p g r s).config = s.config ∧ (skipFlash p g r s).catalog = s.catalog ∧
    (skipFlash p g r s).lines = s.lines ∧ (skipFlash p g r s).accepted = s.accepted ∧
    (skipFlash p g r s).pretreat = s.pretreat ∧ (skipFlash p g r s).press = s.press ∧
    (skipFlash p g r s).engine = s.engine ∧ (skipFlash p g r s).staging = s.staging ∧
    (skipFlash p g r s).port = s.port ∧ (skipFlash p g r s).prints = s.prints ∧ (skipFlash p g r s).lanes = s.lanes ∧
    (skipFlash p g r s).flash = s.flash ∧ (skipFlash p g r s).dryer = s.dryer ∧ (skipFlash p g r s).pack = s.pack ∧
    (skipFlash p g r s).link = s.link ∧ (skipFlash p g r s).exch = s.exch ∧ (skipFlash p g r s).reports = s.reports := by
  unfold skipFlash
  try dsimp only
  (repeat' split) <;> simp

@[simp] theorem arriveFlash_frame (p : Fin 12) (g : Fin 32) (r : Garment) (s : State) :
    (arriveFlash p g r s).pending = s.pending ∧ (arriveFlash p g r s).clock = s.clock ∧
    (arriveFlash p g r s).pins = s.pins ∧ (arriveFlash p g r s).captures = s.captures ∧
    (arriveFlash p g r s).buttons = s.buttons ∧ (arriveFlash p g r s).ctl = s.ctl ∧
    (arriveFlash p g r s).config = s.config ∧ (arriveFlash p g r s).catalog = s.catalog ∧
    (arriveFlash p g r s).lines = s.lines ∧ (arriveFlash p g r s).accepted = s.accepted ∧
    (arriveFlash p g r s).pretreat = s.pretreat ∧ (arriveFlash p g r s).press = s.press ∧
    (arriveFlash p g r s).engine = s.engine ∧ (arriveFlash p g r s).staging = s.staging ∧
    (arriveFlash p g r s).port = s.port ∧ (arriveFlash p g r s).prints = s.prints ∧
    (arriveFlash p g r s).lanes = s.lanes ∧ (arriveFlash p g r s).dryer = s.dryer ∧
    (arriveFlash p g r s).pack = s.pack ∧ (arriveFlash p g r s).link = s.link ∧ (arriveFlash p g r s).exch = s.exch := by
  unfold arriveFlash
  try dsimp only
  (repeat' split) <;> simp

@[simp] theorem arriveAt_frame (st : Station) (p : Fin 12) (g : Fin 32) (r : Garment) (s : State) :
    (arriveAt st p g r s).pending = s.pending ∧ (arriveAt st p g r s).clock = s.clock ∧
    (arriveAt st p g r s).pins = s.pins ∧ (arriveAt st p g r s).captures = s.captures ∧
    (arriveAt st p g r s).buttons = s.buttons ∧ (arriveAt st p g r s).ctl = s.ctl ∧
    (arriveAt st p g r s).config = s.config ∧ (arriveAt st p g r s).catalog = s.catalog ∧
    (arriveAt st p g r s).lines = s.lines ∧ (arriveAt st p g r s).accepted = s.accepted ∧
    (arriveAt st p g r s).engine = s.engine ∧ (arriveAt st p g r s).staging = s.staging ∧
    (arriveAt st p g r s).port = s.port ∧ (arriveAt st p g r s).lanes = s.lanes ∧
    (arriveAt st p g r s).dryer = s.dryer ∧ (arriveAt st p g r s).pack = s.pack ∧
    (arriveAt st p g r s).link = s.link ∧ (arriveAt st p g r s).exch = s.exch := by
  unfold arriveAt
  try dsimp only
  (repeat' split) <;> simp

@[simp] theorem arrive_frame (s : State) (st : Station) :
    (arrive s st).pending = s.pending ∧ (arrive s st).clock = s.clock ∧ (arrive s st).pins = s.pins ∧
    (arrive s st).captures = s.captures ∧ (arrive s st).buttons = s.buttons ∧ (arrive s st).ctl = s.ctl ∧
    (arrive s st).config = s.config ∧ (arrive s st).catalog = s.catalog ∧ (arrive s st).lines = s.lines ∧
    (arrive s st).accepted = s.accepted ∧ (arrive s st).engine = s.engine ∧ (arrive s st).staging = s.staging ∧
    (arrive s st).port = s.port ∧ (arrive s st).lanes = s.lanes ∧ (arrive s st).dryer = s.dryer ∧
    (arrive s st).pack = s.pack ∧ (arrive s st).link = s.link ∧ (arrive s st).exch = s.exch := by
  unfold arrive
  try dsimp only
  (repeat' split) <;> simp

@[simp] theorem startPlane_frame (g : Fin 32) (r : Garment) (s : State) (c : Fin 6) :
    (startPlane g r s c).pending = s.pending ∧ (startPlane g r s c).clock = s.clock ∧
    (startPlane g r s c).pins = s.pins ∧ (startPlane g r s c).captures = s.captures ∧
    (startPlane g r s c).buttons = s.buttons ∧ (startPlane g r s c).ctl = s.ctl ∧
    (startPlane g r s c).config = s.config ∧ (startPlane g r s c).catalog = s.catalog ∧
    (startPlane g r s c).lines = s.lines ∧ (startPlane g r s c).accepted = s.accepted ∧
    (startPlane g r s c).garments = s.garments ∧ (startPlane g r s c).carousel = s.carousel ∧
    (startPlane g r s c).pretreat = s.pretreat ∧ (startPlane g r s c).press = s.press ∧
    (startPlane g r s c).staging = s.staging ∧ (startPlane g r s c).port = s.port ∧
    (startPlane g r s c).prints = s.prints ∧ (startPlane g r s c).lanes = s.lanes ∧
    (startPlane g r s c).flash = s.flash ∧ (startPlane g r s c).dryer = s.dryer ∧ (startPlane g r s c).pack = s.pack ∧
    (startPlane g r s c).link = s.link ∧ (startPlane g r s c).exch = s.exch ∧ (startPlane g r s c).reports = s.reports := by
  unfold startPlane
  try dsimp only
  (repeat' split) <;> simp

@[simp] theorem startPlanes_frame (u : Printer) (pos : Fin 12) (s : State) :
    (startPlanes u pos s).pending = s.pending ∧ (startPlanes u pos s).clock = s.clock ∧
    (startPlanes u pos s).pins = s.pins ∧ (startPlanes u pos s).captures = s.captures ∧
    (startPlanes u pos s).buttons = s.buttons ∧ (startPlanes u pos s).ctl = s.ctl ∧
    (startPlanes u pos s).config = s.config ∧ (startPlanes u pos s).catalog = s.catalog ∧
    (startPlanes u pos s).lines = s.lines ∧ (startPlanes u pos s).accepted = s.accepted ∧
    (startPlanes u pos s).garments = s.garments ∧ (startPlanes u pos s).carousel = s.carousel ∧
    (startPlanes u pos s).pretreat = s.pretreat ∧ (startPlanes u pos s).press = s.press ∧
    (startPlanes u pos s).staging = s.staging ∧ (startPlanes u pos s).port = s.port ∧
    (startPlanes u pos s).prints = s.prints ∧ (startPlanes u pos s).lanes = s.lanes ∧
    (startPlanes u pos s).flash = s.flash ∧ (startPlanes u pos s).dryer = s.dryer ∧
    (startPlanes u pos s).pack = s.pack ∧ (startPlanes u pos s).link = s.link ∧ (startPlanes u pos s).exch = s.exch ∧
    (startPlanes u pos s).reports = s.reports := by
  unfold startPlanes
  try dsimp only
  (repeat' split) <;> simp

@[simp] theorem rotate_frame (s : State) :
    (rotate s).pending = s.pending ∧ (rotate s).clock = s.clock ∧ (rotate s).pins = s.pins ∧
    (rotate s).captures = s.captures ∧ (rotate s).buttons = s.buttons ∧ (rotate s).ctl = s.ctl ∧
    (rotate s).config = s.config ∧ (rotate s).catalog = s.catalog ∧ (rotate s).lines = s.lines ∧
    (rotate s).accepted = s.accepted ∧ (rotate s).garments = s.garments ∧ (rotate s).pretreat = s.pretreat ∧
    (rotate s).press = s.press ∧ (rotate s).engine = s.engine ∧ (rotate s).staging = s.staging ∧
    (rotate s).port = s.port ∧ (rotate s).prints = s.prints ∧ (rotate s).lanes = s.lanes ∧
    (rotate s).flash = s.flash ∧ (rotate s).dryer = s.dryer ∧ (rotate s).pack = s.pack ∧ (rotate s).link = s.link ∧
    (rotate s).exch = s.exch ∧ (rotate s).reports = s.reports := by
  unfold rotate
  try dsimp only
  (repeat' split) <;> simp

@[simp] theorem leaveLoad_frame (s : State) :
    (leaveLoad s).pending = s.pending ∧ (leaveLoad s).clock = s.clock ∧ (leaveLoad s).pins = s.pins ∧
    (leaveLoad s).captures = s.captures ∧ (leaveLoad s).buttons = s.buttons ∧ (leaveLoad s).ctl = s.ctl ∧
    (leaveLoad s).config = s.config ∧ (leaveLoad s).catalog = s.catalog ∧ (leaveLoad s).lines = s.lines ∧
    (leaveLoad s).accepted = s.accepted ∧ (leaveLoad s).carousel = s.carousel ∧ (leaveLoad s).pretreat = s.pretreat ∧
    (leaveLoad s).press = s.press ∧ (leaveLoad s).engine = s.engine ∧ (leaveLoad s).staging = s.staging ∧
    (leaveLoad s).port = s.port ∧ (leaveLoad s).prints = s.prints ∧ (leaveLoad s).lanes = s.lanes ∧
    (leaveLoad s).flash = s.flash ∧ (leaveLoad s).dryer = s.dryer ∧ (leaveLoad s).pack = s.pack ∧
    (leaveLoad s).link = s.link ∧ (leaveLoad s).exch = s.exch ∧ (leaveLoad s).reports = s.reports := by
  unfold leaveLoad
  try dsimp only
  (repeat' split) <;> simp

@[simp] theorem clearReleases_frame (s : State) :
    (clearReleases s).pending = s.pending ∧ (clearReleases s).clock = s.clock ∧ (clearReleases s).pins = s.pins ∧
    (clearReleases s).captures = s.captures ∧ (clearReleases s).buttons = s.buttons ∧ (clearReleases s).ctl = s.ctl ∧
    (clearReleases s).config = s.config ∧ (clearReleases s).catalog = s.catalog ∧ (clearReleases s).lines = s.lines ∧
    (clearReleases s).accepted = s.accepted ∧ (clearReleases s).garments = s.garments ∧
    (clearReleases s).pretreat = s.pretreat ∧ (clearReleases s).press = s.press ∧
    (clearReleases s).engine = s.engine ∧ (clearReleases s).staging = s.staging ∧ (clearReleases s).port = s.port ∧
    (clearReleases s).prints = s.prints ∧ (clearReleases s).lanes = s.lanes ∧ (clearReleases s).flash = s.flash ∧
    (clearReleases s).dryer = s.dryer ∧ (clearReleases s).pack = s.pack ∧ (clearReleases s).link = s.link ∧
    (clearReleases s).exch = s.exch ∧ (clearReleases s).reports = s.reports := by
  unfold clearReleases
  try dsimp only
  (repeat' split) <;> simp

@[simp] theorem handArrivals_frame (s : State) :
    (handArrivals s).pending = s.pending ∧ (handArrivals s).clock = s.clock ∧ (handArrivals s).pins = s.pins ∧
    (handArrivals s).captures = s.captures ∧ (handArrivals s).buttons = s.buttons ∧ (handArrivals s).ctl = s.ctl ∧
    (handArrivals s).config = s.config ∧ (handArrivals s).catalog = s.catalog ∧ (handArrivals s).lines = s.lines ∧
    (handArrivals s).accepted = s.accepted ∧ (handArrivals s).engine = s.engine ∧
    (handArrivals s).staging = s.staging ∧ (handArrivals s).port = s.port ∧ (handArrivals s).lanes = s.lanes ∧
    (handArrivals s).dryer = s.dryer ∧ (handArrivals s).pack = s.pack ∧ (handArrivals s).link = s.link ∧
    (handArrivals s).exch = s.exch := by
  unfold handArrivals
  try dsimp only
  (repeat' split) <;> simp

@[simp] theorem handStarts_frame (s : State) :
    (handStarts s).pending = s.pending ∧ (handStarts s).clock = s.clock ∧ (handStarts s).pins = s.pins ∧
    (handStarts s).captures = s.captures ∧ (handStarts s).buttons = s.buttons ∧ (handStarts s).ctl = s.ctl ∧
    (handStarts s).config = s.config ∧ (handStarts s).catalog = s.catalog ∧ (handStarts s).lines = s.lines ∧
    (handStarts s).accepted = s.accepted ∧ (handStarts s).garments = s.garments ∧
    (handStarts s).carousel = s.carousel ∧ (handStarts s).pretreat = s.pretreat ∧ (handStarts s).press = s.press ∧
    (handStarts s).staging = s.staging ∧ (handStarts s).port = s.port ∧ (handStarts s).prints = s.prints ∧
    (handStarts s).lanes = s.lanes ∧ (handStarts s).flash = s.flash ∧ (handStarts s).dryer = s.dryer ∧
    (handStarts s).pack = s.pack ∧ (handStarts s).link = s.link ∧ (handStarts s).exch = s.exch ∧
    (handStarts s).reports = s.reports := by
  unfold handStarts
  try dsimp only
  (repeat' split) <;> simp

@[simp] theorem completion_frame (s : State) :
    (completion s).pending = s.pending ∧ (completion s).clock = s.clock ∧ (completion s).pins = s.pins ∧
    (completion s).captures = s.captures ∧ (completion s).buttons = s.buttons ∧ (completion s).ctl = s.ctl ∧
    (completion s).config = s.config ∧ (completion s).catalog = s.catalog ∧ (completion s).lines = s.lines ∧
    (completion s).accepted = s.accepted ∧ (completion s).staging = s.staging ∧ (completion s).port = s.port ∧
    (completion s).lanes = s.lanes ∧ (completion s).dryer = s.dryer ∧ (completion s).pack = s.pack ∧
    (completion s).link = s.link ∧ (completion s).exch = s.exch := by
  unfold completion
  try dsimp only
  (repeat' split) <;> simp

@[simp] theorem indexComplete_frame (s : State) :
    (indexComplete s).pending = s.pending ∧ (indexComplete s).clock = s.clock ∧ (indexComplete s).pins = s.pins ∧
    (indexComplete s).captures = s.captures ∧ (indexComplete s).buttons = s.buttons ∧ (indexComplete s).ctl = s.ctl ∧
    (indexComplete s).config = s.config ∧ (indexComplete s).catalog = s.catalog ∧ (indexComplete s).lines = s.lines ∧
    (indexComplete s).accepted = s.accepted ∧ (indexComplete s).staging = s.staging ∧
    (indexComplete s).port = s.port ∧ (indexComplete s).lanes = s.lanes ∧ (indexComplete s).dryer = s.dryer ∧
    (indexComplete s).pack = s.pack ∧ (indexComplete s).link = s.link ∧ (indexComplete s).exch = s.exch := by
  unfold indexComplete
  try dsimp only
  (repeat' split) <;> simp

@[simp] theorem homeComplete_frame (s : State) :
    (homeComplete s).pending = s.pending ∧ (homeComplete s).clock = s.clock ∧ (homeComplete s).pins = s.pins ∧
    (homeComplete s).captures = s.captures ∧ (homeComplete s).buttons = s.buttons ∧
    (homeComplete s).config = s.config ∧ (homeComplete s).catalog = s.catalog ∧ (homeComplete s).lines = s.lines ∧
    (homeComplete s).accepted = s.accepted ∧ (homeComplete s).staging = s.staging ∧ (homeComplete s).port = s.port ∧
    (homeComplete s).lanes = s.lanes ∧ (homeComplete s).pack = s.pack ∧ (homeComplete s).exch = s.exch := by
  unfold homeComplete
  try dsimp only
  (repeat' split) <;> simp

@[simp] theorem opComplete_frame (s : State) :
    (opComplete s).pending = s.pending ∧ (opComplete s).clock = s.clock ∧ (opComplete s).pins = s.pins ∧
    (opComplete s).captures = s.captures ∧ (opComplete s).buttons = s.buttons ∧ (opComplete s).config = s.config ∧
    (opComplete s).catalog = s.catalog ∧ (opComplete s).lines = s.lines ∧ (opComplete s).accepted = s.accepted ∧
    (opComplete s).staging = s.staging ∧ (opComplete s).port = s.port ∧ (opComplete s).lanes = s.lanes ∧
    (opComplete s).pack = s.pack ∧ (opComplete s).exch = s.exch := by
  unfold opComplete
  try dsimp only
  (repeat' split) <;> simp

@[simp] theorem putZone_frame (z : Fin 4) (c : Source) (s : State) :
    (putZone z c s).pending = s.pending ∧ (putZone z c s).clock = s.clock ∧ (putZone z c s).pins = s.pins ∧
    (putZone z c s).captures = s.captures ∧ (putZone z c s).buttons = s.buttons ∧ (putZone z c s).ctl = s.ctl ∧
    (putZone z c s).config = s.config ∧ (putZone z c s).catalog = s.catalog ∧ (putZone z c s).lines = s.lines ∧
    (putZone z c s).accepted = s.accepted ∧ (putZone z c s).garments = s.garments ∧
    (putZone z c s).carousel = s.carousel ∧ (putZone z c s).pretreat = s.pretreat ∧ (putZone z c s).press = s.press ∧
    (putZone z c s).engine = s.engine ∧ (putZone z c s).staging = s.staging ∧ (putZone z c s).port = s.port ∧
    (putZone z c s).prints = s.prints ∧ (putZone z c s).lanes = s.lanes ∧ (putZone z c s).flash = s.flash ∧
    (putZone z c s).pack = s.pack ∧ (putZone z c s).link = s.link ∧ (putZone z c s).exch = s.exch ∧
    (putZone z c s).reports = s.reports := by
  unfold putZone
  try dsimp only
  (repeat' split) <;> simp

@[simp] theorem zoneIncident_frame (z : Fin 4) (old new : Source) (s : State) :
    (zoneIncident z old new s).pending = s.pending ∧ (zoneIncident z old new s).clock = s.clock ∧
    (zoneIncident z old new s).pins = s.pins ∧ (zoneIncident z old new s).captures = s.captures ∧
    (zoneIncident z old new s).buttons = s.buttons ∧ (zoneIncident z old new s).ctl = s.ctl ∧
    (zoneIncident z old new s).config = s.config ∧ (zoneIncident z old new s).catalog = s.catalog ∧
    (zoneIncident z old new s).lines = s.lines ∧ (zoneIncident z old new s).accepted = s.accepted ∧
    (zoneIncident z old new s).garments = s.garments ∧ (zoneIncident z old new s).carousel = s.carousel ∧
    (zoneIncident z old new s).pretreat = s.pretreat ∧ (zoneIncident z old new s).press = s.press ∧
    (zoneIncident z old new s).engine = s.engine ∧ (zoneIncident z old new s).staging = s.staging ∧
    (zoneIncident z old new s).port = s.port ∧ (zoneIncident z old new s).prints = s.prints ∧
    (zoneIncident z old new s).lanes = s.lanes ∧ (zoneIncident z old new s).flash = s.flash ∧
    (zoneIncident z old new s).dryer = s.dryer ∧ (zoneIncident z old new s).pack = s.pack ∧
    (zoneIncident z old new s).link = s.link ∧ (zoneIncident z old new s).exch = s.exch := by
  unfold zoneIncident
  try dsimp only
  (repeat' split) <;> simp

@[simp] theorem tickZone_frame (s : State) (z : Fin 4) :
    (tickZone s z).pending = s.pending ∧ (tickZone s z).clock = s.clock ∧ (tickZone s z).pins = s.pins ∧
    (tickZone s z).captures = s.captures ∧ (tickZone s z).buttons = s.buttons ∧ (tickZone s z).ctl = s.ctl ∧
    (tickZone s z).config = s.config ∧ (tickZone s z).catalog = s.catalog ∧ (tickZone s z).lines = s.lines ∧
    (tickZone s z).accepted = s.accepted ∧ (tickZone s z).garments = s.garments ∧
    (tickZone s z).carousel = s.carousel ∧ (tickZone s z).pretreat = s.pretreat ∧ (tickZone s z).press = s.press ∧
    (tickZone s z).engine = s.engine ∧ (tickZone s z).staging = s.staging ∧ (tickZone s z).port = s.port ∧
    (tickZone s z).prints = s.prints ∧ (tickZone s z).lanes = s.lanes ∧ (tickZone s z).flash = s.flash ∧
    (tickZone s z).pack = s.pack ∧ (tickZone s z).link = s.link ∧ (tickZone s z).exch = s.exch := by
  unfold tickZone
  try dsimp only
  (repeat' split) <;> simp

@[simp] theorem tickReadiness_frame (s : State) :
    (tickReadiness s).pending = s.pending ∧ (tickReadiness s).clock = s.clock ∧ (tickReadiness s).pins = s.pins ∧
    (tickReadiness s).captures = s.captures ∧ (tickReadiness s).buttons = s.buttons ∧
    (tickReadiness s).config = s.config ∧ (tickReadiness s).catalog = s.catalog ∧ (tickReadiness s).lines = s.lines ∧
    (tickReadiness s).accepted = s.accepted ∧ (tickReadiness s).garments = s.garments ∧
    (tickReadiness s).pretreat = s.pretreat ∧ (tickReadiness s).press = s.press ∧
    (tickReadiness s).engine = s.engine ∧ (tickReadiness s).staging = s.staging ∧ (tickReadiness s).port = s.port ∧
    (tickReadiness s).prints = s.prints ∧ (tickReadiness s).lanes = s.lanes ∧ (tickReadiness s).pack = s.pack ∧
    (tickReadiness s).exch = s.exch := by
  unfold tickReadiness
  try dsimp only
  (repeat' split) <;> simp

@[simp] theorem putBelt_frame (b : List BeltEntry) (s : State) :
    (putBelt b s).pending = s.pending ∧ (putBelt b s).clock = s.clock ∧ (putBelt b s).pins = s.pins ∧
    (putBelt b s).captures = s.captures ∧ (putBelt b s).buttons = s.buttons ∧ (putBelt b s).ctl = s.ctl ∧
    (putBelt b s).config = s.config ∧ (putBelt b s).catalog = s.catalog ∧ (putBelt b s).lines = s.lines ∧
    (putBelt b s).accepted = s.accepted ∧ (putBelt b s).garments = s.garments ∧ (putBelt b s).carousel = s.carousel ∧
    (putBelt b s).pretreat = s.pretreat ∧ (putBelt b s).press = s.press ∧ (putBelt b s).engine = s.engine ∧
    (putBelt b s).staging = s.staging ∧ (putBelt b s).port = s.port ∧ (putBelt b s).prints = s.prints ∧
    (putBelt b s).lanes = s.lanes ∧ (putBelt b s).flash = s.flash ∧ (putBelt b s).pack = s.pack ∧
    (putBelt b s).link = s.link ∧ (putBelt b s).exch = s.exch ∧ (putBelt b s).reports = s.reports := by
  unfold putBelt
  try dsimp only
  (repeat' split) <;> simp

@[simp] theorem doseStep_frame (period : Nat) (e : BeltEntry) (g : Fin 32) (s : State) :
    (doseStep period e g s).pending = s.pending ∧ (doseStep period e g s).clock = s.clock ∧
    (doseStep period e g s).pins = s.pins ∧ (doseStep period e g s).captures = s.captures ∧
    (doseStep period e g s).buttons = s.buttons ∧ (doseStep period e g s).ctl = s.ctl ∧
    (doseStep period e g s).config = s.config ∧ (doseStep period e g s).catalog = s.catalog ∧
    (doseStep period e g s).lines = s.lines ∧ (doseStep period e g s).accepted = s.accepted ∧
    (doseStep period e g s).carousel = s.carousel ∧ (doseStep period e g s).pretreat = s.pretreat ∧
    (doseStep period e g s).press = s.press ∧ (doseStep period e g s).engine = s.engine ∧
    (doseStep period e g s).staging = s.staging ∧ (doseStep period e g s).port = s.port ∧
    (doseStep period e g s).prints = s.prints ∧ (doseStep period e g s).lanes = s.lanes ∧
    (doseStep period e g s).flash = s.flash ∧ (doseStep period e g s).dryer = s.dryer ∧
    (doseStep period e g s).pack = s.pack ∧ (doseStep period e g s).link = s.link ∧
    (doseStep period e g s).exch = s.exch ∧ (doseStep period e g s).reports = s.reports := by
  unfold doseStep
  try dsimp only
  (repeat' split) <;> simp

@[simp] theorem stepEntry_frame (period : Nat) (s : State) (e : BeltEntry) :
    (stepEntry period s e).pending = s.pending ∧ (stepEntry period s e).clock = s.clock ∧
    (stepEntry period s e).pins = s.pins ∧ (stepEntry period s e).captures = s.captures ∧
    (stepEntry period s e).buttons = s.buttons ∧ (stepEntry period s e).ctl = s.ctl ∧
    (stepEntry period s e).config = s.config ∧ (stepEntry period s e).catalog = s.catalog ∧
    (stepEntry period s e).lines = s.lines ∧ (stepEntry period s e).accepted = s.accepted ∧
    (stepEntry period s e).carousel = s.carousel ∧ (stepEntry period s e).pretreat = s.pretreat ∧
    (stepEntry period s e).press = s.press ∧ (stepEntry period s e).engine = s.engine ∧
    (stepEntry period s e).staging = s.staging ∧ (stepEntry period s e).port = s.port ∧
    (stepEntry period s e).prints = s.prints ∧ (stepEntry period s e).lanes = s.lanes ∧
    (stepEntry period s e).flash = s.flash ∧ (stepEntry period s e).dryer = s.dryer ∧
    (stepEntry period s e).pack = s.pack ∧ (stepEntry period s e).link = s.link ∧
    (stepEntry period s e).exch = s.exch ∧ (stepEntry period s e).reports = s.reports := by
  unfold stepEntry
  try dsimp only
  (repeat' split) <;> simp

@[simp] theorem stepBelt_frame (period : Nat) (s : State) :
    (stepBelt period s).pending = s.pending ∧ (stepBelt period s).clock = s.clock ∧
    (stepBelt period s).pins = s.pins ∧ (stepBelt period s).captures = s.captures ∧
    (stepBelt period s).buttons = s.buttons ∧ (stepBelt period s).ctl = s.ctl ∧
    (stepBelt period s).config = s.config ∧ (stepBelt period s).catalog = s.catalog ∧
    (stepBelt period s).lines = s.lines ∧ (stepBelt period s).accepted = s.accepted ∧
    (stepBelt period s).carousel = s.carousel ∧ (stepBelt period s).pretreat = s.pretreat ∧
    (stepBelt period s).press = s.press ∧ (stepBelt period s).engine = s.engine ∧
    (stepBelt period s).staging = s.staging ∧ (stepBelt period s).port = s.port ∧
    (stepBelt period s).prints = s.prints ∧ (stepBelt period s).lanes = s.lanes ∧
    (stepBelt period s).flash = s.flash ∧ (stepBelt period s).pack = s.pack ∧ (stepBelt period s).link = s.link ∧
    (stepBelt period s).exch = s.exch ∧ (stepBelt period s).reports = s.reports := by
  unfold stepBelt
  try dsimp only
  (repeat' split) <;> simp

@[simp] theorem advance_frame (period : Nat) (s : State) :
    (advance period s).pending = s.pending ∧ (advance period s).clock = s.clock ∧ (advance period s).pins = s.pins ∧
    (advance period s).captures = s.captures ∧ (advance period s).buttons = s.buttons ∧
    (advance period s).ctl = s.ctl ∧ (advance period s).config = s.config ∧ (advance period s).catalog = s.catalog ∧
    (advance period s).lines = s.lines ∧ (advance period s).accepted = s.accepted ∧
    (advance period s).garments = s.garments ∧ (advance period s).carousel = s.carousel ∧
    (advance period s).pretreat = s.pretreat ∧ (advance period s).press = s.press ∧
    (advance period s).engine = s.engine ∧ (advance period s).staging = s.staging ∧ (advance period s).port = s.port ∧
    (advance period s).prints = s.prints ∧ (advance period s).lanes = s.lanes ∧ (advance period s).flash = s.flash ∧
    (advance period s).pack = s.pack ∧ (advance period s).link = s.link ∧ (advance period s).exch = s.exch ∧
    (advance period s).reports = s.reports := by
  unfold advance
  try dsimp only
  (repeat' split) <;> simp

@[simp] theorem raiseOverdue_frame (s : State) (e : BeltEntry) :
    (raiseOverdue s e).pending = s.pending ∧ (raiseOverdue s e).clock = s.clock ∧ (raiseOverdue s e).pins = s.pins ∧
    (raiseOverdue s e).captures = s.captures ∧ (raiseOverdue s e).buttons = s.buttons ∧
    (raiseOverdue s e).ctl = s.ctl ∧ (raiseOverdue s e).config = s.config ∧ (raiseOverdue s e).catalog = s.catalog ∧
    (raiseOverdue s e).lines = s.lines ∧ (raiseOverdue s e).accepted = s.accepted ∧
    (raiseOverdue s e).carousel = s.carousel ∧ (raiseOverdue s e).pretreat = s.pretreat ∧
    (raiseOverdue s e).press = s.press ∧ (raiseOverdue s e).engine = s.engine ∧
    (raiseOverdue s e).staging = s.staging ∧ (raiseOverdue s e).port = s.port ∧ (raiseOverdue s e).prints = s.prints ∧
    (raiseOverdue s e).lanes = s.lanes ∧ (raiseOverdue s e).flash = s.flash ∧ (raiseOverdue s e).dryer = s.dryer ∧
    (raiseOverdue s e).pack = s.pack ∧ (raiseOverdue s e).link = s.link ∧ (raiseOverdue s e).exch = s.exch := by
  unfold raiseOverdue
  try dsimp only
  (repeat' split) <;> simp

@[simp] theorem testOverdue_frame (s : State) :
    (testOverdue s).pending = s.pending ∧ (testOverdue s).clock = s.clock ∧ (testOverdue s).pins = s.pins ∧
    (testOverdue s).captures = s.captures ∧ (testOverdue s).buttons = s.buttons ∧ (testOverdue s).ctl = s.ctl ∧
    (testOverdue s).config = s.config ∧ (testOverdue s).catalog = s.catalog ∧ (testOverdue s).lines = s.lines ∧
    (testOverdue s).accepted = s.accepted ∧ (testOverdue s).carousel = s.carousel ∧
    (testOverdue s).pretreat = s.pretreat ∧ (testOverdue s).press = s.press ∧ (testOverdue s).engine = s.engine ∧
    (testOverdue s).staging = s.staging ∧ (testOverdue s).port = s.port ∧ (testOverdue s).prints = s.prints ∧
    (testOverdue s).lanes = s.lanes ∧ (testOverdue s).flash = s.flash ∧ (testOverdue s).pack = s.pack ∧
    (testOverdue s).link = s.link ∧ (testOverdue s).exch = s.exch := by
  unfold testOverdue
  try dsimp only
  (repeat' split) <;> simp

@[simp] theorem putQueue_frame (q : List TimedEntry) (s : State) :
    (putQueue q s).pending = s.pending ∧ (putQueue q s).clock = s.clock ∧ (putQueue q s).pins = s.pins ∧
    (putQueue q s).captures = s.captures ∧ (putQueue q s).buttons = s.buttons ∧ (putQueue q s).ctl = s.ctl ∧
    (putQueue q s).config = s.config ∧ (putQueue q s).catalog = s.catalog ∧ (putQueue q s).lines = s.lines ∧
    (putQueue q s).accepted = s.accepted ∧ (putQueue q s).garments = s.garments ∧
    (putQueue q s).carousel = s.carousel ∧ (putQueue q s).pretreat = s.pretreat ∧ (putQueue q s).press = s.press ∧
    (putQueue q s).engine = s.engine ∧ (putQueue q s).staging = s.staging ∧ (putQueue q s).port = s.port ∧
    (putQueue q s).prints = s.prints ∧ (putQueue q s).lanes = s.lanes ∧ (putQueue q s).flash = s.flash ∧
    (putQueue q s).dryer = s.dryer ∧ (putQueue q s).link = s.link ∧ (putQueue q s).exch = s.exch ∧
    (putQueue q s).reports = s.reports := by
  unfold putQueue
  try dsimp only
  (repeat' split) <;> simp

@[simp] theorem raiseMissing_frame (g : Fin 32) (detail : Nat) (s : State) :
    (raiseMissing g detail s).pending = s.pending ∧ (raiseMissing g detail s).clock = s.clock ∧
    (raiseMissing g detail s).pins = s.pins ∧ (raiseMissing g detail s).captures = s.captures ∧
    (raiseMissing g detail s).buttons = s.buttons ∧ (raiseMissing g detail s).ctl = s.ctl ∧
    (raiseMissing g detail s).config = s.config ∧ (raiseMissing g detail s).catalog = s.catalog ∧
    (raiseMissing g detail s).lines = s.lines ∧ (raiseMissing g detail s).accepted = s.accepted ∧
    (raiseMissing g detail s).garments = s.garments ∧ (raiseMissing g detail s).carousel = s.carousel ∧
    (raiseMissing g detail s).pretreat = s.pretreat ∧ (raiseMissing g detail s).press = s.press ∧
    (raiseMissing g detail s).engine = s.engine ∧ (raiseMissing g detail s).staging = s.staging ∧
    (raiseMissing g detail s).port = s.port ∧ (raiseMissing g detail s).prints = s.prints ∧
    (raiseMissing g detail s).lanes = s.lanes ∧ (raiseMissing g detail s).flash = s.flash ∧
    (raiseMissing g detail s).dryer = s.dryer ∧ (raiseMissing g detail s).pack = s.pack ∧
    (raiseMissing g detail s).link = s.link ∧ (raiseMissing g detail s).exch = s.exch := by
  unfold raiseMissing
  try dsimp only
  (repeat' split) <;> simp

@[simp] theorem packMissing_frame (g : Fin 32) (detail : Nat) (s : State) :
    (packMissing g detail s).pending = s.pending ∧ (packMissing g detail s).clock = s.clock ∧
    (packMissing g detail s).pins = s.pins ∧ (packMissing g detail s).captures = s.captures ∧
    (packMissing g detail s).buttons = s.buttons ∧ (packMissing g detail s).ctl = s.ctl ∧
    (packMissing g detail s).config = s.config ∧ (packMissing g detail s).catalog = s.catalog ∧
    (packMissing g detail s).staging = s.staging ∧ (packMissing g detail s).port = s.port ∧
    (packMissing g detail s).dryer = s.dryer ∧ (packMissing g detail s).exch = s.exch := by
  unfold packMissing
  try dsimp only
  (repeat' split) <;> simp

@[simp] theorem makeRoom_frame (s : State) :
    (makeRoom s).pending = s.pending ∧ (makeRoom s).clock = s.clock ∧ (makeRoom s).pins = s.pins ∧
    (makeRoom s).captures = s.captures ∧ (makeRoom s).buttons = s.buttons ∧ (makeRoom s).ctl = s.ctl ∧
    (makeRoom s).config = s.config ∧ (makeRoom s).catalog = s.catalog ∧ (makeRoom s).staging = s.staging ∧
    (makeRoom s).port = s.port ∧ (makeRoom s).dryer = s.dryer ∧ (makeRoom s).exch = s.exch := by
  unfold makeRoom
  try dsimp only
  (repeat' split) <;> simp

@[simp] theorem packAppend_frame (g : Fin 32) (exit : Clock) (s : State) :
    (packAppend g exit s).pending = s.pending ∧ (packAppend g exit s).clock = s.clock ∧
    (packAppend g exit s).pins = s.pins ∧ (packAppend g exit s).captures = s.captures ∧
    (packAppend g exit s).buttons = s.buttons ∧ (packAppend g exit s).ctl = s.ctl ∧
    (packAppend g exit s).config = s.config ∧ (packAppend g exit s).catalog = s.catalog ∧
    (packAppend g exit s).staging = s.staging ∧ (packAppend g exit s).port = s.port ∧
    (packAppend g exit s).dryer = s.dryer ∧ (packAppend g exit s).exch = s.exch := by
  unfold packAppend
  try dsimp only
  (repeat' split) <;> simp

@[simp] theorem failByRow_frame (g : Fin 32) (row : ExitRow) (s : State) :
    (failByRow g row s).pending = s.pending ∧ (failByRow g row s).clock = s.clock ∧
    (failByRow g row s).pins = s.pins ∧ (failByRow g row s).captures = s.captures ∧
    (failByRow g row s).buttons = s.buttons ∧ (failByRow g row s).ctl = s.ctl ∧
    (failByRow g row s).config = s.config ∧ (failByRow g row s).catalog = s.catalog ∧
    (failByRow g row s).staging = s.staging ∧ (failByRow g row s).port = s.port ∧
    (failByRow g row s).dryer = s.dryer ∧ (failByRow g row s).exch = s.exch := by
  unfold failByRow
  try dsimp only
  (repeat' split) <;> simp

@[simp] theorem reachVerdict_frame (g : Fin 32) (s : State) :
    (reachVerdict g s).pending = s.pending ∧ (reachVerdict g s).clock = s.clock ∧ (reachVerdict g s).pins = s.pins ∧
    (reachVerdict g s).captures = s.captures ∧ (reachVerdict g s).buttons = s.buttons ∧
    (reachVerdict g s).ctl = s.ctl ∧ (reachVerdict g s).config = s.config ∧ (reachVerdict g s).catalog = s.catalog ∧
    (reachVerdict g s).staging = s.staging ∧ (reachVerdict g s).port = s.port ∧ (reachVerdict g s).dryer = s.dryer ∧
    (reachVerdict g s).exch = s.exch := by
  unfold reachVerdict
  try dsimp only
  (repeat' split) <;> simp

@[simp] theorem reportDose_frame (g : Fin 32) (s : State) :
    (reportDose g s).pending = s.pending ∧ (reportDose g s).clock = s.clock ∧ (reportDose g s).pins = s.pins ∧
    (reportDose g s).captures = s.captures ∧ (reportDose g s).buttons = s.buttons ∧ (reportDose g s).ctl = s.ctl ∧
    (reportDose g s).config = s.config ∧ (reportDose g s).catalog = s.catalog ∧
    (reportDose g s).accepted = s.accepted ∧ (reportDose g s).garments = s.garments ∧
    (reportDose g s).carousel = s.carousel ∧ (reportDose g s).pretreat = s.pretreat ∧
    (reportDose g s).press = s.press ∧ (reportDose g s).engine = s.engine ∧ (reportDose g s).staging = s.staging ∧
    (reportDose g s).port = s.port ∧ (reportDose g s).prints = s.prints ∧ (reportDose g s).lanes = s.lanes ∧
    (reportDose g s).flash = s.flash ∧ (reportDose g s).dryer = s.dryer ∧ (reportDose g s).pack = s.pack ∧
    (reportDose g s).link = s.link ∧ (reportDose g s).exch = s.exch := by
  unfold reportDose ifCurrent
  try dsimp only
  (repeat' split) <;> simp

@[simp] theorem exitGarment_frame (e : BeltEntry) (g : Fin 32) (exit : Clock) (s : State) :
    (exitGarment e g exit s).pending = s.pending ∧ (exitGarment e g exit s).clock = s.clock ∧
    (exitGarment e g exit s).pins = s.pins ∧ (exitGarment e g exit s).captures = s.captures ∧
    (exitGarment e g exit s).buttons = s.buttons ∧ (exitGarment e g exit s).ctl = s.ctl ∧
    (exitGarment e g exit s).config = s.config ∧ (exitGarment e g exit s).catalog = s.catalog ∧
    (exitGarment e g exit s).staging = s.staging ∧ (exitGarment e g exit s).port = s.port ∧
    (exitGarment e g exit s).dryer = s.dryer ∧ (exitGarment e g exit s).exch = s.exch := by
  unfold exitGarment
  try dsimp only
  (repeat' split) <;> simp

@[simp] theorem exitToPack_frame (e : BeltEntry) (g : Fin 32) (exit : Clock) (s : State) :
    (exitToPack e g exit s).pending = s.pending ∧ (exitToPack e g exit s).clock = s.clock ∧
    (exitToPack e g exit s).pins = s.pins ∧ (exitToPack e g exit s).captures = s.captures ∧
    (exitToPack e g exit s).buttons = s.buttons ∧ (exitToPack e g exit s).ctl = s.ctl ∧
    (exitToPack e g exit s).config = s.config ∧ (exitToPack e g exit s).catalog = s.catalog ∧
    (exitToPack e g exit s).staging = s.staging ∧ (exitToPack e g exit s).port = s.port ∧
    (exitToPack e g exit s).dryer = s.dryer ∧ (exitToPack e g exit s).exch = s.exch := by
  unfold exitToPack
  try dsimp only
  (repeat' split) <;> simp

@[simp] theorem refeedAppend_frame (g : Fin 32) (s : State) :
    (refeedAppend g s).pending = s.pending ∧ (refeedAppend g s).clock = s.clock ∧ (refeedAppend g s).pins = s.pins ∧
    (refeedAppend g s).captures = s.captures ∧ (refeedAppend g s).buttons = s.buttons ∧
    (refeedAppend g s).ctl = s.ctl ∧ (refeedAppend g s).config = s.config ∧ (refeedAppend g s).catalog = s.catalog ∧
    (refeedAppend g s).lines = s.lines ∧ (refeedAppend g s).accepted = s.accepted ∧
    (refeedAppend g s).carousel = s.carousel ∧ (refeedAppend g s).pretreat = s.pretreat ∧
    (refeedAppend g s).press = s.press ∧ (refeedAppend g s).engine = s.engine ∧
    (refeedAppend g s).staging = s.staging ∧ (refeedAppend g s).port = s.port ∧ (refeedAppend g s).prints = s.prints ∧
    (refeedAppend g s).lanes = s.lanes ∧ (refeedAppend g s).flash = s.flash ∧ (refeedAppend g s).pack = s.pack ∧
    (refeedAppend g s).link = s.link ∧ (refeedAppend g s).exch = s.exch ∧ (refeedAppend g s).reports = s.reports := by
  unfold refeedAppend
  try dsimp only
  (repeat' split) <;> simp

@[simp] theorem zoneStatus_frame (z : Fin 4) (f : StatusFields) (s : State) :
    (zoneStatus z f s).pending = s.pending ∧ (zoneStatus z f s).clock = s.clock ∧ (zoneStatus z f s).pins = s.pins ∧
    (zoneStatus z f s).captures = s.captures ∧ (zoneStatus z f s).buttons = s.buttons ∧
    (zoneStatus z f s).ctl = s.ctl ∧ (zoneStatus z f s).config = s.config ∧ (zoneStatus z f s).catalog = s.catalog ∧
    (zoneStatus z f s).lines = s.lines ∧ (zoneStatus z f s).accepted = s.accepted ∧
    (zoneStatus z f s).garments = s.garments ∧ (zoneStatus z f s).carousel = s.carousel ∧
    (zoneStatus z f s).pretreat = s.pretreat ∧ (zoneStatus z f s).press = s.press ∧
    (zoneStatus z f s).engine = s.engine ∧ (zoneStatus z f s).staging = s.staging ∧ (zoneStatus z f s).port = s.port ∧
    (zoneStatus z f s).prints = s.prints ∧ (zoneStatus z f s).lanes = s.lanes ∧ (zoneStatus z f s).flash = s.flash ∧
    (zoneStatus z f s).pack = s.pack ∧ (zoneStatus z f s).link = s.link ∧ (zoneStatus z f s).exch = s.exch ∧
    (zoneStatus z f s).reports = s.reports := by
  unfold zoneStatus
  try dsimp only
  (repeat' split) <;> simp

@[simp] theorem beltStatus_frame (f : StatusFields) (s : State) :
    (beltStatus f s).pending = s.pending ∧ (beltStatus f s).clock = s.clock ∧ (beltStatus f s).pins = s.pins ∧
    (beltStatus f s).captures = s.captures ∧ (beltStatus f s).buttons = s.buttons ∧ (beltStatus f s).ctl = s.ctl ∧
    (beltStatus f s).config = s.config ∧ (beltStatus f s).catalog = s.catalog ∧ (beltStatus f s).lines = s.lines ∧
    (beltStatus f s).accepted = s.accepted ∧ (beltStatus f s).garments = s.garments ∧
    (beltStatus f s).carousel = s.carousel ∧ (beltStatus f s).pretreat = s.pretreat ∧
    (beltStatus f s).press = s.press ∧ (beltStatus f s).engine = s.engine ∧ (beltStatus f s).staging = s.staging ∧
    (beltStatus f s).port = s.port ∧ (beltStatus f s).prints = s.prints ∧ (beltStatus f s).lanes = s.lanes ∧
    (beltStatus f s).flash = s.flash ∧ (beltStatus f s).pack = s.pack ∧ (beltStatus f s).link = s.link ∧
    (beltStatus f s).exch = s.exch ∧ (beltStatus f s).reports = s.reports := by
  unfold beltStatus
  try dsimp only
  (repeat' split) <;> simp

@[simp] theorem flashStatus_frame (f : StatusFields) (s : State) :
    (flashStatus f s).pending = s.pending ∧ (flashStatus f s).clock = s.clock ∧ (flashStatus f s).pins = s.pins ∧
    (flashStatus f s).captures = s.captures ∧ (flashStatus f s).buttons = s.buttons ∧ (flashStatus f s).ctl = s.ctl ∧
    (flashStatus f s).config = s.config ∧ (flashStatus f s).catalog = s.catalog ∧
    (flashStatus f s).staging = s.staging ∧ (flashStatus f s).port = s.port ∧ (flashStatus f s).dryer = s.dryer ∧
    (flashStatus f s).exch = s.exch := by
  unfold flashStatus
  try dsimp only
  (repeat' split) <;> simp

@[simp] theorem showLoad_frame (i : Fin 128) (lineNo : Nat) (s : State) :
    (showLoad i lineNo s).pending = s.pending ∧ (showLoad i lineNo s).clock = s.clock ∧
    (showLoad i lineNo s).pins = s.pins ∧ (showLoad i lineNo s).captures = s.captures ∧
    (showLoad i lineNo s).buttons = s.buttons ∧ (showLoad i lineNo s).ctl = s.ctl ∧
    (showLoad i lineNo s).config = s.config ∧ (showLoad i lineNo s).catalog = s.catalog ∧
    (showLoad i lineNo s).lines = s.lines ∧ (showLoad i lineNo s).accepted = s.accepted ∧
    (showLoad i lineNo s).garments = s.garments ∧ (showLoad i lineNo s).carousel = s.carousel ∧
    (showLoad i lineNo s).pretreat = s.pretreat ∧ (showLoad i lineNo s).press = s.press ∧
    (showLoad i lineNo s).engine = s.engine ∧ (showLoad i lineNo s).staging = s.staging ∧
    (showLoad i lineNo s).port = s.port ∧ (showLoad i lineNo s).prints = s.prints ∧
    (showLoad i lineNo s).lanes = s.lanes ∧ (showLoad i lineNo s).flash = s.flash ∧
    (showLoad i lineNo s).dryer = s.dryer ∧ (showLoad i lineNo s).pack = s.pack ∧
    (showLoad i lineNo s).exch = s.exch ∧ (showLoad i lineNo s).reports = s.reports := by
  unfold showLoad
  try dsimp only
  (repeat' split) <;> simp

@[simp] theorem raiseBound_frame (t : TagFields) (i : Fin 128) (g : Fin 32) (s : State) :
    (raiseBound t i g s).pending = s.pending ∧ (raiseBound t i g s).clock = s.clock ∧
    (raiseBound t i g s).pins = s.pins ∧ (raiseBound t i g s).captures = s.captures ∧
    (raiseBound t i g s).buttons = s.buttons ∧ (raiseBound t i g s).ctl = s.ctl ∧
    (raiseBound t i g s).config = s.config ∧ (raiseBound t i g s).catalog = s.catalog ∧
    (raiseBound t i g s).lines = s.lines ∧ (raiseBound t i g s).accepted = s.accepted ∧
    (raiseBound t i g s).garments = s.garments ∧ (raiseBound t i g s).carousel = s.carousel ∧
    (raiseBound t i g s).pretreat = s.pretreat ∧ (raiseBound t i g s).press = s.press ∧
    (raiseBound t i g s).engine = s.engine ∧ (raiseBound t i g s).staging = s.staging ∧
    (raiseBound t i g s).port = s.port ∧ (raiseBound t i g s).prints = s.prints ∧
    (raiseBound t i g s).lanes = s.lanes ∧ (raiseBound t i g s).flash = s.flash ∧
    (raiseBound t i g s).dryer = s.dryer ∧ (raiseBound t i g s).pack = s.pack ∧ (raiseBound t i g s).link = s.link ∧
    (raiseBound t i g s).exch = s.exch := by
  unfold raiseBound
  try dsimp only
  (repeat' split) <;> simp

@[simp] theorem bind_frame (t : TagFields) (k : TagKind) (i : Fin 128) (g : Fin 32) (s : State) :
    (bind t k i g s).pending = s.pending ∧ (bind t k i g s).clock = s.clock ∧ (bind t k i g s).pins = s.pins ∧
    (bind t k i g s).captures = s.captures ∧ (bind t k i g s).buttons = s.buttons ∧ (bind t k i g s).ctl = s.ctl ∧
    (bind t k i g s).config = s.config ∧ (bind t k i g s).catalog = s.catalog ∧
    (bind t k i g s).accepted = s.accepted ∧ (bind t k i g s).pretreat = s.pretreat ∧
    (bind t k i g s).press = s.press ∧ (bind t k i g s).engine = s.engine ∧ (bind t k i g s).staging = s.staging ∧
    (bind t k i g s).port = s.port ∧ (bind t k i g s).prints = s.prints ∧ (bind t k i g s).lanes = s.lanes ∧
    (bind t k i g s).flash = s.flash ∧ (bind t k i g s).dryer = s.dryer ∧ (bind t k i g s).pack = s.pack ∧
    (bind t k i g s).exch = s.exch := by
  unfold bind
  try dsimp only
  (repeat' split) <;> simp

@[simp] theorem matchStock_frame (t : TagFields) (g : Fin 32) (s : State) :
    (matchStock t g s).pending = s.pending ∧ (matchStock t g s).clock = s.clock ∧ (matchStock t g s).pins = s.pins ∧
    (matchStock t g s).captures = s.captures ∧ (matchStock t g s).buttons = s.buttons ∧
    (matchStock t g s).ctl = s.ctl ∧ (matchStock t g s).config = s.config ∧ (matchStock t g s).catalog = s.catalog ∧
    (matchStock t g s).accepted = s.accepted ∧ (matchStock t g s).pretreat = s.pretreat ∧
    (matchStock t g s).press = s.press ∧ (matchStock t g s).engine = s.engine ∧
    (matchStock t g s).staging = s.staging ∧ (matchStock t g s).port = s.port ∧ (matchStock t g s).prints = s.prints ∧
    (matchStock t g s).lanes = s.lanes ∧ (matchStock t g s).flash = s.flash ∧ (matchStock t g s).dryer = s.dryer ∧
    (matchStock t g s).pack = s.pack ∧ (matchStock t g s).exch = s.exch := by
  unfold matchStock
  try dsimp only
  (repeat' split) <;> simp

@[simp] theorem orderMismatch_frame (t : TagFields) (detail : Nat) (i : Fin 128) (s : State) :
    (orderMismatch t detail i s).pending = s.pending ∧ (orderMismatch t detail i s).clock = s.clock ∧
    (orderMismatch t detail i s).pins = s.pins ∧ (orderMismatch t detail i s).captures = s.captures ∧
    (orderMismatch t detail i s).buttons = s.buttons ∧ (orderMismatch t detail i s).ctl = s.ctl ∧
    (orderMismatch t detail i s).config = s.config ∧ (orderMismatch t detail i s).catalog = s.catalog ∧
    (orderMismatch t detail i s).lines = s.lines ∧ (orderMismatch t detail i s).accepted = s.accepted ∧
    (orderMismatch t detail i s).garments = s.garments ∧ (orderMismatch t detail i s).carousel = s.carousel ∧
    (orderMismatch t detail i s).pretreat = s.pretreat ∧ (orderMismatch t detail i s).press = s.press ∧
    (orderMismatch t detail i s).engine = s.engine ∧ (orderMismatch t detail i s).staging = s.staging ∧
    (orderMismatch t detail i s).port = s.port ∧ (orderMismatch t detail i s).prints = s.prints ∧
    (orderMismatch t detail i s).lanes = s.lanes ∧ (orderMismatch t detail i s).flash = s.flash ∧
    (orderMismatch t detail i s).dryer = s.dryer ∧ (orderMismatch t detail i s).pack = s.pack ∧
    (orderMismatch t detail i s).link = s.link ∧ (orderMismatch t detail i s).exch = s.exch := by
  unfold orderMismatch
  try dsimp only
  (repeat' split) <;> simp

@[simp] theorem matchOrder_frame (t : TagFields) (g : Fin 32) (s : State) :
    (matchOrder t g s).pending = s.pending ∧ (matchOrder t g s).clock = s.clock ∧ (matchOrder t g s).pins = s.pins ∧
    (matchOrder t g s).captures = s.captures ∧ (matchOrder t g s).buttons = s.buttons ∧
    (matchOrder t g s).ctl = s.ctl ∧ (matchOrder t g s).config = s.config ∧ (matchOrder t g s).catalog = s.catalog ∧
    (matchOrder t g s).accepted = s.accepted ∧ (matchOrder t g s).pretreat = s.pretreat ∧
    (matchOrder t g s).press = s.press ∧ (matchOrder t g s).engine = s.engine ∧
    (matchOrder t g s).staging = s.staging ∧ (matchOrder t g s).port = s.port ∧ (matchOrder t g s).prints = s.prints ∧
    (matchOrder t g s).lanes = s.lanes ∧ (matchOrder t g s).flash = s.flash ∧ (matchOrder t g s).dryer = s.dryer ∧
    (matchOrder t g s).pack = s.pack ∧ (matchOrder t g s).exch = s.exch := by
  unfold matchOrder
  try dsimp only
  (repeat' split) <;> simp

@[simp] theorem withdrawnCount_frame (r : Garment) (s : State) :
    (withdrawnCount r s).pending = s.pending ∧ (withdrawnCount r s).clock = s.clock ∧
    (withdrawnCount r s).pins = s.pins ∧ (withdrawnCount r s).captures = s.captures ∧
    (withdrawnCount r s).buttons = s.buttons ∧ (withdrawnCount r s).ctl = s.ctl ∧
    (withdrawnCount r s).config = s.config ∧ (withdrawnCount r s).catalog = s.catalog ∧
    (withdrawnCount r s).garments = s.garments ∧ (withdrawnCount r s).carousel = s.carousel ∧
    (withdrawnCount r s).pretreat = s.pretreat ∧ (withdrawnCount r s).press = s.press ∧
    (withdrawnCount r s).engine = s.engine ∧ (withdrawnCount r s).staging = s.staging ∧
    (withdrawnCount r s).port = s.port ∧ (withdrawnCount r s).prints = s.prints ∧
    (withdrawnCount r s).lanes = s.lanes ∧ (withdrawnCount r s).flash = s.flash ∧
    (withdrawnCount r s).dryer = s.dryer ∧ (withdrawnCount r s).link = s.link ∧ (withdrawnCount r s).exch = s.exch := by
  unfold withdrawnCount ifCurrent
  try dsimp only
  (repeat' split) <;> simp

@[simp] theorem withdraw_frame (t : TagFields) (g : Fin 32) (r : Garment) (s : State) :
    (withdraw t g r s).pending = s.pending ∧ (withdraw t g r s).clock = s.clock ∧ (withdraw t g r s).pins = s.pins ∧
    (withdraw t g r s).captures = s.captures ∧ (withdraw t g r s).buttons = s.buttons ∧
    (withdraw t g r s).ctl = s.ctl ∧ (withdraw t g r s).config = s.config ∧ (withdraw t g r s).catalog = s.catalog ∧
    (withdraw t g r s).pretreat = s.pretreat ∧ (withdraw t g r s).press = s.press ∧
    (withdraw t g r s).engine = s.engine ∧ (withdraw t g r s).staging = s.staging ∧ (withdraw t g r s).port = s.port ∧
    (withdraw t g r s).prints = s.prints ∧ (withdraw t g r s).lanes = s.lanes ∧ (withdraw t g r s).flash = s.flash ∧
    (withdraw t g r s).dryer = s.dryer ∧ (withdraw t g r s).link = s.link ∧ (withdraw t g r s).exch = s.exch := by
  unfold withdraw
  try dsimp only
  (repeat' split) <;> simp

@[simp] theorem matchTag_frame (t : TagFields) (k : TagKind) (s : State) :
    (matchTag t k s).pending = s.pending ∧ (matchTag t k s).clock = s.clock ∧ (matchTag t k s).pins = s.pins ∧
    (matchTag t k s).captures = s.captures ∧ (matchTag t k s).buttons = s.buttons ∧ (matchTag t k s).ctl = s.ctl ∧
    (matchTag t k s).config = s.config ∧ (matchTag t k s).catalog = s.catalog ∧
    (matchTag t k s).accepted = s.accepted ∧ (matchTag t k s).pretreat = s.pretreat ∧
    (matchTag t k s).press = s.press ∧ (matchTag t k s).engine = s.engine ∧ (matchTag t k s).staging = s.staging ∧
    (matchTag t k s).port = s.port ∧ (matchTag t k s).prints = s.prints ∧ (matchTag t k s).lanes = s.lanes ∧
    (matchTag t k s).flash = s.flash ∧ (matchTag t k s).dryer = s.dryer ∧ (matchTag t k s).pack = s.pack ∧
    (matchTag t k s).exch = s.exch := by
  unfold matchTag
  try dsimp only
  (repeat' split) <;> simp

@[simp] theorem occupied_frame (t : TagFields) (g : Fin 32) (s : State) :
    (occupied t g s).pending = s.pending ∧ (occupied t g s).clock = s.clock ∧ (occupied t g s).pins = s.pins ∧
    (occupied t g s).captures = s.captures ∧ (occupied t g s).buttons = s.buttons ∧ (occupied t g s).ctl = s.ctl ∧
    (occupied t g s).config = s.config ∧ (occupied t g s).catalog = s.catalog ∧
    (occupied t g s).pretreat = s.pretreat ∧ (occupied t g s).press = s.press ∧ (occupied t g s).engine = s.engine ∧
    (occupied t g s).staging = s.staging ∧ (occupied t g s).port = s.port ∧ (occupied t g s).prints = s.prints ∧
    (occupied t g s).lanes = s.lanes ∧ (occupied t g s).flash = s.flash ∧ (occupied t g s).dryer = s.dryer ∧
    (occupied t g s).link = s.link ∧ (occupied t g s).exch = s.exch := by
  unfold occupied
  try dsimp only
  (repeat' split) <;> simp

@[simp] theorem screenPlaten_frame (t : TagFields) (k : TagKind) (s : State) :
    (screenPlaten t k s).pending = s.pending ∧ (screenPlaten t k s).clock = s.clock ∧
    (screenPlaten t k s).pins = s.pins ∧ (screenPlaten t k s).captures = s.captures ∧
    (screenPlaten t k s).buttons = s.buttons ∧ (screenPlaten t k s).ctl = s.ctl ∧
    (screenPlaten t k s).config = s.config ∧ (screenPlaten t k s).catalog = s.catalog ∧
    (screenPlaten t k s).pretreat = s.pretreat ∧ (screenPlaten t k s).press = s.press ∧
    (screenPlaten t k s).engine = s.engine ∧ (screenPlaten t k s).staging = s.staging ∧
    (screenPlaten t k s).port = s.port ∧ (screenPlaten t k s).prints = s.prints ∧
    (screenPlaten t k s).lanes = s.lanes ∧ (screenPlaten t k s).flash = s.flash ∧
    (screenPlaten t k s).dryer = s.dryer ∧ (screenPlaten t k s).exch = s.exch := by
  unfold screenPlaten
  try dsimp only
  (repeat' split) <;> simp

@[simp] theorem loadScan_frame (t : TagFields) (s : State) :
    (loadScan t s).pending = s.pending ∧ (loadScan t s).clock = s.clock ∧ (loadScan t s).pins = s.pins ∧
    (loadScan t s).captures = s.captures ∧ (loadScan t s).buttons = s.buttons ∧ (loadScan t s).ctl = s.ctl ∧
    (loadScan t s).config = s.config ∧ (loadScan t s).catalog = s.catalog ∧ (loadScan t s).pretreat = s.pretreat ∧
    (loadScan t s).press = s.press ∧ (loadScan t s).engine = s.engine ∧ (loadScan t s).staging = s.staging ∧
    (loadScan t s).port = s.port ∧ (loadScan t s).prints = s.prints ∧ (loadScan t s).lanes = s.lanes ∧
    (loadScan t s).flash = s.flash ∧ (loadScan t s).dryer = s.dryer ∧ (loadScan t s).exch = s.exch := by
  unfold loadScan
  try dsimp only
  (repeat' split) <;> simp

@[simp] theorem showPack_frame (c : PackCode) (s : State) :
    (showPack c s).pending = s.pending ∧ (showPack c s).clock = s.clock ∧ (showPack c s).pins = s.pins ∧
    (showPack c s).captures = s.captures ∧ (showPack c s).buttons = s.buttons ∧ (showPack c s).ctl = s.ctl ∧
    (showPack c s).config = s.config ∧ (showPack c s).catalog = s.catalog ∧ (showPack c s).lines = s.lines ∧
    (showPack c s).accepted = s.accepted ∧ (showPack c s).garments = s.garments ∧
    (showPack c s).carousel = s.carousel ∧ (showPack c s).pretreat = s.pretreat ∧ (showPack c s).press = s.press ∧
    (showPack c s).engine = s.engine ∧ (showPack c s).staging = s.staging ∧ (showPack c s).port = s.port ∧
    (showPack c s).prints = s.prints ∧ (showPack c s).lanes = s.lanes ∧ (showPack c s).flash = s.flash ∧
    (showPack c s).dryer = s.dryer ∧ (showPack c s).pack = s.pack ∧ (showPack c s).exch = s.exch ∧
    (showPack c s).reports = s.reports := by
  unfold showPack
  try dsimp only
  (repeat' split) <;> simp

@[simp] theorem putBin_frame (b : Fin 12) (key : Option Word) (s : State) :
    (putBin b key s).pending = s.pending ∧ (putBin b key s).clock = s.clock ∧ (putBin b key s).pins = s.pins ∧
    (putBin b key s).captures = s.captures ∧ (putBin b key s).buttons = s.buttons ∧ (putBin b key s).ctl = s.ctl ∧
    (putBin b key s).config = s.config ∧ (putBin b key s).catalog = s.catalog ∧ (putBin b key s).lines = s.lines ∧
    (putBin b key s).accepted = s.accepted ∧ (putBin b key s).garments = s.garments ∧
    (putBin b key s).carousel = s.carousel ∧ (putBin b key s).pretreat = s.pretreat ∧
    (putBin b key s).press = s.press ∧ (putBin b key s).engine = s.engine ∧ (putBin b key s).staging = s.staging ∧
    (putBin b key s).port = s.port ∧ (putBin b key s).prints = s.prints ∧ (putBin b key s).lanes = s.lanes ∧
    (putBin b key s).flash = s.flash ∧ (putBin b key s).dryer = s.dryer ∧ (putBin b key s).link = s.link ∧
    (putBin b key s).exch = s.exch ∧ (putBin b key s).reports = s.reports := by
  unfold putBin
  try dsimp only
  (repeat' split) <;> simp

@[simp] theorem putWaiting_frame (w : List Word) (s : State) :
    (putWaiting w s).pending = s.pending ∧ (putWaiting w s).clock = s.clock ∧ (putWaiting w s).pins = s.pins ∧
    (putWaiting w s).captures = s.captures ∧ (putWaiting w s).buttons = s.buttons ∧ (putWaiting w s).ctl = s.ctl ∧
    (putWaiting w s).config = s.config ∧ (putWaiting w s).catalog = s.catalog ∧ (putWaiting w s).lines = s.lines ∧
    (putWaiting w s).accepted = s.accepted ∧ (putWaiting w s).garments = s.garments ∧
    (putWaiting w s).carousel = s.carousel ∧ (putWaiting w s).pretreat = s.pretreat ∧
    (putWaiting w s).press = s.press ∧ (putWaiting w s).engine = s.engine ∧ (putWaiting w s).staging = s.staging ∧
    (putWaiting w s).port = s.port ∧ (putWaiting w s).prints = s.prints ∧ (putWaiting w s).lanes = s.lanes ∧
    (putWaiting w s).flash = s.flash ∧ (putWaiting w s).dryer = s.dryer ∧ (putWaiting w s).link = s.link ∧
    (putWaiting w s).exch = s.exch ∧ (putWaiting w s).reports = s.reports := by
  unfold putWaiting
  try dsimp only
  (repeat' split) <;> simp

@[simp] theorem changeBin_frame (o : Order) (b : OrderBin) (s : State) :
    (changeBin o b s).pending = s.pending ∧ (changeBin o b s).clock = s.clock ∧ (changeBin o b s).pins = s.pins ∧
    (changeBin o b s).captures = s.captures ∧ (changeBin o b s).buttons = s.buttons ∧ (changeBin o b s).ctl = s.ctl ∧
    (changeBin o b s).config = s.config ∧ (changeBin o b s).catalog = s.catalog ∧
    (changeBin o b s).accepted = s.accepted ∧ (changeBin o b s).garments = s.garments ∧
    (changeBin o b s).carousel = s.carousel ∧ (changeBin o b s).pretreat = s.pretreat ∧
    (changeBin o b s).press = s.press ∧ (changeBin o b s).engine = s.engine ∧ (changeBin o b s).staging = s.staging ∧
    (changeBin o b s).port = s.port ∧ (changeBin o b s).prints = s.prints ∧ (changeBin o b s).lanes = s.lanes ∧
    (changeBin o b s).flash = s.flash ∧ (changeBin o b s).dryer = s.dryer ∧ (changeBin o b s).link = s.link ∧
    (changeBin o b s).exch = s.exch := by
  unfold changeBin
  try dsimp only
  (repeat' split) <;> simp

@[simp] theorem assignBin_frame (o : Order) (s : State) :
    (assignBin o s).pending = s.pending ∧ (assignBin o s).clock = s.clock ∧ (assignBin o s).pins = s.pins ∧
    (assignBin o s).captures = s.captures ∧ (assignBin o s).buttons = s.buttons ∧ (assignBin o s).ctl = s.ctl ∧
    (assignBin o s).config = s.config ∧ (assignBin o s).catalog = s.catalog ∧ (assignBin o s).accepted = s.accepted ∧
    (assignBin o s).garments = s.garments ∧ (assignBin o s).carousel = s.carousel ∧
    (assignBin o s).pretreat = s.pretreat ∧ (assignBin o s).press = s.press ∧ (assignBin o s).engine = s.engine ∧
    (assignBin o s).staging = s.staging ∧ (assignBin o s).port = s.port ∧ (assignBin o s).prints = s.prints ∧
    (assignBin o s).lanes = s.lanes ∧ (assignBin o s).flash = s.flash ∧ (assignBin o s).dryer = s.dryer ∧
    (assignBin o s).link = s.link ∧ (assignBin o s).exch = s.exch := by
  unfold assignBin
  try dsimp only
  (repeat' split) <;> simp

@[simp] theorem ensureBin_frame (key : Word) (s : State) :
    (ensureBin key s).pending = s.pending ∧ (ensureBin key s).clock = s.clock ∧ (ensureBin key s).pins = s.pins ∧
    (ensureBin key s).captures = s.captures ∧ (ensureBin key s).buttons = s.buttons ∧ (ensureBin key s).ctl = s.ctl ∧
    (ensureBin key s).config = s.config ∧ (ensureBin key s).catalog = s.catalog ∧
    (ensureBin key s).accepted = s.accepted ∧ (ensureBin key s).garments = s.garments ∧
    (ensureBin key s).carousel = s.carousel ∧ (ensureBin key s).pretreat = s.pretreat ∧
    (ensureBin key s).press = s.press ∧ (ensureBin key s).engine = s.engine ∧ (ensureBin key s).staging = s.staging ∧
    (ensureBin key s).port = s.port ∧ (ensureBin key s).prints = s.prints ∧ (ensureBin key s).lanes = s.lanes ∧
    (ensureBin key s).flash = s.flash ∧ (ensureBin key s).dryer = s.dryer ∧ (ensureBin key s).link = s.link ∧
    (ensureBin key s).exch = s.exch := by
  unfold ensureBin
  try dsimp only
  (repeat' split) <;> simp

@[simp] theorem countPacked_frame (key : Word) (c : PackCode) (s : State) :
    (countPacked key c s).pending = s.pending ∧ (countPacked key c s).clock = s.clock ∧
    (countPacked key c s).pins = s.pins ∧ (countPacked key c s).captures = s.captures ∧
    (countPacked key c s).buttons = s.buttons ∧ (countPacked key c s).ctl = s.ctl ∧
    (countPacked key c s).config = s.config ∧ (countPacked key c s).catalog = s.catalog ∧
    (countPacked key c s).lines = s.lines ∧ (countPacked key c s).accepted = s.accepted ∧
    (countPacked key c s).garments = s.garments ∧ (countPacked key c s).carousel = s.carousel ∧
    (countPacked key c s).pretreat = s.pretreat ∧ (countPacked key c s).press = s.press ∧
    (countPacked key c s).engine = s.engine ∧ (countPacked key c s).staging = s.staging ∧
    (countPacked key c s).port = s.port ∧ (countPacked key c s).prints = s.prints ∧
    (countPacked key c s).lanes = s.lanes ∧ (countPacked key c s).flash = s.flash ∧
    (countPacked key c s).dryer = s.dryer ∧ (countPacked key c s).link = s.link ∧
    (countPacked key c s).exch = s.exch ∧ (countPacked key c s).reports = s.reports := by
  unfold countPacked
  try dsimp only
  (repeat' split) <;> simp

@[simp] theorem raisePacked_frame (g : Fin 32) (c : PackCode) (s : State) :
    (raisePacked g c s).pending = s.pending ∧ (raisePacked g c s).clock = s.clock ∧
    (raisePacked g c s).pins = s.pins ∧ (raisePacked g c s).captures = s.captures ∧
    (raisePacked g c s).buttons = s.buttons ∧ (raisePacked g c s).ctl = s.ctl ∧
    (raisePacked g c s).config = s.config ∧ (raisePacked g c s).catalog = s.catalog ∧
    (raisePacked g c s).lines = s.lines ∧ (raisePacked g c s).accepted = s.accepted ∧
    (raisePacked g c s).garments = s.garments ∧ (raisePacked g c s).carousel = s.carousel ∧
    (raisePacked g c s).pretreat = s.pretreat ∧ (raisePacked g c s).press = s.press ∧
    (raisePacked g c s).engine = s.engine ∧ (raisePacked g c s).staging = s.staging ∧
    (raisePacked g c s).port = s.port ∧ (raisePacked g c s).prints = s.prints ∧ (raisePacked g c s).lanes = s.lanes ∧
    (raisePacked g c s).flash = s.flash ∧ (raisePacked g c s).dryer = s.dryer ∧ (raisePacked g c s).pack = s.pack ∧
    (raisePacked g c s).link = s.link ∧ (raisePacked g c s).exch = s.exch := by
  unfold raisePacked
  try dsimp only
  (repeat' split) <;> simp

@[simp] theorem packCounts_frame (r : Garment) (c : PackCode) (s : State) :
    (packCounts r c s).pending = s.pending ∧ (packCounts r c s).clock = s.clock ∧ (packCounts r c s).pins = s.pins ∧
    (packCounts r c s).captures = s.captures ∧ (packCounts r c s).buttons = s.buttons ∧
    (packCounts r c s).ctl = s.ctl ∧ (packCounts r c s).config = s.config ∧ (packCounts r c s).catalog = s.catalog ∧
    (packCounts r c s).garments = s.garments ∧ (packCounts r c s).carousel = s.carousel ∧
    (packCounts r c s).pretreat = s.pretreat ∧ (packCounts r c s).press = s.press ∧
    (packCounts r c s).engine = s.engine ∧ (packCounts r c s).staging = s.staging ∧ (packCounts r c s).port = s.port ∧
    (packCounts r c s).prints = s.prints ∧ (packCounts r c s).lanes = s.lanes ∧ (packCounts r c s).flash = s.flash ∧
    (packCounts r c s).dryer = s.dryer ∧ (packCounts r c s).link = s.link ∧ (packCounts r c s).exch = s.exch := by
  unfold packCounts ifCurrent
  try dsimp only
  (repeat' split) <;> simp

@[simp] theorem packTold_frame (g : Fin 32) (r : Garment) (c : PackCode) (s : State) :
    (packTold g r c s).pending = s.pending ∧ (packTold g r c s).clock = s.clock ∧ (packTold g r c s).pins = s.pins ∧
    (packTold g r c s).captures = s.captures ∧ (packTold g r c s).buttons = s.buttons ∧
    (packTold g r c s).ctl = s.ctl ∧ (packTold g r c s).config = s.config ∧ (packTold g r c s).catalog = s.catalog ∧
    (packTold g r c s).garments = s.garments ∧ (packTold g r c s).carousel = s.carousel ∧
    (packTold g r c s).pretreat = s.pretreat ∧ (packTold g r c s).press = s.press ∧
    (packTold g r c s).engine = s.engine ∧ (packTold g r c s).staging = s.staging ∧ (packTold g r c s).port = s.port ∧
    (packTold g r c s).prints = s.prints ∧ (packTold g r c s).lanes = s.lanes ∧ (packTold g r c s).flash = s.flash ∧
    (packTold g r c s).dryer = s.dryer ∧ (packTold g r c s).exch = s.exch := by
  unfold packTold
  try dsimp only
  (repeat' split) <;> simp

@[simp] theorem packOut_frame (g : Fin 32) (r : Garment) (c : PackCode) (s : State) :
    (packOut g r c s).pending = s.pending ∧ (packOut g r c s).clock = s.clock ∧ (packOut g r c s).pins = s.pins ∧
    (packOut g r c s).captures = s.captures ∧ (packOut g r c s).buttons = s.buttons ∧ (packOut g r c s).ctl = s.ctl ∧
    (packOut g r c s).config = s.config ∧ (packOut g r c s).catalog = s.catalog ∧
    (packOut g r c s).pretreat = s.pretreat ∧ (packOut g r c s).press = s.press ∧
    (packOut g r c s).engine = s.engine ∧ (packOut g r c s).staging = s.staging ∧ (packOut g r c s).port = s.port ∧
    (packOut g r c s).prints = s.prints ∧ (packOut g r c s).lanes = s.lanes ∧ (packOut g r c s).flash = s.flash ∧
    (packOut g r c s).dryer = s.dryer ∧ (packOut g r c s).exch = s.exch := by
  unfold packOut
  try dsimp only
  (repeat' split) <;> simp

@[simp] theorem packToOrder_frame (g : Fin 32) (r : Garment) (s : State) :
    (packToOrder g r s).pending = s.pending ∧ (packToOrder g r s).clock = s.clock ∧
    (packToOrder g r s).pins = s.pins ∧ (packToOrder g r s).captures = s.captures ∧
    (packToOrder g r s).buttons = s.buttons ∧ (packToOrder g r s).ctl = s.ctl ∧
    (packToOrder g r s).config = s.config ∧ (packToOrder g r s).catalog = s.catalog ∧
    (packToOrder g r s).pretreat = s.pretreat ∧ (packToOrder g r s).press = s.press ∧
    (packToOrder g r s).engine = s.engine ∧ (packToOrder g r s).staging = s.staging ∧
    (packToOrder g r s).port = s.port ∧ (packToOrder g r s).prints = s.prints ∧ (packToOrder g r s).lanes = s.lanes ∧
    (packToOrder g r s).flash = s.flash ∧ (packToOrder g r s).dryer = s.dryer ∧ (packToOrder g r s).exch = s.exch := by
  unfold packToOrder
  try dsimp only
  (repeat' split) <;> simp

@[simp] theorem countRefeed_frame (g : Fin 32) (s : State) :
    (countRefeed g s).pending = s.pending ∧ (countRefeed g s).clock = s.clock ∧ (countRefeed g s).pins = s.pins ∧
    (countRefeed g s).captures = s.captures ∧ (countRefeed g s).buttons = s.buttons ∧ (countRefeed g s).ctl = s.ctl ∧
    (countRefeed g s).config = s.config ∧ (countRefeed g s).catalog = s.catalog ∧ (countRefeed g s).lines = s.lines ∧
    (countRefeed g s).accepted = s.accepted ∧ (countRefeed g s).carousel = s.carousel ∧
    (countRefeed g s).pretreat = s.pretreat ∧ (countRefeed g s).press = s.press ∧
    (countRefeed g s).engine = s.engine ∧ (countRefeed g s).staging = s.staging ∧ (countRefeed g s).port = s.port ∧
    (countRefeed g s).prints = s.prints ∧ (countRefeed g s).lanes = s.lanes ∧ (countRefeed g s).flash = s.flash ∧
    (countRefeed g s).dryer = s.dryer ∧ (countRefeed g s).pack = s.pack ∧ (countRefeed g s).link = s.link ∧
    (countRefeed g s).exch = s.exch ∧ (countRefeed g s).reports = s.reports := by
  unfold countRefeed
  try dsimp only
  (repeat' split) <;> simp

@[simp] theorem packRefeed_frame (g : Fin 32) (r : Garment) (s : State) :
    (packRefeed g r s).pending = s.pending ∧ (packRefeed g r s).clock = s.clock ∧ (packRefeed g r s).pins = s.pins ∧
    (packRefeed g r s).captures = s.captures ∧ (packRefeed g r s).buttons = s.buttons ∧
    (packRefeed g r s).ctl = s.ctl ∧ (packRefeed g r s).config = s.config ∧ (packRefeed g r s).catalog = s.catalog ∧
    (packRefeed g r s).staging = s.staging ∧ (packRefeed g r s).port = s.port ∧ (packRefeed g r s).exch = s.exch := by
  unfold packRefeed
  try dsimp only
  (repeat' split) <;> simp

@[simp] theorem packGarment_frame (g : Fin 32) (s : State) :
    (packGarment g s).pending = s.pending ∧ (packGarment g s).clock = s.clock ∧ (packGarment g s).pins = s.pins ∧
    (packGarment g s).captures = s.captures ∧ (packGarment g s).buttons = s.buttons ∧ (packGarment g s).ctl = s.ctl ∧
    (packGarment g s).config = s.config ∧ (packGarment g s).catalog = s.catalog ∧
    (packGarment g s).staging = s.staging ∧ (packGarment g s).port = s.port ∧ (packGarment g s).exch = s.exch := by
  unfold packGarment
  try dsimp only
  (repeat' split) <;> simp

@[simp] theorem raiseEarlyPick_frame (e : BeltEntry) (g : Fin 32) (s : State) :
    (raiseEarlyPick e g s).pending = s.pending ∧ (raiseEarlyPick e g s).clock = s.clock ∧
    (raiseEarlyPick e g s).pins = s.pins ∧ (raiseEarlyPick e g s).captures = s.captures ∧
    (raiseEarlyPick e g s).buttons = s.buttons ∧ (raiseEarlyPick e g s).ctl = s.ctl ∧
    (raiseEarlyPick e g s).config = s.config ∧ (raiseEarlyPick e g s).catalog = s.catalog ∧
    (raiseEarlyPick e g s).lines = s.lines ∧ (raiseEarlyPick e g s).accepted = s.accepted ∧
    (raiseEarlyPick e g s).garments = s.garments ∧ (raiseEarlyPick e g s).carousel = s.carousel ∧
    (raiseEarlyPick e g s).pretreat = s.pretreat ∧ (raiseEarlyPick e g s).press = s.press ∧
    (raiseEarlyPick e g s).engine = s.engine ∧ (raiseEarlyPick e g s).staging = s.staging ∧
    (raiseEarlyPick e g s).port = s.port ∧ (raiseEarlyPick e g s).prints = s.prints ∧
    (raiseEarlyPick e g s).lanes = s.lanes ∧ (raiseEarlyPick e g s).flash = s.flash ∧
    (raiseEarlyPick e g s).dryer = s.dryer ∧ (raiseEarlyPick e g s).pack = s.pack ∧
    (raiseEarlyPick e g s).link = s.link ∧ (raiseEarlyPick e g s).exch = s.exch := by
  unfold raiseEarlyPick
  try dsimp only
  (repeat' split) <;> simp

@[simp] theorem earlyPick_frame (e : BeltEntry) (g : Fin 32) (s : State) :
    (earlyPick e g s).pending = s.pending ∧ (earlyPick e g s).clock = s.clock ∧ (earlyPick e g s).pins = s.pins ∧
    (earlyPick e g s).captures = s.captures ∧ (earlyPick e g s).buttons = s.buttons ∧ (earlyPick e g s).ctl = s.ctl ∧
    (earlyPick e g s).config = s.config ∧ (earlyPick e g s).catalog = s.catalog ∧
    (earlyPick e g s).staging = s.staging ∧ (earlyPick e g s).port = s.port ∧ (earlyPick e g s).exch = s.exch := by
  unfold earlyPick
  try dsimp only
  (repeat' split) <;> simp

@[simp] theorem strayScan_frame (t : TagFields) (s : State) :
    (strayScan t s).pending = s.pending ∧ (strayScan t s).clock = s.clock ∧ (strayScan t s).pins = s.pins ∧
    (strayScan t s).captures = s.captures ∧ (strayScan t s).buttons = s.buttons ∧ (strayScan t s).ctl = s.ctl ∧
    (strayScan t s).config = s.config ∧ (strayScan t s).catalog = s.catalog ∧ (strayScan t s).lines = s.lines ∧
    (strayScan t s).accepted = s.accepted ∧ (strayScan t s).garments = s.garments ∧
    (strayScan t s).carousel = s.carousel ∧ (strayScan t s).pretreat = s.pretreat ∧ (strayScan t s).press = s.press ∧
    (strayScan t s).engine = s.engine ∧ (strayScan t s).staging = s.staging ∧ (strayScan t s).port = s.port ∧
    (strayScan t s).prints = s.prints ∧ (strayScan t s).lanes = s.lanes ∧ (strayScan t s).flash = s.flash ∧
    (strayScan t s).dryer = s.dryer ∧ (strayScan t s).pack = s.pack ∧ (strayScan t s).exch = s.exch := by
  unfold strayScan
  try dsimp only
  (repeat' split) <;> simp

@[simp] theorem shirtScan_frame (t : TagFields) (s : State) :
    (shirtScan t s).pending = s.pending ∧ (shirtScan t s).clock = s.clock ∧ (shirtScan t s).pins = s.pins ∧
    (shirtScan t s).captures = s.captures ∧ (shirtScan t s).buttons = s.buttons ∧ (shirtScan t s).ctl = s.ctl ∧
    (shirtScan t s).config = s.config ∧ (shirtScan t s).catalog = s.catalog ∧ (shirtScan t s).staging = s.staging ∧
    (shirtScan t s).port = s.port ∧ (shirtScan t s).exch = s.exch := by
  unfold shirtScan
  try dsimp only
  (repeat' split) <;> simp

@[simp] theorem moveOverflow_frame (b : Fin 12) (s : State) :
    (moveOverflow b s).pending = s.pending ∧ (moveOverflow b s).clock = s.clock ∧ (moveOverflow b s).pins = s.pins ∧
    (moveOverflow b s).captures = s.captures ∧ (moveOverflow b s).buttons = s.buttons ∧
    (moveOverflow b s).ctl = s.ctl ∧ (moveOverflow b s).config = s.config ∧ (moveOverflow b s).catalog = s.catalog ∧
    (moveOverflow b s).accepted = s.accepted ∧ (moveOverflow b s).garments = s.garments ∧
    (moveOverflow b s).carousel = s.carousel ∧ (moveOverflow b s).pretreat = s.pretreat ∧
    (moveOverflow b s).press = s.press ∧ (moveOverflow b s).engine = s.engine ∧
    (moveOverflow b s).staging = s.staging ∧ (moveOverflow b s).port = s.port ∧ (moveOverflow b s).prints = s.prints ∧
    (moveOverflow b s).lanes = s.lanes ∧ (moveOverflow b s).flash = s.flash ∧ (moveOverflow b s).dryer = s.dryer ∧
    (moveOverflow b s).link = s.link ∧ (moveOverflow b s).exch = s.exch := by
  unfold moveOverflow
  try dsimp only
  (repeat' split) <;> simp

@[simp] theorem clearReady_frame (b : Fin 12) (o : Order) (s : State) :
    (clearReady b o s).pending = s.pending ∧ (clearReady b o s).clock = s.clock ∧ (clearReady b o s).pins = s.pins ∧
    (clearReady b o s).captures = s.captures ∧ (clearReady b o s).buttons = s.buttons ∧
    (clearReady b o s).ctl = s.ctl ∧ (clearReady b o s).config = s.config ∧ (clearReady b o s).catalog = s.catalog ∧
    (clearReady b o s).accepted = s.accepted ∧ (clearReady b o s).garments = s.garments ∧
    (clearReady b o s).carousel = s.carousel ∧ (clearReady b o s).pretreat = s.pretreat ∧
    (clearReady b o s).press = s.press ∧ (clearReady b o s).engine = s.engine ∧
    (clearReady b o s).staging = s.staging ∧ (clearReady b o s).port = s.port ∧ (clearReady b o s).prints = s.prints ∧
    (clearReady b o s).lanes = s.lanes ∧ (clearReady b o s).flash = s.flash ∧ (clearReady b o s).dryer = s.dryer ∧
    (clearReady b o s).exch = s.exch := by
  unfold clearReady
  try dsimp only
  (repeat' split) <;> simp

@[simp] theorem binClear_frame (b : Fin 12) (s : State) :
    (binClear b s).pending = s.pending ∧ (binClear b s).clock = s.clock ∧ (binClear b s).pins = s.pins ∧
    (binClear b s).captures = s.captures ∧ (binClear b s).buttons = s.buttons ∧ (binClear b s).ctl = s.ctl ∧
    (binClear b s).config = s.config ∧ (binClear b s).catalog = s.catalog ∧ (binClear b s).accepted = s.accepted ∧
    (binClear b s).pretreat = s.pretreat ∧ (binClear b s).press = s.press ∧ (binClear b s).engine = s.engine ∧
    (binClear b s).staging = s.staging ∧ (binClear b s).port = s.port ∧ (binClear b s).prints = s.prints ∧
    (binClear b s).lanes = s.lanes ∧ (binClear b s).flash = s.flash ∧ (binClear b s).dryer = s.dryer ∧
    (binClear b s).exch = s.exch := by
  unfold binClear
  try dsimp only
  (repeat' split) <;> simp

@[simp] theorem binScan_frame (t : TagFields) (s : State) :
    (binScan t s).pending = s.pending ∧ (binScan t s).clock = s.clock ∧ (binScan t s).pins = s.pins ∧
    (binScan t s).captures = s.captures ∧ (binScan t s).buttons = s.buttons ∧ (binScan t s).ctl = s.ctl ∧
    (binScan t s).config = s.config ∧ (binScan t s).catalog = s.catalog ∧ (binScan t s).accepted = s.accepted ∧
    (binScan t s).pretreat = s.pretreat ∧ (binScan t s).press = s.press ∧ (binScan t s).engine = s.engine ∧
    (binScan t s).staging = s.staging ∧ (binScan t s).port = s.port ∧ (binScan t s).prints = s.prints ∧
    (binScan t s).lanes = s.lanes ∧ (binScan t s).flash = s.flash ∧ (binScan t s).dryer = s.dryer ∧
    (binScan t s).exch = s.exch := by
  unfold binScan
  try dsimp only
  (repeat' split) <;> simp

@[simp] theorem packScan_frame (t : TagFields) (s : State) :
    (packScan t s).pending = s.pending ∧ (packScan t s).clock = s.clock ∧ (packScan t s).pins = s.pins ∧
    (packScan t s).captures = s.captures ∧ (packScan t s).buttons = s.buttons ∧ (packScan t s).ctl = s.ctl ∧
    (packScan t s).config = s.config ∧ (packScan t s).catalog = s.catalog ∧ (packScan t s).staging = s.staging ∧
    (packScan t s).port = s.port ∧ (packScan t s).exch = s.exch := by
  unfold packScan
  try dsimp only
  (repeat' split) <;> simp

end Sys2Proof.Machine
end

