-- ==== Sys2Proof/Laws/Frame3.lean ====
section
/-! SUPPORT. What every operation of DeliverOps, TryOps, ExchOps, ResetOps leaves unchanged: one lemma per operation, a conjunction over the
fields it never touches. -/

namespace Sys2Proof.Machine

@[simp] theorem carouselOutcome_frame (o : TxnOutcome) (s : State) :
    (carouselOutcome o s).pending = s.pending ∧ (carouselOutcome o s).clock = s.clock ∧
    (carouselOutcome o s).pins = s.pins ∧ (carouselOutcome o s).captures = s.captures ∧
    (carouselOutcome o s).buttons = s.buttons ∧ (carouselOutcome o s).config = s.config ∧
    (carouselOutcome o s).catalog = s.catalog ∧ (carouselOutcome o s).lines = s.lines ∧
    (carouselOutcome o s).accepted = s.accepted ∧ (carouselOutcome o s).garments = s.garments ∧
    (carouselOutcome o s).pretreat = s.pretreat ∧ (carouselOutcome o s).press = s.press ∧
    (carouselOutcome o s).engine = s.engine ∧ (carouselOutcome o s).staging = s.staging ∧
    (carouselOutcome o s).port = s.port ∧ (carouselOutcome o s).prints = s.prints ∧
    (carouselOutcome o s).lanes = s.lanes ∧ (carouselOutcome o s).pack = s.pack ∧ (carouselOutcome o s).exch = s.exch := by
  unfold carouselOutcome
  try dsimp only
  (repeat' split) <;> simp

@[simp] theorem pretreatOutcome_frame (o : TxnOutcome) (s : State) :
    (pretreatOutcome o s).pending = s.pending ∧ (pretreatOutcome o s).clock = s.clock ∧
    (pretreatOutcome o s).pins = s.pins ∧ (pretreatOutcome o s).captures = s.captures ∧
    (pretreatOutcome o s).buttons = s.buttons ∧ (pretreatOutcome o s).ctl = s.ctl ∧
    (pretreatOutcome o s).config = s.config ∧ (pretreatOutcome o s).catalog = s.catalog ∧
    (pretreatOutcome o s).staging = s.staging ∧ (pretreatOutcome o s).port = s.port ∧
    (pretreatOutcome o s).dryer = s.dryer ∧ (pretreatOutcome o s).exch = s.exch := by
  unfold pretreatOutcome
  try dsimp only
  (repeat' split) <;> simp

@[simp] theorem commandPress_frame (s : State) :
    (commandPress s).pending = s.pending ∧ (commandPress s).clock = s.clock ∧ (commandPress s).pins = s.pins ∧
    (commandPress s).captures = s.captures ∧ (commandPress s).buttons = s.buttons ∧ (commandPress s).ctl = s.ctl ∧
    (commandPress s).config = s.config ∧ (commandPress s).catalog = s.catalog ∧ (commandPress s).lines = s.lines ∧
    (commandPress s).accepted = s.accepted ∧ (commandPress s).pretreat = s.pretreat ∧
    (commandPress s).engine = s.engine ∧ (commandPress s).staging = s.staging ∧ (commandPress s).port = s.port ∧
    (commandPress s).prints = s.prints ∧ (commandPress s).lanes = s.lanes ∧ (commandPress s).flash = s.flash ∧
    (commandPress s).dryer = s.dryer ∧ (commandPress s).pack = s.pack ∧ (commandPress s).exch = s.exch := by
  unfold commandPress
  try dsimp only
  (repeat' split) <;> simp

@[simp] theorem pressOutcome_frame (o : TxnOutcome) (s : State) :
    (pressOutcome o s).pending = s.pending ∧ (pressOutcome o s).clock = s.clock ∧ (pressOutcome o s).pins = s.pins ∧
    (pressOutcome o s).captures = s.captures ∧ (pressOutcome o s).buttons = s.buttons ∧
    (pressOutcome o s).ctl = s.ctl ∧ (pressOutcome o s).config = s.config ∧ (pressOutcome o s).catalog = s.catalog ∧
    (pressOutcome o s).lines = s.lines ∧ (pressOutcome o s).accepted = s.accepted ∧
    (pressOutcome o s).pretreat = s.pretreat ∧ (pressOutcome o s).engine = s.engine ∧
    (pressOutcome o s).staging = s.staging ∧ (pressOutcome o s).port = s.port ∧ (pressOutcome o s).prints = s.prints ∧
    (pressOutcome o s).lanes = s.lanes ∧ (pressOutcome o s).flash = s.flash ∧ (pressOutcome o s).dryer = s.dryer ∧
    (pressOutcome o s).pack = s.pack ∧ (pressOutcome o s).exch = s.exch := by
  unfold pressOutcome
  try dsimp only
  (repeat' split) <;> simp

@[simp] theorem beginSwath_frame (u : Printer) (j : PrintJob) (s : State) :
    (beginSwath u j s).pending = s.pending ∧ (beginSwath u j s).clock = s.clock ∧ (beginSwath u j s).pins = s.pins ∧
    (beginSwath u j s).captures = s.captures ∧ (beginSwath u j s).buttons = s.buttons ∧
    (beginSwath u j s).ctl = s.ctl ∧ (beginSwath u j s).config = s.config ∧ (beginSwath u j s).catalog = s.catalog ∧
    (beginSwath u j s).lines = s.lines ∧ (beginSwath u j s).accepted = s.accepted ∧
    (beginSwath u j s).garments = s.garments ∧ (beginSwath u j s).carousel = s.carousel ∧
    (beginSwath u j s).pretreat = s.pretreat ∧ (beginSwath u j s).press = s.press ∧
    (beginSwath u j s).staging = s.staging ∧ (beginSwath u j s).port = s.port ∧ (beginSwath u j s).flash = s.flash ∧
    (beginSwath u j s).dryer = s.dryer ∧ (beginSwath u j s).pack = s.pack ∧ (beginSwath u j s).link = s.link ∧
    (beginSwath u j s).exch = s.exch ∧ (beginSwath u j s).reports = s.reports := by
  unfold beginSwath
  try dsimp only
  (repeat' split) <;> simp

@[simp] theorem printOutcome_frame (u : Printer) (o : TxnOutcome) (s : State) :
    (printOutcome u o s).pending = s.pending ∧ (printOutcome u o s).clock = s.clock ∧
    (printOutcome u o s).pins = s.pins ∧ (printOutcome u o s).captures = s.captures ∧
    (printOutcome u o s).buttons = s.buttons ∧ (printOutcome u o s).ctl = s.ctl ∧
    (printOutcome u o s).config = s.config ∧ (printOutcome u o s).catalog = s.catalog ∧
    (printOutcome u o s).staging = s.staging ∧ (printOutcome u o s).port = s.port ∧
    (printOutcome u o s).dryer = s.dryer ∧ (printOutcome u o s).exch = s.exch := by
  unfold printOutcome
  try dsimp only
  (repeat' split) <;> simp

@[simp] theorem askSample_frame (s : State) :
    (askSample s).pending = s.pending ∧ (askSample s).clock = s.clock ∧ (askSample s).pins = s.pins ∧
    (askSample s).captures = s.captures ∧ (askSample s).buttons = s.buttons ∧ (askSample s).ctl = s.ctl ∧
    (askSample s).config = s.config ∧ (askSample s).catalog = s.catalog ∧ (askSample s).lines = s.lines ∧
    (askSample s).accepted = s.accepted ∧ (askSample s).garments = s.garments ∧ (askSample s).carousel = s.carousel ∧
    (askSample s).pretreat = s.pretreat ∧ (askSample s).press = s.press ∧ (askSample s).engine = s.engine ∧
    (askSample s).staging = s.staging ∧ (askSample s).port = s.port ∧ (askSample s).prints = s.prints ∧
    (askSample s).lanes = s.lanes ∧ (askSample s).pack = s.pack ∧ (askSample s).exch = s.exch ∧
    (askSample s).reports = s.reports := by
  unfold askSample
  try dsimp only
  (repeat' split) <;> simp

@[simp] theorem beginExposing_frame (s : State) :
    (beginExposing s).pending = s.pending ∧ (beginExposing s).clock = s.clock ∧ (beginExposing s).pins = s.pins ∧
    (beginExposing s).captures = s.captures ∧ (beginExposing s).buttons = s.buttons ∧ (beginExposing s).ctl = s.ctl ∧
    (beginExposing s).config = s.config ∧ (beginExposing s).catalog = s.catalog ∧ (beginExposing s).lines = s.lines ∧
    (beginExposing s).accepted = s.accepted ∧ (beginExposing s).garments = s.garments ∧
    (beginExposing s).carousel = s.carousel ∧ (beginExposing s).pretreat = s.pretreat ∧
    (beginExposing s).press = s.press ∧ (beginExposing s).engine = s.engine ∧ (beginExposing s).staging = s.staging ∧
    (beginExposing s).port = s.port ∧ (beginExposing s).prints = s.prints ∧ (beginExposing s).lanes = s.lanes ∧
    (beginExposing s).pack = s.pack ∧ (beginExposing s).exch = s.exch ∧ (beginExposing s).reports = s.reports := by
  unfold beginExposing
  try dsimp only
  (repeat' split) <;> simp

@[simp] theorem flashOutcome_frame (o : TxnOutcome) (s : State) :
    (flashOutcome o s).pending = s.pending ∧ (flashOutcome o s).clock = s.clock ∧ (flashOutcome o s).pins = s.pins ∧
    (flashOutcome o s).captures = s.captures ∧ (flashOutcome o s).buttons = s.buttons ∧
    (flashOutcome o s).ctl = s.ctl ∧ (flashOutcome o s).config = s.config ∧ (flashOutcome o s).catalog = s.catalog ∧
    (flashOutcome o s).staging = s.staging ∧ (flashOutcome o s).port = s.port ∧ (flashOutcome o s).exch = s.exch := by
  unfold flashOutcome
  try dsimp only
  (repeat' split) <;> simp

@[simp] theorem dryerSample_frame (r : Role) (f : StatusFields) (s : State) :
    (dryerSample r f s).pending = s.pending ∧ (dryerSample r f s).clock = s.clock ∧
    (dryerSample r f s).pins = s.pins ∧ (dryerSample r f s).captures = s.captures ∧
    (dryerSample r f s).buttons = s.buttons ∧ (dryerSample r f s).ctl = s.ctl ∧
    (dryerSample r f s).config = s.config ∧ (dryerSample r f s).catalog = s.catalog ∧
    (dryerSample r f s).lines = s.lines ∧ (dryerSample r f s).accepted = s.accepted ∧
    (dryerSample r f s).garments = s.garments ∧ (dryerSample r f s).carousel = s.carousel ∧
    (dryerSample r f s).pretreat = s.pretreat ∧ (dryerSample r f s).press = s.press ∧
    (dryerSample r f s).engine = s.engine ∧ (dryerSample r f s).staging = s.staging ∧
    (dryerSample r f s).port = s.port ∧ (dryerSample r f s).prints = s.prints ∧ (dryerSample r f s).lanes = s.lanes ∧
    (dryerSample r f s).flash = s.flash ∧ (dryerSample r f s).pack = s.pack ∧ (dryerSample r f s).link = s.link ∧
    (dryerSample r f s).exch = s.exch ∧ (dryerSample r f s).reports = s.reports := by
  unfold dryerSample
  try dsimp only
  (repeat' split) <;> simp

@[simp] theorem sampleOutcome_frame (r : Role) (o : TxnOutcome) (s : State) :
    (sampleOutcome r o s).pending = s.pending ∧ (sampleOutcome r o s).clock = s.clock ∧
    (sampleOutcome r o s).pins = s.pins ∧ (sampleOutcome r o s).captures = s.captures ∧
    (sampleOutcome r o s).buttons = s.buttons ∧ (sampleOutcome r o s).ctl = s.ctl ∧
    (sampleOutcome r o s).config = s.config ∧ (sampleOutcome r o s).catalog = s.catalog ∧
    (sampleOutcome r o s).staging = s.staging ∧ (sampleOutcome r o s).port = s.port ∧
    (sampleOutcome r o s).exch = s.exch := by
  unfold sampleOutcome
  try dsimp only
  (repeat' split) <;> simp

@[simp] theorem samplerOutcome_frame (t : Txn) (o : TxnOutcome) (s : State) :
    (samplerOutcome t o s).pending = s.pending ∧ (samplerOutcome t o s).clock = s.clock ∧
    (samplerOutcome t o s).pins = s.pins ∧ (samplerOutcome t o s).captures = s.captures ∧
    (samplerOutcome t o s).buttons = s.buttons ∧ (samplerOutcome t o s).ctl = s.ctl ∧
    (samplerOutcome t o s).config = s.config ∧ (samplerOutcome t o s).catalog = s.catalog ∧
    (samplerOutcome t o s).staging = s.staging ∧ (samplerOutcome t o s).port = s.port ∧
    (samplerOutcome t o s).exch = s.exch := by
  unfold samplerOutcome
  try dsimp only
  (repeat' split) <;> simp

@[simp] theorem lineOutcome_frame (t : Txn) (o : TxnOutcome) (s : State) :
    (lineOutcome t o s).pending = s.pending ∧ (lineOutcome t o s).clock = s.clock ∧
    (lineOutcome t o s).pins = s.pins ∧ (lineOutcome t o s).captures = s.captures ∧
    (lineOutcome t o s).buttons = s.buttons ∧ (lineOutcome t o s).ctl = s.ctl ∧
    (lineOutcome t o s).config = s.config ∧ (lineOutcome t o s).catalog = s.catalog ∧
    (lineOutcome t o s).lines = s.lines ∧ (lineOutcome t o s).accepted = s.accepted ∧
    (lineOutcome t o s).garments = s.garments ∧ (lineOutcome t o s).carousel = s.carousel ∧
    (lineOutcome t o s).pretreat = s.pretreat ∧ (lineOutcome t o s).press = s.press ∧
    (lineOutcome t o s).engine = s.engine ∧ (lineOutcome t o s).staging = s.staging ∧
    (lineOutcome t o s).port = s.port ∧ (lineOutcome t o s).prints = s.prints ∧ (lineOutcome t o s).lanes = s.lanes ∧
    (lineOutcome t o s).flash = s.flash ∧ (lineOutcome t o s).dryer = s.dryer ∧ (lineOutcome t o s).pack = s.pack ∧
    (lineOutcome t o s).link = s.link ∧ (lineOutcome t o s).exch = s.exch := by
  unfold lineOutcome
  try dsimp only
  (repeat' split) <;> simp

@[simp] theorem deliver_frame (q : Requester) (t : Txn) (o : TxnOutcome) (s : State) :
    (deliver q t o s).pending = s.pending ∧ (deliver q t o s).clock = s.clock ∧ (deliver q t o s).pins = s.pins ∧
    (deliver q t o s).captures = s.captures ∧ (deliver q t o s).buttons = s.buttons ∧
    (deliver q t o s).config = s.config ∧ (deliver q t o s).catalog = s.catalog ∧
    (deliver q t o s).staging = s.staging ∧ (deliver q t o s).port = s.port ∧ (deliver q t o s).exch = s.exch := by
  unfold deliver ifActed
  try dsimp only
  (repeat' split) <;> simp

@[simp] theorem keep_frame (q : Requester) (ts : List Txn) (s : State) :
    (keep q ts s).pending = s.pending ∧ (keep q ts s).clock = s.clock ∧ (keep q ts s).pins = s.pins ∧
    (keep q ts s).captures = s.captures ∧ (keep q ts s).buttons = s.buttons ∧ (keep q ts s).ctl = s.ctl ∧
    (keep q ts s).config = s.config ∧ (keep q ts s).catalog = s.catalog ∧ (keep q ts s).lines = s.lines ∧
    (keep q ts s).accepted = s.accepted ∧ (keep q ts s).garments = s.garments ∧ (keep q ts s).carousel = s.carousel ∧
    (keep q ts s).pretreat = s.pretreat ∧ (keep q ts s).press = s.press ∧ (keep q ts s).engine = s.engine ∧
    (keep q ts s).staging = s.staging ∧ (keep q ts s).port = s.port ∧ (keep q ts s).prints = s.prints ∧
    (keep q ts s).lanes = s.lanes ∧ (keep q ts s).flash = s.flash ∧ (keep q ts s).dryer = s.dryer ∧
    (keep q ts s).pack = s.pack ∧ (keep q ts s).exch = s.exch ∧ (keep q ts s).reports = s.reports := by
  unfold keep
  try dsimp only
  (repeat' split) <;> simp

@[simp] theorem drainKept_frame (q : Requester) (l : List Txn) (s : State) :
    (drainKept q l s).pending = s.pending ∧ (drainKept q l s).clock = s.clock ∧ (drainKept q l s).pins = s.pins ∧
    (drainKept q l s).captures = s.captures ∧ (drainKept q l s).buttons = s.buttons ∧
    (drainKept q l s).config = s.config ∧ (drainKept q l s).catalog = s.catalog ∧
    (drainKept q l s).staging = s.staging ∧ (drainKept q l s).port = s.port ∧ (drainKept q l s).exch = s.exch := by
  induction l generalizing s with
  | nil => simp [drainKept]
  | cons a l ih => unfold drainKept; (repeat' split) <;> simp [*]

@[simp] theorem complete_frame (q : Requester) (t : Txn) (o : TxnOutcome) (s : State) :
    (complete q t o s).pending = s.pending ∧ (complete q t o s).clock = s.clock ∧ (complete q t o s).pins = s.pins ∧
    (complete q t o s).captures = s.captures ∧ (complete q t o s).buttons = s.buttons ∧
    (complete q t o s).config = s.config ∧ (complete q t o s).catalog = s.catalog ∧
    (complete q t o s).staging = s.staging ∧ (complete q t o s).port = s.port ∧ (complete q t o s).exch = s.exch := by
  unfold complete
  try dsimp only
  (repeat' split) <;> simp

@[simp] theorem driveStatus_frame (f : StatusFields) (s : State) :
    (driveStatus f s).pending = s.pending ∧ (driveStatus f s).clock = s.clock ∧ (driveStatus f s).pins = s.pins ∧
    (driveStatus f s).captures = s.captures ∧ (driveStatus f s).buttons = s.buttons ∧
    (driveStatus f s).config = s.config ∧ (driveStatus f s).catalog = s.catalog ∧ (driveStatus f s).lines = s.lines ∧
    (driveStatus f s).accepted = s.accepted ∧ (driveStatus f s).staging = s.staging ∧
    (driveStatus f s).port = s.port ∧ (driveStatus f s).lanes = s.lanes ∧ (driveStatus f s).pack = s.pack ∧
    (driveStatus f s).exch = s.exch := by
  unfold driveStatus
  try dsimp only
  (repeat' split) <;> simp

@[simp] theorem sprayStatus_frame (f : StatusFields) (s : State) :
    (sprayStatus f s).pending = s.pending ∧ (sprayStatus f s).clock = s.clock ∧ (sprayStatus f s).pins = s.pins ∧
    (sprayStatus f s).captures = s.captures ∧ (sprayStatus f s).buttons = s.buttons ∧ (sprayStatus f s).ctl = s.ctl ∧
    (sprayStatus f s).config = s.config ∧ (sprayStatus f s).catalog = s.catalog ∧
    (sprayStatus f s).staging = s.staging ∧ (sprayStatus f s).port = s.port ∧ (sprayStatus f s).dryer = s.dryer ∧
    (sprayStatus f s).exch = s.exch := by
  unfold sprayStatus
  try dsimp only
  (repeat' split) <;> simp

@[simp] theorem pressStatus_frame (f : StatusFields) (s : State) :
    (pressStatus f s).pending = s.pending ∧ (pressStatus f s).clock = s.clock ∧ (pressStatus f s).pins = s.pins ∧
    (pressStatus f s).captures = s.captures ∧ (pressStatus f s).buttons = s.buttons ∧ (pressStatus f s).ctl = s.ctl ∧
    (pressStatus f s).config = s.config ∧ (pressStatus f s).catalog = s.catalog ∧ (pressStatus f s).lines = s.lines ∧
    (pressStatus f s).accepted = s.accepted ∧ (pressStatus f s).pretreat = s.pretreat ∧
    (pressStatus f s).engine = s.engine ∧ (pressStatus f s).staging = s.staging ∧ (pressStatus f s).port = s.port ∧
    (pressStatus f s).prints = s.prints ∧ (pressStatus f s).lanes = s.lanes ∧ (pressStatus f s).flash = s.flash ∧
    (pressStatus f s).dryer = s.dryer ∧ (pressStatus f s).pack = s.pack ∧ (pressStatus f s).exch = s.exch := by
  unfold pressStatus
  try dsimp only
  (repeat' split) <;> simp

@[simp] theorem printStatus_frame (u : Printer) (f : StatusFields) (s : State) :
    (printStatus u f s).pending = s.pending ∧ (printStatus u f s).clock = s.clock ∧
    (printStatus u f s).pins = s.pins ∧ (printStatus u f s).captures = s.captures ∧
    (printStatus u f s).buttons = s.buttons ∧ (printStatus u f s).ctl = s.ctl ∧
    (printStatus u f s).config = s.config ∧ (printStatus u f s).catalog = s.catalog ∧
    (printStatus u f s).staging = s.staging ∧ (printStatus u f s).port = s.port ∧
    (printStatus u f s).dryer = s.dryer ∧ (printStatus u f s).exch = s.exch := by
  unfold printStatus
  try dsimp only
  (repeat' split) <;> simp

@[simp] theorem ownerStatus_frame (r : Role) (f : StatusFields) (s : State) :
    (ownerStatus r f s).pending = s.pending ∧ (ownerStatus r f s).clock = s.clock ∧
    (ownerStatus r f s).pins = s.pins ∧ (ownerStatus r f s).captures = s.captures ∧
    (ownerStatus r f s).buttons = s.buttons ∧ (ownerStatus r f s).config = s.config ∧
    (ownerStatus r f s).catalog = s.catalog ∧ (ownerStatus r f s).staging = s.staging ∧
    (ownerStatus r f s).port = s.port ∧ (ownerStatus r f s).exch = s.exch := by
  unfold ownerStatus
  try dsimp only
  (repeat' split) <;> simp

@[simp] theorem putModule_frame (r : Role) (m : ModuleEntry) (s : State) :
    (putModule r m s).pending = s.pending ∧ (putModule r m s).clock = s.clock ∧ (putModule r m s).pins = s.pins ∧
    (putModule r m s).captures = s.captures ∧ (putModule r m s).buttons = s.buttons ∧ (putModule r m s).ctl = s.ctl ∧
    (putModule r m s).config = s.config ∧ (putModule r m s).catalog = s.catalog ∧ (putModule r m s).lines = s.lines ∧
    (putModule r m s).accepted = s.accepted ∧ (putModule r m s).garments = s.garments ∧
    (putModule r m s).carousel = s.carousel ∧ (putModule r m s).pretreat = s.pretreat ∧
    (putModule r m s).press = s.press ∧ (putModule r m s).engine = s.engine ∧ (putModule r m s).staging = s.staging ∧
    (putModule r m s).port = s.port ∧ (putModule r m s).prints = s.prints ∧ (putModule r m s).lanes = s.lanes ∧
    (putModule r m s).flash = s.flash ∧ (putModule r m s).dryer = s.dryer ∧ (putModule r m s).pack = s.pack ∧
    (putModule r m s).exch = s.exch ∧ (putModule r m s).reports = s.reports := by
  unfold putModule
  try dsimp only
  (repeat' split) <;> simp

@[simp] theorem lostReport_frame (r : Role) (s : State) :
    (lostReport r s).pending = s.pending ∧ (lostReport r s).clock = s.clock ∧ (lostReport r s).pins = s.pins ∧
    (lostReport r s).captures = s.captures ∧ (lostReport r s).buttons = s.buttons ∧ (lostReport r s).ctl = s.ctl ∧
    (lostReport r s).config = s.config ∧ (lostReport r s).catalog = s.catalog ∧ (lostReport r s).staging = s.staging ∧
    (lostReport r s).port = s.port ∧ (lostReport r s).exch = s.exch := by
  unfold lostReport
  try dsimp only
  (repeat' split) <;> simp

@[simp] theorem loseQueued_frame (p : Txn → Bool) (s : State) (q : Requester) :
    (loseQueued p s q).pending = s.pending ∧ (loseQueued p s q).clock = s.clock ∧ (loseQueued p s q).pins = s.pins ∧
    (loseQueued p s q).captures = s.captures ∧ (loseQueued p s q).buttons = s.buttons ∧
    (loseQueued p s q).config = s.config ∧ (loseQueued p s q).catalog = s.catalog ∧
    (loseQueued p s q).staging = s.staging ∧ (loseQueued p s q).port = s.port ∧ (loseQueued p s q).exch = s.exch := by
  unfold loseQueued
  try dsimp only
  (repeat' split) <;> simp

@[simp] theorem loseAll_frame (p : Txn → Bool) (s : State) :
    (loseAll p s).pending = s.pending ∧ (loseAll p s).clock = s.clock ∧ (loseAll p s).pins = s.pins ∧
    (loseAll p s).captures = s.captures ∧ (loseAll p s).buttons = s.buttons ∧ (loseAll p s).config = s.config ∧
    (loseAll p s).catalog = s.catalog ∧ (loseAll p s).staging = s.staging ∧ (loseAll p s).port = s.port ∧
    (loseAll p s).exch = s.exch := by
  unfold loseAll
  try dsimp only
  (repeat' split) <;> simp

@[simp] theorem moduleLost_frame (r : Role) (addr : Byte) (s : State) :
    (moduleLost r addr s).pending = s.pending ∧ (moduleLost r addr s).clock = s.clock ∧
    (moduleLost r addr s).pins = s.pins ∧ (moduleLost r addr s).captures = s.captures ∧
    (moduleLost r addr s).buttons = s.buttons ∧ (moduleLost r addr s).config = s.config ∧
    (moduleLost r addr s).catalog = s.catalog ∧ (moduleLost r addr s).staging = s.staging ∧
    (moduleLost r addr s).port = s.port ∧ (moduleLost r addr s).exch = s.exch := by
  unfold moduleLost
  try dsimp only
  (repeat' split) <;> simp

@[simp] theorem silence_frame (r : Role) (addr : Byte) (s : State) :
    (silence r addr s).pending = s.pending ∧ (silence r addr s).clock = s.clock ∧ (silence r addr s).pins = s.pins ∧
    (silence r addr s).captures = s.captures ∧ (silence r addr s).buttons = s.buttons ∧
    (silence r addr s).config = s.config ∧ (silence r addr s).catalog = s.catalog ∧
    (silence r addr s).staging = s.staging ∧ (silence r addr s).port = s.port ∧ (silence r addr s).exch = s.exch := by
  unfold silence
  try dsimp only
  (repeat' split) <;> simp

@[simp] theorem moduleBack_frame (r : Role) (value : Nat) (s : State) :
    (moduleBack r value s).pending = s.pending ∧ (moduleBack r value s).clock = s.clock ∧
    (moduleBack r value s).pins = s.pins ∧ (moduleBack r value s).captures = s.captures ∧
    (moduleBack r value s).buttons = s.buttons ∧ (moduleBack r value s).config = s.config ∧
    (moduleBack r value s).catalog = s.catalog ∧ (moduleBack r value s).lines = s.lines ∧
    (moduleBack r value s).accepted = s.accepted ∧ (moduleBack r value s).garments = s.garments ∧
    (moduleBack r value s).pretreat = s.pretreat ∧ (moduleBack r value s).press = s.press ∧
    (moduleBack r value s).engine = s.engine ∧ (moduleBack r value s).staging = s.staging ∧
    (moduleBack r value s).port = s.port ∧ (moduleBack r value s).prints = s.prints ∧
    (moduleBack r value s).lanes = s.lanes ∧ (moduleBack r value s).pack = s.pack ∧
    (moduleBack r value s).exch = s.exch := by
  unfold moduleBack
  try dsimp only
  (repeat' split) <;> simp

@[simp] theorem moduleAccept_frame (r : Role) (s : State) :
    (moduleAccept r s).pending = s.pending ∧ (moduleAccept r s).clock = s.clock ∧ (moduleAccept r s).pins = s.pins ∧
    (moduleAccept r s).captures = s.captures ∧ (moduleAccept r s).buttons = s.buttons ∧
    (moduleAccept r s).config = s.config ∧ (moduleAccept r s).catalog = s.catalog ∧
    (moduleAccept r s).lines = s.lines ∧ (moduleAccept r s).accepted = s.accepted ∧
    (moduleAccept r s).garments = s.garments ∧ (moduleAccept r s).pretreat = s.pretreat ∧
    (moduleAccept r s).press = s.press ∧ (moduleAccept r s).engine = s.engine ∧
    (moduleAccept r s).staging = s.staging ∧ (moduleAccept r s).port = s.port ∧ (moduleAccept r s).prints = s.prints ∧
    (moduleAccept r s).lanes = s.lanes ∧ (moduleAccept r s).pack = s.pack ∧ (moduleAccept r s).exch = s.exch := by
  unfold moduleAccept
  try dsimp only
  (repeat' split) <;> simp

@[simp] theorem probeLater_frame (r : Role) (s : State) :
    (probeLater r s).pending = s.pending ∧ (probeLater r s).clock = s.clock ∧ (probeLater r s).pins = s.pins ∧
    (probeLater r s).captures = s.captures ∧ (probeLater r s).buttons = s.buttons ∧ (probeLater r s).ctl = s.ctl ∧
    (probeLater r s).config = s.config ∧ (probeLater r s).catalog = s.catalog ∧ (probeLater r s).lines = s.lines ∧
    (probeLater r s).accepted = s.accepted ∧ (probeLater r s).garments = s.garments ∧
    (probeLater r s).carousel = s.carousel ∧ (probeLater r s).pretreat = s.pretreat ∧
    (probeLater r s).press = s.press ∧ (probeLater r s).engine = s.engine ∧ (probeLater r s).staging = s.staging ∧
    (probeLater r s).port = s.port ∧ (probeLater r s).prints = s.prints ∧ (probeLater r s).lanes = s.lanes ∧
    (probeLater r s).flash = s.flash ∧ (probeLater r s).dryer = s.dryer ∧ (probeLater r s).pack = s.pack ∧
    (probeLater r s).exch = s.exch ∧ (probeLater r s).reports = s.reports := by
  unfold probeLater
  try dsimp only
  (repeat' split) <;> simp

@[simp] theorem takeSettings_frame (new : LinkSettings) (s : State) :
    (takeSettings new s).pending = s.pending ∧ (takeSettings new s).clock = s.clock ∧
    (takeSettings new s).pins = s.pins ∧ (takeSettings new s).captures = s.captures ∧
    (takeSettings new s).buttons = s.buttons ∧ (takeSettings new s).config = s.config ∧
    (takeSettings new s).catalog = s.catalog ∧ (takeSettings new s).staging = s.staging ∧
    (takeSettings new s).port = s.port ∧ (takeSettings new s).exch = s.exch := by
  unfold takeSettings
  try dsimp only
  (repeat' split) <;> simp

@[simp] theorem attachSettings_frame (new : LinkSettings) (s : State) :
    (attachSettings new s).pending = s.pending ∧ (attachSettings new s).clock = s.clock ∧
    (attachSettings new s).pins = s.pins ∧ (attachSettings new s).captures = s.captures ∧
    (attachSettings new s).buttons = s.buttons ∧ (attachSettings new s).config = s.config ∧
    (attachSettings new s).catalog = s.catalog ∧ (attachSettings new s).lines = s.lines ∧
    (attachSettings new s).accepted = s.accepted ∧ (attachSettings new s).garments = s.garments ∧
    (attachSettings new s).pretreat = s.pretreat ∧ (attachSettings new s).press = s.press ∧
    (attachSettings new s).engine = s.engine ∧ (attachSettings new s).staging = s.staging ∧
    (attachSettings new s).port = s.port ∧ (attachSettings new s).prints = s.prints ∧
    (attachSettings new s).lanes = s.lanes ∧ (attachSettings new s).pack = s.pack ∧
    (attachSettings new s).exch = s.exch := by
  unfold attachSettings
  try dsimp only
  (repeat' split) <;> simp

@[simp] theorem putAttn_frame (a : Fin 8) (l : AttnLine) (s : State) :
    (putAttn a l s).pending = s.pending ∧ (putAttn a l s).clock = s.clock ∧ (putAttn a l s).pins = s.pins ∧
    (putAttn a l s).captures = s.captures ∧ (putAttn a l s).buttons = s.buttons ∧ (putAttn a l s).ctl = s.ctl ∧
    (putAttn a l s).config = s.config ∧ (putAttn a l s).catalog = s.catalog ∧ (putAttn a l s).lines = s.lines ∧
    (putAttn a l s).accepted = s.accepted ∧ (putAttn a l s).garments = s.garments ∧
    (putAttn a l s).carousel = s.carousel ∧ (putAttn a l s).pretreat = s.pretreat ∧ (putAttn a l s).press = s.press ∧
    (putAttn a l s).engine = s.engine ∧ (putAttn a l s).staging = s.staging ∧ (putAttn a l s).port = s.port ∧
    (putAttn a l s).prints = s.prints ∧ (putAttn a l s).lanes = s.lanes ∧ (putAttn a l s).flash = s.flash ∧
    (putAttn a l s).dryer = s.dryer ∧ (putAttn a l s).pack = s.pack ∧ (putAttn a l s).exch = s.exch ∧
    (putAttn a l s).reports = s.reports := by
  unfold putAttn
  try dsimp only
  (repeat' split) <;> simp

@[simp] theorem putOnLink_frame (o : OnLink) (s : State) :
    (putOnLink o s).pending = s.pending ∧ (putOnLink o s).clock = s.clock ∧ (putOnLink o s).pins = s.pins ∧
    (putOnLink o s).captures = s.captures ∧ (putOnLink o s).buttons = s.buttons ∧ (putOnLink o s).ctl = s.ctl ∧
    (putOnLink o s).config = s.config ∧ (putOnLink o s).catalog = s.catalog ∧ (putOnLink o s).lines = s.lines ∧
    (putOnLink o s).accepted = s.accepted ∧ (putOnLink o s).garments = s.garments ∧
    (putOnLink o s).carousel = s.carousel ∧ (putOnLink o s).pretreat = s.pretreat ∧ (putOnLink o s).press = s.press ∧
    (putOnLink o s).engine = s.engine ∧ (putOnLink o s).staging = s.staging ∧ (putOnLink o s).port = s.port ∧
    (putOnLink o s).prints = s.prints ∧ (putOnLink o s).lanes = s.lanes ∧ (putOnLink o s).flash = s.flash ∧
    (putOnLink o s).dryer = s.dryer ∧ (putOnLink o s).pack = s.pack ∧ (putOnLink o s).exch = s.exch ∧
    (putOnLink o s).reports = s.reports := by
  unfold putOnLink
  try dsimp only
  (repeat' split) <;> simp

@[simp] theorem placeOnLink_frame (q : Requester) (s : State) :
    (placeOnLink q s).pending = s.pending ∧ (placeOnLink q s).clock = s.clock ∧ (placeOnLink q s).pins = s.pins ∧
    (placeOnLink q s).captures = s.captures ∧ (placeOnLink q s).buttons = s.buttons ∧ (placeOnLink q s).ctl = s.ctl ∧
    (placeOnLink q s).config = s.config ∧ (placeOnLink q s).catalog = s.catalog ∧ (placeOnLink q s).lines = s.lines ∧
    (placeOnLink q s).accepted = s.accepted ∧ (placeOnLink q s).garments = s.garments ∧
    (placeOnLink q s).carousel = s.carousel ∧ (placeOnLink q s).pretreat = s.pretreat ∧
    (placeOnLink q s).press = s.press ∧ (placeOnLink q s).engine = s.engine ∧ (placeOnLink q s).staging = s.staging ∧
    (placeOnLink q s).port = s.port ∧ (placeOnLink q s).prints = s.prints ∧ (placeOnLink q s).lanes = s.lanes ∧
    (placeOnLink q s).flash = s.flash ∧ (placeOnLink q s).dryer = s.dryer ∧ (placeOnLink q s).pack = s.pack ∧
    (placeOnLink q s).exch = s.exch ∧ (placeOnLink q s).reports = s.reports := by
  unfold placeOnLink
  try dsimp only
  (repeat' split) <;> simp

@[simp] theorem clearServed_frame (s : State) :
    (clearServed s).pending = s.pending ∧ (clearServed s).clock = s.clock ∧ (clearServed s).pins = s.pins ∧
    (clearServed s).captures = s.captures ∧ (clearServed s).buttons = s.buttons ∧ (clearServed s).ctl = s.ctl ∧
    (clearServed s).config = s.config ∧ (clearServed s).catalog = s.catalog ∧ (clearServed s).lines = s.lines ∧
    (clearServed s).accepted = s.accepted ∧ (clearServed s).garments = s.garments ∧
    (clearServed s).carousel = s.carousel ∧ (clearServed s).pretreat = s.pretreat ∧ (clearServed s).press = s.press ∧
    (clearServed s).engine = s.engine ∧ (clearServed s).staging = s.staging ∧ (clearServed s).port = s.port ∧
    (clearServed s).prints = s.prints ∧ (clearServed s).lanes = s.lanes ∧ (clearServed s).flash = s.flash ∧
    (clearServed s).dryer = s.dryer ∧ (clearServed s).pack = s.pack ∧ (clearServed s).exch = s.exch ∧
    (clearServed s).reports = s.reports := by
  unfold clearServed
  try dsimp only
  (repeat' split) <;> simp

@[simp] theorem carrierStarts_frame (w : Work) (s : State) :
    (carrierStarts w s).pending = s.pending ∧ (carrierStarts w s).clock = s.clock ∧
    (carrierStarts w s).pins = s.pins ∧ (carrierStarts w s).captures = s.captures ∧
    (carrierStarts w s).buttons = s.buttons ∧ (carrierStarts w s).ctl = s.ctl ∧
    (carrierStarts w s).config = s.config ∧ (carrierStarts w s).catalog = s.catalog ∧
    (carrierStarts w s).lines = s.lines ∧ (carrierStarts w s).accepted = s.accepted ∧
    (carrierStarts w s).garments = s.garments ∧ (carrierStarts w s).carousel = s.carousel ∧
    (carrierStarts w s).pretreat = s.pretreat ∧ (carrierStarts w s).press = s.press ∧
    (carrierStarts w s).engine = s.engine ∧ (carrierStarts w s).staging = s.staging ∧
    (carrierStarts w s).port = s.port ∧ (carrierStarts w s).prints = s.prints ∧ (carrierStarts w s).lanes = s.lanes ∧
    (carrierStarts w s).flash = s.flash ∧ (carrierStarts w s).dryer = s.dryer ∧ (carrierStarts w s).pack = s.pack ∧
    (carrierStarts w s).exch = s.exch ∧ (carrierStarts w s).reports = s.reports := by
  unfold carrierStarts
  try dsimp only
  (repeat' split) <;> simp

@[simp] theorem startWork_frame (c : LinkSettings) (w : Work) (s : State) :
    (startWork c w s).pending = s.pending ∧ (startWork c w s).clock = s.clock ∧ (startWork c w s).pins = s.pins ∧
    (startWork c w s).captures = s.captures ∧ (startWork c w s).buttons = s.buttons ∧ (startWork c w s).ctl = s.ctl ∧
    (startWork c w s).config = s.config ∧ (startWork c w s).catalog = s.catalog ∧ (startWork c w s).lines = s.lines ∧
    (startWork c w s).accepted = s.accepted ∧ (startWork c w s).garments = s.garments ∧
    (startWork c w s).carousel = s.carousel ∧ (startWork c w s).pretreat = s.pretreat ∧
    (startWork c w s).press = s.press ∧ (startWork c w s).engine = s.engine ∧ (startWork c w s).staging = s.staging ∧
    (startWork c w s).port = s.port ∧ (startWork c w s).prints = s.prints ∧ (startWork c w s).lanes = s.lanes ∧
    (startWork c w s).flash = s.flash ∧ (startWork c w s).dryer = s.dryer ∧ (startWork c w s).pack = s.pack ∧
    (startWork c w s).exch = s.exch ∧ (startWork c w s).reports = s.reports := by
  unfold startWork
  try dsimp only
  (repeat' split) <;> simp

@[simp] theorem startService_frame (c : LinkSettings) (a : Fin 8) (r : Role) (addr : Byte) (s : State) :
    (startService c a r addr s).pending = s.pending ∧ (startService c a r addr s).clock = s.clock ∧
    (startService c a r addr s).pins = s.pins ∧ (startService c a r addr s).captures = s.captures ∧
    (startService c a r addr s).buttons = s.buttons ∧ (startService c a r addr s).ctl = s.ctl ∧
    (startService c a r addr s).config = s.config ∧ (startService c a r addr s).catalog = s.catalog ∧
    (startService c a r addr s).lines = s.lines ∧ (startService c a r addr s).accepted = s.accepted ∧
    (startService c a r addr s).garments = s.garments ∧ (startService c a r addr s).carousel = s.carousel ∧
    (startService c a r addr s).pretreat = s.pretreat ∧ (startService c a r addr s).press = s.press ∧
    (startService c a r addr s).engine = s.engine ∧ (startService c a r addr s).staging = s.staging ∧
    (startService c a r addr s).port = s.port ∧ (startService c a r addr s).prints = s.prints ∧
    (startService c a r addr s).lanes = s.lanes ∧ (startService c a r addr s).flash = s.flash ∧
    (startService c a r addr s).dryer = s.dryer ∧ (startService c a r addr s).pack = s.pack ∧
    (startService c a r addr s).exch = s.exch ∧ (startService c a r addr s).reports = s.reports := by
  unfold startService
  try dsimp only
  (repeat' split) <;> simp

@[simp] theorem serveLine_frame (c : LinkSettings) (a : Fin 8) (s : State) :
    (serveLine c a s).pending = s.pending ∧ (serveLine c a s).clock = s.clock ∧ (serveLine c a s).pins = s.pins ∧
    (serveLine c a s).captures = s.captures ∧ (serveLine c a s).buttons = s.buttons ∧ (serveLine c a s).ctl = s.ctl ∧
    (serveLine c a s).config = s.config ∧ (serveLine c a s).catalog = s.catalog ∧ (serveLine c a s).lines = s.lines ∧
    (serveLine c a s).accepted = s.accepted ∧ (serveLine c a s).garments = s.garments ∧
    (serveLine c a s).carousel = s.carousel ∧ (serveLine c a s).pretreat = s.pretreat ∧
    (serveLine c a s).press = s.press ∧ (serveLine c a s).engine = s.engine ∧ (serveLine c a s).staging = s.staging ∧
    (serveLine c a s).port = s.port ∧ (serveLine c a s).prints = s.prints ∧ (serveLine c a s).lanes = s.lanes ∧
    (serveLine c a s).flash = s.flash ∧ (serveLine c a s).dryer = s.dryer ∧ (serveLine c a s).pack = s.pack ∧
    (serveLine c a s).exch = s.exch ∧ (serveLine c a s).reports = s.reports := by
  unfold serveLine
  try dsimp only
  (repeat' split) <;> simp

@[simp] theorem chooseWork_frame (c : LinkSettings) (s : State) :
    (chooseWork c s).pending = s.pending ∧ (chooseWork c s).clock = s.clock ∧ (chooseWork c s).pins = s.pins ∧
    (chooseWork c s).captures = s.captures ∧ (chooseWork c s).buttons = s.buttons ∧ (chooseWork c s).ctl = s.ctl ∧
    (chooseWork c s).config = s.config ∧ (chooseWork c s).catalog = s.catalog ∧ (chooseWork c s).lines = s.lines ∧
    (chooseWork c s).accepted = s.accepted ∧ (chooseWork c s).garments = s.garments ∧
    (chooseWork c s).carousel = s.carousel ∧ (chooseWork c s).pretreat = s.pretreat ∧
    (chooseWork c s).press = s.press ∧ (chooseWork c s).engine = s.engine ∧ (chooseWork c s).staging = s.staging ∧
    (chooseWork c s).port = s.port ∧ (chooseWork c s).prints = s.prints ∧ (chooseWork c s).lanes = s.lanes ∧
    (chooseWork c s).flash = s.flash ∧ (chooseWork c s).dryer = s.dryer ∧ (chooseWork c s).pack = s.pack ∧
    (chooseWork c s).exch = s.exch ∧ (chooseWork c s).reports = s.reports := by
  unfold chooseWork
  try dsimp only
  (repeat' split) <;> simp

@[simp] theorem endService_frame (v : Service) (s : State) :
    (endService v s).pending = s.pending ∧ (endService v s).clock = s.clock ∧ (endService v s).pins = s.pins ∧
    (endService v s).captures = s.captures ∧ (endService v s).buttons = s.buttons ∧ (endService v s).ctl = s.ctl ∧
    (endService v s).config = s.config ∧ (endService v s).catalog = s.catalog ∧ (endService v s).lines = s.lines ∧
    (endService v s).accepted = s.accepted ∧ (endService v s).garments = s.garments ∧
    (endService v s).carousel = s.carousel ∧ (endService v s).pretreat = s.pretreat ∧
    (endService v s).press = s.press ∧ (endService v s).engine = s.engine ∧ (endService v s).staging = s.staging ∧
    (endService v s).port = s.port ∧ (endService v s).prints = s.prints ∧ (endService v s).lanes = s.lanes ∧
    (endService v s).flash = s.flash ∧ (endService v s).dryer = s.dryer ∧ (endService v s).pack = s.pack ∧
    (endService v s).exch = s.exch ∧ (endService v s).reports = s.reports := by
  unfold endService
  try dsimp only
  (repeat' split) <;> simp

@[simp] theorem endDeclined_frame (v : Service) (s : State) :
    (endDeclined v s).pending = s.pending ∧ (endDeclined v s).clock = s.clock ∧ (endDeclined v s).pins = s.pins ∧
    (endDeclined v s).captures = s.captures ∧ (endDeclined v s).buttons = s.buttons ∧ (endDeclined v s).ctl = s.ctl ∧
    (endDeclined v s).config = s.config ∧ (endDeclined v s).catalog = s.catalog ∧ (endDeclined v s).lines = s.lines ∧
    (endDeclined v s).accepted = s.accepted ∧ (endDeclined v s).garments = s.garments ∧
    (endDeclined v s).carousel = s.carousel ∧ (endDeclined v s).pretreat = s.pretreat ∧
    (endDeclined v s).press = s.press ∧ (endDeclined v s).engine = s.engine ∧ (endDeclined v s).staging = s.staging ∧
    (endDeclined v s).port = s.port ∧ (endDeclined v s).prints = s.prints ∧ (endDeclined v s).lanes = s.lanes ∧
    (endDeclined v s).flash = s.flash ∧ (endDeclined v s).dryer = s.dryer ∧ (endDeclined v s).pack = s.pack ∧
    (endDeclined v s).exch = s.exch ∧ (endDeclined v s).reports = s.reports := by
  unfold endDeclined
  try dsimp only
  (repeat' split) <;> simp

@[simp] theorem secondTransfer_frame (v : Service) (s : State) :
    (secondTransfer v s).pending = s.pending ∧ (secondTransfer v s).clock = s.clock ∧
    (secondTransfer v s).pins = s.pins ∧ (secondTransfer v s).captures = s.captures ∧
    (secondTransfer v s).buttons = s.buttons ∧ (secondTransfer v s).ctl = s.ctl ∧
    (secondTransfer v s).config = s.config ∧ (secondTransfer v s).catalog = s.catalog ∧
    (secondTransfer v s).lines = s.lines ∧ (secondTransfer v s).accepted = s.accepted ∧
    (secondTransfer v s).garments = s.garments ∧ (secondTransfer v s).carousel = s.carousel ∧
    (secondTransfer v s).pretreat = s.pretreat ∧ (secondTransfer v s).press = s.press ∧
    (secondTransfer v s).engine = s.engine ∧ (secondTransfer v s).staging = s.staging ∧
    (secondTransfer v s).port = s.port ∧ (secondTransfer v s).prints = s.prints ∧
    (secondTransfer v s).lanes = s.lanes ∧ (secondTransfer v s).flash = s.flash ∧
    (secondTransfer v s).dryer = s.dryer ∧ (secondTransfer v s).pack = s.pack ∧ (secondTransfer v s).exch = s.exch ∧
    (secondTransfer v s).reports = s.reports := by
  unfold secondTransfer
  try dsimp only
  (repeat' split) <;> simp

@[simp] theorem putService_frame (v : Service) (s : State) :
    (putService v s).pending = s.pending ∧ (putService v s).clock = s.clock ∧ (putService v s).pins = s.pins ∧
    (putService v s).captures = s.captures ∧ (putService v s).buttons = s.buttons ∧ (putService v s).ctl = s.ctl ∧
    (putService v s).config = s.config ∧ (putService v s).catalog = s.catalog ∧ (putService v s).lines = s.lines ∧
    (putService v s).accepted = s.accepted ∧ (putService v s).garments = s.garments ∧
    (putService v s).carousel = s.carousel ∧ (putService v s).pretreat = s.pretreat ∧
    (putService v s).press = s.press ∧ (putService v s).engine = s.engine ∧ (putService v s).staging = s.staging ∧
    (putService v s).port = s.port ∧ (putService v s).prints = s.prints ∧ (putService v s).lanes = s.lanes ∧
    (putService v s).flash = s.flash ∧ (putService v s).dryer = s.dryer ∧ (putService v s).pack = s.pack ∧
    (putService v s).exch = s.exch ∧ (putService v s).reports = s.reports := by
  unfold putService
  try dsimp only
  (repeat' split) <;> simp

@[simp] theorem handScan_frame (r : Role) (t : TagFields) (s : State) :
    (handScan r t s).pending = s.pending ∧ (handScan r t s).clock = s.clock ∧ (handScan r t s).pins = s.pins ∧
    (handScan r t s).captures = s.captures ∧ (handScan r t s).buttons = s.buttons ∧ (handScan r t s).ctl = s.ctl ∧
    (handScan r t s).config = s.config ∧ (handScan r t s).catalog = s.catalog ∧ (handScan r t s).staging = s.staging ∧
    (handScan r t s).port = s.port ∧ (handScan r t s).exch = s.exch := by
  unfold handScan
  try dsimp only
  (repeat' split) <;> simp

@[simp] theorem pairWhole_frame (v : Service) (status tag : Word) (s : State) :
    (pairWhole v status tag s).pending = s.pending ∧ (pairWhole v status tag s).clock = s.clock ∧
    (pairWhole v status tag s).pins = s.pins ∧ (pairWhole v status tag s).captures = s.captures ∧
    (pairWhole v status tag s).buttons = s.buttons ∧ (pairWhole v status tag s).ctl = s.ctl ∧
    (pairWhole v status tag s).config = s.config ∧ (pairWhole v status tag s).catalog = s.catalog ∧
    (pairWhole v status tag s).staging = s.staging ∧ (pairWhole v status tag s).port = s.port ∧
    (pairWhole v status tag s).exch = s.exch := by
  unfold pairWhole
  try dsimp only
  (repeat' split) <;> simp

@[simp] theorem serviceAccepted_frame (v : Service) (w : Word) (s : State) :
    (serviceAccepted v w s).pending = s.pending ∧ (serviceAccepted v w s).clock = s.clock ∧
    (serviceAccepted v w s).pins = s.pins ∧ (serviceAccepted v w s).captures = s.captures ∧
    (serviceAccepted v w s).buttons = s.buttons ∧ (serviceAccepted v w s).config = s.config ∧
    (serviceAccepted v w s).catalog = s.catalog ∧ (serviceAccepted v w s).staging = s.staging ∧
    (serviceAccepted v w s).port = s.port ∧ (serviceAccepted v w s).exch = s.exch := by
  unfold serviceAccepted
  try dsimp only
  (repeat' split) <;> simp

@[simp] theorem serviceDeclined_frame (v : Service) (s : State) :
    (serviceDeclined v s).pending = s.pending ∧ (serviceDeclined v s).clock = s.clock ∧
    (serviceDeclined v s).pins = s.pins ∧ (serviceDeclined v s).captures = s.captures ∧
    (serviceDeclined v s).buttons = s.buttons ∧ (serviceDeclined v s).ctl = s.ctl ∧
    (serviceDeclined v s).config = s.config ∧ (serviceDeclined v s).catalog = s.catalog ∧
    (serviceDeclined v s).lines = s.lines ∧ (serviceDeclined v s).accepted = s.accepted ∧
    (serviceDeclined v s).garments = s.garments ∧ (serviceDeclined v s).carousel = s.carousel ∧
    (serviceDeclined v s).pretreat = s.pretreat ∧ (serviceDeclined v s).press = s.press ∧
    (serviceDeclined v s).engine = s.engine ∧ (serviceDeclined v s).staging = s.staging ∧
    (serviceDeclined v s).port = s.port ∧ (serviceDeclined v s).prints = s.prints ∧
    (serviceDeclined v s).lanes = s.lanes ∧ (serviceDeclined v s).flash = s.flash ∧
    (serviceDeclined v s).dryer = s.dryer ∧ (serviceDeclined v s).pack = s.pack ∧
    (serviceDeclined v s).exch = s.exch ∧ (serviceDeclined v s).reports = s.reports := by
  unfold serviceDeclined
  try dsimp only
  (repeat' split) <;> simp

@[simp] theorem freeLink_frame (s : State) :
    (freeLink s).pending = s.pending ∧ (freeLink s).clock = s.clock ∧ (freeLink s).pins = s.pins ∧
    (freeLink s).captures = s.captures ∧ (freeLink s).buttons = s.buttons ∧ (freeLink s).ctl = s.ctl ∧
    (freeLink s).config = s.config ∧ (freeLink s).catalog = s.catalog ∧ (freeLink s).lines = s.lines ∧
    (freeLink s).accepted = s.accepted ∧ (freeLink s).garments = s.garments ∧ (freeLink s).carousel = s.carousel ∧
    (freeLink s).pretreat = s.pretreat ∧ (freeLink s).press = s.press ∧ (freeLink s).engine = s.engine ∧
    (freeLink s).staging = s.staging ∧ (freeLink s).port = s.port ∧ (freeLink s).prints = s.prints ∧
    (freeLink s).lanes = s.lanes ∧ (freeLink s).flash = s.flash ∧ (freeLink s).dryer = s.dryer ∧
    (freeLink s).pack = s.pack ∧ (freeLink s).exch = s.exch ∧ (freeLink s).reports = s.reports := by
  unfold freeLink
  try dsimp only
  (repeat' split) <;> simp

@[simp] theorem requesterDeclined_frame (q : Requester) (w : Queued) (c : LinkSettings) (s : State) :
    (requesterDeclined q w c s).pending = s.pending ∧ (requesterDeclined q w c s).clock = s.clock ∧
    (requesterDeclined q w c s).pins = s.pins ∧ (requesterDeclined q w c s).captures = s.captures ∧
    (requesterDeclined q w c s).buttons = s.buttons ∧ (requesterDeclined q w c s).config = s.config ∧
    (requesterDeclined q w c s).catalog = s.catalog ∧ (requesterDeclined q w c s).staging = s.staging ∧
    (requesterDeclined q w c s).port = s.port ∧ (requesterDeclined q w c s).exch = s.exch := by
  unfold requesterDeclined
  try dsimp only
  (repeat' split) <;> simp

@[simp] theorem tryAccepted_frame (o : OnLink) (word : Word) (s : State) :
    (tryAccepted o word s).pending = s.pending ∧ (tryAccepted o word s).clock = s.clock ∧
    (tryAccepted o word s).pins = s.pins ∧ (tryAccepted o word s).captures = s.captures ∧
    (tryAccepted o word s).buttons = s.buttons ∧ (tryAccepted o word s).config = s.config ∧
    (tryAccepted o word s).catalog = s.catalog ∧ (tryAccepted o word s).staging = s.staging ∧
    (tryAccepted o word s).port = s.port ∧ (tryAccepted o word s).exch = s.exch := by
  unfold tryAccepted onModule
  try dsimp only
  (repeat' split) <;> simp

@[simp] theorem tryDeclined_frame (o : OnLink) (s : State) :
    (tryDeclined o s).pending = s.pending ∧ (tryDeclined o s).clock = s.clock ∧ (tryDeclined o s).pins = s.pins ∧
    (tryDeclined o s).captures = s.captures ∧ (tryDeclined o s).buttons = s.buttons ∧
    (tryDeclined o s).config = s.config ∧ (tryDeclined o s).catalog = s.catalog ∧
    (tryDeclined o s).staging = s.staging ∧ (tryDeclined o s).port = s.port ∧ (tryDeclined o s).exch = s.exch := by
  unfold tryDeclined onModule
  try dsimp only
  (repeat' split) <;> simp

@[simp] theorem silentEnd_frame (o : OnLink) (s : State) :
    (silentEnd o s).pending = s.pending ∧ (silentEnd o s).clock = s.clock ∧ (silentEnd o s).pins = s.pins ∧
    (silentEnd o s).captures = s.captures ∧ (silentEnd o s).buttons = s.buttons ∧ (silentEnd o s).config = s.config ∧
    (silentEnd o s).catalog = s.catalog ∧ (silentEnd o s).staging = s.staging ∧ (silentEnd o s).port = s.port ∧
    (silentEnd o s).exch = s.exch := by
  unfold silentEnd onModule
  try dsimp only
  (repeat' split) <;> simp

@[simp] theorem trySilent_frame (o : OnLink) (s : State) :
    (trySilent o s).pending = s.pending ∧ (trySilent o s).clock = s.clock ∧ (trySilent o s).pins = s.pins ∧
    (trySilent o s).captures = s.captures ∧ (trySilent o s).buttons = s.buttons ∧ (trySilent o s).config = s.config ∧
    (trySilent o s).catalog = s.catalog ∧ (trySilent o s).staging = s.staging ∧ (trySilent o s).port = s.port ∧
    (trySilent o s).exch = s.exch := by
  unfold trySilent onModule
  try dsimp only
  (repeat' split) <;> simp

@[simp] theorem endTry_frame (frame : List Byte) (wanted : TryEnd → Bool) (s : State) :
    (endTry frame wanted s).pending = s.pending ∧ (endTry frame wanted s).clock = s.clock ∧
    (endTry frame wanted s).pins = s.pins ∧ (endTry frame wanted s).captures = s.captures ∧
    (endTry frame wanted s).buttons = s.buttons ∧ (endTry frame wanted s).config = s.config ∧
    (endTry frame wanted s).catalog = s.catalog ∧ (endTry frame wanted s).staging = s.staging ∧
    (endTry frame wanted s).port = s.port ∧ (endTry frame wanted s).exch = s.exch := by
  unfold endTry
  try dsimp only
  (repeat' split) <;> simp

@[simp] theorem takeRefill_frame (r : RefillGroup) (s : State) :
    (takeRefill r s).pending = s.pending ∧ (takeRefill r s).clock = s.clock ∧ (takeRefill r s).pins = s.pins ∧
    (takeRefill r s).captures = s.captures ∧ (takeRefill r s).buttons = s.buttons ∧ (takeRefill r s).ctl = s.ctl ∧
    (takeRefill r s).config = s.config ∧ (takeRefill r s).catalog = s.catalog ∧ (takeRefill r s).lines = s.lines ∧
    (takeRefill r s).accepted = s.accepted ∧ (takeRefill r s).garments = s.garments ∧
    (takeRefill r s).carousel = s.carousel ∧ (takeRefill r s).press = s.press ∧ (takeRefill r s).engine = s.engine ∧
    (takeRefill r s).staging = s.staging ∧ (takeRefill r s).port = s.port ∧ (takeRefill r s).prints = s.prints ∧
    (takeRefill r s).lanes = s.lanes ∧ (takeRefill r s).flash = s.flash ∧ (takeRefill r s).dryer = s.dryer ∧
    (takeRefill r s).pack = s.pack ∧ (takeRefill r s).link = s.link ∧ (takeRefill r s).exch = s.exch := by
  unfold takeRefill
  try dsimp only
  (repeat' split) <;> simp

@[simp] theorem putActivity_frame (a : Option Activity) (s : State) :
    (putActivity a s).pending = s.pending ∧ (putActivity a s).clock = s.clock ∧ (putActivity a s).pins = s.pins ∧
    (putActivity a s).captures = s.captures ∧ (putActivity a s).buttons = s.buttons ∧ (putActivity a s).ctl = s.ctl ∧
    (putActivity a s).config = s.config ∧ (putActivity a s).catalog = s.catalog ∧ (putActivity a s).lines = s.lines ∧
    (putActivity a s).accepted = s.accepted ∧ (putActivity a s).garments = s.garments ∧
    (putActivity a s).carousel = s.carousel ∧ (putActivity a s).pretreat = s.pretreat ∧
    (putActivity a s).press = s.press ∧ (putActivity a s).engine = s.engine ∧ (putActivity a s).staging = s.staging ∧
    (putActivity a s).port = s.port ∧ (putActivity a s).prints = s.prints ∧ (putActivity a s).lanes = s.lanes ∧
    (putActivity a s).flash = s.flash ∧ (putActivity a s).dryer = s.dryer ∧ (putActivity a s).pack = s.pack ∧
    (putActivity a s).link = s.link ∧ (putActivity a s).reports = s.reports := by
  unfold putActivity
  try dsimp only
  (repeat' split) <;> simp

@[simp] theorem beginSweep_frame (s : State) :
    (beginSweep s).pending = s.pending ∧ (beginSweep s).clock = s.clock ∧ (beginSweep s).pins = s.pins ∧
    (beginSweep s).captures = s.captures ∧ (beginSweep s).buttons = s.buttons ∧ (beginSweep s).ctl = s.ctl ∧
    (beginSweep s).config = s.config ∧ (beginSweep s).catalog = s.catalog ∧ (beginSweep s).lines = s.lines ∧
    (beginSweep s).accepted = s.accepted ∧ (beginSweep s).garments = s.garments ∧
    (beginSweep s).carousel = s.carousel ∧ (beginSweep s).pretreat = s.pretreat ∧ (beginSweep s).press = s.press ∧
    (beginSweep s).engine = s.engine ∧ (beginSweep s).staging = s.staging ∧ (beginSweep s).port = s.port ∧
    (beginSweep s).prints = s.prints ∧ (beginSweep s).lanes = s.lanes ∧ (beginSweep s).flash = s.flash ∧
    (beginSweep s).dryer = s.dryer ∧ (beginSweep s).pack = s.pack ∧ (beginSweep s).link = s.link ∧
    (beginSweep s).reports = s.reports := by
  unfold beginSweep
  try dsimp only
  (repeat' split) <;> simp

@[simp] theorem startSweep_frame (s : State) :
    (startSweep s).pending = s.pending ∧ (startSweep s).clock = s.clock ∧ (startSweep s).pins = s.pins ∧
    (startSweep s).captures = s.captures ∧ (startSweep s).buttons = s.buttons ∧ (startSweep s).ctl = s.ctl ∧
    (startSweep s).config = s.config ∧ (startSweep s).catalog = s.catalog ∧ (startSweep s).lines = s.lines ∧
    (startSweep s).accepted = s.accepted ∧ (startSweep s).garments = s.garments ∧
    (startSweep s).carousel = s.carousel ∧ (startSweep s).pretreat = s.pretreat ∧ (startSweep s).press = s.press ∧
    (startSweep s).engine = s.engine ∧ (startSweep s).staging = s.staging ∧ (startSweep s).port = s.port ∧
    (startSweep s).prints = s.prints ∧ (startSweep s).lanes = s.lanes ∧ (startSweep s).flash = s.flash ∧
    (startSweep s).dryer = s.dryer ∧ (startSweep s).pack = s.pack ∧ (startSweep s).link = s.link ∧
    (startSweep s).reports = s.reports := by
  unfold startSweep
  try dsimp only
  (repeat' split) <;> simp

@[simp] theorem endSweep_frame (s : State) :
    (endSweep s).pending = s.pending ∧ (endSweep s).clock = s.clock ∧ (endSweep s).pins = s.pins ∧
    (endSweep s).captures = s.captures ∧ (endSweep s).buttons = s.buttons ∧ (endSweep s).ctl = s.ctl ∧
    (endSweep s).config = s.config ∧ (endSweep s).catalog = s.catalog ∧ (endSweep s).lines = s.lines ∧
    (endSweep s).accepted = s.accepted ∧ (endSweep s).garments = s.garments ∧ (endSweep s).carousel = s.carousel ∧
    (endSweep s).pretreat = s.pretreat ∧ (endSweep s).press = s.press ∧ (endSweep s).engine = s.engine ∧
    (endSweep s).staging = s.staging ∧ (endSweep s).port = s.port ∧ (endSweep s).prints = s.prints ∧
    (endSweep s).lanes = s.lanes ∧ (endSweep s).flash = s.flash ∧ (endSweep s).dryer = s.dryer ∧
    (endSweep s).pack = s.pack ∧ (endSweep s).link = s.link ∧ (endSweep s).reports = s.reports := by
  unfold endSweep
  try dsimp only
  (repeat' split) <;> simp

@[simp] theorem advanceSweep_frame (s : State) :
    (advanceSweep s).pending = s.pending ∧ (advanceSweep s).clock = s.clock ∧ (advanceSweep s).pins = s.pins ∧
    (advanceSweep s).captures = s.captures ∧ (advanceSweep s).buttons = s.buttons ∧ (advanceSweep s).ctl = s.ctl ∧
    (advanceSweep s).config = s.config ∧ (advanceSweep s).catalog = s.catalog ∧ (advanceSweep s).lines = s.lines ∧
    (advanceSweep s).accepted = s.accepted ∧ (advanceSweep s).garments = s.garments ∧
    (advanceSweep s).carousel = s.carousel ∧ (advanceSweep s).pretreat = s.pretreat ∧
    (advanceSweep s).press = s.press ∧ (advanceSweep s).engine = s.engine ∧ (advanceSweep s).staging = s.staging ∧
    (advanceSweep s).port = s.port ∧ (advanceSweep s).prints = s.prints ∧ (advanceSweep s).lanes = s.lanes ∧
    (advanceSweep s).flash = s.flash ∧ (advanceSweep s).dryer = s.dryer ∧ (advanceSweep s).pack = s.pack ∧
    (advanceSweep s).link = s.link ∧ (advanceSweep s).reports = s.reports := by
  unfold advanceSweep
  try dsimp only
  (repeat' split) <;> simp

@[simp] theorem endActivity_frame (ofSweep : Bool) (s : State) :
    (endActivity ofSweep s).pending = s.pending ∧ (endActivity ofSweep s).clock = s.clock ∧
    (endActivity ofSweep s).pins = s.pins ∧ (endActivity ofSweep s).captures = s.captures ∧
    (endActivity ofSweep s).buttons = s.buttons ∧ (endActivity ofSweep s).ctl = s.ctl ∧
    (endActivity ofSweep s).config = s.config ∧ (endActivity ofSweep s).catalog = s.catalog ∧
    (endActivity ofSweep s).lines = s.lines ∧ (endActivity ofSweep s).accepted = s.accepted ∧
    (endActivity ofSweep s).garments = s.garments ∧ (endActivity ofSweep s).carousel = s.carousel ∧
    (endActivity ofSweep s).pretreat = s.pretreat ∧ (endActivity ofSweep s).press = s.press ∧
    (endActivity ofSweep s).engine = s.engine ∧ (endActivity ofSweep s).staging = s.staging ∧
    (endActivity ofSweep s).port = s.port ∧ (endActivity ofSweep s).prints = s.prints ∧
    (endActivity ofSweep s).lanes = s.lanes ∧ (endActivity ofSweep s).flash = s.flash ∧
    (endActivity ofSweep s).dryer = s.dryer ∧ (endActivity ofSweep s).pack = s.pack ∧
    (endActivity ofSweep s).link = s.link ∧ (endActivity ofSweep s).reports = s.reports := by
  unfold endActivity
  try dsimp only
  (repeat' split) <;> simp

@[simp] theorem putFaultMark_frame (slot : Fin 128) (v : Bool) (s : State) :
    (putFaultMark slot v s).pending = s.pending ∧ (putFaultMark slot v s).clock = s.clock ∧
    (putFaultMark slot v s).pins = s.pins ∧ (putFaultMark slot v s).captures = s.captures ∧
    (putFaultMark slot v s).buttons = s.buttons ∧ (putFaultMark slot v s).ctl = s.ctl ∧
    (putFaultMark slot v s).config = s.config ∧ (putFaultMark slot v s).catalog = s.catalog ∧
    (putFaultMark slot v s).lines = s.lines ∧ (putFaultMark slot v s).accepted = s.accepted ∧
    (putFaultMark slot v s).garments = s.garments ∧ (putFaultMark slot v s).carousel = s.carousel ∧
    (putFaultMark slot v s).pretreat = s.pretreat ∧ (putFaultMark slot v s).press = s.press ∧
    (putFaultMark slot v s).engine = s.engine ∧ (putFaultMark slot v s).staging = s.staging ∧
    (putFaultMark slot v s).port = s.port ∧ (putFaultMark slot v s).prints = s.prints ∧
    (putFaultMark slot v s).lanes = s.lanes ∧ (putFaultMark slot v s).flash = s.flash ∧
    (putFaultMark slot v s).dryer = s.dryer ∧ (putFaultMark slot v s).pack = s.pack ∧
    (putFaultMark slot v s).link = s.link ∧ (putFaultMark slot v s).reports = s.reports := by
  unfold putFaultMark
  try dsimp only
  (repeat' split) <;> simp

@[simp] theorem slotReadError_frame (slot : Fin 128) (s : State) :
    (slotReadError slot s).pending = s.pending ∧ (slotReadError slot s).clock = s.clock ∧
    (slotReadError slot s).pins = s.pins ∧ (slotReadError slot s).captures = s.captures ∧
    (slotReadError slot s).buttons = s.buttons ∧ (slotReadError slot s).ctl = s.ctl ∧
    (slotReadError slot s).config = s.config ∧ (slotReadError slot s).catalog = s.catalog ∧
    (slotReadError slot s).lines = s.lines ∧ (slotReadError slot s).accepted = s.accepted ∧
    (slotReadError slot s).garments = s.garments ∧ (slotReadError slot s).carousel = s.carousel ∧
    (slotReadError slot s).pretreat = s.pretreat ∧ (slotReadError slot s).press = s.press ∧
    (slotReadError slot s).engine = s.engine ∧ (slotReadError slot s).staging = s.staging ∧
    (slotReadError slot s).port = s.port ∧ (slotReadError slot s).prints = s.prints ∧
    (slotReadError slot s).lanes = s.lanes ∧ (slotReadError slot s).flash = s.flash ∧
    (slotReadError slot s).dryer = s.dryer ∧ (slotReadError slot s).pack = s.pack ∧
    (slotReadError slot s).link = s.link := by
  unfold slotReadError
  try dsimp only
  (repeat' split) <;> simp

@[simp] theorem lookError_frame (slot : Fin 128) (ofSweep : Bool) (s : State) :
    (lookError slot ofSweep s).pending = s.pending ∧ (lookError slot ofSweep s).clock = s.clock ∧
    (lookError slot ofSweep s).pins = s.pins ∧ (lookError slot ofSweep s).captures = s.captures ∧
    (lookError slot ofSweep s).buttons = s.buttons ∧ (lookError slot ofSweep s).ctl = s.ctl ∧
    (lookError slot ofSweep s).config = s.config ∧ (lookError slot ofSweep s).catalog = s.catalog ∧
    (lookError slot ofSweep s).lines = s.lines ∧ (lookError slot ofSweep s).accepted = s.accepted ∧
    (lookError slot ofSweep s).garments = s.garments ∧ (lookError slot ofSweep s).carousel = s.carousel ∧
    (lookError slot ofSweep s).pretreat = s.pretreat ∧ (lookError slot ofSweep s).press = s.press ∧
    (lookError slot ofSweep s).engine = s.engine ∧ (lookError slot ofSweep s).staging = s.staging ∧
    (lookError slot ofSweep s).port = s.port ∧ (lookError slot ofSweep s).prints = s.prints ∧
    (lookError slot ofSweep s).lanes = s.lanes ∧ (lookError slot ofSweep s).flash = s.flash ∧
    (lookError slot ofSweep s).dryer = s.dryer ∧ (lookError slot ofSweep s).pack = s.pack ∧
    (lookError slot ofSweep s).link = s.link := by
  unfold lookError
  try dsimp only
  (repeat' split) <;> simp

@[simp] theorem setTake_frame (slot : Fin 128) (hand : Byte) (s : State) :
    (setTake slot hand s).pending = s.pending ∧ (setTake slot hand s).clock = s.clock ∧
    (setTake slot hand s).pins = s.pins ∧ (setTake slot hand s).captures = s.captures ∧
    (setTake slot hand s).buttons = s.buttons ∧ (setTake slot hand s).ctl = s.ctl ∧
    (setTake slot hand s).config = s.config ∧ (setTake slot hand s).catalog = s.catalog ∧
    (setTake slot hand s).accepted = s.accepted ∧ (setTake slot hand s).garments = s.garments ∧
    (setTake slot hand s).carousel = s.carousel ∧ (setTake slot hand s).pretreat = s.pretreat ∧
    (setTake slot hand s).press = s.press ∧ (setTake slot hand s).engine = s.engine ∧
    (setTake slot hand s).staging = s.staging ∧ (setTake slot hand s).port = s.port ∧
    (setTake slot hand s).prints = s.prints ∧ (setTake slot hand s).lanes = s.lanes ∧
    (setTake slot hand s).flash = s.flash ∧ (setTake slot hand s).dryer = s.dryer ∧
    (setTake slot hand s).pack = s.pack ∧ (setTake slot hand s).link = s.link ∧ (setTake slot hand s).exch = s.exch ∧
    (setTake slot hand s).reports = s.reports := by
  unfold setTake
  try dsimp only
  (repeat' split) <;> simp

@[simp] theorem acceptPost_frame (slot : Fin 128) (hand : Byte) (p : Snapshot) (s : State) :
    (acceptPost slot hand p s).pending = s.pending ∧ (acceptPost slot hand p s).clock = s.clock ∧
    (acceptPost slot hand p s).pins = s.pins ∧ (acceptPost slot hand p s).captures = s.captures ∧
    (acceptPost slot hand p s).buttons = s.buttons ∧ (acceptPost slot hand p s).ctl = s.ctl ∧
    (acceptPost slot hand p s).config = s.config ∧ (acceptPost slot hand p s).catalog = s.catalog ∧
    (acceptPost slot hand p s).garments = s.garments ∧ (acceptPost slot hand p s).carousel = s.carousel ∧
    (acceptPost slot hand p s).pretreat = s.pretreat ∧ (acceptPost slot hand p s).press = s.press ∧
    (acceptPost slot hand p s).engine = s.engine ∧ (acceptPost slot hand p s).staging = s.staging ∧
    (acceptPost slot hand p s).port = s.port ∧ (acceptPost slot hand p s).prints = s.prints ∧
    (acceptPost slot hand p s).lanes = s.lanes ∧ (acceptPost slot hand p s).flash = s.flash ∧
    (acceptPost slot hand p s).dryer = s.dryer ∧ (acceptPost slot hand p s).link = s.link ∧
    (acceptPost slot hand p s).exch = s.exch := by
  unfold acceptPost
  try dsimp only
  (repeat' split) <;> simp

@[simp] theorem dropPost_frame (slot : Fin 128) (hand : Byte) (s : State) :
    (dropPost slot hand s).pending = s.pending ∧ (dropPost slot hand s).clock = s.clock ∧
    (dropPost slot hand s).pins = s.pins ∧ (dropPost slot hand s).captures = s.captures ∧
    (dropPost slot hand s).buttons = s.buttons ∧ (dropPost slot hand s).ctl = s.ctl ∧
    (dropPost slot hand s).config = s.config ∧ (dropPost slot hand s).catalog = s.catalog ∧
    (dropPost slot hand s).accepted = s.accepted ∧ (dropPost slot hand s).garments = s.garments ∧
    (dropPost slot hand s).carousel = s.carousel ∧ (dropPost slot hand s).pretreat = s.pretreat ∧
    (dropPost slot hand s).press = s.press ∧ (dropPost slot hand s).engine = s.engine ∧
    (dropPost slot hand s).staging = s.staging ∧ (dropPost slot hand s).port = s.port ∧
    (dropPost slot hand s).prints = s.prints ∧ (dropPost slot hand s).lanes = s.lanes ∧
    (dropPost slot hand s).flash = s.flash ∧ (dropPost slot hand s).dryer = s.dryer ∧
    (dropPost slot hand s).pack = s.pack ∧ (dropPost slot hand s).link = s.link ∧ (dropPost slot hand s).exch = s.exch := by
  unfold dropPost
  try dsimp only
  (repeat' split) <;> simp

@[simp] theorem takePost_frame (slot : Fin 128) (bytes : List Byte) (entry : Option CatalogEntry) (s : State) :
    (takePost slot bytes entry s).pending = s.pending ∧ (takePost slot bytes entry s).clock = s.clock ∧
    (takePost slot bytes entry s).pins = s.pins ∧ (takePost slot bytes entry s).captures = s.captures ∧
    (takePost slot bytes entry s).buttons = s.buttons ∧ (takePost slot bytes entry s).ctl = s.ctl ∧
    (takePost slot bytes entry s).config = s.config ∧ (takePost slot bytes entry s).catalog = s.catalog ∧
    (takePost slot bytes entry s).garments = s.garments ∧ (takePost slot bytes entry s).carousel = s.carousel ∧
    (takePost slot bytes entry s).pretreat = s.pretreat ∧ (takePost slot bytes entry s).press = s.press ∧
    (takePost slot bytes entry s).engine = s.engine ∧ (takePost slot bytes entry s).staging = s.staging ∧
    (takePost slot bytes entry s).port = s.port ∧ (takePost slot bytes entry s).prints = s.prints ∧
    (takePost slot bytes entry s).lanes = s.lanes ∧ (takePost slot bytes entry s).flash = s.flash ∧
    (takePost slot bytes entry s).dryer = s.dryer ∧ (takePost slot bytes entry s).link = s.link ∧
    (takePost slot bytes entry s).exch = s.exch := by
  unfold takePost
  try dsimp only
  (repeat' split) <;> simp

@[simp] theorem foundPost_frame (slot : Fin 128) (ofSweep : Bool) (bytes : List Byte) (s : State) :
    (foundPost slot ofSweep bytes s).pending = s.pending ∧ (foundPost slot ofSweep bytes s).clock = s.clock ∧
    (foundPost slot ofSweep bytes s).pins = s.pins ∧ (foundPost slot ofSweep bytes s).captures = s.captures ∧
    (foundPost slot ofSweep bytes s).buttons = s.buttons ∧ (foundPost slot ofSweep bytes s).ctl = s.ctl ∧
    (foundPost slot ofSweep bytes s).config = s.config ∧ (foundPost slot ofSweep bytes s).catalog = s.catalog ∧
    (foundPost slot ofSweep bytes s).garments = s.garments ∧ (foundPost slot ofSweep bytes s).carousel = s.carousel ∧
    (foundPost slot ofSweep bytes s).pretreat = s.pretreat ∧ (foundPost slot ofSweep bytes s).press = s.press ∧
    (foundPost slot ofSweep bytes s).engine = s.engine ∧ (foundPost slot ofSweep bytes s).staging = s.staging ∧
    (foundPost slot ofSweep bytes s).prints = s.prints ∧ (foundPost slot ofSweep bytes s).lanes = s.lanes ∧
    (foundPost slot ofSweep bytes s).flash = s.flash ∧ (foundPost slot ofSweep bytes s).dryer = s.dryer ∧
    (foundPost slot ofSweep bytes s).link = s.link := by
  unfold foundPost
  try dsimp only
  (repeat' split) <;> simp

@[simp] theorem foundNoPost_frame (slot : Fin 128) (ofSweep : Bool) (bytes : List Byte) (s : State) :
    (foundNoPost slot ofSweep bytes s).pending = s.pending ∧ (foundNoPost slot ofSweep bytes s).clock = s.clock ∧
    (foundNoPost slot ofSweep bytes s).pins = s.pins ∧ (foundNoPost slot ofSweep bytes s).captures = s.captures ∧
    (foundNoPost slot ofSweep bytes s).buttons = s.buttons ∧ (foundNoPost slot ofSweep bytes s).ctl = s.ctl ∧
    (foundNoPost slot ofSweep bytes s).config = s.config ∧ (foundNoPost slot ofSweep bytes s).catalog = s.catalog ∧
    (foundNoPost slot ofSweep bytes s).staging = s.staging ∧ (foundNoPost slot ofSweep bytes s).port = s.port ∧
    (foundNoPost slot ofSweep bytes s).dryer = s.dryer := by
  unfold foundNoPost
  try dsimp only
  (repeat' split) <;> simp

@[simp] theorem lookRead_frame (slot : Fin 128) (ofSweep : Bool) (bytes : List Byte) (s : State) :
    (lookRead slot ofSweep bytes s).pending = s.pending ∧ (lookRead slot ofSweep bytes s).clock = s.clock ∧
    (lookRead slot ofSweep bytes s).pins = s.pins ∧ (lookRead slot ofSweep bytes s).captures = s.captures ∧
    (lookRead slot ofSweep bytes s).buttons = s.buttons ∧ (lookRead slot ofSweep bytes s).ctl = s.ctl ∧
    (lookRead slot ofSweep bytes s).config = s.config ∧ (lookRead slot ofSweep bytes s).catalog = s.catalog ∧
    (lookRead slot ofSweep bytes s).staging = s.staging ∧ (lookRead slot ofSweep bytes s).dryer = s.dryer := by
  unfold lookRead
  try dsimp only
  (repeat' split) <;> simp

@[simp] theorem postRead_frame (slot : Fin 128) (ofSweep : Bool) (bytes : List Byte) (s : State) :
    (postRead slot ofSweep bytes s).pending = s.pending ∧ (postRead slot ofSweep bytes s).clock = s.clock ∧
    (postRead slot ofSweep bytes s).pins = s.pins ∧ (postRead slot ofSweep bytes s).captures = s.captures ∧
    (postRead slot ofSweep bytes s).buttons = s.buttons ∧ (postRead slot ofSweep bytes s).ctl = s.ctl ∧
    (postRead slot ofSweep bytes s).config = s.config ∧ (postRead slot ofSweep bytes s).catalog = s.catalog ∧
    (postRead slot ofSweep bytes s).garments = s.garments ∧ (postRead slot ofSweep bytes s).carousel = s.carousel ∧
    (postRead slot ofSweep bytes s).pretreat = s.pretreat ∧ (postRead slot ofSweep bytes s).press = s.press ∧
    (postRead slot ofSweep bytes s).engine = s.engine ∧ (postRead slot ofSweep bytes s).staging = s.staging ∧
    (postRead slot ofSweep bytes s).prints = s.prints ∧ (postRead slot ofSweep bytes s).lanes = s.lanes ∧
    (postRead slot ofSweep bytes s).flash = s.flash ∧ (postRead slot ofSweep bytes s).dryer = s.dryer ∧
    (postRead slot ofSweep bytes s).link = s.link := by
  unfold postRead
  try dsimp only
  (repeat' split) <;> simp

@[simp] theorem recoveryRead_frame (slot : Fin 128) (ofSweep : Bool) (bytes : List Byte) (s : State) :
    (recoveryRead slot ofSweep bytes s).pending = s.pending ∧ (recoveryRead slot ofSweep bytes s).clock = s.clock ∧
    (recoveryRead slot ofSweep bytes s).pins = s.pins ∧ (recoveryRead slot ofSweep bytes s).captures = s.captures ∧
    (recoveryRead slot ofSweep bytes s).buttons = s.buttons ∧ (recoveryRead slot ofSweep bytes s).ctl = s.ctl ∧
    (recoveryRead slot ofSweep bytes s).config = s.config ∧ (recoveryRead slot ofSweep bytes s).catalog = s.catalog ∧
    (recoveryRead slot ofSweep bytes s).staging = s.staging ∧ (recoveryRead slot ofSweep bytes s).dryer = s.dryer := by
  unfold recoveryRead
  try dsimp only
  (repeat' split) <;> simp

@[simp] theorem beginLook_frame (slot : Fin 128) (ofSweep : Bool) (s : State) :
    (beginLook slot ofSweep s).pending = s.pending ∧ (beginLook slot ofSweep s).clock = s.clock ∧
    (beginLook slot ofSweep s).pins = s.pins ∧ (beginLook slot ofSweep s).captures = s.captures ∧
    (beginLook slot ofSweep s).buttons = s.buttons ∧ (beginLook slot ofSweep s).ctl = s.ctl ∧
    (beginLook slot ofSweep s).config = s.config ∧ (beginLook slot ofSweep s).catalog = s.catalog ∧
    (beginLook slot ofSweep s).lines = s.lines ∧ (beginLook slot ofSweep s).accepted = s.accepted ∧
    (beginLook slot ofSweep s).garments = s.garments ∧ (beginLook slot ofSweep s).carousel = s.carousel ∧
    (beginLook slot ofSweep s).pretreat = s.pretreat ∧ (beginLook slot ofSweep s).press = s.press ∧
    (beginLook slot ofSweep s).engine = s.engine ∧ (beginLook slot ofSweep s).staging = s.staging ∧
    (beginLook slot ofSweep s).prints = s.prints ∧ (beginLook slot ofSweep s).lanes = s.lanes ∧
    (beginLook slot ofSweep s).flash = s.flash ∧ (beginLook slot ofSweep s).dryer = s.dryer ∧
    (beginLook slot ofSweep s).pack = s.pack ∧ (beginLook slot ofSweep s).link = s.link ∧
    (beginLook slot ofSweep s).reports = s.reports := by
  unfold beginLook
  try dsimp only
  (repeat' split) <;> simp

@[simp] theorem beginRefill_frame (ofSweep : Bool) (s : State) :
    (beginRefill ofSweep s).pending = s.pending ∧ (beginRefill ofSweep s).clock = s.clock ∧
    (beginRefill ofSweep s).pins = s.pins ∧ (beginRefill ofSweep s).captures = s.captures ∧
    (beginRefill ofSweep s).buttons = s.buttons ∧ (beginRefill ofSweep s).ctl = s.ctl ∧
    (beginRefill ofSweep s).config = s.config ∧ (beginRefill ofSweep s).catalog = s.catalog ∧
    (beginRefill ofSweep s).lines = s.lines ∧ (beginRefill ofSweep s).accepted = s.accepted ∧
    (beginRefill ofSweep s).garments = s.garments ∧ (beginRefill ofSweep s).carousel = s.carousel ∧
    (beginRefill ofSweep s).pretreat = s.pretreat ∧ (beginRefill ofSweep s).press = s.press ∧
    (beginRefill ofSweep s).engine = s.engine ∧ (beginRefill ofSweep s).staging = s.staging ∧
    (beginRefill ofSweep s).prints = s.prints ∧ (beginRefill ofSweep s).lanes = s.lanes ∧
    (beginRefill ofSweep s).flash = s.flash ∧ (beginRefill ofSweep s).dryer = s.dryer ∧
    (beginRefill ofSweep s).pack = s.pack ∧ (beginRefill ofSweep s).link = s.link ∧
    (beginRefill ofSweep s).reports = s.reports := by
  unfold beginRefill
  try dsimp only
  (repeat' split) <;> simp

@[simp] theorem refillError_frame (s : State) :
    (refillError s).pending = s.pending ∧ (refillError s).clock = s.clock ∧ (refillError s).pins = s.pins ∧
    (refillError s).captures = s.captures ∧ (refillError s).buttons = s.buttons ∧ (refillError s).ctl = s.ctl ∧
    (refillError s).config = s.config ∧ (refillError s).catalog = s.catalog ∧ (refillError s).lines = s.lines ∧
    (refillError s).accepted = s.accepted ∧ (refillError s).garments = s.garments ∧
    (refillError s).carousel = s.carousel ∧ (refillError s).pretreat = s.pretreat ∧ (refillError s).press = s.press ∧
    (refillError s).engine = s.engine ∧ (refillError s).staging = s.staging ∧ (refillError s).port = s.port ∧
    (refillError s).prints = s.prints ∧ (refillError s).lanes = s.lanes ∧ (refillError s).flash = s.flash ∧
    (refillError s).dryer = s.dryer ∧ (refillError s).pack = s.pack ∧ (refillError s).link = s.link := by
  unfold refillError
  try dsimp only
  (repeat' split) <;> simp

@[simp] theorem refillRead_frame (bytes : List Byte) (s : State) :
    (refillRead bytes s).pending = s.pending ∧ (refillRead bytes s).clock = s.clock ∧
    (refillRead bytes s).pins = s.pins ∧ (refillRead bytes s).captures = s.captures ∧
    (refillRead bytes s).buttons = s.buttons ∧ (refillRead bytes s).ctl = s.ctl ∧
    (refillRead bytes s).config = s.config ∧ (refillRead bytes s).catalog = s.catalog ∧
    (refillRead bytes s).lines = s.lines ∧ (refillRead bytes s).accepted = s.accepted ∧
    (refillRead bytes s).garments = s.garments ∧ (refillRead bytes s).carousel = s.carousel ∧
    (refillRead bytes s).press = s.press ∧ (refillRead bytes s).engine = s.engine ∧
    (refillRead bytes s).staging = s.staging ∧ (refillRead bytes s).port = s.port ∧
    (refillRead bytes s).prints = s.prints ∧ (refillRead bytes s).lanes = s.lanes ∧
    (refillRead bytes s).flash = s.flash ∧ (refillRead bytes s).dryer = s.dryer ∧ (refillRead bytes s).pack = s.pack ∧
    (refillRead bytes s).link = s.link := by
  unfold refillRead
  try dsimp only
  (repeat' split) <;> simp

@[simp] theorem askAttach_frame (s : State) :
    (askAttach s).pending = s.pending ∧ (askAttach s).clock = s.clock ∧ (askAttach s).pins = s.pins ∧
    (askAttach s).captures = s.captures ∧ (askAttach s).buttons = s.buttons ∧ (askAttach s).ctl = s.ctl ∧
    (askAttach s).config = s.config ∧ (askAttach s).catalog = s.catalog ∧ (askAttach s).lines = s.lines ∧
    (askAttach s).accepted = s.accepted ∧ (askAttach s).garments = s.garments ∧ (askAttach s).carousel = s.carousel ∧
    (askAttach s).pretreat = s.pretreat ∧ (askAttach s).press = s.press ∧ (askAttach s).engine = s.engine ∧
    (askAttach s).staging = s.staging ∧ (askAttach s).prints = s.prints ∧ (askAttach s).lanes = s.lanes ∧
    (askAttach s).flash = s.flash ∧ (askAttach s).dryer = s.dryer ∧ (askAttach s).pack = s.pack ∧
    (askAttach s).link = s.link ∧ (askAttach s).exch = s.exch ∧ (askAttach s).reports = s.reports := by
  unfold askAttach
  try dsimp only
  (repeat' split) <;> simp

@[simp] theorem refuseReading_frame (s : State) :
    (refuseReading s).pending = s.pending ∧ (refuseReading s).clock = s.clock ∧ (refuseReading s).pins = s.pins ∧
    (refuseReading s).captures = s.captures ∧ (refuseReading s).buttons = s.buttons ∧
    (refuseReading s).config = s.config ∧ (refuseReading s).catalog = s.catalog ∧ (refuseReading s).lines = s.lines ∧
    (refuseReading s).accepted = s.accepted ∧ (refuseReading s).garments = s.garments ∧
    (refuseReading s).pretreat = s.pretreat ∧ (refuseReading s).press = s.press ∧
    (refuseReading s).engine = s.engine ∧ (refuseReading s).staging = s.staging ∧ (refuseReading s).port = s.port ∧
    (refuseReading s).prints = s.prints ∧ (refuseReading s).lanes = s.lanes ∧ (refuseReading s).pack = s.pack ∧
    (refuseReading s).exch = s.exch := by
  unfold refuseReading
  try dsimp only
  (repeat' split) <;> simp

@[simp] theorem startAttach_frame (s : State) :
    (startAttach s).pending = s.pending ∧ (startAttach s).clock = s.clock ∧ (startAttach s).pins = s.pins ∧
    (startAttach s).captures = s.captures ∧ (startAttach s).buttons = s.buttons ∧ (startAttach s).config = s.config ∧
    (startAttach s).catalog = s.catalog ∧ (startAttach s).staging = s.staging := by
  unfold startAttach
  try dsimp only
  (repeat' split) <;> simp

@[simp] theorem setMem_frame (s : State) :
    (setMem s).pending = s.pending ∧ (setMem s).clock = s.clock ∧ (setMem s).pins = s.pins ∧
    (setMem s).captures = s.captures ∧ (setMem s).buttons = s.buttons ∧ (setMem s).ctl = s.ctl ∧
    (setMem s).config = s.config ∧ (setMem s).catalog = s.catalog ∧ (setMem s).lines = s.lines ∧
    (setMem s).accepted = s.accepted ∧ (setMem s).garments = s.garments ∧ (setMem s).carousel = s.carousel ∧
    (setMem s).pretreat = s.pretreat ∧ (setMem s).press = s.press ∧ (setMem s).engine = s.engine ∧
    (setMem s).staging = s.staging ∧ (setMem s).port = s.port ∧ (setMem s).prints = s.prints ∧
    (setMem s).lanes = s.lanes ∧ (setMem s).flash = s.flash ∧ (setMem s).dryer = s.dryer ∧ (setMem s).pack = s.pack ∧
    (setMem s).link = s.link ∧ (setMem s).reports = s.reports := by
  unfold setMem
  try dsimp only
  (repeat' split) <;> simp

@[simp] theorem setAttach_frame (a : AttachState) (s : State) :
    (setAttach a s).pending = s.pending ∧ (setAttach a s).clock = s.clock ∧ (setAttach a s).pins = s.pins ∧
    (setAttach a s).captures = s.captures ∧ (setAttach a s).buttons = s.buttons ∧ (setAttach a s).ctl = s.ctl ∧
    (setAttach a s).config = s.config ∧ (setAttach a s).catalog = s.catalog ∧ (setAttach a s).lines = s.lines ∧
    (setAttach a s).accepted = s.accepted ∧ (setAttach a s).garments = s.garments ∧
    (setAttach a s).carousel = s.carousel ∧ (setAttach a s).pretreat = s.pretreat ∧ (setAttach a s).press = s.press ∧
    (setAttach a s).engine = s.engine ∧ (setAttach a s).staging = s.staging ∧ (setAttach a s).port = s.port ∧
    (setAttach a s).prints = s.prints ∧ (setAttach a s).lanes = s.lanes ∧ (setAttach a s).flash = s.flash ∧
    (setAttach a s).dryer = s.dryer ∧ (setAttach a s).pack = s.pack ∧ (setAttach a s).link = s.link ∧
    (setAttach a s).reports = s.reports := by
  unfold setAttach
  try dsimp only
  (repeat' split) <;> simp

@[simp] theorem writeHeader_frame (s : State) :
    (writeHeader s).pending = s.pending ∧ (writeHeader s).clock = s.clock ∧ (writeHeader s).pins = s.pins ∧
    (writeHeader s).captures = s.captures ∧ (writeHeader s).buttons = s.buttons ∧ (writeHeader s).ctl = s.ctl ∧
    (writeHeader s).config = s.config ∧ (writeHeader s).catalog = s.catalog ∧ (writeHeader s).lines = s.lines ∧
    (writeHeader s).accepted = s.accepted ∧ (writeHeader s).garments = s.garments ∧
    (writeHeader s).carousel = s.carousel ∧ (writeHeader s).pretreat = s.pretreat ∧ (writeHeader s).press = s.press ∧
    (writeHeader s).engine = s.engine ∧ (writeHeader s).staging = s.staging ∧ (writeHeader s).prints = s.prints ∧
    (writeHeader s).lanes = s.lanes ∧ (writeHeader s).flash = s.flash ∧ (writeHeader s).dryer = s.dryer ∧
    (writeHeader s).pack = s.pack ∧ (writeHeader s).link = s.link ∧ (writeHeader s).exch = s.exch := by
  unfold writeHeader
  try dsimp only
  (repeat' split) <;> simp

@[simp] theorem attachBlocks_frame (hdr : List Byte) (s : State) :
    (attachBlocks hdr s).pending = s.pending ∧ (attachBlocks hdr s).clock = s.clock ∧
    (attachBlocks hdr s).pins = s.pins ∧ (attachBlocks hdr s).captures = s.captures ∧
    (attachBlocks hdr s).buttons = s.buttons ∧ (attachBlocks hdr s).config = s.config ∧
    (attachBlocks hdr s).catalog = s.catalog ∧ (attachBlocks hdr s).lines = s.lines ∧
    (attachBlocks hdr s).accepted = s.accepted ∧ (attachBlocks hdr s).garments = s.garments ∧
    (attachBlocks hdr s).press = s.press ∧ (attachBlocks hdr s).engine = s.engine ∧
    (attachBlocks hdr s).staging = s.staging ∧ (attachBlocks hdr s).port = s.port ∧
    (attachBlocks hdr s).prints = s.prints ∧ (attachBlocks hdr s).lanes = s.lanes ∧
    (attachBlocks hdr s).pack = s.pack ∧ (attachBlocks hdr s).exch = s.exch := by
  unfold attachBlocks
  try dsimp only
  (repeat' split) <;> simp

@[simp] theorem attachDone_frame (hdr : List Byte) (s : State) :
    (attachDone hdr s).pending = s.pending ∧ (attachDone hdr s).clock = s.clock ∧ (attachDone hdr s).pins = s.pins ∧
    (attachDone hdr s).captures = s.captures ∧ (attachDone hdr s).buttons = s.buttons ∧
    (attachDone hdr s).catalog = s.catalog ∧ (attachDone hdr s).lines = s.lines ∧
    (attachDone hdr s).accepted = s.accepted ∧ (attachDone hdr s).garments = s.garments ∧
    (attachDone hdr s).press = s.press ∧ (attachDone hdr s).engine = s.engine ∧
    (attachDone hdr s).staging = s.staging ∧ (attachDone hdr s).prints = s.prints ∧
    (attachDone hdr s).lanes = s.lanes ∧ (attachDone hdr s).pack = s.pack := by
  unfold attachDone
  try dsimp only
  (repeat' split) <;> simp

@[simp] theorem attachRead_frame (hdr : List Byte) (s : State) :
    (attachRead hdr s).pending = s.pending ∧ (attachRead hdr s).clock = s.clock ∧ (attachRead hdr s).pins = s.pins ∧
    (attachRead hdr s).captures = s.captures ∧ (attachRead hdr s).buttons = s.buttons ∧
    (attachRead hdr s).catalog = s.catalog ∧ (attachRead hdr s).lines = s.lines ∧
    (attachRead hdr s).accepted = s.accepted ∧ (attachRead hdr s).garments = s.garments ∧
    (attachRead hdr s).press = s.press ∧ (attachRead hdr s).engine = s.engine ∧
    (attachRead hdr s).staging = s.staging ∧ (attachRead hdr s).prints = s.prints ∧
    (attachRead hdr s).lanes = s.lanes ∧ (attachRead hdr s).pack = s.pack := by
  unfold attachRead
  try dsimp only
  (repeat' split) <;> simp

@[simp] theorem writeIncident_frame (i : Incident) (rest : List Incident) (s : State) :
    (writeIncident i rest s).pending = s.pending ∧ (writeIncident i rest s).clock = s.clock ∧
    (writeIncident i rest s).pins = s.pins ∧ (writeIncident i rest s).captures = s.captures ∧
    (writeIncident i rest s).buttons = s.buttons ∧ (writeIncident i rest s).ctl = s.ctl ∧
    (writeIncident i rest s).config = s.config ∧ (writeIncident i rest s).catalog = s.catalog ∧
    (writeIncident i rest s).lines = s.lines ∧ (writeIncident i rest s).accepted = s.accepted ∧
    (writeIncident i rest s).garments = s.garments ∧ (writeIncident i rest s).carousel = s.carousel ∧
    (writeIncident i rest s).pretreat = s.pretreat ∧ (writeIncident i rest s).press = s.press ∧
    (writeIncident i rest s).engine = s.engine ∧ (writeIncident i rest s).staging = s.staging ∧
    (writeIncident i rest s).prints = s.prints ∧ (writeIncident i rest s).lanes = s.lanes ∧
    (writeIncident i rest s).flash = s.flash ∧ (writeIncident i rest s).dryer = s.dryer ∧
    (writeIncident i rest s).pack = s.pack ∧ (writeIncident i rest s).link = s.link ∧
    (writeIncident i rest s).exch = s.exch := by
  unfold writeIncident
  try dsimp only
  (repeat' split) <;> simp

@[simp] theorem writeSlot_frame (i : Fin 128) (s : State) :
    (writeSlot i s).pending = s.pending ∧ (writeSlot i s).clock = s.clock ∧ (writeSlot i s).pins = s.pins ∧
    (writeSlot i s).captures = s.captures ∧ (writeSlot i s).buttons = s.buttons ∧ (writeSlot i s).ctl = s.ctl ∧
    (writeSlot i s).config = s.config ∧ (writeSlot i s).catalog = s.catalog ∧ (writeSlot i s).lines = s.lines ∧
    (writeSlot i s).accepted = s.accepted ∧ (writeSlot i s).garments = s.garments ∧
    (writeSlot i s).carousel = s.carousel ∧ (writeSlot i s).pretreat = s.pretreat ∧ (writeSlot i s).press = s.press ∧
    (writeSlot i s).engine = s.engine ∧ (writeSlot i s).staging = s.staging ∧ (writeSlot i s).prints = s.prints ∧
    (writeSlot i s).lanes = s.lanes ∧ (writeSlot i s).flash = s.flash ∧ (writeSlot i s).dryer = s.dryer ∧
    (writeSlot i s).pack = s.pack ∧ (writeSlot i s).link = s.link ∧ (writeSlot i s).exch = s.exch := by
  unfold writeSlot
  try dsimp only
  (repeat' split) <;> simp

end Sys2Proof.Machine
end

