-- ==== Sys2Proof/Laws/Frame4.lean ====
section
/-! SUPPORT. What every operation of HostRegs, Inputs, LinkCmds, CarouselCmds, SprayPress, FetchCmds, PrintCmds, HeatCmds, TimeoutCmds, ExchCmds, ReportCmds leaves unchanged: one lemma per operation, a conjunction over the
fields it never touches. -/

namespace Sys2Proof.Machine

@[simp] theorem setRefused_frame (v : Bool) (s : State) :
    (setRefused v s).pending = s.pending ∧ (setRefused v s).clock = s.clock ∧ (setRefused v s).pins = s.pins ∧
    (setRefused v s).captures = s.captures ∧ (setRefused v s).buttons = s.buttons ∧
    (setRefused v s).config = s.config ∧ (setRefused v s).catalog = s.catalog ∧ (setRefused v s).lines = s.lines ∧
    (setRefused v s).accepted = s.accepted ∧ (setRefused v s).garments = s.garments ∧
    (setRefused v s).carousel = s.carousel ∧ (setRefused v s).pretreat = s.pretreat ∧
    (setRefused v s).press = s.press ∧ (setRefused v s).engine = s.engine ∧ (setRefused v s).staging = s.staging ∧
    (setRefused v s).port = s.port ∧ (setRefused v s).prints = s.prints ∧ (setRefused v s).lanes = s.lanes ∧
    (setRefused v s).flash = s.flash ∧ (setRefused v s).dryer = s.dryer ∧ (setRefused v s).pack = s.pack ∧
    (setRefused v s).link = s.link ∧ (setRefused v s).exch = s.exch ∧ (setRefused v s).reports = s.reports := by
  unfold setRefused
  try dsimp only
  (repeat' split) <;> simp

@[simp] theorem dropReading_frame (s : State) :
    (dropReading s).pending = s.pending ∧ (dropReading s).clock = s.clock ∧ (dropReading s).pins = s.pins ∧
    (dropReading s).captures = s.captures ∧ (dropReading s).buttons = s.buttons ∧ (dropReading s).config = s.config ∧
    (dropReading s).catalog = s.catalog ∧ (dropReading s).lines = s.lines ∧ (dropReading s).accepted = s.accepted ∧
    (dropReading s).garments = s.garments ∧ (dropReading s).carousel = s.carousel ∧
    (dropReading s).pretreat = s.pretreat ∧ (dropReading s).press = s.press ∧ (dropReading s).engine = s.engine ∧
    (dropReading s).staging = s.staging ∧ (dropReading s).port = s.port ∧ (dropReading s).prints = s.prints ∧
    (dropReading s).lanes = s.lanes ∧ (dropReading s).flash = s.flash ∧ (dropReading s).dryer = s.dryer ∧
    (dropReading s).pack = s.pack ∧ (dropReading s).link = s.link ∧ (dropReading s).reports = s.reports := by
  unfold dropReading
  try dsimp only
  (repeat' split) <;> simp

@[simp] theorem newRequest_frame (s : State) :
    (newRequest s).pending = s.pending ∧ (newRequest s).clock = s.clock ∧ (newRequest s).pins = s.pins ∧
    (newRequest s).captures = s.captures ∧ (newRequest s).buttons = s.buttons ∧ (newRequest s).config = s.config ∧
    (newRequest s).catalog = s.catalog ∧ (newRequest s).lines = s.lines ∧ (newRequest s).accepted = s.accepted ∧
    (newRequest s).garments = s.garments ∧ (newRequest s).carousel = s.carousel ∧
    (newRequest s).pretreat = s.pretreat ∧ (newRequest s).press = s.press ∧ (newRequest s).engine = s.engine ∧
    (newRequest s).staging = s.staging ∧ (newRequest s).port = s.port ∧ (newRequest s).prints = s.prints ∧
    (newRequest s).lanes = s.lanes ∧ (newRequest s).flash = s.flash ∧ (newRequest s).dryer = s.dryer ∧
    (newRequest s).pack = s.pack ∧ (newRequest s).link = s.link ∧ (newRequest s).reports = s.reports := by
  unfold newRequest
  try dsimp only
  (repeat' split) <;> simp

@[simp] theorem askRun_frame (s : State) :
    (askRun s).pending = s.pending ∧ (askRun s).clock = s.clock ∧ (askRun s).pins = s.pins ∧
    (askRun s).captures = s.captures ∧ (askRun s).buttons = s.buttons ∧ (askRun s).config = s.config ∧
    (askRun s).catalog = s.catalog ∧ (askRun s).lines = s.lines ∧ (askRun s).accepted = s.accepted ∧
    (askRun s).garments = s.garments ∧ (askRun s).pretreat = s.pretreat ∧ (askRun s).press = s.press ∧
    (askRun s).engine = s.engine ∧ (askRun s).staging = s.staging ∧ (askRun s).port = s.port ∧
    (askRun s).prints = s.prints ∧ (askRun s).lanes = s.lanes ∧ (askRun s).pack = s.pack := by
  unfold askRun
  try dsimp only
  (repeat' split) <;> simp

@[simp] theorem runByMode_frame (s : State) :
    (runByMode s).pending = s.pending ∧ (runByMode s).clock = s.clock ∧ (runByMode s).pins = s.pins ∧
    (runByMode s).captures = s.captures ∧ (runByMode s).buttons = s.buttons ∧ (runByMode s).config = s.config ∧
    (runByMode s).catalog = s.catalog ∧ (runByMode s).lines = s.lines ∧ (runByMode s).accepted = s.accepted ∧
    (runByMode s).garments = s.garments ∧ (runByMode s).pretreat = s.pretreat ∧ (runByMode s).press = s.press ∧
    (runByMode s).engine = s.engine ∧ (runByMode s).staging = s.staging ∧ (runByMode s).port = s.port ∧
    (runByMode s).prints = s.prints ∧ (runByMode s).lanes = s.lanes ∧ (runByMode s).pack = s.pack := by
  unfold runByMode
  try dsimp only
  (repeat' split) <;> simp

@[simp] theorem addHost_frame (s : State) :
    (addHost s).pending = s.pending ∧ (addHost s).clock = s.clock ∧ (addHost s).pins = s.pins ∧
    (addHost s).captures = s.captures ∧ (addHost s).buttons = s.buttons ∧ (addHost s).config = s.config ∧
    (addHost s).catalog = s.catalog ∧ (addHost s).lines = s.lines ∧ (addHost s).accepted = s.accepted ∧
    (addHost s).garments = s.garments ∧ (addHost s).pretreat = s.pretreat ∧ (addHost s).press = s.press ∧
    (addHost s).engine = s.engine ∧ (addHost s).staging = s.staging ∧ (addHost s).port = s.port ∧
    (addHost s).prints = s.prints ∧ (addHost s).lanes = s.lanes ∧ (addHost s).pack = s.pack ∧
    (addHost s).exch = s.exch := by
  unfold addHost
  try dsimp only
  (repeat' split) <;> simp

@[simp] theorem dropPendingRun_frame (s : State) :
    (dropPendingRun s).pending = s.pending ∧ (dropPendingRun s).clock = s.clock ∧ (dropPendingRun s).pins = s.pins ∧
    (dropPendingRun s).captures = s.captures ∧ (dropPendingRun s).buttons = s.buttons ∧
    (dropPendingRun s).config = s.config ∧ (dropPendingRun s).catalog = s.catalog ∧
    (dropPendingRun s).lines = s.lines ∧ (dropPendingRun s).accepted = s.accepted ∧
    (dropPendingRun s).garments = s.garments ∧ (dropPendingRun s).carousel = s.carousel ∧
    (dropPendingRun s).pretreat = s.pretreat ∧ (dropPendingRun s).press = s.press ∧
    (dropPendingRun s).engine = s.engine ∧ (dropPendingRun s).staging = s.staging ∧ (dropPendingRun s).port = s.port ∧
    (dropPendingRun s).prints = s.prints ∧ (dropPendingRun s).lanes = s.lanes ∧ (dropPendingRun s).flash = s.flash ∧
    (dropPendingRun s).dryer = s.dryer ∧ (dropPendingRun s).pack = s.pack ∧ (dropPendingRun s).link = s.link ∧
    (dropPendingRun s).exch = s.exch ∧ (dropPendingRun s).reports = s.reports := by
  unfold dropPendingRun
  try dsimp only
  (repeat' split) <;> simp

@[simp] theorem holdByMode_frame (s : State) :
    (holdByMode s).pending = s.pending ∧ (holdByMode s).clock = s.clock ∧ (holdByMode s).pins = s.pins ∧
    (holdByMode s).captures = s.captures ∧ (holdByMode s).buttons = s.buttons ∧ (holdByMode s).config = s.config ∧
    (holdByMode s).catalog = s.catalog ∧ (holdByMode s).lines = s.lines ∧ (holdByMode s).accepted = s.accepted ∧
    (holdByMode s).garments = s.garments ∧ (holdByMode s).pretreat = s.pretreat ∧ (holdByMode s).press = s.press ∧
    (holdByMode s).engine = s.engine ∧ (holdByMode s).staging = s.staging ∧ (holdByMode s).port = s.port ∧
    (holdByMode s).prints = s.prints ∧ (holdByMode s).lanes = s.lanes ∧ (holdByMode s).pack = s.pack ∧
    (holdByMode s).exch = s.exch := by
  unfold holdByMode
  try dsimp only
  (repeat' split) <;> simp

@[simp] theorem setDrain_frame (s : State) :
    (setDrain s).pending = s.pending ∧ (setDrain s).clock = s.clock ∧ (setDrain s).pins = s.pins ∧
    (setDrain s).captures = s.captures ∧ (setDrain s).buttons = s.buttons ∧ (setDrain s).config = s.config ∧
    (setDrain s).catalog = s.catalog ∧ (setDrain s).lines = s.lines ∧ (setDrain s).accepted = s.accepted ∧
    (setDrain s).garments = s.garments ∧ (setDrain s).carousel = s.carousel ∧ (setDrain s).pretreat = s.pretreat ∧
    (setDrain s).press = s.press ∧ (setDrain s).engine = s.engine ∧ (setDrain s).staging = s.staging ∧
    (setDrain s).port = s.port ∧ (setDrain s).prints = s.prints ∧ (setDrain s).lanes = s.lanes ∧
    (setDrain s).flash = s.flash ∧ (setDrain s).dryer = s.dryer ∧ (setDrain s).pack = s.pack ∧
    (setDrain s).link = s.link ∧ (setDrain s).exch = s.exch ∧ (setDrain s).reports = s.reports := by
  unfold setDrain
  try dsimp only
  (repeat' split) <;> simp

@[simp] theorem toIdle_frame (s : State) :
    (toIdle s).pending = s.pending ∧ (toIdle s).clock = s.clock ∧ (toIdle s).pins = s.pins ∧
    (toIdle s).captures = s.captures ∧ (toIdle s).buttons = s.buttons ∧ (toIdle s).config = s.config ∧
    (toIdle s).catalog = s.catalog ∧ (toIdle s).lines = s.lines ∧ (toIdle s).accepted = s.accepted ∧
    (toIdle s).garments = s.garments ∧ (toIdle s).pretreat = s.pretreat ∧ (toIdle s).press = s.press ∧
    (toIdle s).engine = s.engine ∧ (toIdle s).staging = s.staging ∧ (toIdle s).port = s.port ∧
    (toIdle s).prints = s.prints ∧ (toIdle s).lanes = s.lanes ∧ (toIdle s).pack = s.pack ∧ (toIdle s).exch = s.exch := by
  unfold toIdle
  try dsimp only
  (repeat' split) <;> simp

@[simp] theorem idleByMode_frame (s : State) :
    (idleByMode s).pending = s.pending ∧ (idleByMode s).clock = s.clock ∧ (idleByMode s).pins = s.pins ∧
    (idleByMode s).captures = s.captures ∧ (idleByMode s).buttons = s.buttons ∧ (idleByMode s).config = s.config ∧
    (idleByMode s).catalog = s.catalog ∧ (idleByMode s).lines = s.lines ∧ (idleByMode s).accepted = s.accepted ∧
    (idleByMode s).garments = s.garments ∧ (idleByMode s).pretreat = s.pretreat ∧ (idleByMode s).press = s.press ∧
    (idleByMode s).engine = s.engine ∧ (idleByMode s).staging = s.staging ∧ (idleByMode s).port = s.port ∧
    (idleByMode s).prints = s.prints ∧ (idleByMode s).lanes = s.lanes ∧ (idleByMode s).pack = s.pack ∧
    (idleByMode s).exch = s.exch := by
  unfold idleByMode
  try dsimp only
  (repeat' split) <;> simp

@[simp] theorem pushNudge_frame (v : Nat) (s : State) :
    (pushNudge v s).pending = s.pending ∧ (pushNudge v s).clock = s.clock ∧ (pushNudge v s).pins = s.pins ∧
    (pushNudge v s).captures = s.captures ∧ (pushNudge v s).buttons = s.buttons ∧ (pushNudge v s).ctl = s.ctl ∧
    (pushNudge v s).config = s.config ∧ (pushNudge v s).catalog = s.catalog ∧ (pushNudge v s).lines = s.lines ∧
    (pushNudge v s).accepted = s.accepted ∧ (pushNudge v s).garments = s.garments ∧
    (pushNudge v s).carousel = s.carousel ∧ (pushNudge v s).pretreat = s.pretreat ∧ (pushNudge v s).press = s.press ∧
    (pushNudge v s).engine = s.engine ∧ (pushNudge v s).staging = s.staging ∧ (pushNudge v s).port = s.port ∧
    (pushNudge v s).prints = s.prints ∧ (pushNudge v s).lanes = s.lanes ∧ (pushNudge v s).flash = s.flash ∧
    (pushNudge v s).dryer = s.dryer ∧ (pushNudge v s).pack = s.pack ∧ (pushNudge v s).link = s.link ∧
    (pushNudge v s).reports = s.reports := by
  unfold pushNudge
  try dsimp only
  (repeat' split) <;> simp

@[simp] theorem dropNudge_frame (v : Nat) (s : State) :
    (dropNudge v s).pending = s.pending ∧ (dropNudge v s).clock = s.clock ∧ (dropNudge v s).pins = s.pins ∧
    (dropNudge v s).captures = s.captures ∧ (dropNudge v s).buttons = s.buttons ∧ (dropNudge v s).ctl = s.ctl ∧
    (dropNudge v s).config = s.config ∧ (dropNudge v s).catalog = s.catalog ∧ (dropNudge v s).lines = s.lines ∧
    (dropNudge v s).accepted = s.accepted ∧ (dropNudge v s).garments = s.garments ∧
    (dropNudge v s).carousel = s.carousel ∧ (dropNudge v s).pretreat = s.pretreat ∧ (dropNudge v s).press = s.press ∧
    (dropNudge v s).engine = s.engine ∧ (dropNudge v s).staging = s.staging ∧ (dropNudge v s).port = s.port ∧
    (dropNudge v s).prints = s.prints ∧ (dropNudge v s).lanes = s.lanes ∧ (dropNudge v s).flash = s.flash ∧
    (dropNudge v s).dryer = s.dryer ∧ (dropNudge v s).pack = s.pack ∧ (dropNudge v s).link = s.link := by
  unfold dropNudge
  try dsimp only
  (repeat' split) <;> simp

@[simp] theorem estopCarousel_frame (s : State) :
    (estopCarousel s).pending = s.pending ∧ (estopCarousel s).clock = s.clock ∧ (estopCarousel s).pins = s.pins ∧
    (estopCarousel s).captures = s.captures ∧ (estopCarousel s).buttons = s.buttons ∧ (estopCarousel s).ctl = s.ctl ∧
    (estopCarousel s).config = s.config ∧ (estopCarousel s).catalog = s.catalog ∧ (estopCarousel s).lines = s.lines ∧
    (estopCarousel s).accepted = s.accepted ∧ (estopCarousel s).garments = s.garments ∧
    (estopCarousel s).pretreat = s.pretreat ∧ (estopCarousel s).press = s.press ∧
    (estopCarousel s).engine = s.engine ∧ (estopCarousel s).staging = s.staging ∧ (estopCarousel s).port = s.port ∧
    (estopCarousel s).prints = s.prints ∧ (estopCarousel s).lanes = s.lanes ∧ (estopCarousel s).flash = s.flash ∧
    (estopCarousel s).dryer = s.dryer ∧ (estopCarousel s).pack = s.pack ∧ (estopCarousel s).exch = s.exch ∧
    (estopCarousel s).reports = s.reports := by
  unfold estopCarousel
  try dsimp only
  (repeat' split) <;> simp

@[simp] theorem estopPass_frame (s : State) :
    (estopPass s).pending = s.pending ∧ (estopPass s).clock = s.clock ∧ (estopPass s).pins = s.pins ∧
    (estopPass s).captures = s.captures ∧ (estopPass s).buttons = s.buttons ∧ (estopPass s).ctl = s.ctl ∧
    (estopPass s).config = s.config ∧ (estopPass s).catalog = s.catalog ∧ (estopPass s).staging = s.staging ∧
    (estopPass s).port = s.port ∧ (estopPass s).dryer = s.dryer ∧ (estopPass s).exch = s.exch := by
  unfold estopPass
  try dsimp only
  (repeat' split) <;> simp

@[simp] theorem estopPretreat_frame (s : State) :
    (estopPretreat s).pending = s.pending ∧ (estopPretreat s).clock = s.clock ∧ (estopPretreat s).pins = s.pins ∧
    (estopPretreat s).captures = s.captures ∧ (estopPretreat s).buttons = s.buttons ∧ (estopPretreat s).ctl = s.ctl ∧
    (estopPretreat s).config = s.config ∧ (estopPretreat s).catalog = s.catalog ∧
    (estopPretreat s).staging = s.staging ∧ (estopPretreat s).port = s.port ∧ (estopPretreat s).dryer = s.dryer ∧
    (estopPretreat s).exch = s.exch := by
  unfold estopPretreat
  try dsimp only
  (repeat' split) <;> simp

@[simp] theorem estopCycle_frame (s : State) :
    (estopCycle s).pending = s.pending ∧ (estopCycle s).clock = s.clock ∧ (estopCycle s).pins = s.pins ∧
    (estopCycle s).captures = s.captures ∧ (estopCycle s).buttons = s.buttons ∧ (estopCycle s).ctl = s.ctl ∧
    (estopCycle s).config = s.config ∧ (estopCycle s).catalog = s.catalog ∧ (estopCycle s).lines = s.lines ∧
    (estopCycle s).accepted = s.accepted ∧ (estopCycle s).pretreat = s.pretreat ∧ (estopCycle s).engine = s.engine ∧
    (estopCycle s).staging = s.staging ∧ (estopCycle s).port = s.port ∧ (estopCycle s).prints = s.prints ∧
    (estopCycle s).lanes = s.lanes ∧ (estopCycle s).flash = s.flash ∧ (estopCycle s).dryer = s.dryer ∧
    (estopCycle s).pack = s.pack ∧ (estopCycle s).link = s.link ∧ (estopCycle s).exch = s.exch := by
  unfold estopCycle
  try dsimp only
  (repeat' split) <;> simp

@[simp] theorem estopPress_frame (s : State) :
    (estopPress s).pending = s.pending ∧ (estopPress s).clock = s.clock ∧ (estopPress s).pins = s.pins ∧
    (estopPress s).captures = s.captures ∧ (estopPress s).buttons = s.buttons ∧ (estopPress s).ctl = s.ctl ∧
    (estopPress s).config = s.config ∧ (estopPress s).catalog = s.catalog ∧ (estopPress s).lines = s.lines ∧
    (estopPress s).accepted = s.accepted ∧ (estopPress s).pretreat = s.pretreat ∧ (estopPress s).engine = s.engine ∧
    (estopPress s).staging = s.staging ∧ (estopPress s).port = s.port ∧ (estopPress s).prints = s.prints ∧
    (estopPress s).lanes = s.lanes ∧ (estopPress s).flash = s.flash ∧ (estopPress s).dryer = s.dryer ∧
    (estopPress s).pack = s.pack ∧ (estopPress s).exch = s.exch := by
  unfold estopPress
  try dsimp only
  (repeat' split) <;> simp

@[simp] theorem estopCut_frame (u : Printer) (j : PrintJob) (s : State) :
    (estopCut u j s).pending = s.pending ∧ (estopCut u j s).clock = s.clock ∧ (estopCut u j s).pins = s.pins ∧
    (estopCut u j s).captures = s.captures ∧ (estopCut u j s).buttons = s.buttons ∧ (estopCut u j s).ctl = s.ctl ∧
    (estopCut u j s).config = s.config ∧ (estopCut u j s).catalog = s.catalog ∧ (estopCut u j s).staging = s.staging ∧
    (estopCut u j s).port = s.port ∧ (estopCut u j s).dryer = s.dryer ∧ (estopCut u j s).exch = s.exch := by
  unfold estopCut
  try dsimp only
  (repeat' split) <;> simp

@[simp] theorem estopPrint_frame (u : Printer) (s : State) :
    (estopPrint u s).pending = s.pending ∧ (estopPrint u s).clock = s.clock ∧ (estopPrint u s).pins = s.pins ∧
    (estopPrint u s).captures = s.captures ∧ (estopPrint u s).buttons = s.buttons ∧ (estopPrint u s).ctl = s.ctl ∧
    (estopPrint u s).config = s.config ∧ (estopPrint u s).catalog = s.catalog ∧ (estopPrint u s).staging = s.staging ∧
    (estopPrint u s).port = s.port ∧ (estopPrint u s).dryer = s.dryer ∧ (estopPrint u s).exch = s.exch := by
  unfold estopPrint
  try dsimp only
  (repeat' split) <;> simp

@[simp] theorem estopFlash_frame (s : State) :
    (estopFlash s).pending = s.pending ∧ (estopFlash s).clock = s.clock ∧ (estopFlash s).pins = s.pins ∧
    (estopFlash s).captures = s.captures ∧ (estopFlash s).buttons = s.buttons ∧ (estopFlash s).ctl = s.ctl ∧
    (estopFlash s).config = s.config ∧ (estopFlash s).catalog = s.catalog ∧ (estopFlash s).staging = s.staging ∧
    (estopFlash s).port = s.port ∧ (estopFlash s).dryer = s.dryer ∧ (estopFlash s).exch = s.exch := by
  unfold estopFlash
  try dsimp only
  (repeat' split) <;> simp

@[simp] theorem estopBlocks_frame (s : State) :
    (estopBlocks s).pending = s.pending ∧ (estopBlocks s).clock = s.clock ∧ (estopBlocks s).pins = s.pins ∧
    (estopBlocks s).captures = s.captures ∧ (estopBlocks s).buttons = s.buttons ∧ (estopBlocks s).ctl = s.ctl ∧
    (estopBlocks s).config = s.config ∧ (estopBlocks s).catalog = s.catalog ∧ (estopBlocks s).staging = s.staging ∧
    (estopBlocks s).port = s.port ∧ (estopBlocks s).dryer = s.dryer ∧ (estopBlocks s).exch = s.exch := by
  unfold estopBlocks
  try dsimp only
  (repeat' split) <;> simp

@[simp] theorem estopRequest_frame (s : State) :
    (estopRequest s).pending = s.pending ∧ (estopRequest s).clock = s.clock ∧ (estopRequest s).pins = s.pins ∧
    (estopRequest s).captures = s.captures ∧ (estopRequest s).buttons = s.buttons ∧
    (estopRequest s).config = s.config ∧ (estopRequest s).catalog = s.catalog ∧ (estopRequest s).lines = s.lines ∧
    (estopRequest s).accepted = s.accepted ∧ (estopRequest s).garments = s.garments ∧
    (estopRequest s).carousel = s.carousel ∧ (estopRequest s).pretreat = s.pretreat ∧
    (estopRequest s).press = s.press ∧ (estopRequest s).engine = s.engine ∧ (estopRequest s).staging = s.staging ∧
    (estopRequest s).port = s.port ∧ (estopRequest s).prints = s.prints ∧ (estopRequest s).lanes = s.lanes ∧
    (estopRequest s).flash = s.flash ∧ (estopRequest s).dryer = s.dryer ∧ (estopRequest s).pack = s.pack ∧
    (estopRequest s).link = s.link ∧ (estopRequest s).reports = s.reports := by
  unfold estopRequest
  try dsimp only
  (repeat' split) <;> simp

@[simp] theorem estopLine_frame (s : State) :
    (estopLine s).pending = s.pending ∧ (estopLine s).clock = s.clock ∧ (estopLine s).pins = s.pins ∧
    (estopLine s).captures = s.captures ∧ (estopLine s).buttons = s.buttons ∧ (estopLine s).config = s.config ∧
    (estopLine s).catalog = s.catalog ∧ (estopLine s).lines = s.lines ∧ (estopLine s).accepted = s.accepted ∧
    (estopLine s).garments = s.garments ∧ (estopLine s).pretreat = s.pretreat ∧ (estopLine s).press = s.press ∧
    (estopLine s).engine = s.engine ∧ (estopLine s).staging = s.staging ∧ (estopLine s).port = s.port ∧
    (estopLine s).prints = s.prints ∧ (estopLine s).lanes = s.lanes ∧ (estopLine s).pack = s.pack := by
  unfold estopLine
  try dsimp only
  (repeat' split) <;> simp

@[simp] theorem setEstopPin_frame (v : Bool) (s : State) :
    (setEstopPin v s).pending = s.pending ∧ (setEstopPin v s).clock = s.clock ∧
    (setEstopPin v s).captures = s.captures ∧ (setEstopPin v s).buttons = s.buttons ∧ (setEstopPin v s).ctl = s.ctl ∧
    (setEstopPin v s).config = s.config ∧ (setEstopPin v s).catalog = s.catalog ∧ (setEstopPin v s).lines = s.lines ∧
    (setEstopPin v s).accepted = s.accepted ∧ (setEstopPin v s).garments = s.garments ∧
    (setEstopPin v s).carousel = s.carousel ∧ (setEstopPin v s).pretreat = s.pretreat ∧
    (setEstopPin v s).press = s.press ∧ (setEstopPin v s).engine = s.engine ∧ (setEstopPin v s).staging = s.staging ∧
    (setEstopPin v s).port = s.port ∧ (setEstopPin v s).prints = s.prints ∧ (setEstopPin v s).lanes = s.lanes ∧
    (setEstopPin v s).flash = s.flash ∧ (setEstopPin v s).dryer = s.dryer ∧ (setEstopPin v s).pack = s.pack ∧
    (setEstopPin v s).link = s.link ∧ (setEstopPin v s).exch = s.exch ∧ (setEstopPin v s).reports = s.reports := by
  unfold setEstopPin
  try dsimp only
  (repeat' split) <;> simp

@[simp] theorem setMonitor_frame (m : Monitor) (s : State) :
    (setMonitor m s).pending = s.pending ∧ (setMonitor m s).clock = s.clock ∧ (setMonitor m s).pins = s.pins ∧
    (setMonitor m s).captures = s.captures ∧ (setMonitor m s).buttons = s.buttons ∧
    (setMonitor m s).config = s.config ∧ (setMonitor m s).catalog = s.catalog ∧ (setMonitor m s).lines = s.lines ∧
    (setMonitor m s).accepted = s.accepted ∧ (setMonitor m s).garments = s.garments ∧
    (setMonitor m s).carousel = s.carousel ∧ (setMonitor m s).pretreat = s.pretreat ∧
    (setMonitor m s).press = s.press ∧ (setMonitor m s).engine = s.engine ∧ (setMonitor m s).staging = s.staging ∧
    (setMonitor m s).port = s.port ∧ (setMonitor m s).prints = s.prints ∧ (setMonitor m s).lanes = s.lanes ∧
    (setMonitor m s).flash = s.flash ∧ (setMonitor m s).dryer = s.dryer ∧ (setMonitor m s).pack = s.pack ∧
    (setMonitor m s).link = s.link ∧ (setMonitor m s).exch = s.exch ∧ (setMonitor m s).reports = s.reports := by
  unfold setMonitor
  try dsimp only
  (repeat' split) <;> simp

@[simp] theorem restartEntries_frame (s : State) :
    (restartEntries s).pending = s.pending ∧ (restartEntries s).clock = s.clock ∧ (restartEntries s).pins = s.pins ∧
    (restartEntries s).captures = s.captures ∧ (restartEntries s).buttons = s.buttons ∧
    (restartEntries s).ctl = s.ctl ∧ (restartEntries s).config = s.config ∧ (restartEntries s).catalog = s.catalog ∧
    (restartEntries s).lines = s.lines ∧ (restartEntries s).accepted = s.accepted ∧
    (restartEntries s).garments = s.garments ∧ (restartEntries s).carousel = s.carousel ∧
    (restartEntries s).pretreat = s.pretreat ∧ (restartEntries s).press = s.press ∧
    (restartEntries s).engine = s.engine ∧ (restartEntries s).staging = s.staging ∧ (restartEntries s).port = s.port ∧
    (restartEntries s).prints = s.prints ∧ (restartEntries s).lanes = s.lanes ∧ (restartEntries s).flash = s.flash ∧
    (restartEntries s).link = s.link ∧ (restartEntries s).exch = s.exch ∧ (restartEntries s).reports = s.reports := by
  unfold restartEntries
  try dsimp only
  (repeat' split) <;> simp

@[simp] theorem leaveStopped_frame (s : State) :
    (leaveStopped s).pending = s.pending ∧ (leaveStopped s).clock = s.clock ∧ (leaveStopped s).pins = s.pins ∧
    (leaveStopped s).captures = s.captures ∧ (leaveStopped s).buttons = s.buttons ∧
    (leaveStopped s).config = s.config ∧ (leaveStopped s).catalog = s.catalog ∧ (leaveStopped s).lines = s.lines ∧
    (leaveStopped s).accepted = s.accepted ∧ (leaveStopped s).garments = s.garments ∧
    (leaveStopped s).pretreat = s.pretreat ∧ (leaveStopped s).press = s.press ∧ (leaveStopped s).engine = s.engine ∧
    (leaveStopped s).staging = s.staging ∧ (leaveStopped s).port = s.port ∧ (leaveStopped s).prints = s.prints ∧
    (leaveStopped s).lanes = s.lanes ∧ (leaveStopped s).exch = s.exch := by
  unfold leaveStopped
  try dsimp only
  (repeat' split) <;> simp

@[simp] theorem loadGo_frame (s : State) :
    (loadGo s).pending = s.pending ∧ (loadGo s).clock = s.clock ∧ (loadGo s).pins = s.pins ∧
    (loadGo s).captures = s.captures ∧ (loadGo s).buttons = s.buttons ∧ (loadGo s).ctl = s.ctl ∧
    (loadGo s).config = s.config ∧ (loadGo s).catalog = s.catalog ∧ (loadGo s).lines = s.lines ∧
    (loadGo s).accepted = s.accepted ∧ (loadGo s).garments = s.garments ∧ (loadGo s).pretreat = s.pretreat ∧
    (loadGo s).press = s.press ∧ (loadGo s).engine = s.engine ∧ (loadGo s).staging = s.staging ∧
    (loadGo s).port = s.port ∧ (loadGo s).prints = s.prints ∧ (loadGo s).lanes = s.lanes ∧
    (loadGo s).flash = s.flash ∧ (loadGo s).dryer = s.dryer ∧ (loadGo s).pack = s.pack ∧ (loadGo s).link = s.link ∧
    (loadGo s).exch = s.exch ∧ (loadGo s).reports = s.reports := by
  unfold loadGo
  try dsimp only
  (repeat' split) <;> simp

@[simp] theorem releaseUnload_frame (s : State) :
    (releaseUnload s).pending = s.pending ∧ (releaseUnload s).clock = s.clock ∧ (releaseUnload s).pins = s.pins ∧
    (releaseUnload s).captures = s.captures ∧ (releaseUnload s).buttons = s.buttons ∧ (releaseUnload s).ctl = s.ctl ∧
    (releaseUnload s).config = s.config ∧ (releaseUnload s).catalog = s.catalog ∧ (releaseUnload s).lines = s.lines ∧
    (releaseUnload s).accepted = s.accepted ∧ (releaseUnload s).garments = s.garments ∧
    (releaseUnload s).pretreat = s.pretreat ∧ (releaseUnload s).press = s.press ∧
    (releaseUnload s).engine = s.engine ∧ (releaseUnload s).staging = s.staging ∧ (releaseUnload s).port = s.port ∧
    (releaseUnload s).prints = s.prints ∧ (releaseUnload s).lanes = s.lanes ∧ (releaseUnload s).flash = s.flash ∧
    (releaseUnload s).dryer = s.dryer ∧ (releaseUnload s).pack = s.pack ∧ (releaseUnload s).link = s.link ∧
    (releaseUnload s).exch = s.exch ∧ (releaseUnload s).reports = s.reports := by
  unfold releaseUnload
  try dsimp only
  (repeat' split) <;> simp

@[simp] theorem unloadToDryer_frame (g : Fin 32) (s : State) :
    (unloadToDryer g s).pending = s.pending ∧ (unloadToDryer g s).clock = s.clock ∧
    (unloadToDryer g s).pins = s.pins ∧ (unloadToDryer g s).captures = s.captures ∧
    (unloadToDryer g s).buttons = s.buttons ∧ (unloadToDryer g s).ctl = s.ctl ∧
    (unloadToDryer g s).config = s.config ∧ (unloadToDryer g s).catalog = s.catalog ∧
    (unloadToDryer g s).lines = s.lines ∧ (unloadToDryer g s).accepted = s.accepted ∧
    (unloadToDryer g s).pretreat = s.pretreat ∧ (unloadToDryer g s).press = s.press ∧
    (unloadToDryer g s).engine = s.engine ∧ (unloadToDryer g s).staging = s.staging ∧
    (unloadToDryer g s).port = s.port ∧ (unloadToDryer g s).prints = s.prints ∧ (unloadToDryer g s).lanes = s.lanes ∧
    (unloadToDryer g s).flash = s.flash ∧ (unloadToDryer g s).pack = s.pack ∧ (unloadToDryer g s).link = s.link ∧
    (unloadToDryer g s).exch = s.exch ∧ (unloadToDryer g s).reports = s.reports := by
  unfold unloadToDryer
  try dsimp only
  (repeat' split) <;> simp

@[simp] theorem unloadTo_frame (g : Fin 32) (d : Destination) (s : State) :
    (unloadTo g d s).pending = s.pending ∧ (unloadTo g d s).clock = s.clock ∧ (unloadTo g d s).pins = s.pins ∧
    (unloadTo g d s).captures = s.captures ∧ (unloadTo g d s).buttons = s.buttons ∧ (unloadTo g d s).ctl = s.ctl ∧
    (unloadTo g d s).config = s.config ∧ (unloadTo g d s).catalog = s.catalog ∧
    (unloadTo g d s).accepted = s.accepted ∧ (unloadTo g d s).pretreat = s.pretreat ∧
    (unloadTo g d s).press = s.press ∧ (unloadTo g d s).engine = s.engine ∧ (unloadTo g d s).staging = s.staging ∧
    (unloadTo g d s).port = s.port ∧ (unloadTo g d s).prints = s.prints ∧ (unloadTo g d s).lanes = s.lanes ∧
    (unloadTo g d s).flash = s.flash ∧ (unloadTo g d s).pack = s.pack ∧ (unloadTo g d s).link = s.link ∧
    (unloadTo g d s).exch = s.exch := by
  unfold unloadTo
  try dsimp only
  (repeat' split) <;> simp

@[simp] theorem unloadGo_frame (s : State) :
    (unloadGo s).pending = s.pending ∧ (unloadGo s).clock = s.clock ∧ (unloadGo s).pins = s.pins ∧
    (unloadGo s).captures = s.captures ∧ (unloadGo s).buttons = s.buttons ∧ (unloadGo s).ctl = s.ctl ∧
    (unloadGo s).config = s.config ∧ (unloadGo s).catalog = s.catalog ∧ (unloadGo s).accepted = s.accepted ∧
    (unloadGo s).pretreat = s.pretreat ∧ (unloadGo s).press = s.press ∧ (unloadGo s).engine = s.engine ∧
    (unloadGo s).staging = s.staging ∧ (unloadGo s).port = s.port ∧ (unloadGo s).prints = s.prints ∧
    (unloadGo s).lanes = s.lanes ∧ (unloadGo s).flash = s.flash ∧ (unloadGo s).pack = s.pack ∧
    (unloadGo s).exch = s.exch := by
  unfold unloadGo
  try dsimp only
  (repeat' split) <;> simp

@[simp] theorem pressed_frame (b : Button) (s : State) :
    (pressed b s).pending = s.pending ∧ (pressed b s).clock = s.clock ∧ (pressed b s).pins = s.pins ∧
    (pressed b s).captures = s.captures ∧ (pressed b s).buttons = s.buttons ∧ (pressed b s).ctl = s.ctl ∧
    (pressed b s).config = s.config ∧ (pressed b s).catalog = s.catalog ∧ (pressed b s).accepted = s.accepted ∧
    (pressed b s).pretreat = s.pretreat ∧ (pressed b s).press = s.press ∧ (pressed b s).engine = s.engine ∧
    (pressed b s).staging = s.staging ∧ (pressed b s).port = s.port ∧ (pressed b s).prints = s.prints ∧
    (pressed b s).lanes = s.lanes ∧ (pressed b s).flash = s.flash ∧ (pressed b s).pack = s.pack ∧
    (pressed b s).exch = s.exch := by
  unfold pressed
  try dsimp only
  (repeat' split) <;> simp

@[simp] theorem putButton_frame (b : Button) (u : ButtonUnit) (s : State) :
    (putButton b u s).pending = s.pending ∧ (putButton b u s).clock = s.clock ∧ (putButton b u s).pins = s.pins ∧
    (putButton b u s).captures = s.captures ∧ (putButton b u s).ctl = s.ctl ∧ (putButton b u s).config = s.config ∧
    (putButton b u s).catalog = s.catalog ∧ (putButton b u s).lines = s.lines ∧
    (putButton b u s).accepted = s.accepted ∧ (putButton b u s).garments = s.garments ∧
    (putButton b u s).carousel = s.carousel ∧ (putButton b u s).pretreat = s.pretreat ∧
    (putButton b u s).press = s.press ∧ (putButton b u s).engine = s.engine ∧ (putButton b u s).staging = s.staging ∧
    (putButton b u s).port = s.port ∧ (putButton b u s).prints = s.prints ∧ (putButton b u s).lanes = s.lanes ∧
    (putButton b u s).flash = s.flash ∧ (putButton b u s).dryer = s.dryer ∧ (putButton b u s).pack = s.pack ∧
    (putButton b u s).link = s.link ∧ (putButton b u s).exch = s.exch ∧ (putButton b u s).reports = s.reports := by
  unfold putButton
  try dsimp only
  (repeat' split) <;> simp

@[simp] theorem acceptEdge_frame (b : Button) (s : State) :
    (acceptEdge b s).pending = s.pending ∧ (acceptEdge b s).clock = s.clock ∧ (acceptEdge b s).pins = s.pins ∧
    (acceptEdge b s).captures = s.captures ∧ (acceptEdge b s).ctl = s.ctl ∧ (acceptEdge b s).config = s.config ∧
    (acceptEdge b s).catalog = s.catalog ∧ (acceptEdge b s).accepted = s.accepted ∧
    (acceptEdge b s).pretreat = s.pretreat ∧ (acceptEdge b s).press = s.press ∧ (acceptEdge b s).engine = s.engine ∧
    (acceptEdge b s).staging = s.staging ∧ (acceptEdge b s).port = s.port ∧ (acceptEdge b s).prints = s.prints ∧
    (acceptEdge b s).lanes = s.lanes ∧ (acceptEdge b s).flash = s.flash ∧ (acceptEdge b s).pack = s.pack ∧
    (acceptEdge b s).exch = s.exch := by
  unfold acceptEdge
  try dsimp only
  (repeat' split) <;> simp

@[simp] theorem endCheck_frame (b : Button) (s : State) :
    (endCheck b s).pending = s.pending ∧ (endCheck b s).clock = s.clock ∧ (endCheck b s).pins = s.pins ∧
    (endCheck b s).captures = s.captures ∧ (endCheck b s).ctl = s.ctl ∧ (endCheck b s).config = s.config ∧
    (endCheck b s).catalog = s.catalog ∧ (endCheck b s).accepted = s.accepted ∧ (endCheck b s).pretreat = s.pretreat ∧
    (endCheck b s).press = s.press ∧ (endCheck b s).engine = s.engine ∧ (endCheck b s).staging = s.staging ∧
    (endCheck b s).port = s.port ∧ (endCheck b s).prints = s.prints ∧ (endCheck b s).lanes = s.lanes ∧
    (endCheck b s).flash = s.flash ∧ (endCheck b s).pack = s.pack ∧ (endCheck b s).exch = s.exch := by
  unfold endCheck
  try dsimp only
  (repeat' split) <;> simp

@[simp] theorem endLockout_frame (b : Button) (s : State) :
    (endLockout b s).pending = s.pending ∧ (endLockout b s).clock = s.clock ∧ (endLockout b s).pins = s.pins ∧
    (endLockout b s).captures = s.captures ∧ (endLockout b s).ctl = s.ctl ∧ (endLockout b s).config = s.config ∧
    (endLockout b s).catalog = s.catalog ∧ (endLockout b s).lines = s.lines ∧ (endLockout b s).accepted = s.accepted ∧
    (endLockout b s).garments = s.garments ∧ (endLockout b s).carousel = s.carousel ∧
    (endLockout b s).pretreat = s.pretreat ∧ (endLockout b s).press = s.press ∧ (endLockout b s).engine = s.engine ∧
    (endLockout b s).staging = s.staging ∧ (endLockout b s).port = s.port ∧ (endLockout b s).prints = s.prints ∧
    (endLockout b s).lanes = s.lanes ∧ (endLockout b s).flash = s.flash ∧ (endLockout b s).dryer = s.dryer ∧
    (endLockout b s).pack = s.pack ∧ (endLockout b s).link = s.link ∧ (endLockout b s).exch = s.exch ∧
    (endLockout b s).reports = s.reports := by
  unfold endLockout
  try dsimp only
  (repeat' split) <;> simp

@[simp] theorem endDebounce_frame (b : Button) (s : State) :
    (endDebounce b s).pending = s.pending ∧ (endDebounce b s).clock = s.clock ∧ (endDebounce b s).pins = s.pins ∧
    (endDebounce b s).captures = s.captures ∧ (endDebounce b s).ctl = s.ctl ∧ (endDebounce b s).config = s.config ∧
    (endDebounce b s).catalog = s.catalog ∧ (endDebounce b s).accepted = s.accepted ∧
    (endDebounce b s).pretreat = s.pretreat ∧ (endDebounce b s).press = s.press ∧
    (endDebounce b s).engine = s.engine ∧ (endDebounce b s).staging = s.staging ∧ (endDebounce b s).port = s.port ∧
    (endDebounce b s).prints = s.prints ∧ (endDebounce b s).lanes = s.lanes ∧ (endDebounce b s).flash = s.flash ∧
    (endDebounce b s).pack = s.pack ∧ (endDebounce b s).exch = s.exch := by
  unfold endDebounce
  try dsimp only
  (repeat' split) <;> simp

@[simp] theorem putCapture_frame (i : CaptureInput) (t : Option Clock) (s : State) :
    (putCapture i t s).pending = s.pending ∧ (putCapture i t s).clock = s.clock ∧ (putCapture i t s).pins = s.pins ∧
    (putCapture i t s).buttons = s.buttons ∧ (putCapture i t s).ctl = s.ctl ∧ (putCapture i t s).config = s.config ∧
    (putCapture i t s).catalog = s.catalog ∧ (putCapture i t s).lines = s.lines ∧
    (putCapture i t s).accepted = s.accepted ∧ (putCapture i t s).garments = s.garments ∧
    (putCapture i t s).carousel = s.carousel ∧ (putCapture i t s).pretreat = s.pretreat ∧
    (putCapture i t s).press = s.press ∧ (putCapture i t s).engine = s.engine ∧
    (putCapture i t s).staging = s.staging ∧ (putCapture i t s).port = s.port ∧ (putCapture i t s).prints = s.prints ∧
    (putCapture i t s).lanes = s.lanes ∧ (putCapture i t s).flash = s.flash ∧ (putCapture i t s).dryer = s.dryer ∧
    (putCapture i t s).pack = s.pack ∧ (putCapture i t s).link = s.link ∧ (putCapture i t s).exch = s.exch ∧
    (putCapture i t s).reports = s.reports := by
  unfold putCapture
  try dsimp only
  (repeat' split) <;> simp

@[simp] theorem capture_frame (i : CaptureInput) (s : State) :
    (capture i s).pending = s.pending ∧ (capture i s).clock = s.clock ∧ (capture i s).pins = s.pins ∧
    (capture i s).buttons = s.buttons ∧ (capture i s).ctl = s.ctl ∧ (capture i s).config = s.config ∧
    (capture i s).catalog = s.catalog ∧ (capture i s).lines = s.lines ∧ (capture i s).accepted = s.accepted ∧
    (capture i s).garments = s.garments ∧ (capture i s).carousel = s.carousel ∧ (capture i s).pretreat = s.pretreat ∧
    (capture i s).press = s.press ∧ (capture i s).engine = s.engine ∧ (capture i s).staging = s.staging ∧
    (capture i s).port = s.port ∧ (capture i s).prints = s.prints ∧ (capture i s).lanes = s.lanes ∧
    (capture i s).flash = s.flash ∧ (capture i s).dryer = s.dryer ∧ (capture i s).pack = s.pack ∧
    (capture i s).link = s.link ∧ (capture i s).exch = s.exch := by
  unfold capture
  try dsimp only
  (repeat' split) <;> simp

@[simp] theorem homeEdge_frame (s : State) :
    (homeEdge s).pending = s.pending ∧ (homeEdge s).clock = s.clock ∧ (homeEdge s).pins = s.pins ∧
    (homeEdge s).captures = s.captures ∧ (homeEdge s).buttons = s.buttons ∧ (homeEdge s).ctl = s.ctl ∧
    (homeEdge s).config = s.config ∧ (homeEdge s).catalog = s.catalog ∧ (homeEdge s).lines = s.lines ∧
    (homeEdge s).accepted = s.accepted ∧ (homeEdge s).garments = s.garments ∧ (homeEdge s).pretreat = s.pretreat ∧
    (homeEdge s).press = s.press ∧ (homeEdge s).engine = s.engine ∧ (homeEdge s).staging = s.staging ∧
    (homeEdge s).port = s.port ∧ (homeEdge s).prints = s.prints ∧ (homeEdge s).lanes = s.lanes ∧
    (homeEdge s).flash = s.flash ∧ (homeEdge s).dryer = s.dryer ∧ (homeEdge s).pack = s.pack ∧
    (homeEdge s).link = s.link ∧ (homeEdge s).exch = s.exch ∧ (homeEdge s).reports = s.reports := by
  unfold homeEdge
  try dsimp only
  (repeat' split) <;> simp

@[simp] theorem armZone_frame (edge : Clock) (row : Nat) (s : State) (z : Fin 8) :
    (armZone edge row s z).pending = s.pending ∧ (armZone edge row s z).clock = s.clock ∧
    (armZone edge row s z).pins = s.pins ∧ (armZone edge row s z).captures = s.captures ∧
    (armZone edge row s z).buttons = s.buttons ∧ (armZone edge row s z).ctl = s.ctl ∧
    (armZone edge row s z).config = s.config ∧ (armZone edge row s z).catalog = s.catalog ∧
    (armZone edge row s z).lines = s.lines ∧ (armZone edge row s z).accepted = s.accepted ∧
    (armZone edge row s z).garments = s.garments ∧ (armZone edge row s z).carousel = s.carousel ∧
    (armZone edge row s z).press = s.press ∧ (armZone edge row s z).engine = s.engine ∧
    (armZone edge row s z).staging = s.staging ∧ (armZone edge row s z).port = s.port ∧
    (armZone edge row s z).prints = s.prints ∧ (armZone edge row s z).lanes = s.lanes ∧
    (armZone edge row s z).flash = s.flash ∧ (armZone edge row s z).dryer = s.dryer ∧
    (armZone edge row s z).pack = s.pack ∧ (armZone edge row s z).link = s.link ∧
    (armZone edge row s z).exch = s.exch ∧ (armZone edge row s z).reports = s.reports := by
  unfold armZone
  try dsimp only
  (repeat' split) <;> simp

@[simp] theorem noteOverlap_frame (s : State) :
    (noteOverlap s).pending = s.pending ∧ (noteOverlap s).clock = s.clock ∧ (noteOverlap s).pins = s.pins ∧
    (noteOverlap s).captures = s.captures ∧ (noteOverlap s).buttons = s.buttons ∧ (noteOverlap s).ctl = s.ctl ∧
    (noteOverlap s).config = s.config ∧ (noteOverlap s).catalog = s.catalog ∧ (noteOverlap s).lines = s.lines ∧
    (noteOverlap s).accepted = s.accepted ∧ (noteOverlap s).carousel = s.carousel ∧
    (noteOverlap s).pretreat = s.pretreat ∧ (noteOverlap s).press = s.press ∧ (noteOverlap s).engine = s.engine ∧
    (noteOverlap s).staging = s.staging ∧ (noteOverlap s).port = s.port ∧ (noteOverlap s).prints = s.prints ∧
    (noteOverlap s).lanes = s.lanes ∧ (noteOverlap s).flash = s.flash ∧ (noteOverlap s).dryer = s.dryer ∧
    (noteOverlap s).pack = s.pack ∧ (noteOverlap s).link = s.link ∧ (noteOverlap s).exch = s.exch ∧
    (noteOverlap s).reports = s.reports := by
  unfold noteOverlap
  try dsimp only
  (repeat' split) <;> simp

@[simp] theorem nextRow_frame (edge : Clock) (s : State) :
    (nextRow edge s).pending = s.pending ∧ (nextRow edge s).clock = s.clock ∧ (nextRow edge s).pins = s.pins ∧
    (nextRow edge s).captures = s.captures ∧ (nextRow edge s).buttons = s.buttons ∧ (nextRow edge s).ctl = s.ctl ∧
    (nextRow edge s).config = s.config ∧ (nextRow edge s).catalog = s.catalog ∧ (nextRow edge s).lines = s.lines ∧
    (nextRow edge s).accepted = s.accepted ∧ (nextRow edge s).carousel = s.carousel ∧
    (nextRow edge s).press = s.press ∧ (nextRow edge s).engine = s.engine ∧ (nextRow edge s).staging = s.staging ∧
    (nextRow edge s).port = s.port ∧ (nextRow edge s).prints = s.prints ∧ (nextRow edge s).lanes = s.lanes ∧
    (nextRow edge s).flash = s.flash ∧ (nextRow edge s).dryer = s.dryer ∧ (nextRow edge s).pack = s.pack ∧
    (nextRow edge s).link = s.link ∧ (nextRow edge s).exch = s.exch := by
  unfold nextRow
  try dsimp only
  (repeat' split) <;> simp

@[simp] theorem rowEdge_frame (edge : Clock) (s : State) :
    (rowEdge edge s).pending = s.pending ∧ (rowEdge edge s).clock = s.clock ∧ (rowEdge edge s).pins = s.pins ∧
    (rowEdge edge s).captures = s.captures ∧ (rowEdge edge s).buttons = s.buttons ∧ (rowEdge edge s).ctl = s.ctl ∧
    (rowEdge edge s).config = s.config ∧ (rowEdge edge s).catalog = s.catalog ∧ (rowEdge edge s).lines = s.lines ∧
    (rowEdge edge s).accepted = s.accepted ∧ (rowEdge edge s).carousel = s.carousel ∧
    (rowEdge edge s).press = s.press ∧ (rowEdge edge s).engine = s.engine ∧ (rowEdge edge s).staging = s.staging ∧
    (rowEdge edge s).port = s.port ∧ (rowEdge edge s).prints = s.prints ∧ (rowEdge edge s).lanes = s.lanes ∧
    (rowEdge edge s).flash = s.flash ∧ (rowEdge edge s).dryer = s.dryer ∧ (rowEdge edge s).pack = s.pack ∧
    (rowEdge edge s).link = s.link ∧ (rowEdge edge s).exch = s.exch := by
  unfold rowEdge
  try dsimp only
  (repeat' split) <;> simp

@[simp] theorem joinBelt_frame (g : Option (Fin 32)) (edge : Clock) (s : State) :
    (joinBelt g edge s).pending = s.pending ∧ (joinBelt g edge s).clock = s.clock ∧
    (joinBelt g edge s).pins = s.pins ∧ (joinBelt g edge s).captures = s.captures ∧
    (joinBelt g edge s).buttons = s.buttons ∧ (joinBelt g edge s).ctl = s.ctl ∧
    (joinBelt g edge s).config = s.config ∧ (joinBelt g edge s).catalog = s.catalog ∧
    (joinBelt g edge s).lines = s.lines ∧ (joinBelt g edge s).accepted = s.accepted ∧
    (joinBelt g edge s).garments = s.garments ∧ (joinBelt g edge s).carousel = s.carousel ∧
    (joinBelt g edge s).pretreat = s.pretreat ∧ (joinBelt g edge s).press = s.press ∧
    (joinBelt g edge s).engine = s.engine ∧ (joinBelt g edge s).staging = s.staging ∧
    (joinBelt g edge s).port = s.port ∧ (joinBelt g edge s).prints = s.prints ∧ (joinBelt g edge s).lanes = s.lanes ∧
    (joinBelt g edge s).flash = s.flash ∧ (joinBelt g edge s).pack = s.pack ∧ (joinBelt g edge s).link = s.link ∧
    (joinBelt g edge s).exch = s.exch ∧ (joinBelt g edge s).reports = s.reports := by
  unfold joinBelt
  try dsimp only
  (repeat' split) <;> simp

@[simp] theorem enterBelt_frame (g : Fin 32) (rest : List TimedEntry) (edge : Clock) (s : State) :
    (enterBelt g rest edge s).pending = s.pending ∧ (enterBelt g rest edge s).clock = s.clock ∧
    (enterBelt g rest edge s).pins = s.pins ∧ (enterBelt g rest edge s).captures = s.captures ∧
    (enterBelt g rest edge s).buttons = s.buttons ∧ (enterBelt g rest edge s).ctl = s.ctl ∧
    (enterBelt g rest edge s).config = s.config ∧ (enterBelt g rest edge s).catalog = s.catalog ∧
    (enterBelt g rest edge s).lines = s.lines ∧ (enterBelt g rest edge s).accepted = s.accepted ∧
    (enterBelt g rest edge s).carousel = s.carousel ∧ (enterBelt g rest edge s).pretreat = s.pretreat ∧
    (enterBelt g rest edge s).press = s.press ∧ (enterBelt g rest edge s).engine = s.engine ∧
    (enterBelt g rest edge s).staging = s.staging ∧ (enterBelt g rest edge s).port = s.port ∧
    (enterBelt g rest edge s).prints = s.prints ∧ (enterBelt g rest edge s).lanes = s.lanes ∧
    (enterBelt g rest edge s).flash = s.flash ∧ (enterBelt g rest edge s).pack = s.pack ∧
    (enterBelt g rest edge s).link = s.link ∧ (enterBelt g rest edge s).exch = s.exch ∧
    (enterBelt g rest edge s).reports = s.reports := by
  unfold enterBelt
  try dsimp only
  (repeat' split) <;> simp

@[simp] theorem enterPhantom_frame (edge : Clock) (s : State) :
    (enterPhantom edge s).pending = s.pending ∧ (enterPhantom edge s).clock = s.clock ∧
    (enterPhantom edge s).pins = s.pins ∧ (enterPhantom edge s).captures = s.captures ∧
    (enterPhantom edge s).buttons = s.buttons ∧ (enterPhantom edge s).ctl = s.ctl ∧
    (enterPhantom edge s).config = s.config ∧ (enterPhantom edge s).catalog = s.catalog ∧
    (enterPhantom edge s).lines = s.lines ∧ (enterPhantom edge s).accepted = s.accepted ∧
    (enterPhantom edge s).garments = s.garments ∧ (enterPhantom edge s).carousel = s.carousel ∧
    (enterPhantom edge s).pretreat = s.pretreat ∧ (enterPhantom edge s).press = s.press ∧
    (enterPhantom edge s).engine = s.engine ∧ (enterPhantom edge s).staging = s.staging ∧
    (enterPhantom edge s).port = s.port ∧ (enterPhantom edge s).prints = s.prints ∧
    (enterPhantom edge s).lanes = s.lanes ∧ (enterPhantom edge s).flash = s.flash ∧
    (enterPhantom edge s).pack = s.pack ∧ (enterPhantom edge s).link = s.link ∧ (enterPhantom edge s).exch = s.exch := by
  unfold enterPhantom
  try dsimp only
  (repeat' split) <;> simp

@[simp] theorem beltEntryAt_frame (edge : Clock) (s : State) :
    (beltEntryAt edge s).pending = s.pending ∧ (beltEntryAt edge s).clock = s.clock ∧
    (beltEntryAt edge s).pins = s.pins ∧ (beltEntryAt edge s).captures = s.captures ∧
    (beltEntryAt edge s).buttons = s.buttons ∧ (beltEntryAt edge s).ctl = s.ctl ∧
    (beltEntryAt edge s).config = s.config ∧ (beltEntryAt edge s).catalog = s.catalog ∧
    (beltEntryAt edge s).lines = s.lines ∧ (beltEntryAt edge s).accepted = s.accepted ∧
    (beltEntryAt edge s).carousel = s.carousel ∧ (beltEntryAt edge s).pretreat = s.pretreat ∧
    (beltEntryAt edge s).press = s.press ∧ (beltEntryAt edge s).engine = s.engine ∧
    (beltEntryAt edge s).staging = s.staging ∧ (beltEntryAt edge s).port = s.port ∧
    (beltEntryAt edge s).prints = s.prints ∧ (beltEntryAt edge s).lanes = s.lanes ∧
    (beltEntryAt edge s).flash = s.flash ∧ (beltEntryAt edge s).pack = s.pack ∧ (beltEntryAt edge s).link = s.link ∧
    (beltEntryAt edge s).exch = s.exch := by
  unfold beltEntryAt
  try dsimp only
  (repeat' split) <;> simp

@[simp] theorem beltExitAt_frame (edge : Clock) (s : State) :
    (beltExitAt edge s).pending = s.pending ∧ (beltExitAt edge s).clock = s.clock ∧
    (beltExitAt edge s).pins = s.pins ∧ (beltExitAt edge s).captures = s.captures ∧
    (beltExitAt edge s).buttons = s.buttons ∧ (beltExitAt edge s).ctl = s.ctl ∧
    (beltExitAt edge s).config = s.config ∧ (beltExitAt edge s).catalog = s.catalog ∧
    (beltExitAt edge s).staging = s.staging ∧ (beltExitAt edge s).port = s.port ∧ (beltExitAt edge s).exch = s.exch := by
  unfold beltExitAt
  try dsimp only
  (repeat' split) <;> simp

@[simp] theorem makeChoice_frame (s : State) :
    (makeChoice s).pending = s.pending ∧ (makeChoice s).clock = s.clock ∧ (makeChoice s).pins = s.pins ∧
    (makeChoice s).captures = s.captures ∧ (makeChoice s).buttons = s.buttons ∧ (makeChoice s).ctl = s.ctl ∧
    (makeChoice s).config = s.config ∧ (makeChoice s).catalog = s.catalog ∧ (makeChoice s).lines = s.lines ∧
    (makeChoice s).accepted = s.accepted ∧ (makeChoice s).garments = s.garments ∧
    (makeChoice s).carousel = s.carousel ∧ (makeChoice s).pretreat = s.pretreat ∧ (makeChoice s).press = s.press ∧
    (makeChoice s).engine = s.engine ∧ (makeChoice s).staging = s.staging ∧ (makeChoice s).port = s.port ∧
    (makeChoice s).prints = s.prints ∧ (makeChoice s).lanes = s.lanes ∧ (makeChoice s).flash = s.flash ∧
    (makeChoice s).dryer = s.dryer ∧ (makeChoice s).pack = s.pack ∧ (makeChoice s).exch = s.exch ∧
    (makeChoice s).reports = s.reports := by
  unfold makeChoice
  try dsimp only
  (repeat' split) <;> simp

@[simp] theorem endGap_frame (q : Requester) (s : State) :
    (endGap q s).pending = s.pending ∧ (endGap q s).clock = s.clock ∧ (endGap q s).pins = s.pins ∧
    (endGap q s).captures = s.captures ∧ (endGap q s).buttons = s.buttons ∧ (endGap q s).ctl = s.ctl ∧
    (endGap q s).config = s.config ∧ (endGap q s).catalog = s.catalog ∧ (endGap q s).lines = s.lines ∧
    (endGap q s).accepted = s.accepted ∧ (endGap q s).garments = s.garments ∧ (endGap q s).carousel = s.carousel ∧
    (endGap q s).pretreat = s.pretreat ∧ (endGap q s).press = s.press ∧ (endGap q s).engine = s.engine ∧
    (endGap q s).staging = s.staging ∧ (endGap q s).port = s.port ∧ (endGap q s).prints = s.prints ∧
    (endGap q s).lanes = s.lanes ∧ (endGap q s).flash = s.flash ∧ (endGap q s).dryer = s.dryer ∧
    (endGap q s).pack = s.pack ∧ (endGap q s).exch = s.exch ∧ (endGap q s).reports = s.reports := by
  unfold endGap
  try dsimp only
  (repeat' split) <;> simp

@[simp] theorem retryPair_frame (s : State) :
    (retryPair s).pending = s.pending ∧ (retryPair s).clock = s.clock ∧ (retryPair s).pins = s.pins ∧
    (retryPair s).captures = s.captures ∧ (retryPair s).buttons = s.buttons ∧ (retryPair s).ctl = s.ctl ∧
    (retryPair s).config = s.config ∧ (retryPair s).catalog = s.catalog ∧ (retryPair s).lines = s.lines ∧
    (retryPair s).accepted = s.accepted ∧ (retryPair s).garments = s.garments ∧ (retryPair s).carousel = s.carousel ∧
    (retryPair s).pretreat = s.pretreat ∧ (retryPair s).press = s.press ∧ (retryPair s).engine = s.engine ∧
    (retryPair s).staging = s.staging ∧ (retryPair s).port = s.port ∧ (retryPair s).prints = s.prints ∧
    (retryPair s).lanes = s.lanes ∧ (retryPair s).flash = s.flash ∧ (retryPair s).dryer = s.dryer ∧
    (retryPair s).pack = s.pack ∧ (retryPair s).exch = s.exch ∧ (retryPair s).reports = s.reports := by
  unfold retryPair
  try dsimp only
  (repeat' split) <;> simp

@[simp] theorem endRetry_frame (p : RetryPlace) (s : State) :
    (endRetry p s).pending = s.pending ∧ (endRetry p s).clock = s.clock ∧ (endRetry p s).pins = s.pins ∧
    (endRetry p s).captures = s.captures ∧ (endRetry p s).buttons = s.buttons ∧ (endRetry p s).ctl = s.ctl ∧
    (endRetry p s).config = s.config ∧ (endRetry p s).catalog = s.catalog ∧ (endRetry p s).lines = s.lines ∧
    (endRetry p s).accepted = s.accepted ∧ (endRetry p s).garments = s.garments ∧
    (endRetry p s).carousel = s.carousel ∧ (endRetry p s).pretreat = s.pretreat ∧ (endRetry p s).press = s.press ∧
    (endRetry p s).engine = s.engine ∧ (endRetry p s).staging = s.staging ∧ (endRetry p s).port = s.port ∧
    (endRetry p s).prints = s.prints ∧ (endRetry p s).lanes = s.lanes ∧ (endRetry p s).flash = s.flash ∧
    (endRetry p s).dryer = s.dryer ∧ (endRetry p s).pack = s.pack ∧ (endRetry p s).exch = s.exch ∧
    (endRetry p s).reports = s.reports := by
  unfold endRetry
  try dsimp only
  (repeat' split) <;> simp

@[simp] theorem readyProbe_frame (r : Role) (s : State) :
    (readyProbe r s).pending = s.pending ∧ (readyProbe r s).clock = s.clock ∧ (readyProbe r s).pins = s.pins ∧
    (readyProbe r s).captures = s.captures ∧ (readyProbe r s).buttons = s.buttons ∧ (readyProbe r s).ctl = s.ctl ∧
    (readyProbe r s).config = s.config ∧ (readyProbe r s).catalog = s.catalog ∧ (readyProbe r s).lines = s.lines ∧
    (readyProbe r s).accepted = s.accepted ∧ (readyProbe r s).garments = s.garments ∧
    (readyProbe r s).carousel = s.carousel ∧ (readyProbe r s).pretreat = s.pretreat ∧
    (readyProbe r s).press = s.press ∧ (readyProbe r s).engine = s.engine ∧ (readyProbe r s).staging = s.staging ∧
    (readyProbe r s).port = s.port ∧ (readyProbe r s).prints = s.prints ∧ (readyProbe r s).lanes = s.lanes ∧
    (readyProbe r s).flash = s.flash ∧ (readyProbe r s).dryer = s.dryer ∧ (readyProbe r s).pack = s.pack ∧
    (readyProbe r s).exch = s.exch ∧ (readyProbe r s).reports = s.reports := by
  unfold readyProbe
  try dsimp only
  (repeat' split) <;> simp

@[simp] theorem endHold_frame (a : Fin 8) (s : State) :
    (endHold a s).pending = s.pending ∧ (endHold a s).clock = s.clock ∧ (endHold a s).pins = s.pins ∧
    (endHold a s).captures = s.captures ∧ (endHold a s).buttons = s.buttons ∧ (endHold a s).ctl = s.ctl ∧
    (endHold a s).config = s.config ∧ (endHold a s).catalog = s.catalog ∧ (endHold a s).lines = s.lines ∧
    (endHold a s).accepted = s.accepted ∧ (endHold a s).garments = s.garments ∧ (endHold a s).carousel = s.carousel ∧
    (endHold a s).pretreat = s.pretreat ∧ (endHold a s).press = s.press ∧ (endHold a s).engine = s.engine ∧
    (endHold a s).staging = s.staging ∧ (endHold a s).port = s.port ∧ (endHold a s).prints = s.prints ∧
    (endHold a s).lanes = s.lanes ∧ (endHold a s).flash = s.flash ∧ (endHold a s).dryer = s.dryer ∧
    (endHold a s).pack = s.pack ∧ (endHold a s).exch = s.exch ∧ (endHold a s).reports = s.reports := by
  unfold endHold
  try dsimp only
  (repeat' split) <;> simp

@[simp] theorem enterMoving_frame (home : Bool) (s : State) :
    (enterMoving home s).pending = s.pending ∧ (enterMoving home s).clock = s.clock ∧
    (enterMoving home s).pins = s.pins ∧ (enterMoving home s).captures = s.captures ∧
    (enterMoving home s).buttons = s.buttons ∧ (enterMoving home s).ctl = s.ctl ∧
    (enterMoving home s).config = s.config ∧ (enterMoving home s).catalog = s.catalog ∧
    (enterMoving home s).lines = s.lines ∧ (enterMoving home s).accepted = s.accepted ∧
    (enterMoving home s).garments = s.garments ∧ (enterMoving home s).pretreat = s.pretreat ∧
    (enterMoving home s).press = s.press ∧ (enterMoving home s).engine = s.engine ∧
    (enterMoving home s).staging = s.staging ∧ (enterMoving home s).port = s.port ∧
    (enterMoving home s).prints = s.prints ∧ (enterMoving home s).lanes = s.lanes ∧
    (enterMoving home s).flash = s.flash ∧ (enterMoving home s).dryer = s.dryer ∧ (enterMoving home s).pack = s.pack ∧
    (enterMoving home s).link = s.link ∧ (enterMoving home s).exch = s.exch ∧ (enterMoving home s).reports = s.reports := by
  unfold enterMoving
  try dsimp only
  (repeat' split) <;> simp

@[simp] theorem commandDrive_frame (c : Command) (s : State) :
    (commandDrive c s).pending = s.pending ∧ (commandDrive c s).clock = s.clock ∧ (commandDrive c s).pins = s.pins ∧
    (commandDrive c s).captures = s.captures ∧ (commandDrive c s).buttons = s.buttons ∧
    (commandDrive c s).config = s.config ∧ (commandDrive c s).catalog = s.catalog ∧
    (commandDrive c s).lines = s.lines ∧ (commandDrive c s).accepted = s.accepted ∧
    (commandDrive c s).garments = s.garments ∧ (commandDrive c s).pretreat = s.pretreat ∧
    (commandDrive c s).press = s.press ∧ (commandDrive c s).engine = s.engine ∧
    (commandDrive c s).staging = s.staging ∧ (commandDrive c s).port = s.port ∧ (commandDrive c s).prints = s.prints ∧
    (commandDrive c s).lanes = s.lanes ∧ (commandDrive c s).pack = s.pack ∧ (commandDrive c s).exch = s.exch := by
  unfold commandDrive
  try dsimp only
  (repeat' split) <;> simp

@[simp] theorem startIndex_frame (s : State) :
    (startIndex s).pending = s.pending ∧ (startIndex s).clock = s.clock ∧ (startIndex s).pins = s.pins ∧
    (startIndex s).captures = s.captures ∧ (startIndex s).buttons = s.buttons ∧ (startIndex s).config = s.config ∧
    (startIndex s).catalog = s.catalog ∧ (startIndex s).lines = s.lines ∧ (startIndex s).accepted = s.accepted ∧
    (startIndex s).garments = s.garments ∧ (startIndex s).pretreat = s.pretreat ∧ (startIndex s).press = s.press ∧
    (startIndex s).engine = s.engine ∧ (startIndex s).staging = s.staging ∧ (startIndex s).port = s.port ∧
    (startIndex s).prints = s.prints ∧ (startIndex s).lanes = s.lanes ∧ (startIndex s).pack = s.pack ∧
    (startIndex s).exch = s.exch := by
  unfold startIndex
  try dsimp only
  (repeat' split) <;> simp

@[simp] theorem startHome_frame (s : State) :
    (startHome s).pending = s.pending ∧ (startHome s).clock = s.clock ∧ (startHome s).pins = s.pins ∧
    (startHome s).captures = s.captures ∧ (startHome s).buttons = s.buttons ∧ (startHome s).config = s.config ∧
    (startHome s).catalog = s.catalog ∧ (startHome s).lines = s.lines ∧ (startHome s).accepted = s.accepted ∧
    (startHome s).garments = s.garments ∧ (startHome s).pretreat = s.pretreat ∧ (startHome s).press = s.press ∧
    (startHome s).engine = s.engine ∧ (startHome s).staging = s.staging ∧ (startHome s).port = s.port ∧
    (startHome s).prints = s.prints ∧ (startHome s).lanes = s.lanes ∧ (startHome s).pack = s.pack ∧
    (startHome s).exch = s.exch := by
  unfold startHome
  try dsimp only
  (repeat' split) <;> simp

@[simp] theorem startPass_frame (s : State) :
    (startPass s).pending = s.pending ∧ (startPass s).clock = s.clock ∧ (startPass s).pins = s.pins ∧
    (startPass s).captures = s.captures ∧ (startPass s).buttons = s.buttons ∧ (startPass s).ctl = s.ctl ∧
    (startPass s).config = s.config ∧ (startPass s).catalog = s.catalog ∧ (startPass s).staging = s.staging ∧
    (startPass s).port = s.port ∧ (startPass s).dryer = s.dryer ∧ (startPass s).exch = s.exch := by
  unfold startPass
  try dsimp only
  (repeat' split) <;> simp

@[simp] theorem openValve_frame (z : Fin 8) (s : State) :
    (openValve z s).pending = s.pending ∧ (openValve z s).clock = s.clock ∧ (openValve z s).pins = s.pins ∧
    (openValve z s).captures = s.captures ∧ (openValve z s).buttons = s.buttons ∧ (openValve z s).ctl = s.ctl ∧
    (openValve z s).config = s.config ∧ (openValve z s).catalog = s.catalog ∧ (openValve z s).lines = s.lines ∧
    (openValve z s).accepted = s.accepted ∧ (openValve z s).garments = s.garments ∧
    (openValve z s).carousel = s.carousel ∧ (openValve z s).press = s.press ∧ (openValve z s).engine = s.engine ∧
    (openValve z s).staging = s.staging ∧ (openValve z s).port = s.port ∧ (openValve z s).prints = s.prints ∧
    (openValve z s).lanes = s.lanes ∧ (openValve z s).flash = s.flash ∧ (openValve z s).dryer = s.dryer ∧
    (openValve z s).pack = s.pack ∧ (openValve z s).link = s.link ∧ (openValve z s).exch = s.exch ∧
    (openValve z s).reports = s.reports := by
  unfold openValve
  try dsimp only
  (repeat' split) <;> simp

@[simp] theorem closeOnTime_frame (z : Fin 8) (s : State) :
    (closeOnTime z s).pending = s.pending ∧ (closeOnTime z s).clock = s.clock ∧ (closeOnTime z s).pins = s.pins ∧
    (closeOnTime z s).captures = s.captures ∧ (closeOnTime z s).buttons = s.buttons ∧ (closeOnTime z s).ctl = s.ctl ∧
    (closeOnTime z s).config = s.config ∧ (closeOnTime z s).catalog = s.catalog ∧ (closeOnTime z s).lines = s.lines ∧
    (closeOnTime z s).accepted = s.accepted ∧ (closeOnTime z s).garments = s.garments ∧
    (closeOnTime z s).carousel = s.carousel ∧ (closeOnTime z s).press = s.press ∧
    (closeOnTime z s).engine = s.engine ∧ (closeOnTime z s).staging = s.staging ∧ (closeOnTime z s).port = s.port ∧
    (closeOnTime z s).prints = s.prints ∧ (closeOnTime z s).lanes = s.lanes ∧ (closeOnTime z s).flash = s.flash ∧
    (closeOnTime z s).dryer = s.dryer ∧ (closeOnTime z s).pack = s.pack ∧ (closeOnTime z s).link = s.link ∧
    (closeOnTime z s).exch = s.exch := by
  unfold closeOnTime
  try dsimp only
  (repeat' split) <;> simp

@[simp] theorem finishPass_frame (s : State) :
    (finishPass s).pending = s.pending ∧ (finishPass s).clock = s.clock ∧ (finishPass s).pins = s.pins ∧
    (finishPass s).captures = s.captures ∧ (finishPass s).buttons = s.buttons ∧ (finishPass s).ctl = s.ctl ∧
    (finishPass s).config = s.config ∧ (finishPass s).catalog = s.catalog ∧ (finishPass s).staging = s.staging ∧
    (finishPass s).port = s.port ∧ (finishPass s).dryer = s.dryer ∧ (finishPass s).exch = s.exch := by
  unfold finishPass
  try dsimp only
  (repeat' split) <;> simp

@[simp] theorem startPressing_frame (r : Garment) (s : State) :
    (startPressing r s).pending = s.pending ∧ (startPressing r s).clock = s.clock ∧
    (startPressing r s).pins = s.pins ∧ (startPressing r s).captures = s.captures ∧
    (startPressing r s).buttons = s.buttons ∧ (startPressing r s).ctl = s.ctl ∧
    (startPressing r s).config = s.config ∧ (startPressing r s).catalog = s.catalog ∧
    (startPressing r s).lines = s.lines ∧ (startPressing r s).accepted = s.accepted ∧
    (startPressing r s).pretreat = s.pretreat ∧ (startPressing r s).engine = s.engine ∧
    (startPressing r s).staging = s.staging ∧ (startPressing r s).port = s.port ∧
    (startPressing r s).prints = s.prints ∧ (startPressing r s).lanes = s.lanes ∧
    (startPressing r s).flash = s.flash ∧ (startPressing r s).dryer = s.dryer ∧ (startPressing r s).pack = s.pack ∧
    (startPressing r s).exch = s.exch := by
  unfold startPressing
  try dsimp only
  (repeat' split) <;> simp

@[simp] theorem startCycle_frame (s : State) :
    (startCycle s).pending = s.pending ∧ (startCycle s).clock = s.clock ∧ (startCycle s).pins = s.pins ∧
    (startCycle s).captures = s.captures ∧ (startCycle s).buttons = s.buttons ∧ (startCycle s).ctl = s.ctl ∧
    (startCycle s).config = s.config ∧ (startCycle s).catalog = s.catalog ∧ (startCycle s).lines = s.lines ∧
    (startCycle s).accepted = s.accepted ∧ (startCycle s).pretreat = s.pretreat ∧ (startCycle s).engine = s.engine ∧
    (startCycle s).staging = s.staging ∧ (startCycle s).port = s.port ∧ (startCycle s).prints = s.prints ∧
    (startCycle s).lanes = s.lanes ∧ (startCycle s).flash = s.flash ∧ (startCycle s).dryer = s.dryer ∧
    (startCycle s).pack = s.pack ∧ (startCycle s).exch = s.exch := by
  unfold startCycle
  try dsimp only
  (repeat' split) <;> simp

@[simp] theorem beginFetch_frame (c : Fin 6) (b : Fin 8) (s : State) :
    (beginFetch c b s).pending = s.pending ∧ (beginFetch c b s).clock = s.clock ∧ (beginFetch c b s).pins = s.pins ∧
    (beginFetch c b s).captures = s.captures ∧ (beginFetch c b s).buttons = s.buttons ∧
    (beginFetch c b s).ctl = s.ctl ∧ (beginFetch c b s).config = s.config ∧ (beginFetch c b s).catalog = s.catalog ∧
    (beginFetch c b s).lines = s.lines ∧ (beginFetch c b s).accepted = s.accepted ∧
    (beginFetch c b s).garments = s.garments ∧ (beginFetch c b s).carousel = s.carousel ∧
    (beginFetch c b s).pretreat = s.pretreat ∧ (beginFetch c b s).press = s.press ∧
    (beginFetch c b s).staging = s.staging ∧ (beginFetch c b s).prints = s.prints ∧
    (beginFetch c b s).lanes = s.lanes ∧ (beginFetch c b s).flash = s.flash ∧ (beginFetch c b s).dryer = s.dryer ∧
    (beginFetch c b s).pack = s.pack ∧ (beginFetch c b s).link = s.link ∧ (beginFetch c b s).exch = s.exch ∧
    (beginFetch c b s).reports = s.reports := by
  unfold beginFetch
  try dsimp only
  (repeat' split) <;> simp

@[simp] theorem startFetch_frame (s : State) :
    (startFetch s).pending = s.pending ∧ (startFetch s).clock = s.clock ∧ (startFetch s).pins = s.pins ∧
    (startFetch s).captures = s.captures ∧ (startFetch s).buttons = s.buttons ∧ (startFetch s).ctl = s.ctl ∧
    (startFetch s).config = s.config ∧ (startFetch s).catalog = s.catalog ∧ (startFetch s).lines = s.lines ∧
    (startFetch s).accepted = s.accepted ∧ (startFetch s).garments = s.garments ∧
    (startFetch s).carousel = s.carousel ∧ (startFetch s).pretreat = s.pretreat ∧ (startFetch s).press = s.press ∧
    (startFetch s).staging = s.staging ∧ (startFetch s).prints = s.prints ∧ (startFetch s).lanes = s.lanes ∧
    (startFetch s).flash = s.flash ∧ (startFetch s).dryer = s.dryer ∧ (startFetch s).pack = s.pack ∧
    (startFetch s).link = s.link ∧ (startFetch s).exch = s.exch ∧ (startFetch s).reports = s.reports := by
  unfold startFetch
  try dsimp only
  (repeat' split) <;> simp

@[simp] theorem dropFetch_frame (f : Fetch) (s : State) :
    (dropFetch f s).pending = s.pending ∧ (dropFetch f s).clock = s.clock ∧ (dropFetch f s).pins = s.pins ∧
    (dropFetch f s).captures = s.captures ∧ (dropFetch f s).buttons = s.buttons ∧ (dropFetch f s).ctl = s.ctl ∧
    (dropFetch f s).config = s.config ∧ (dropFetch f s).catalog = s.catalog ∧ (dropFetch f s).lines = s.lines ∧
    (dropFetch f s).accepted = s.accepted ∧ (dropFetch f s).garments = s.garments ∧
    (dropFetch f s).carousel = s.carousel ∧ (dropFetch f s).pretreat = s.pretreat ∧ (dropFetch f s).press = s.press ∧
    (dropFetch f s).staging = s.staging ∧ (dropFetch f s).port = s.port ∧ (dropFetch f s).prints = s.prints ∧
    (dropFetch f s).lanes = s.lanes ∧ (dropFetch f s).flash = s.flash ∧ (dropFetch f s).dryer = s.dryer ∧
    (dropFetch f s).pack = s.pack ∧ (dropFetch f s).link = s.link ∧ (dropFetch f s).exch = s.exch ∧
    (dropFetch f s).reports = s.reports := by
  unfold dropFetch
  try dsimp only
  (repeat' split) <;> simp

@[simp] theorem stopFetch_frame (f : Fetch) (s : State) :
    (stopFetch f s).pending = s.pending ∧ (stopFetch f s).clock = s.clock ∧ (stopFetch f s).pins = s.pins ∧
    (stopFetch f s).captures = s.captures ∧ (stopFetch f s).buttons = s.buttons ∧ (stopFetch f s).ctl = s.ctl ∧
    (stopFetch f s).config = s.config ∧ (stopFetch f s).catalog = s.catalog ∧ (stopFetch f s).lines = s.lines ∧
    (stopFetch f s).accepted = s.accepted ∧ (stopFetch f s).garments = s.garments ∧
    (stopFetch f s).carousel = s.carousel ∧ (stopFetch f s).pretreat = s.pretreat ∧ (stopFetch f s).press = s.press ∧
    (stopFetch f s).staging = s.staging ∧ (stopFetch f s).port = s.port ∧ (stopFetch f s).prints = s.prints ∧
    (stopFetch f s).lanes = s.lanes ∧ (stopFetch f s).flash = s.flash ∧ (stopFetch f s).dryer = s.dryer ∧
    (stopFetch f s).pack = s.pack ∧ (stopFetch f s).link = s.link ∧ (stopFetch f s).exch = s.exch ∧
    (stopFetch f s).reports = s.reports := by
  unfold stopFetch
  try dsimp only
  (repeat' split) <;> simp

@[simp] theorem faultFetch_frame (f : Fetch) (fault : ChainFault) (tag : Nat) (s : State) :
    (faultFetch f fault tag s).pending = s.pending ∧ (faultFetch f fault tag s).clock = s.clock ∧
    (faultFetch f fault tag s).pins = s.pins ∧ (faultFetch f fault tag s).captures = s.captures ∧
    (faultFetch f fault tag s).buttons = s.buttons ∧ (faultFetch f fault tag s).ctl = s.ctl ∧
    (faultFetch f fault tag s).config = s.config ∧ (faultFetch f fault tag s).catalog = s.catalog ∧
    (faultFetch f fault tag s).staging = s.staging ∧ (faultFetch f fault tag s).port = s.port ∧
    (faultFetch f fault tag s).dryer = s.dryer ∧ (faultFetch f fault tag s).exch = s.exch := by
  unfold faultFetch
  try dsimp only
  (repeat' split) <;> simp

@[simp] theorem tallyEnd_frame (c : Fin 6) (g : GarmentId) (d : Descriptor) (n : Nat) (s : State) :
    (tallyEnd c g d n s).pending = s.pending ∧ (tallyEnd c g d n s).clock = s.clock ∧
    (tallyEnd c g d n s).pins = s.pins ∧ (tallyEnd c g d n s).captures = s.captures ∧
    (tallyEnd c g d n s).buttons = s.buttons ∧ (tallyEnd c g d n s).ctl = s.ctl ∧
    (tallyEnd c g d n s).config = s.config ∧ (tallyEnd c g d n s).catalog = s.catalog ∧
    (tallyEnd c g d n s).lines = s.lines ∧ (tallyEnd c g d n s).accepted = s.accepted ∧
    (tallyEnd c g d n s).garments = s.garments ∧ (tallyEnd c g d n s).carousel = s.carousel ∧
    (tallyEnd c g d n s).pretreat = s.pretreat ∧ (tallyEnd c g d n s).press = s.press ∧
    (tallyEnd c g d n s).staging = s.staging ∧ (tallyEnd c g d n s).port = s.port ∧
    (tallyEnd c g d n s).prints = s.prints ∧ (tallyEnd c g d n s).lanes = s.lanes ∧
    (tallyEnd c g d n s).flash = s.flash ∧ (tallyEnd c g d n s).dryer = s.dryer ∧ (tallyEnd c g d n s).pack = s.pack ∧
    (tallyEnd c g d n s).link = s.link ∧ (tallyEnd c g d n s).exch = s.exch ∧ (tallyEnd c g d n s).reports = s.reports := by
  unfold tallyEnd
  try dsimp only
  (repeat' split) <;> simp

@[simp] theorem acceptDescriptor_frame (f : Fetch) (g : GarmentId) (d : Descriptor) (s : State) :
    (acceptDescriptor f g d s).pending = s.pending ∧ (acceptDescriptor f g d s).clock = s.clock ∧
    (acceptDescriptor f g d s).pins = s.pins ∧ (acceptDescriptor f g d s).captures = s.captures ∧
    (acceptDescriptor f g d s).buttons = s.buttons ∧ (acceptDescriptor f g d s).ctl = s.ctl ∧
    (acceptDescriptor f g d s).config = s.config ∧ (acceptDescriptor f g d s).catalog = s.catalog ∧
    (acceptDescriptor f g d s).lines = s.lines ∧ (acceptDescriptor f g d s).accepted = s.accepted ∧
    (acceptDescriptor f g d s).garments = s.garments ∧ (acceptDescriptor f g d s).carousel = s.carousel ∧
    (acceptDescriptor f g d s).pretreat = s.pretreat ∧ (acceptDescriptor f g d s).press = s.press ∧
    (acceptDescriptor f g d s).staging = s.staging ∧ (acceptDescriptor f g d s).prints = s.prints ∧
    (acceptDescriptor f g d s).lanes = s.lanes ∧ (acceptDescriptor f g d s).flash = s.flash ∧
    (acceptDescriptor f g d s).dryer = s.dryer ∧ (acceptDescriptor f g d s).pack = s.pack ∧
    (acceptDescriptor f g d s).link = s.link ∧ (acceptDescriptor f g d s).exch = s.exch ∧
    (acceptDescriptor f g d s).reports = s.reports := by
  unfold acceptDescriptor
  try dsimp only
  (repeat' split) <;> simp

@[simp] theorem judgeDescriptor_frame (f : Fetch) (d : Descriptor) (s : State) :
    (judgeDescriptor f d s).pending = s.pending ∧ (judgeDescriptor f d s).clock = s.clock ∧
    (judgeDescriptor f d s).pins = s.pins ∧ (judgeDescriptor f d s).captures = s.captures ∧
    (judgeDescriptor f d s).buttons = s.buttons ∧ (judgeDescriptor f d s).ctl = s.ctl ∧
    (judgeDescriptor f d s).config = s.config ∧ (judgeDescriptor f d s).catalog = s.catalog ∧
    (judgeDescriptor f d s).staging = s.staging ∧ (judgeDescriptor f d s).dryer = s.dryer ∧
    (judgeDescriptor f d s).exch = s.exch := by
  unfold judgeDescriptor
  try dsimp only
  (repeat' split) <;> simp

@[simp] theorem descriptorRead_frame (f : Fetch) (r : ReadResult) (s : State) :
    (descriptorRead f r s).pending = s.pending ∧ (descriptorRead f r s).clock = s.clock ∧
    (descriptorRead f r s).pins = s.pins ∧ (descriptorRead f r s).captures = s.captures ∧
    (descriptorRead f r s).buttons = s.buttons ∧ (descriptorRead f r s).ctl = s.ctl ∧
    (descriptorRead f r s).config = s.config ∧ (descriptorRead f r s).catalog = s.catalog ∧
    (descriptorRead f r s).staging = s.staging ∧ (descriptorRead f r s).dryer = s.dryer ∧
    (descriptorRead f r s).exch = s.exch := by
  unfold descriptorRead
  try dsimp only
  (repeat' split) <;> simp

@[simp] theorem fetchDescriptor_frame (r : ReadResult) (s : State) :
    (fetchDescriptor r s).pending = s.pending ∧ (fetchDescriptor r s).clock = s.clock ∧
    (fetchDescriptor r s).pins = s.pins ∧ (fetchDescriptor r s).captures = s.captures ∧
    (fetchDescriptor r s).buttons = s.buttons ∧ (fetchDescriptor r s).ctl = s.ctl ∧
    (fetchDescriptor r s).config = s.config ∧ (fetchDescriptor r s).catalog = s.catalog ∧
    (fetchDescriptor r s).staging = s.staging ∧ (fetchDescriptor r s).dryer = s.dryer ∧
    (fetchDescriptor r s).exch = s.exch := by
  unfold fetchDescriptor
  try dsimp only
  (repeat' split) <;> simp

@[simp] theorem walkOn_frame (c : Fin 6) (d : Descriptor) (s : State) :
    (walkOn c d s).pending = s.pending ∧ (walkOn c d s).clock = s.clock ∧ (walkOn c d s).pins = s.pins ∧
    (walkOn c d s).captures = s.captures ∧ (walkOn c d s).buttons = s.buttons ∧ (walkOn c d s).ctl = s.ctl ∧
    (walkOn c d s).config = s.config ∧ (walkOn c d s).catalog = s.catalog ∧ (walkOn c d s).lines = s.lines ∧
    (walkOn c d s).accepted = s.accepted ∧ (walkOn c d s).garments = s.garments ∧
    (walkOn c d s).carousel = s.carousel ∧ (walkOn c d s).pretreat = s.pretreat ∧ (walkOn c d s).press = s.press ∧
    (walkOn c d s).staging = s.staging ∧ (walkOn c d s).port = s.port ∧ (walkOn c d s).prints = s.prints ∧
    (walkOn c d s).lanes = s.lanes ∧ (walkOn c d s).flash = s.flash ∧ (walkOn c d s).dryer = s.dryer ∧
    (walkOn c d s).pack = s.pack ∧ (walkOn c d s).link = s.link ∧ (walkOn c d s).exch = s.exch ∧
    (walkOn c d s).reports = s.reports := by
  unfold walkOn
  try dsimp only
  (repeat' split) <;> simp

@[simp] theorem stageBank_frame (c : Fin 6) (b : Fin 8) (s : State) :
    (stageBank c b s).pending = s.pending ∧ (stageBank c b s).clock = s.clock ∧ (stageBank c b s).pins = s.pins ∧
    (stageBank c b s).captures = s.captures ∧ (stageBank c b s).buttons = s.buttons ∧ (stageBank c b s).ctl = s.ctl ∧
    (stageBank c b s).config = s.config ∧ (stageBank c b s).catalog = s.catalog ∧ (stageBank c b s).lines = s.lines ∧
    (stageBank c b s).accepted = s.accepted ∧ (stageBank c b s).garments = s.garments ∧
    (stageBank c b s).carousel = s.carousel ∧ (stageBank c b s).pretreat = s.pretreat ∧
    (stageBank c b s).press = s.press ∧ (stageBank c b s).staging = s.staging ∧ (stageBank c b s).port = s.port ∧
    (stageBank c b s).prints = s.prints ∧ (stageBank c b s).lanes = s.lanes ∧ (stageBank c b s).flash = s.flash ∧
    (stageBank c b s).dryer = s.dryer ∧ (stageBank c b s).pack = s.pack ∧ (stageBank c b s).link = s.link ∧
    (stageBank c b s).exch = s.exch ∧ (stageBank c b s).reports = s.reports := by
  unfold stageBank
  try dsimp only
  (repeat' split) <;> simp

@[simp] theorem stageBand_frame (f : Fetch) (d : Descriptor) (s : State) :
    (stageBand f d s).pending = s.pending ∧ (stageBand f d s).clock = s.clock ∧ (stageBand f d s).pins = s.pins ∧
    (stageBand f d s).captures = s.captures ∧ (stageBand f d s).buttons = s.buttons ∧ (stageBand f d s).ctl = s.ctl ∧
    (stageBand f d s).config = s.config ∧ (stageBand f d s).catalog = s.catalog ∧ (stageBand f d s).lines = s.lines ∧
    (stageBand f d s).accepted = s.accepted ∧ (stageBand f d s).garments = s.garments ∧
    (stageBand f d s).carousel = s.carousel ∧ (stageBand f d s).pretreat = s.pretreat ∧
    (stageBand f d s).press = s.press ∧ (stageBand f d s).staging = s.staging ∧ (stageBand f d s).port = s.port ∧
    (stageBand f d s).prints = s.prints ∧ (stageBand f d s).lanes = s.lanes ∧ (stageBand f d s).flash = s.flash ∧
    (stageBand f d s).dryer = s.dryer ∧ (stageBand f d s).pack = s.pack ∧ (stageBand f d s).link = s.link ∧
    (stageBand f d s).exch = s.exch ∧ (stageBand f d s).reports = s.reports := by
  unfold stageBand
  try dsimp only
  (repeat' split) <;> simp

@[simp] theorem storeBurst_frame (b : Fin 8) (i : Nat) (bytes : List Byte) (s : State) :
    (storeBurst b i bytes s).pending = s.pending ∧ (storeBurst b i bytes s).clock = s.clock ∧
    (storeBurst b i bytes s).pins = s.pins ∧ (storeBurst b i bytes s).captures = s.captures ∧
    (storeBurst b i bytes s).buttons = s.buttons ∧ (storeBurst b i bytes s).ctl = s.ctl ∧
    (storeBurst b i bytes s).config = s.config ∧ (storeBurst b i bytes s).catalog = s.catalog ∧
    (storeBurst b i bytes s).lines = s.lines ∧ (storeBurst b i bytes s).accepted = s.accepted ∧
    (storeBurst b i bytes s).garments = s.garments ∧ (storeBurst b i bytes s).carousel = s.carousel ∧
    (storeBurst b i bytes s).pretreat = s.pretreat ∧ (storeBurst b i bytes s).press = s.press ∧
    (storeBurst b i bytes s).engine = s.engine ∧ (storeBurst b i bytes s).port = s.port ∧
    (storeBurst b i bytes s).prints = s.prints ∧ (storeBurst b i bytes s).lanes = s.lanes ∧
    (storeBurst b i bytes s).flash = s.flash ∧ (storeBurst b i bytes s).dryer = s.dryer ∧
    (storeBurst b i bytes s).pack = s.pack ∧ (storeBurst b i bytes s).link = s.link ∧
    (storeBurst b i bytes s).exch = s.exch ∧ (storeBurst b i bytes s).reports = s.reports := by
  unfold storeBurst
  try dsimp only
  (repeat' split) <;> simp

@[simp] theorem burstStored_frame (f : Fetch) (d : Descriptor) (i : Nat) (bytes : List Byte) (s : State) :
    (burstStored f d i bytes s).pending = s.pending ∧ (burstStored f d i bytes s).clock = s.clock ∧
    (burstStored f d i bytes s).pins = s.pins ∧ (burstStored f d i bytes s).captures = s.captures ∧
    (burstStored f d i bytes s).buttons = s.buttons ∧ (burstStored f d i bytes s).ctl = s.ctl ∧
    (burstStored f d i bytes s).config = s.config ∧ (burstStored f d i bytes s).catalog = s.catalog ∧
    (burstStored f d i bytes s).lines = s.lines ∧ (burstStored f d i bytes s).accepted = s.accepted ∧
    (burstStored f d i bytes s).garments = s.garments ∧ (burstStored f d i bytes s).carousel = s.carousel ∧
    (burstStored f d i bytes s).pretreat = s.pretreat ∧ (burstStored f d i bytes s).press = s.press ∧
    (burstStored f d i bytes s).prints = s.prints ∧ (burstStored f d i bytes s).lanes = s.lanes ∧
    (burstStored f d i bytes s).flash = s.flash ∧ (burstStored f d i bytes s).dryer = s.dryer ∧
    (burstStored f d i bytes s).pack = s.pack ∧ (burstStored f d i bytes s).link = s.link ∧
    (burstStored f d i bytes s).exch = s.exch ∧ (burstStored f d i bytes s).reports = s.reports := by
  unfold burstStored
  try dsimp only
  (repeat' split) <;> simp

@[simp] theorem burstRead_frame (f : Fetch) (d : Descriptor) (i : Nat) (r : ReadResult) (s : State) :
    (burstRead f d i r s).pending = s.pending ∧ (burstRead f d i r s).clock = s.clock ∧
    (burstRead f d i r s).pins = s.pins ∧ (burstRead f d i r s).captures = s.captures ∧
    (burstRead f d i r s).buttons = s.buttons ∧ (burstRead f d i r s).ctl = s.ctl ∧
    (burstRead f d i r s).config = s.config ∧ (burstRead f d i r s).catalog = s.catalog ∧
    (burstRead f d i r s).dryer = s.dryer ∧ (burstRead f d i r s).exch = s.exch := by
  unfold burstRead
  try dsimp only
  (repeat' split) <;> simp

@[simp] theorem fetchBurst_frame (r : ReadResult) (s : State) :
    (fetchBurst r s).pending = s.pending ∧ (fetchBurst r s).clock = s.clock ∧ (fetchBurst r s).pins = s.pins ∧
    (fetchBurst r s).captures = s.captures ∧ (fetchBurst r s).buttons = s.buttons ∧ (fetchBurst r s).ctl = s.ctl ∧
    (fetchBurst r s).config = s.config ∧ (fetchBurst r s).catalog = s.catalog ∧ (fetchBurst r s).dryer = s.dryer ∧
    (fetchBurst r s).exch = s.exch := by
  unfold fetchBurst
  try dsimp only
  (repeat' split) <;> simp

@[simp] theorem beginPrint_frame (u : Printer) (s : State) :
    (beginPrint u s).pending = s.pending ∧ (beginPrint u s).clock = s.clock ∧ (beginPrint u s).pins = s.pins ∧
    (beginPrint u s).captures = s.captures ∧ (beginPrint u s).buttons = s.buttons ∧ (beginPrint u s).ctl = s.ctl ∧
    (beginPrint u s).config = s.config ∧ (beginPrint u s).catalog = s.catalog ∧ (beginPrint u s).staging = s.staging ∧
    (beginPrint u s).port = s.port ∧ (beginPrint u s).dryer = s.dryer ∧ (beginPrint u s).exch = s.exch := by
  unfold beginPrint
  try dsimp only
  (repeat' split) <;> simp

@[simp] theorem readyLane_frame (g : GarmentId) (k : Nat) (s : State) (c : Fin 6) :
    (readyLane g k s c).pending = s.pending ∧ (readyLane g k s c).clock = s.clock ∧
    (readyLane g k s c).pins = s.pins ∧ (readyLane g k s c).captures = s.captures ∧
    (readyLane g k s c).buttons = s.buttons ∧ (readyLane g k s c).ctl = s.ctl ∧
    (readyLane g k s c).config = s.config ∧ (readyLane g k s c).catalog = s.catalog ∧
    (readyLane g k s c).lines = s.lines ∧ (readyLane g k s c).accepted = s.accepted ∧
    (readyLane g k s c).garments = s.garments ∧ (readyLane g k s c).carousel = s.carousel ∧
    (readyLane g k s c).pretreat = s.pretreat ∧ (readyLane g k s c).press = s.press ∧
    (readyLane g k s c).engine = s.engine ∧ (readyLane g k s c).staging = s.staging ∧
    (readyLane g k s c).port = s.port ∧ (readyLane g k s c).prints = s.prints ∧ (readyLane g k s c).flash = s.flash ∧
    (readyLane g k s c).dryer = s.dryer ∧ (readyLane g k s c).pack = s.pack ∧ (readyLane g k s c).link = s.link ∧
    (readyLane g k s c).exch = s.exch ∧ (readyLane g k s c).reports = s.reports := by
  unfold readyLane
  try dsimp only
  (repeat' split) <;> simp

@[simp] theorem startSwathOf_frame (u : Printer) (g : GarmentId) (s : State) :
    (startSwathOf u g s).pending = s.pending ∧ (startSwathOf u g s).clock = s.clock ∧
    (startSwathOf u g s).pins = s.pins ∧ (startSwathOf u g s).captures = s.captures ∧
    (startSwathOf u g s).buttons = s.buttons ∧ (startSwathOf u g s).ctl = s.ctl ∧
    (startSwathOf u g s).config = s.config ∧ (startSwathOf u g s).catalog = s.catalog ∧
    (startSwathOf u g s).staging = s.staging ∧ (startSwathOf u g s).port = s.port ∧
    (startSwathOf u g s).dryer = s.dryer ∧ (startSwathOf u g s).exch = s.exch := by
  unfold startSwathOf
  try dsimp only
  (repeat' split) <;> simp

@[simp] theorem startSwath_frame (u : Printer) (s : State) :
    (startSwath u s).pending = s.pending ∧ (startSwath u s).clock = s.clock ∧ (startSwath u s).pins = s.pins ∧
    (startSwath u s).captures = s.captures ∧ (startSwath u s).buttons = s.buttons ∧ (startSwath u s).ctl = s.ctl ∧
    (startSwath u s).config = s.config ∧ (startSwath u s).catalog = s.catalog ∧ (startSwath u s).staging = s.staging ∧
    (startSwath u s).port = s.port ∧ (startSwath u s).dryer = s.dryer ∧ (startSwath u s).exch = s.exch := by
  unfold startSwath
  try dsimp only
  (repeat' split) <;> simp

@[simp] theorem settleBank_frame (last : Bool) (b : Fin 8) (s : State) :
    (settleBank last b s).pending = s.pending ∧ (settleBank last b s).clock = s.clock ∧
    (settleBank last b s).pins = s.pins ∧ (settleBank last b s).captures = s.captures ∧
    (settleBank last b s).buttons = s.buttons ∧ (settleBank last b s).ctl = s.ctl ∧
    (settleBank last b s).config = s.config ∧ (settleBank last b s).catalog = s.catalog ∧
    (settleBank last b s).lines = s.lines ∧ (settleBank last b s).accepted = s.accepted ∧
    (settleBank last b s).garments = s.garments ∧ (settleBank last b s).carousel = s.carousel ∧
    (settleBank last b s).pretreat = s.pretreat ∧ (settleBank last b s).press = s.press ∧
    (settleBank last b s).staging = s.staging ∧ (settleBank last b s).port = s.port ∧
    (settleBank last b s).prints = s.prints ∧ (settleBank last b s).lanes = s.lanes ∧
    (settleBank last b s).flash = s.flash ∧ (settleBank last b s).dryer = s.dryer ∧
    (settleBank last b s).pack = s.pack ∧ (settleBank last b s).link = s.link ∧ (settleBank last b s).exch = s.exch ∧
    (settleBank last b s).reports = s.reports := by
  unfold settleBank
  try dsimp only
  (repeat' split) <;> simp

@[simp] theorem laneGoesOn_frame (c : Fin 6) (g : GarmentId) (r : Band) (last : Bool) (s : State) :
    (laneGoesOn c g r last s).pending = s.pending ∧ (laneGoesOn c g r last s).clock = s.clock ∧
    (laneGoesOn c g r last s).pins = s.pins ∧ (laneGoesOn c g r last s).captures = s.captures ∧
    (laneGoesOn c g r last s).buttons = s.buttons ∧ (laneGoesOn c g r last s).ctl = s.ctl ∧
    (laneGoesOn c g r last s).config = s.config ∧ (laneGoesOn c g r last s).catalog = s.catalog ∧
    (laneGoesOn c g r last s).lines = s.lines ∧ (laneGoesOn c g r last s).accepted = s.accepted ∧
    (laneGoesOn c g r last s).garments = s.garments ∧ (laneGoesOn c g r last s).carousel = s.carousel ∧
    (laneGoesOn c g r last s).pretreat = s.pretreat ∧ (laneGoesOn c g r last s).press = s.press ∧
    (laneGoesOn c g r last s).staging = s.staging ∧ (laneGoesOn c g r last s).port = s.port ∧
    (laneGoesOn c g r last s).prints = s.prints ∧ (laneGoesOn c g r last s).flash = s.flash ∧
    (laneGoesOn c g r last s).dryer = s.dryer ∧ (laneGoesOn c g r last s).pack = s.pack ∧
    (laneGoesOn c g r last s).link = s.link ∧ (laneGoesOn c g r last s).exch = s.exch ∧
    (laneGoesOn c g r last s).reports = s.reports := by
  unfold laneGoesOn
  try dsimp only
  (repeat' split) <;> simp

@[simp] theorem emitted_frame (u : Printer) (g : GarmentId) (c : Fin 6) (b : Fin 8) (r : Band) (s : State) :
    (emitted u g c b r s).pending = s.pending ∧ (emitted u g c b r s).clock = s.clock ∧
    (emitted u g c b r s).pins = s.pins ∧ (emitted u g c b r s).captures = s.captures ∧
    (emitted u g c b r s).buttons = s.buttons ∧ (emitted u g c b r s).ctl = s.ctl ∧
    (emitted u g c b r s).config = s.config ∧ (emitted u g c b r s).catalog = s.catalog ∧
    (emitted u g c b r s).lines = s.lines ∧ (emitted u g c b r s).accepted = s.accepted ∧
    (emitted u g c b r s).garments = s.garments ∧ (emitted u g c b r s).carousel = s.carousel ∧
    (emitted u g c b r s).pretreat = s.pretreat ∧ (emitted u g c b r s).press = s.press ∧
    (emitted u g c b r s).staging = s.staging ∧ (emitted u g c b r s).port = s.port ∧
    (emitted u g c b r s).flash = s.flash ∧ (emitted u g c b r s).dryer = s.dryer ∧
    (emitted u g c b r s).pack = s.pack ∧ (emitted u g c b r s).link = s.link ∧ (emitted u g c b r s).exch = s.exch ∧
    (emitted u g c b r s).reports = s.reports := by
  unfold emitted
  try dsimp only
  (repeat' split) <;> simp

@[simp] theorem endBand_frame (c : Fin 6) (s : State) :
    (endBand c s).pending = s.pending ∧ (endBand c s).clock = s.clock ∧ (endBand c s).pins = s.pins ∧
    (endBand c s).captures = s.captures ∧ (endBand c s).buttons = s.buttons ∧ (endBand c s).ctl = s.ctl ∧
    (endBand c s).config = s.config ∧ (endBand c s).catalog = s.catalog ∧ (endBand c s).lines = s.lines ∧
    (endBand c s).accepted = s.accepted ∧ (endBand c s).garments = s.garments ∧ (endBand c s).carousel = s.carousel ∧
    (endBand c s).pretreat = s.pretreat ∧ (endBand c s).press = s.press ∧ (endBand c s).staging = s.staging ∧
    (endBand c s).port = s.port ∧ (endBand c s).flash = s.flash ∧ (endBand c s).dryer = s.dryer ∧
    (endBand c s).pack = s.pack ∧ (endBand c s).link = s.link ∧ (endBand c s).exch = s.exch ∧
    (endBand c s).reports = s.reports := by
  unfold endBand
  try dsimp only
  (repeat' split) <;> simp

@[simp] theorem startExposure_frame (s : State) :
    (startExposure s).pending = s.pending ∧ (startExposure s).clock = s.clock ∧ (startExposure s).pins = s.pins ∧
    (startExposure s).captures = s.captures ∧ (startExposure s).buttons = s.buttons ∧ (startExposure s).ctl = s.ctl ∧
    (startExposure s).config = s.config ∧ (startExposure s).catalog = s.catalog ∧
    (startExposure s).staging = s.staging ∧ (startExposure s).port = s.port ∧ (startExposure s).dryer = s.dryer ∧
    (startExposure s).exch = s.exch := by
  unfold startExposure
  try dsimp only
  (repeat' split) <;> simp

@[simp] theorem flashTickOf_frame (g : Fin 32) (s : State) :
    (flashTickOf g s).pending = s.pending ∧ (flashTickOf g s).clock = s.clock ∧ (flashTickOf g s).pins = s.pins ∧
    (flashTickOf g s).captures = s.captures ∧ (flashTickOf g s).buttons = s.buttons ∧ (flashTickOf g s).ctl = s.ctl ∧
    (flashTickOf g s).config = s.config ∧ (flashTickOf g s).catalog = s.catalog ∧ (flashTickOf g s).lines = s.lines ∧
    (flashTickOf g s).accepted = s.accepted ∧ (flashTickOf g s).pretreat = s.pretreat ∧
    (flashTickOf g s).press = s.press ∧ (flashTickOf g s).engine = s.engine ∧ (flashTickOf g s).staging = s.staging ∧
    (flashTickOf g s).port = s.port ∧ (flashTickOf g s).prints = s.prints ∧ (flashTickOf g s).lanes = s.lanes ∧
    (flashTickOf g s).pack = s.pack ∧ (flashTickOf g s).exch = s.exch ∧ (flashTickOf g s).reports = s.reports := by
  unfold flashTickOf
  try dsimp only
  (repeat' split) <;> simp

@[simp] theorem flashTick_frame (s : State) :
    (flashTick s).pending = s.pending ∧ (flashTick s).clock = s.clock ∧ (flashTick s).pins = s.pins ∧
    (flashTick s).captures = s.captures ∧ (flashTick s).buttons = s.buttons ∧ (flashTick s).ctl = s.ctl ∧
    (flashTick s).config = s.config ∧ (flashTick s).catalog = s.catalog ∧ (flashTick s).lines = s.lines ∧
    (flashTick s).accepted = s.accepted ∧ (flashTick s).pretreat = s.pretreat ∧ (flashTick s).press = s.press ∧
    (flashTick s).engine = s.engine ∧ (flashTick s).staging = s.staging ∧ (flashTick s).port = s.port ∧
    (flashTick s).prints = s.prints ∧ (flashTick s).lanes = s.lanes ∧ (flashTick s).pack = s.pack ∧
    (flashTick s).exch = s.exch ∧ (flashTick s).reports = s.reports := by
  unfold flashTick
  try dsimp only
  (repeat' split) <;> simp

@[simp] theorem setNextTick_frame (s : State) :
    (setNextTick s).pending = s.pending ∧ (setNextTick s).clock = s.clock ∧ (setNextTick s).pins = s.pins ∧
    (setNextTick s).captures = s.captures ∧ (setNextTick s).buttons = s.buttons ∧ (setNextTick s).ctl = s.ctl ∧
    (setNextTick s).config = s.config ∧ (setNextTick s).catalog = s.catalog ∧ (setNextTick s).lines = s.lines ∧
    (setNextTick s).accepted = s.accepted ∧ (setNextTick s).garments = s.garments ∧
    (setNextTick s).carousel = s.carousel ∧ (setNextTick s).pretreat = s.pretreat ∧ (setNextTick s).press = s.press ∧
    (setNextTick s).engine = s.engine ∧ (setNextTick s).staging = s.staging ∧ (setNextTick s).port = s.port ∧
    (setNextTick s).prints = s.prints ∧ (setNextTick s).lanes = s.lanes ∧ (setNextTick s).flash = s.flash ∧
    (setNextTick s).pack = s.pack ∧ (setNextTick s).link = s.link ∧ (setNextTick s).exch = s.exch ∧
    (setNextTick s).reports = s.reports := by
  unfold setNextTick
  try dsimp only
  (repeat' split) <;> simp

@[simp] theorem dryerTick_frame (s : State) :
    (dryerTick s).pending = s.pending ∧ (dryerTick s).clock = s.clock ∧ (dryerTick s).pins = s.pins ∧
    (dryerTick s).captures = s.captures ∧ (dryerTick s).buttons = s.buttons ∧ (dryerTick s).config = s.config ∧
    (dryerTick s).catalog = s.catalog ∧ (dryerTick s).lines = s.lines ∧ (dryerTick s).accepted = s.accepted ∧
    (dryerTick s).pretreat = s.pretreat ∧ (dryerTick s).press = s.press ∧ (dryerTick s).engine = s.engine ∧
    (dryerTick s).staging = s.staging ∧ (dryerTick s).port = s.port ∧ (dryerTick s).prints = s.prints ∧
    (dryerTick s).lanes = s.lanes ∧ (dryerTick s).pack = s.pack ∧ (dryerTick s).exch = s.exch := by
  unfold dryerTick
  try dsimp only
  (repeat' split) <;> simp

@[simp] theorem expireTransfer_frame (g : Fin 32) (s : State) :
    (expireTransfer g s).pending = s.pending ∧ (expireTransfer g s).clock = s.clock ∧
    (expireTransfer g s).pins = s.pins ∧ (expireTransfer g s).captures = s.captures ∧
    (expireTransfer g s).buttons = s.buttons ∧ (expireTransfer g s).ctl = s.ctl ∧
    (expireTransfer g s).config = s.config ∧ (expireTransfer g s).catalog = s.catalog ∧
    (expireTransfer g s).staging = s.staging ∧ (expireTransfer g s).port = s.port ∧ (expireTransfer g s).exch = s.exch := by
  unfold expireTransfer
  try dsimp only
  (repeat' split) <;> simp

@[simp] theorem warmupEnds_frame (s : State) :
    (warmupEnds s).pending = s.pending ∧ (warmupEnds s).clock = s.clock ∧ (warmupEnds s).pins = s.pins ∧
    (warmupEnds s).captures = s.captures ∧ (warmupEnds s).buttons = s.buttons ∧ (warmupEnds s).config = s.config ∧
    (warmupEnds s).catalog = s.catalog ∧ (warmupEnds s).lines = s.lines ∧ (warmupEnds s).accepted = s.accepted ∧
    (warmupEnds s).garments = s.garments ∧ (warmupEnds s).pretreat = s.pretreat ∧ (warmupEnds s).press = s.press ∧
    (warmupEnds s).engine = s.engine ∧ (warmupEnds s).staging = s.staging ∧ (warmupEnds s).port = s.port ∧
    (warmupEnds s).prints = s.prints ∧ (warmupEnds s).lanes = s.lanes ∧ (warmupEnds s).pack = s.pack ∧
    (warmupEnds s).exch = s.exch := by
  unfold warmupEnds
  try dsimp only
  (repeat' split) <;> simp

@[simp] theorem takeRun_frame (bytes : List Byte) (s : State) :
    (takeRun bytes s).pending = s.pending ∧ (takeRun bytes s).clock = s.clock ∧ (takeRun bytes s).pins = s.pins ∧
    (takeRun bytes s).captures = s.captures ∧ (takeRun bytes s).buttons = s.buttons ∧
    (takeRun bytes s).staging = s.staging ∧ (takeRun bytes s).port = s.port ∧ (takeRun bytes s).exch = s.exch := by
  unfold takeRun
  try dsimp only
  (repeat' split) <;> simp

@[simp] theorem pendRun_frame (s : State) :
    (pendRun s).pending = s.pending ∧ (pendRun s).clock = s.clock ∧ (pendRun s).pins = s.pins ∧
    (pendRun s).captures = s.captures ∧ (pendRun s).buttons = s.buttons ∧ (pendRun s).config = s.config ∧
    (pendRun s).catalog = s.catalog ∧ (pendRun s).lines = s.lines ∧ (pendRun s).accepted = s.accepted ∧
    (pendRun s).garments = s.garments ∧ (pendRun s).pretreat = s.pretreat ∧ (pendRun s).press = s.press ∧
    (pendRun s).engine = s.engine ∧ (pendRun s).staging = s.staging ∧ (pendRun s).port = s.port ∧
    (pendRun s).prints = s.prints ∧ (pendRun s).lanes = s.lanes ∧ (pendRun s).flash = s.flash ∧
    (pendRun s).dryer = s.dryer ∧ (pendRun s).pack = s.pack ∧ (pendRun s).link = s.link ∧ (pendRun s).exch = s.exch ∧
    (pendRun s).reports = s.reports := by
  unfold pendRun
  try dsimp only
  (repeat' split) <;> simp

@[simp] theorem answerHold_frame (bytes : List Byte) (s : State) :
    (answerHold bytes s).pending = s.pending ∧ (answerHold bytes s).clock = s.clock ∧
    (answerHold bytes s).pins = s.pins ∧ (answerHold bytes s).captures = s.captures ∧
    (answerHold bytes s).buttons = s.buttons ∧ (answerHold bytes s).staging = s.staging ∧
    (answerHold bytes s).port = s.port ∧ (answerHold bytes s).exch = s.exch := by
  unfold answerHold
  try dsimp only
  (repeat' split) <;> simp

@[simp] theorem clearConfig_frame (s : State) :
    (clearConfig s).pending = s.pending ∧ (clearConfig s).clock = s.clock ∧ (clearConfig s).pins = s.pins ∧
    (clearConfig s).captures = s.captures ∧ (clearConfig s).buttons = s.buttons ∧ (clearConfig s).config = s.config ∧
    (clearConfig s).catalog = s.catalog ∧ (clearConfig s).lines = s.lines ∧ (clearConfig s).accepted = s.accepted ∧
    (clearConfig s).garments = s.garments ∧ (clearConfig s).carousel = s.carousel ∧
    (clearConfig s).pretreat = s.pretreat ∧ (clearConfig s).press = s.press ∧ (clearConfig s).engine = s.engine ∧
    (clearConfig s).staging = s.staging ∧ (clearConfig s).port = s.port ∧ (clearConfig s).prints = s.prints ∧
    (clearConfig s).lanes = s.lanes ∧ (clearConfig s).flash = s.flash ∧ (clearConfig s).dryer = s.dryer ∧
    (clearConfig s).pack = s.pack ∧ (clearConfig s).link = s.link ∧ (clearConfig s).exch = s.exch := by
  unfold clearConfig
  try dsimp only
  (repeat' split) <;> simp

@[simp] theorem passRun_frame (bytes : List Byte) (s : State) :
    (passRun bytes s).pending = s.pending ∧ (passRun bytes s).clock = s.clock ∧ (passRun bytes s).pins = s.pins ∧
    (passRun bytes s).captures = s.captures ∧ (passRun bytes s).buttons = s.buttons ∧
    (passRun bytes s).staging = s.staging ∧ (passRun bytes s).port = s.port ∧ (passRun bytes s).exch = s.exch := by
  unfold passRun
  try dsimp only
  (repeat' split) <;> simp

@[simp] theorem checkRun_frame (bytes : List Byte) (s : State) :
    (checkRun bytes s).pending = s.pending ∧ (checkRun bytes s).clock = s.clock ∧ (checkRun bytes s).pins = s.pins ∧
    (checkRun bytes s).captures = s.captures ∧ (checkRun bytes s).buttons = s.buttons ∧
    (checkRun bytes s).staging = s.staging ∧ (checkRun bytes s).port = s.port ∧ (checkRun bytes s).exch = s.exch := by
  unfold checkRun
  try dsimp only
  (repeat' split) <;> simp

@[simp] theorem judgeRun_frame (r : ReadResult) (s : State) :
    (judgeRun r s).pending = s.pending ∧ (judgeRun r s).clock = s.clock ∧ (judgeRun r s).pins = s.pins ∧
    (judgeRun r s).captures = s.captures ∧ (judgeRun r s).buttons = s.buttons ∧ (judgeRun r s).staging = s.staging ∧
    (judgeRun r s).port = s.port ∧ (judgeRun r s).exch = s.exch := by
  unfold judgeRun
  try dsimp only
  (repeat' split) <;> simp

@[simp] theorem snapshotEnds_frame (dropped : Bool) (r : ReadResult) (s : State) :
    (snapshotEnds dropped r s).pending = s.pending ∧ (snapshotEnds dropped r s).clock = s.clock ∧
    (snapshotEnds dropped r s).pins = s.pins ∧ (snapshotEnds dropped r s).captures = s.captures ∧
    (snapshotEnds dropped r s).buttons = s.buttons ∧ (snapshotEnds dropped r s).staging = s.staging ∧
    (snapshotEnds dropped r s).port = s.port := by
  unfold snapshotEnds
  try dsimp only
  (repeat' split) <;> simp

@[simp] theorem snapshotRead_frame (got : List Byte) (dropped : Bool) (r : ReadResult) (s : State) :
    (snapshotRead got dropped r s).pending = s.pending ∧ (snapshotRead got dropped r s).clock = s.clock ∧
    (snapshotRead got dropped r s).pins = s.pins ∧ (snapshotRead got dropped r s).captures = s.captures ∧
    (snapshotRead got dropped r s).buttons = s.buttons ∧ (snapshotRead got dropped r s).staging = s.staging := by
  unfold snapshotRead
  try dsimp only
  (repeat' split) <;> simp

@[simp] theorem snapshotOutcome_frame (r : ReadResult) (s : State) :
    (snapshotOutcome r s).pending = s.pending ∧ (snapshotOutcome r s).clock = s.clock ∧
    (snapshotOutcome r s).pins = s.pins ∧ (snapshotOutcome r s).captures = s.captures ∧
    (snapshotOutcome r s).buttons = s.buttons ∧ (snapshotOutcome r s).staging = s.staging := by
  unfold snapshotOutcome
  try dsimp only
  (repeat' split) <;> simp

@[simp] theorem attachEnds_frame (r : ReadResult) (s : State) :
    (attachEnds r s).pending = s.pending ∧ (attachEnds r s).clock = s.clock ∧ (attachEnds r s).pins = s.pins ∧
    (attachEnds r s).captures = s.captures ∧ (attachEnds r s).buttons = s.buttons ∧
    (attachEnds r s).catalog = s.catalog ∧ (attachEnds r s).lines = s.lines ∧ (attachEnds r s).accepted = s.accepted ∧
    (attachEnds r s).garments = s.garments ∧ (attachEnds r s).press = s.press ∧ (attachEnds r s).engine = s.engine ∧
    (attachEnds r s).staging = s.staging ∧ (attachEnds r s).prints = s.prints ∧ (attachEnds r s).lanes = s.lanes ∧
    (attachEnds r s).pack = s.pack := by
  unfold attachEnds
  try dsimp only
  (repeat' split) <;> simp

@[simp] theorem headerWritten_frame (r : WriteResult) (s : State) :
    (headerWritten r s).pending = s.pending ∧ (headerWritten r s).clock = s.clock ∧
    (headerWritten r s).pins = s.pins ∧ (headerWritten r s).captures = s.captures ∧
    (headerWritten r s).buttons = s.buttons ∧ (headerWritten r s).ctl = s.ctl ∧
    (headerWritten r s).config = s.config ∧ (headerWritten r s).catalog = s.catalog ∧
    (headerWritten r s).lines = s.lines ∧ (headerWritten r s).accepted = s.accepted ∧
    (headerWritten r s).garments = s.garments ∧ (headerWritten r s).carousel = s.carousel ∧
    (headerWritten r s).pretreat = s.pretreat ∧ (headerWritten r s).press = s.press ∧
    (headerWritten r s).engine = s.engine ∧ (headerWritten r s).staging = s.staging ∧
    (headerWritten r s).port = s.port ∧ (headerWritten r s).prints = s.prints ∧ (headerWritten r s).lanes = s.lanes ∧
    (headerWritten r s).flash = s.flash ∧ (headerWritten r s).dryer = s.dryer ∧ (headerWritten r s).pack = s.pack ∧
    (headerWritten r s).link = s.link := by
  unfold headerWritten
  try dsimp only
  (repeat' split) <;> simp

@[simp] theorem sweepTimerEnds_frame (s : State) :
    (sweepTimerEnds s).pending = s.pending ∧ (sweepTimerEnds s).clock = s.clock ∧ (sweepTimerEnds s).pins = s.pins ∧
    (sweepTimerEnds s).captures = s.captures ∧ (sweepTimerEnds s).buttons = s.buttons ∧
    (sweepTimerEnds s).ctl = s.ctl ∧ (sweepTimerEnds s).config = s.config ∧ (sweepTimerEnds s).catalog = s.catalog ∧
    (sweepTimerEnds s).lines = s.lines ∧ (sweepTimerEnds s).accepted = s.accepted ∧
    (sweepTimerEnds s).garments = s.garments ∧ (sweepTimerEnds s).carousel = s.carousel ∧
    (sweepTimerEnds s).pretreat = s.pretreat ∧ (sweepTimerEnds s).press = s.press ∧
    (sweepTimerEnds s).engine = s.engine ∧ (sweepTimerEnds s).staging = s.staging ∧ (sweepTimerEnds s).port = s.port ∧
    (sweepTimerEnds s).prints = s.prints ∧ (sweepTimerEnds s).lanes = s.lanes ∧ (sweepTimerEnds s).flash = s.flash ∧
    (sweepTimerEnds s).dryer = s.dryer ∧ (sweepTimerEnds s).pack = s.pack ∧ (sweepTimerEnds s).link = s.link ∧
    (sweepTimerEnds s).reports = s.reports := by
  unfold sweepTimerEnds
  try dsimp only
  (repeat' split) <;> simp

@[simp] theorem serveSnapshot_frame (s : State) :
    (serveSnapshot s).pending = s.pending ∧ (serveSnapshot s).clock = s.clock ∧ (serveSnapshot s).pins = s.pins ∧
    (serveSnapshot s).captures = s.captures ∧ (serveSnapshot s).buttons = s.buttons ∧ (serveSnapshot s).ctl = s.ctl ∧
    (serveSnapshot s).config = s.config ∧ (serveSnapshot s).catalog = s.catalog ∧ (serveSnapshot s).lines = s.lines ∧
    (serveSnapshot s).accepted = s.accepted ∧ (serveSnapshot s).garments = s.garments ∧
    (serveSnapshot s).carousel = s.carousel ∧ (serveSnapshot s).pretreat = s.pretreat ∧
    (serveSnapshot s).press = s.press ∧ (serveSnapshot s).engine = s.engine ∧ (serveSnapshot s).staging = s.staging ∧
    (serveSnapshot s).prints = s.prints ∧ (serveSnapshot s).lanes = s.lanes ∧ (serveSnapshot s).flash = s.flash ∧
    (serveSnapshot s).dryer = s.dryer ∧ (serveSnapshot s).pack = s.pack ∧ (serveSnapshot s).link = s.link ∧
    (serveSnapshot s).reports = s.reports := by
  unfold serveSnapshot
  try dsimp only
  (repeat' split) <;> simp

@[simp] theorem serveNudge_frame (v : Byte) (s : State) :
    (serveNudge v s).pending = s.pending ∧ (serveNudge v s).clock = s.clock ∧ (serveNudge v s).pins = s.pins ∧
    (serveNudge v s).captures = s.captures ∧ (serveNudge v s).buttons = s.buttons ∧ (serveNudge v s).ctl = s.ctl ∧
    (serveNudge v s).config = s.config ∧ (serveNudge v s).catalog = s.catalog ∧ (serveNudge v s).lines = s.lines ∧
    (serveNudge v s).accepted = s.accepted ∧ (serveNudge v s).garments = s.garments ∧
    (serveNudge v s).carousel = s.carousel ∧ (serveNudge v s).pretreat = s.pretreat ∧
    (serveNudge v s).press = s.press ∧ (serveNudge v s).engine = s.engine ∧ (serveNudge v s).staging = s.staging ∧
    (serveNudge v s).prints = s.prints ∧ (serveNudge v s).lanes = s.lanes ∧ (serveNudge v s).flash = s.flash ∧
    (serveNudge v s).dryer = s.dryer ∧ (serveNudge v s).pack = s.pack ∧ (serveNudge v s).link = s.link ∧
    (serveNudge v s).reports = s.reports := by
  unfold serveNudge
  try dsimp only
  (repeat' split) <;> simp

@[simp] theorem serveSweep_frame (k : Nat) (s : State) :
    (serveSweep k s).pending = s.pending ∧ (serveSweep k s).clock = s.clock ∧ (serveSweep k s).pins = s.pins ∧
    (serveSweep k s).captures = s.captures ∧ (serveSweep k s).buttons = s.buttons ∧ (serveSweep k s).ctl = s.ctl ∧
    (serveSweep k s).config = s.config ∧ (serveSweep k s).catalog = s.catalog ∧ (serveSweep k s).lines = s.lines ∧
    (serveSweep k s).accepted = s.accepted ∧ (serveSweep k s).garments = s.garments ∧
    (serveSweep k s).carousel = s.carousel ∧ (serveSweep k s).pretreat = s.pretreat ∧
    (serveSweep k s).press = s.press ∧ (serveSweep k s).engine = s.engine ∧ (serveSweep k s).staging = s.staging ∧
    (serveSweep k s).prints = s.prints ∧ (serveSweep k s).lanes = s.lanes ∧ (serveSweep k s).flash = s.flash ∧
    (serveSweep k s).dryer = s.dryer ∧ (serveSweep k s).pack = s.pack ∧ (serveSweep k s).link = s.link ∧
    (serveSweep k s).reports = s.reports := by
  unfold serveSweep
  try dsimp only
  (repeat' split) <;> simp

@[simp] theorem serveNext_frame (s : State) :
    (serveNext s).pending = s.pending ∧ (serveNext s).clock = s.clock ∧ (serveNext s).pins = s.pins ∧
    (serveNext s).captures = s.captures ∧ (serveNext s).buttons = s.buttons ∧ (serveNext s).ctl = s.ctl ∧
    (serveNext s).config = s.config ∧ (serveNext s).catalog = s.catalog ∧ (serveNext s).lines = s.lines ∧
    (serveNext s).accepted = s.accepted ∧ (serveNext s).garments = s.garments ∧ (serveNext s).carousel = s.carousel ∧
    (serveNext s).pretreat = s.pretreat ∧ (serveNext s).press = s.press ∧ (serveNext s).engine = s.engine ∧
    (serveNext s).staging = s.staging ∧ (serveNext s).prints = s.prints ∧ (serveNext s).lanes = s.lanes ∧
    (serveNext s).flash = s.flash ∧ (serveNext s).dryer = s.dryer ∧ (serveNext s).pack = s.pack ∧
    (serveNext s).link = s.link ∧ (serveNext s).reports = s.reports := by
  unfold serveNext
  try dsimp only
  (repeat' split) <;> simp

@[simp] theorem catalogRead_frame (r : ReadResult) (s : State) :
    (catalogRead r s).pending = s.pending ∧ (catalogRead r s).clock = s.clock ∧ (catalogRead r s).pins = s.pins ∧
    (catalogRead r s).captures = s.captures ∧ (catalogRead r s).buttons = s.buttons ∧ (catalogRead r s).ctl = s.ctl ∧
    (catalogRead r s).config = s.config ∧ (catalogRead r s).catalog = s.catalog ∧
    (catalogRead r s).garments = s.garments ∧ (catalogRead r s).carousel = s.carousel ∧
    (catalogRead r s).pretreat = s.pretreat ∧ (catalogRead r s).press = s.press ∧
    (catalogRead r s).engine = s.engine ∧ (catalogRead r s).staging = s.staging ∧ (catalogRead r s).port = s.port ∧
    (catalogRead r s).prints = s.prints ∧ (catalogRead r s).lanes = s.lanes ∧ (catalogRead r s).flash = s.flash ∧
    (catalogRead r s).dryer = s.dryer ∧ (catalogRead r s).link = s.link := by
  unfold catalogRead
  try dsimp only
  (repeat' split) <;> simp

@[simp] theorem refillOutcome_frame (r : ReadResult) (s : State) :
    (refillOutcome r s).pending = s.pending ∧ (refillOutcome r s).clock = s.clock ∧
    (refillOutcome r s).pins = s.pins ∧ (refillOutcome r s).captures = s.captures ∧
    (refillOutcome r s).buttons = s.buttons ∧ (refillOutcome r s).ctl = s.ctl ∧
    (refillOutcome r s).config = s.config ∧ (refillOutcome r s).catalog = s.catalog ∧
    (refillOutcome r s).lines = s.lines ∧ (refillOutcome r s).accepted = s.accepted ∧
    (refillOutcome r s).garments = s.garments ∧ (refillOutcome r s).carousel = s.carousel ∧
    (refillOutcome r s).press = s.press ∧ (refillOutcome r s).engine = s.engine ∧
    (refillOutcome r s).staging = s.staging ∧ (refillOutcome r s).port = s.port ∧
    (refillOutcome r s).prints = s.prints ∧ (refillOutcome r s).lanes = s.lanes ∧
    (refillOutcome r s).flash = s.flash ∧ (refillOutcome r s).dryer = s.dryer ∧ (refillOutcome r s).pack = s.pack ∧
    (refillOutcome r s).link = s.link := by
  unfold refillOutcome
  try dsimp only
  (repeat' split) <;> simp

@[simp] theorem refillEnds_frame (r : ReadResult) (s : State) :
    (refillEnds r s).pending = s.pending ∧ (refillEnds r s).clock = s.clock ∧ (refillEnds r s).pins = s.pins ∧
    (refillEnds r s).captures = s.captures ∧ (refillEnds r s).buttons = s.buttons ∧ (refillEnds r s).ctl = s.ctl ∧
    (refillEnds r s).config = s.config ∧ (refillEnds r s).catalog = s.catalog ∧ (refillEnds r s).lines = s.lines ∧
    (refillEnds r s).accepted = s.accepted ∧ (refillEnds r s).garments = s.garments ∧
    (refillEnds r s).carousel = s.carousel ∧ (refillEnds r s).press = s.press ∧ (refillEnds r s).engine = s.engine ∧
    (refillEnds r s).staging = s.staging ∧ (refillEnds r s).port = s.port ∧ (refillEnds r s).prints = s.prints ∧
    (refillEnds r s).lanes = s.lanes ∧ (refillEnds r s).flash = s.flash ∧ (refillEnds r s).dryer = s.dryer ∧
    (refillEnds r s).pack = s.pack ∧ (refillEnds r s).link = s.link := by
  unfold refillEnds
  try dsimp only
  (repeat' split) <;> simp

@[simp] theorem startReport_frame (s : State) :
    (startReport s).pending = s.pending ∧ (startReport s).clock = s.clock ∧ (startReport s).pins = s.pins ∧
    (startReport s).captures = s.captures ∧ (startReport s).buttons = s.buttons ∧ (startReport s).ctl = s.ctl ∧
    (startReport s).config = s.config ∧ (startReport s).catalog = s.catalog ∧ (startReport s).lines = s.lines ∧
    (startReport s).accepted = s.accepted ∧ (startReport s).garments = s.garments ∧
    (startReport s).carousel = s.carousel ∧ (startReport s).pretreat = s.pretreat ∧ (startReport s).press = s.press ∧
    (startReport s).engine = s.engine ∧ (startReport s).staging = s.staging ∧ (startReport s).prints = s.prints ∧
    (startReport s).lanes = s.lanes ∧ (startReport s).flash = s.flash ∧ (startReport s).dryer = s.dryer ∧
    (startReport s).pack = s.pack ∧ (startReport s).link = s.link ∧ (startReport s).exch = s.exch := by
  unfold startReport
  try dsimp only
  (repeat' split) <;> simp

@[simp] theorem endReport_frame (r : WriteResult) (s : State) :
    (endReport r s).pending = s.pending ∧ (endReport r s).clock = s.clock ∧ (endReport r s).pins = s.pins ∧
    (endReport r s).captures = s.captures ∧ (endReport r s).buttons = s.buttons ∧ (endReport r s).ctl = s.ctl ∧
    (endReport r s).config = s.config ∧ (endReport r s).catalog = s.catalog ∧ (endReport r s).lines = s.lines ∧
    (endReport r s).accepted = s.accepted ∧ (endReport r s).garments = s.garments ∧
    (endReport r s).carousel = s.carousel ∧ (endReport r s).pretreat = s.pretreat ∧ (endReport r s).press = s.press ∧
    (endReport r s).engine = s.engine ∧ (endReport r s).staging = s.staging ∧ (endReport r s).port = s.port ∧
    (endReport r s).prints = s.prints ∧ (endReport r s).lanes = s.lanes ∧ (endReport r s).flash = s.flash ∧
    (endReport r s).dryer = s.dryer ∧ (endReport r s).pack = s.pack ∧ (endReport r s).link = s.link := by
  unfold endReport
  try dsimp only
  (repeat' split) <;> simp

end Sys2Proof.Machine
end

