-- ==== Sys2Proof/Laws/Tables.lean ====
section
/-! SUPPORT. The tables of the state: reading an entry after an entry was replaced. -/

namespace Sys2Proof.Machine

/-- Reading a table after one entry was replaced. -/
theorem Tbl.at_put {n : Nat} {α : Type} (t : Tbl n α) (i j : Fin n) (a : α) :
    Tbl.at (Tbl.put t i a) j = if i = j then a else Tbl.at t j := by
  unfold Tbl.at Tbl.put
  simp only [Fin.getElem_fin, Vector.getElem_set, Fin.ext_iff]

/-- The entry that was replaced. -/
@[simp] theorem Tbl.at_put_self {n : Nat} {α : Type} (t : Tbl n α) (i : Fin n) (a : α) : Tbl.at (Tbl.put t i a) i = a := by
  rw [Tbl.at_put, if_pos rfl]

/-- Another entry. -/
theorem Tbl.at_put_ne {n : Nat} {α : Type} (t : Tbl n α) {i j : Fin n} (a : α) (h : i ≠ j) :
    Tbl.at (Tbl.put t i a) j = Tbl.at t j := by
  rw [Tbl.at_put, if_neg h]

/-- A table with one entry everywhere. -/
@[simp] theorem Tbl.at_all {n : Nat} {α : Type} (a : α) (i : Fin n) : Tbl.at (Tbl.all a : Tbl n α) i = a := by
  simp [Tbl.at, Tbl.all]

/-- A table given by its entries. -/
@[simp] theorem Tbl.at_ofFn {n : Nat} {α : Type} (f : Fin n → α) (i : Fin n) : Tbl.at (Vector.ofFn f : Tbl n α) i = f i := by
  simp [Tbl.at]

theorem roleNum_inj {a b : Role} : roleNum a = roleNum b ↔ a = b := by cases a <;> cases b <;> decide
theorem requesterNum_inj {a b : Requester} : requesterNum a = requesterNum b ↔ a = b := by
  cases a <;> cases b <;> decide
theorem printerNum_inj {a b : Printer} : printerNum a = printerNum b ↔ a = b := by cases a <;> cases b <;> decide
theorem captureNum_inj {a b : CaptureInput} : captureNum a = captureNum b ↔ a = b := by
  cases a <;> cases b <;> decide
theorem buttonNum_inj {a b : Button} : buttonNum a = buttonNum b ↔ a = b := by cases a <;> cases b <;> decide

/-- `lineAt` after `putLine`. -/
theorem lineAt_putLine (i j : Fin 128) (v : LineEntry) (s : State) :
    lineAt (putLine i v s) j = if i = j then v else lineAt s j := by
  simp [lineAt, putLine, Tbl.at_put]

@[simp] theorem lineAt_putLine_self (i : Fin 128) (v : LineEntry) (s : State) : lineAt (putLine i v s) i = v := by
  rw [lineAt_putLine, if_pos rfl]

theorem lineAt_putLine_ne {i j : Fin 128} (v : LineEntry) (s : State) (h : i ≠ j) : lineAt (putLine i v s) j = lineAt s j := by
  rw [lineAt_putLine, if_neg h]

/-- `platenOf` after `putPlaten`. -/
theorem platenOf_putPlaten (i j : Fin 12) (v : Platen) (s : State) :
    platenOf (putPlaten i v s) j = if i = j then v else platenOf s j := by
  simp [platenOf, putPlaten, Tbl.at_put]

@[simp] theorem platenOf_putPlaten_self (i : Fin 12) (v : Platen) (s : State) : platenOf (putPlaten i v s) i = v := by
  rw [platenOf_putPlaten, if_pos rfl]

theorem platenOf_putPlaten_ne {i j : Fin 12} (v : Platen) (s : State) (h : i ≠ j) : platenOf (putPlaten i v s) j = platenOf s j := by
  rw [platenOf_putPlaten, if_neg h]

/-- `walkerAt` after `putWalker`. -/
theorem walkerAt_putWalker (i j : Fin 6) (v : Walker) (s : State) :
    walkerAt (putWalker i v s) j = if i = j then v else walkerAt s j := by
  simp [walkerAt, putWalker, Tbl.at_put]

@[simp] theorem walkerAt_putWalker_self (i : Fin 6) (v : Walker) (s : State) : walkerAt (putWalker i v s) i = v := by
  rw [walkerAt_putWalker, if_pos rfl]

theorem walkerAt_putWalker_ne {i j : Fin 6} (v : Walker) (s : State) (h : i ≠ j) : walkerAt (putWalker i v s) j = walkerAt s j := by
  rw [walkerAt_putWalker, if_neg h]

/-- `bankAt` after `putBank`. -/
theorem bankAt_putBank (i j : Fin 8) (v : Bank) (s : State) :
    bankAt (putBank i v s) j = if i = j then v else bankAt s j := by
  simp [bankAt, putBank, Tbl.at_put]

@[simp] theorem bankAt_putBank_self (i : Fin 8) (v : Bank) (s : State) : bankAt (putBank i v s) i = v := by
  rw [bankAt_putBank, if_pos rfl]

theorem bankAt_putBank_ne {i j : Fin 8} (v : Bank) (s : State) (h : i ≠ j) : bankAt (putBank i v s) j = bankAt s j := by
  rw [bankAt_putBank, if_neg h]

/-- `stagedAt` after `putStaged`. -/
theorem stagedAt_putStaged (i j : Fin 6) (v : List (Fin 8)) (s : State) :
    stagedAt (putStaged i v s) j = if i = j then v else stagedAt s j := by
  simp [stagedAt, putStaged, Tbl.at_put]

@[simp] theorem stagedAt_putStaged_self (i : Fin 6) (v : List (Fin 8)) (s : State) : stagedAt (putStaged i v s) i = v := by
  rw [stagedAt_putStaged, if_pos rfl]

theorem stagedAt_putStaged_ne {i j : Fin 6} (v : List (Fin 8)) (s : State) (h : i ≠ j) : stagedAt (putStaged i v s) j = stagedAt s j := by
  rw [stagedAt_putStaged, if_neg h]

/-- `laneAt` after `putLane`. -/
theorem laneAt_putLane (i j : Fin 6) (v : Lane) (s : State) :
    laneAt (putLane i v s) j = if i = j then v else laneAt s j := by
  simp [laneAt, putLane, Tbl.at_put]

@[simp] theorem laneAt_putLane_self (i : Fin 6) (v : Lane) (s : State) : laneAt (putLane i v s) i = v := by
  rw [laneAt_putLane, if_pos rfl]

theorem laneAt_putLane_ne {i j : Fin 6} (v : Lane) (s : State) (h : i ≠ j) : laneAt (putLane i v s) j = laneAt s j := by
  rw [laneAt_putLane, if_neg h]

/-- `valveAt` after `putValve`. -/
theorem valveAt_putValve (i j : Fin 8) (v : Valve) (s : State) :
    valveAt (putValve i v s) j = if i = j then v else valveAt s j := by
  simp [valveAt, putValve, Tbl.at_put]

@[simp] theorem valveAt_putValve_self (i : Fin 8) (v : Valve) (s : State) : valveAt (putValve i v s) i = v := by
  rw [valveAt_putValve, if_pos rfl]

theorem valveAt_putValve_ne {i j : Fin 8} (v : Valve) (s : State) (h : i ≠ j) : valveAt (putValve i v s) j = valveAt s j := by
  rw [valveAt_putValve, if_neg h]

/-- `zoneAt` after `putZone`. -/
theorem zoneAt_putZone (i j : Fin 4) (v : Source) (s : State) :
    zoneAt (putZone i v s) j = if i = j then v else zoneAt s j := by
  simp [zoneAt, putZone, Tbl.at_put]

@[simp] theorem zoneAt_putZone_self (i : Fin 4) (v : Source) (s : State) : zoneAt (putZone i v s) i = v := by
  rw [zoneAt_putZone, if_pos rfl]

theorem zoneAt_putZone_ne {i j : Fin 4} (v : Source) (s : State) (h : i ≠ j) : zoneAt (putZone i v s) j = zoneAt s j := by
  rw [zoneAt_putZone, if_neg h]

/-- `attnAt` after `putAttn`. -/
theorem attnAt_putAttn (i j : Fin 8) (v : AttnLine) (s : State) :
    attnAt (putAttn i v s) j = if i = j then v else attnAt s j := by
  simp [attnAt, putAttn, Tbl.at_put]

@[simp] theorem attnAt_putAttn_self (i : Fin 8) (v : AttnLine) (s : State) : attnAt (putAttn i v s) i = v := by
  rw [attnAt_putAttn, if_pos rfl]

theorem attnAt_putAttn_ne {i j : Fin 8} (v : AttnLine) (s : State) (h : i ≠ j) : attnAt (putAttn i v s) j = attnAt s j := by
  rw [attnAt_putAttn, if_neg h]

/-- `tallyAt` after `putTally`. -/
theorem tallyAt_putTally (i j : Printer) (v : List TallyPlace) (s : State) :
    tallyAt (putTally i v s) j = if i = j then v else tallyAt s j := by
  simp [tallyAt, putTally, Tbl.at_put, printerNum_inj]

@[simp] theorem tallyAt_putTally_self (i : Printer) (v : List TallyPlace) (s : State) : tallyAt (putTally i v s) i = v := by
  rw [tallyAt_putTally, if_pos rfl]

theorem tallyAt_putTally_ne {i j : Printer} (v : List TallyPlace) (s : State) (h : i ≠ j) : tallyAt (putTally i v s) j = tallyAt s j := by
  rw [tallyAt_putTally, if_neg h]

/-- `unitAt` after `putUnit`. -/
theorem unitAt_putUnit (i j : Printer) (v : PrintUnit) (s : State) :
    unitAt (putUnit i v s) j = if i = j then v else unitAt s j := by
  simp [unitAt, putUnit, Tbl.at_put, printerNum_inj]

@[simp] theorem unitAt_putUnit_self (i : Printer) (v : PrintUnit) (s : State) : unitAt (putUnit i v s) i = v := by
  rw [unitAt_putUnit, if_pos rfl]

theorem unitAt_putUnit_ne {i j : Printer} (v : PrintUnit) (s : State) (h : i ≠ j) : unitAt (putUnit i v s) j = unitAt s j := by
  rw [unitAt_putUnit, if_neg h]

/-- `placeAt` after `putPlace`. -/
theorem placeAt_putPlace (i j : Requester) (v : LinkPlace) (s : State) :
    placeAt (putPlace i v s) j = if i = j then v else placeAt s j := by
  simp [placeAt, putPlace, Tbl.at_put, requesterNum_inj]

@[simp] theorem placeAt_putPlace_self (i : Requester) (v : LinkPlace) (s : State) : placeAt (putPlace i v s) i = v := by
  rw [placeAt_putPlace, if_pos rfl]

theorem placeAt_putPlace_ne {i j : Requester} (v : LinkPlace) (s : State) (h : i ≠ j) : placeAt (putPlace i v s) j = placeAt s j := by
  rw [placeAt_putPlace, if_neg h]

/-- `moduleAt` after `putModule`. -/
theorem moduleAt_putModule (i j : Role) (v : ModuleEntry) (s : State) :
    moduleAt (putModule i v s) j = if i = j then v else moduleAt s j := by
  simp [moduleAt, putModule, Tbl.at_put, roleNum_inj]

@[simp] theorem moduleAt_putModule_self (i : Role) (v : ModuleEntry) (s : State) : moduleAt (putModule i v s) i = v := by
  rw [moduleAt_putModule, if_pos rfl]

theorem moduleAt_putModule_ne {i j : Role} (v : ModuleEntry) (s : State) (h : i ≠ j) : moduleAt (putModule i v s) j = moduleAt s j := by
  rw [moduleAt_putModule, if_neg h]

/-- `buttonAt` after `putButton`. -/
theorem buttonAt_putButton (i j : Button) (v : ButtonUnit) (s : State) :
    buttonAt (putButton i v s) j = if i = j then v else buttonAt s j := by
  simp [buttonAt, putButton, Tbl.at_put, buttonNum_inj]

@[simp] theorem buttonAt_putButton_self (i : Button) (v : ButtonUnit) (s : State) : buttonAt (putButton i v s) i = v := by
  rw [buttonAt_putButton, if_pos rfl]

theorem buttonAt_putButton_ne {i j : Button} (v : ButtonUnit) (s : State) (h : i ≠ j) : buttonAt (putButton i v s) j = buttonAt s j := by
  rw [buttonAt_putButton, if_neg h]

/-- `captureAt` after `putCapture`. -/
theorem captureAt_putCapture (i j : CaptureInput) (v : Option Clock) (s : State) :
    captureAt (putCapture i v s) j = if i = j then v else captureAt s j := by
  simp [captureAt, putCapture, Tbl.at_put, captureNum_inj]

@[simp] theorem captureAt_putCapture_self (i : CaptureInput) (v : Option Clock) (s : State) : captureAt (putCapture i v s) i = v := by
  rw [captureAt_putCapture, if_pos rfl]

theorem captureAt_putCapture_ne {i j : CaptureInput} (v : Option Clock) (s : State) (h : i ≠ j) : captureAt (putCapture i v s) j = captureAt s j := by
  rw [captureAt_putCapture, if_neg h]

/-- `garmentAt` after `putGarment`. -/
theorem garmentAt_putGarment (i j : Fin 32) (r : Garment) (s : State) :
    garmentAt (putGarment i r s) j = if i = j then some r else garmentAt s j := by
  simp [garmentAt, putGarment, Tbl.at_put]

@[simp] theorem garmentAt_putGarment_self (i : Fin 32) (r : Garment) (s : State) :
    garmentAt (putGarment i r s) i = some r := by
  rw [garmentAt_putGarment, if_pos rfl]

/-- `garmentAt` after a record was freed. -/
theorem garmentAt_clearGarment (i j : Fin 32) (s : State) :
    garmentAt (clearGarment i s) j = if i = j then none else garmentAt s j := by
  simp [garmentAt, clearGarment, Tbl.at_put]

/-- `garmentAt` after a live record was changed. -/
theorem garmentAt_changeGarment (i j : Fin 32) (f : Garment → Garment) (s : State) :
    garmentAt (changeGarment i f s) j = if i = j then (garmentAt s i).map f else garmentAt s j := by
  unfold changeGarment
  split
  · next h =>
    by_cases hij : i = j
    · subst hij; simp [h]
    · simp [hij]
  · next r h =>
    rw [garmentAt_putGarment, h]
    rfl

end Sys2Proof.Machine
end

