-- ==== Sys2Proof/Laws/Answers.lean ====
section
/-! SUPPORT. What the shared forms of a command's answer can be, and what the operations that every block uses do, each said once. -/

namespace Sys2Proof.Machine

/-! ## Answers -/

/-- A command that waits for its event: the effect when it is due, and the state as it was otherwise. -/
theorem whenDue_eq_next {due : Bool} {f : State → State} {s t : State} :
    whenDue due f s = .next t ↔ t = if due then f s else s := by
  unfold whenDue
  constructor
  · intro h; injection h with h; exact h.symm
  · intro h; rw [h]

theorem whenDue_of_due {due : Bool} {f : State → State} {s : State} (h : due = true) : whenDue due f s = .next (f s) := by
  rw [whenDue_eq_next, if_pos h]

theorem whenDue_of_not_due {due : Bool} {f : State → State} {s : State} (h : due = false) : whenDue due f s = .next s := by
  rw [whenDue_eq_next, h]; rfl

/-- A read's completion: an outcome owed from before a reset comes first and is discarded; otherwise nothing without such an access in
progress, and with one the port goes on and the outcome is discarded or handed to its requester, or, where the number of bytes does not
fit, a fault. -/
theorem readDone_cases (k : AccessKind) (r : ReadResult) (f : State → State) (s : State) :
    (k ∈ s.port.late ∧ readDone k r f s = .next (dropLate k s)) ∨
    (k ∉ s.port.late ∧ inProgress k s = none ∧ readDone k r f s = .next s) ∨
    (∃ a, k ∉ s.port.late ∧ inProgress k s = some a ∧ readFits a r = true ∧ a.discard = true ∧
      readDone k r f s = .next (endAccess s)) ∨
    (∃ a, k ∉ s.port.late ∧ inProgress k s = some a ∧ readFits a r = true ∧ a.discard = false ∧
      readDone k r f s = .next (f (endAccess s))) ∨
    (∃ a, k ∉ s.port.late ∧ inProgress k s = some a ∧ readFits a r = false ∧ readDone k r f s = .fault .readLength) := by
  unfold readDone
  by_cases hl : k ∈ s.port.late
  · exact .inl ⟨hl, if_pos hl⟩
  · rw [if_neg hl]
    cases h : inProgress k s with
    | none => exact .inr (.inl ⟨hl, rfl, rfl⟩)
    | some a =>
      cases hf : readFits a r <;> cases hd : a.discard <;> simp_all

/-- A write's completion: an outcome owed from before a reset comes first and is discarded; otherwise nothing without such an access in
progress, and with one the port goes on and the outcome is discarded or handed on. -/
theorem writeDone_cases (k : AccessKind) (f : State → State) (s : State) :
    (k ∈ s.port.late ∧ writeDone k f s = .next (dropLate k s)) ∨
    (k ∉ s.port.late ∧ inProgress k s = none ∧ writeDone k f s = .next s) ∨
    (∃ a, k ∉ s.port.late ∧ inProgress k s = some a ∧ a.discard = true ∧ writeDone k f s = .next (endAccess s)) ∨
    (∃ a, k ∉ s.port.late ∧ inProgress k s = some a ∧ a.discard = false ∧ writeDone k f s = .next (f (endAccess s))) := by
  unfold writeDone
  by_cases hl : k ∈ s.port.late
  · exact .inl ⟨hl, if_pos hl⟩
  · rw [if_neg hl]
    cases h : inProgress k s with
    | none => exact .inr (.inl ⟨hl, rfl, rfl⟩)
    | some a => cases hd : a.discard <;> simp_all

/-- An owner's taking of a capture: nothing when its unit holds none; otherwise the unit is emptied and the owner acts on its time. -/
theorem takeCapture_cases (i : CaptureInput) (f : Clock → State → State) (s : State) :
    (captureAt s i = none ∧ takeCapture i f s = .next s) ∨
    (∃ t, captureAt s i = some t ∧ takeCapture i f s = .next (f t (putCapture i none s))) := by
  unfold takeCapture
  cases h : captureAt s i with
  | none => exact .inl ⟨rfl, rfl⟩
  | some t => exact .inr ⟨t, rfl, rfl⟩

/-- The access in progress of a kind is the port's. -/
theorem inProgress_eq_some {k : AccessKind} {s : State} {a : Access} :
    inProgress k s = some a ↔ s.port.current = some a ∧ a.kind = k := by
  unfold inProgress
  cases h : s.port.current with
  | none => simp
  | some b =>
    by_cases hk : b.kind = k
    · simp only [hk, if_pos, Option.some.injEq]
      constructor
      · rintro rfl; exact ⟨rfl, hk⟩
      · exact fun h => h.1
    · simp only [hk, if_false, reduceCtorEq, false_iff, not_and]
      rintro h rfl
      exact hk (by injection h with h; rw [h])

/-! ## The step -/

/-- A step with a command at the front of the queue. -/
theorem step_of_pending {s : State} {c : Instr} {rest : List Instr} (h : s.pending = c :: rest) :
    step s = exec c (s.setPending rest) := by
  unfold step
  rw [h]

/-- A step with no command waiting. -/
theorem step_of_idle {s : State} (h : s.pending = []) : step s = idleStep s := by
  unfold step
  rw [h]

/-! ## Incidents -/

/-- Raising an incident changes the reports alone. -/
theorem raise_eq (i : Incident) (s : State) :
    raise i s = { s with reports := pushIncident s.reports { i with time := s.clock } } := rfl

/-- An incident joins the tail while fewer than 16 wait, and otherwise is dropped and sets the drop flag. -/
theorem pushIncident_cases (r : Reports) (i : Incident) :
    (r.fifo.length < Config.incidentPlaces ∧ pushIncident r i = { r with fifo := r.fifo ++ [i] }) ∨
    (Config.incidentPlaces ≤ r.fifo.length ∧ pushIncident r i = { r with drop := true }) := by
  unfold pushIncident
  by_cases h : r.fifo.length < Config.incidentPlaces
  · exact .inl ⟨h, if_pos h⟩
  · exact .inr ⟨Nat.le_of_not_lt h, if_neg h⟩

/-- The FIFO never grows past its places. -/
theorem pushIncident_length (r : Reports) (i : Incident) (h : r.fifo.length ≤ Config.incidentPlaces) :
    (pushIncident r i).fifo.length ≤ Config.incidentPlaces := by
  rcases pushIncident_cases r i with ⟨h1, h2⟩ | ⟨_, h2⟩ <;> rw [h2]
  · simp only [List.length_append, List.length_cons, List.length_nil]; omega
  · exact h

/-! ## The host memory port -/

/-- An access that is asked for takes a free port at once, and otherwise waits behind those before it. -/
theorem askPort_port (a : Access) (s : State) :
    (askPort a s).port =
      match s.port.current with
      | none => { s.port with current := some a }
      | some _ => { s.port with waiting := s.port.waiting ++ [a] } := by
  unfold askPort
  cases h : s.port.current <;> simp

/-- The accesses of the port, the one in progress first. -/
theorem askPort_all (a b : Access) (s : State) :
    b ∈ (askPort a s).port.current.toList ++ (askPort a s).port.waiting ↔
      b = a ∨ b ∈ s.port.current.toList ++ s.port.waiting := by
  rw [askPort_port]
  cases h : s.port.current with
  | none => simp
  | some c => simp [h]; tauto

/-- When an access ends the port is free, or the next waiting access has it. -/
theorem endAccess_port (s : State) :
    (endAccess s).port =
      match nextAccess s.port.waiting with
      | none => { s.port with current := none }
      | some a => { s.port with current := some a, waiting := s.port.waiting.erase a } := by
  unfold endAccess
  split <;> simp_all

/-- With nothing waiting the port is free after an access. -/
theorem endAccess_of_none {s : State} (h : s.port.waiting = []) :
    (endAccess s).port = { s.port with current := none, waiting := [] } := by
  rw [endAccess_port, h]
  simp [nextAccess, firstOfPriority, h]

/-- Some waiting access is the next while any waits. -/
theorem nextAccess_isSome {w : List Access} (h : w ≠ []) : (nextAccess w).isSome = true := by
  obtain ⟨a, as, rfl⟩ : ∃ a as, w = a :: as := by
    cases w with
    | nil => exact absurd rfl h
    | cons a as => exact ⟨a, as, rfl⟩
  unfold nextAccess firstOfPriority
  cases hk : a.kind <;> simp [List.find?, accessPriority, hk]

/-- After a reset the port is free, and owes the outcome of the access that was in progress beside those it owed before. -/
theorem Port.freed_eq (p : Port) :
    p.freed = match p.current with
      | none => { current := none, waiting := [], late := p.late }
      | some a => { current := none, waiting := [], late := p.late ++ [a.kind] } := by
  unfold Port.freed
  cases p.current <;> simp

/-- A late outcome changes the list of owed outcomes alone, and takes out one of its kind. -/
theorem dropLate_port (k : AccessKind) (s : State) :
    (dropLate k s).port = { s.port with late := s.port.late.erase k } := rfl

/-! ## The station link's module table -/

/-- The end of a try acts on its role's table entry while the role still has the address of the try, and not otherwise. -/
theorem onModule_cases (o : OnLink) (f : State → State) (s : State) :
    (roleAddr s o.role = some o.addr ∧ onModule o f s = f s) ∨ (roleAddr s o.role ≠ some o.addr ∧ onModule o f s = s) := by
  unfold onModule answersForRole
  by_cases h : roleAddr s o.role = some o.addr
  · exact .inl ⟨h, by simp [h]⟩
  · exact .inr ⟨h, by simp [h]⟩

/-! ## The station link's places -/

/-- Handing in with an empty place and a role within reach puts the transaction in the place, ranked now. -/
theorem handIn_of_empty {q : Requester} {t : Txn} {s : State} (h : (placeAt s q).now = none)
    (hr : unreachable s t.role = false) :
    handIn q t s =
      putPlace q { placeAt s q with now := some { txn := t, rank := s.clock, tries := 0, state := .queued, withdrawn := false } }
        s := by
  unfold handIn enqueue queuedNow
  simp [h, hr]

/-- A withdrawn place holds nothing but a try on the link, whose outcome is not acted on. -/
theorem withdrawTxn_place (q : Requester) (s : State) :
    placeAt (withdrawTxn q s) q = { now := none, kept := [] } ∨
    ∃ w, (placeAt s q).now = some w ∧ w.state = .onLink ∧
      placeAt (withdrawTxn q s) q = { now := some { w with txn := quiet w.txn, withdrawn := true }, kept := [] } := by
  unfold withdrawTxn
  split
  · left; simp
  · next w h =>
    split
    · next hw => right; exact ⟨w, h, hw, by simp⟩
    · left; simp
    · left; simp

/-! ## The line mode -/

/-- A change of the mode or of the hold-cause set raises one LINE_MODE with both as they are after it, and nothing else changes. -/
theorem setLine_cases (m : Mode) (c : Causes) (s : State) :
    (s.ctl.mode = m ∧ s.ctl.causes = c ∧ setLine m c s = s) ∨
    (¬(s.ctl.mode = m ∧ s.ctl.causes = c) ∧
      setLine m c s =
        { s with
          ctl := { s.ctl with mode := m, causes := c }
          reports :=
            pushIncident s.reports
              { incident .lineMode with detail := modeCode m, value := causesCode c, time := s.clock } }) := by
  unfold setLine
  by_cases h : s.ctl.mode = m ∧ s.ctl.causes = c
  · exact .inl ⟨h.1, h.2, if_pos h⟩
  · refine .inr ⟨h, ?_⟩
    rw [if_neg h]
    rfl

/-- The mode and the set after `setLine`. -/
theorem setLine_ctl (m : Mode) (c : Causes) (s : State) : (setLine m c s).ctl = { s.ctl with mode := m, causes := c } := by
  rcases setLine_cases m c s with ⟨h1, h2, h3⟩ | ⟨_, h3⟩ <;> rw [h3]
  subst h1 h2
  rfl

end Sys2Proof.Machine
end

