-- ==== Sys2Proof/Tests/Slice0.lean ====
section
/-! SUPPORT. Tests: the well-formedness smoke, small checks whose expected values are the manual's own worked examples, and for every
obligation with hypotheses a named witness: a concrete state and operands that meet all the hypotheses of each clause together. -/

namespace Sys2Proof.Tests

open Sys2Proof.Machine Sys2Proof.Safety

-- One test after the other: checked all at one time, each would hold a stack of its own.
set_option Elab.async false

/-! ## Well-formedness: an ill-formed command for each check -/

/-- `n` bytes of zero. -/
def zeros (n : Nat) : List Byte := List.replicate n 0

theorem test_wf_descriptor :
    (Instr.descriptorReadDone (.data (zeros 31))).wf = false ∧ (Instr.descriptorReadDone (.data (zeros 32))).wf = true := by
  decide
theorem test_wf_burst :
    (Instr.dataBurstDone (.data (zeros 12))).wf = false ∧ (Instr.dataBurstDone (.data (zeros 264))).wf = false ∧
    (Instr.dataBurstDone (.data (zeros 16))).wf = true := by decide +kernel
theorem test_wf_snapshot :
    (Instr.snapshotReadDone (.data (zeros 1984))).wf = false ∧ (Instr.snapshotReadDone (.data (zeros 960))).wf = true ∧
    (Instr.snapshotReadDone (.data (zeros 16))).wf = true := by decide +kernel
theorem test_wf_attach :
    (Instr.attachReadDone (.data (zeros 959))).wf = false ∧ (Instr.attachReadDone (.data (zeros 960))).wf = true := by
  decide +kernel
theorem test_wf_hand_count :
    (Instr.handCountReadDone (.data (zeros 1))).wf = false ∧ (Instr.handCountReadDone .error).wf = true := by decide
theorem test_wf_posting :
    (Instr.postingReadDone (.data (zeros 256))).wf = false ∧ (Instr.postingReadDone (.data (zeros 200))).wf = true := by
  decide +kernel
theorem test_wf_catalog :
    (Instr.catalogReadDone (.data (zeros 15))).wf = false ∧ (Instr.catalogReadDone (.data (zeros 16))).wf = true := by decide

theorem test_wf_recovery :
    (Instr.recoveryReadDone (.data (zeros 239))).wf = false ∧ (Instr.recoveryReadDone (.data (zeros 240))).wf = true := by
  decide +kernel
theorem test_wf_refill :
    (Instr.refillReadDone (.data (zeros 17))).wf = false ∧ (Instr.refillReadDone (.data (zeros 16))).wf = true := by decide

/-! ## The manual's worked examples -/

/-- The latched values of the pulse example of section 3.1. -/
def pulseExample : SprayParams := { base := 400, minPulse := 20, dwell := 600, delay := 50, floor := 8, flow := 50 }

/-- The six rows of the pulse example of section 3.1, and the case of an effective min pulse of 60. -/
theorem test_pulse_example :
    pulseTime pulseExample 16 128 = 201 ∧ pulseTime pulseExample 16 10 = 20 ∧ pulseTime pulseExample 16 6 = 0 ∧
    pulseTime pulseExample 16 255 = 400 ∧ pulseTime pulseExample 24 255 = 600 ∧ pulseTime pulseExample 31 255 = 600 ∧
    pulseTime { pulseExample with minPulse := 100, dwell := 60 } 16 10 = 60 := by decide +kernel

/-- The check value that R200 gives for the nine digits. -/
theorem test_frame_check :
    frameCheck [0x31, 0x32, 0x33, 0x34, 0x35, 0x36, 0x37, 0x38, 0x39] = 0x29B1#16 := by decide +kernel

/-- The tag word of the example of section 9.8, under its maps. -/
theorem test_tag_word :
    tagFields
        { kind := { width := 2, pos := 30 }, blank := { width := 6, pos := 24 }, serial := { width := 16, pos := 0 }
          slot := { width := 7, pos := 16 }, bin := { width := 4, pos := 16 } } 0x0C1F1770#32 =
      { kind := 0, blank := 12, serial := 6000, slot := 31, bin := 15 } ∧
    extractField { width := 16, pos := 24 } 0x0C1F1770#32 = 12 := by decide +kernel

/-- Command words of R170: PASS with argument 16, PRESS with 12, SHOW with 16 × 31 + 2. -/
theorem test_command_words :
    commandWord .pass 16 = 0x00001004#32 ∧ commandWord .press 12 = 0x00000C05#32 ∧ commandWord .show 498 = 0x0001F209#32 := by
  decide +kernel

/-- Chapter 6's examples: 381,250 ticks meet 30 CU and 38 CU, not 39, and report 38; 9,810,000 do not pass 2000 CU. -/
theorem test_dose_compare :
    doseMeets 381250 30 = true ∧ doseMeets 381250 38 = true ∧ doseMeets 381250 39 = false ∧ doseCU 381250 = 38 ∧
    dosePasses 9810000 2000 = false := by decide +kernel

/-! ## Small states -/

/-- The next state of an outcome, and the state after reset where there is none. -/
def after (o : Host.Outcome State Fault Refusal) : State :=
  match o with
  | .next t => t
  | .fault _ => State.reset
  | .refused _ => State.reset

/-- The state in a mode. -/
def inMode (m : Mode) (s : State) : State := s.setCtl { s.ctl with mode := m }

/-- The dryer takes its ticks. -/
def ticking (s : State) : State := s.setDryer { s.dryer with ticking := true, periodMs := some 250 }

/-- The state at a clock value. -/
def atClock (c : Clock) (s : State) : State := s.setClock c

/-- Link settings in which role r has address 10 + r, the retry gap is 10 ms and the retry limit 2. -/
def settings : LinkSettings :=
  { LinkSettings.blank with
    roles := Vector.ofFn fun r : Fin 13 => some (BitVec.ofNat 8 (10 + r.val)), gap := 10, retryLimit := 2 }

/-- Attached at base 0x10000 with every role's module PRESENT. -/
def linked : State :=
  { State.reset with
    exch := { Exch.reset with attach := .attached, base := some 0x10000#64 }
    link :=
      { Link.reset with
        settings := some settings
        modules := Tbl.all { state := .present, silences := 0, probe := none, probeReady := false } } }

/-- Attached, in RUN, homed, with the dryer ticking. -/
def running : State :=
  ticking (inMode .run (linked.setCarousel { linked.carousel with homed := true }))

/-- A GOOD garment of slot 5 on platen 11, with nothing done to it. -/
def shirt : Garment :=
  { boundGarment State.reset { kind := 0, blank := 12, serial := 4001, slot := 0, bin := 0 } .stock 5 with
    place := .onCarousel, platen := some 11 }

/-- The state with the shirt, changed by `f`, as record 3 on the platen that stands at a position. -/
def withShirt (pos : Fin 12) (f : Garment → Garment) (s : State) : State :=
  putPlaten (platenAt s pos) { garment := some 3, enabled := true, pending := none }
    (putGarment 3 (f { shirt with platen := some (platenAt s pos) }) s)

/-- The state with a button unit. -/
def withButton (b : Button) (u : ButtonUnit) (level : Bool) (s : State) : State :=
  (putButton b u s).setPins { s.pins with buttons := Tbl.put s.pins.buttons (buttonNum b) level }

/-- A response frame without a word. -/
def answer (addr control : Byte) : List Byte := withCheck [0x5A#8, addr, control]

/-- A response frame with a word. -/
def answerWord (addr control : Byte) (w : Nat) : List Byte := withCheck ([0x5A#8, addr, control] ++ leBytes 4 w)

/-- The state with an access in progress and none waiting. -/
def withAccess (k : AccessKind) (length : Nat) (s : State) : State :=
  s.setPort
    { s.port with
      current := some { kind := k, discard := false, addr := 0, length := length, writes := [] }, waiting := [] }

/-- The access that `withAccess` puts in progress. -/
def accessOf (k : AccessKind) (length : Nat) : Access :=
  { kind := k, discard := false, addr := 0, length := length, writes := [] }

/-! ## Witnesses: the step, resets and the host's registers -/

/-- A state with a SPRAY_ROW time in its capture unit. -/
def rowSeen : State := putCapture .sprayRow (some 5) State.reset

theorem witness_IdleStepTakesOwnEventOrTick :
    (State.reset.pending = [] ∧ nextOwn State.reset = none) ∧
    (rowSeen.pending = [] ∧ nextOwn rowSeen = some .sprayRowEdge) := by decide +kernel

theorem witness_CommandsLeaveQueueAndClock :
    (∃ t, exec .memClear State.reset = .next t) ∧ (∃ t, exec .powerReset State.reset = .next t) := ⟨⟨_, rfl⟩, ⟨_, rfl⟩⟩

/-- The fault clause: a descriptor read of 32 bytes completes with 31. -/
theorem witness_EveryCommandIsAnswered :
    (withAccess .descriptor 32 linked).port.current = some (accessOf .descriptor 32) ∧
    (zeros 31).length ≠ (accessOf .descriptor 32).length ∧
    exec (.descriptorReadDone (.data (zeros 31))) (withAccess .descriptor 32 linked) = .fault .readLength :=
  ⟨rfl, by decide, rfl⟩

theorem witness_EachResetReturnsEveryBlock :
    State.reset.exch.base = none ∧ linked.exch.base = some 0x10000#64 := by decide +kernel

/-- A soft reset found a read of the attach in progress, and the attach after it has another on the port. -/
def oweAttach : State := after (exec .softReset (withAccess .attach 960 linked))

theorem witness_LateOutcomesAreDiscarded :
    .attach ∈ oweAttach.port.late ∧ oweAttach.port.current.map Access.kind = some .attach := by decide +kernel

/-- The first of two completions is the one from before the reset, and the second is the new attach's. -/
theorem test_late_outcome_comes_first :
    (after (exec (.attachReadDone .error) oweAttach)).port = { oweAttach.port with late := [] } ∧
    (after (exec (.attachReadDone .error) (after (exec (.attachReadDone .error) oweAttach)))).exch.attach = .badFormat := by
  decide +kernel

theorem witness_InterruptFollowsEnableAndAck :
    (∃ t, exec .powerReset State.reset = .next t) ∧ (∃ t, exec .pinReset linked = .next t) ∧
    (∃ t, exec .softReset linked = .next t) := ⟨⟨_, rfl⟩, ⟨_, rfl⟩, ⟨_, rfl⟩⟩

theorem witness_PlainRegisterWrites : (0x18#32 : Word) ≠ 0x08#32 ∧ (0x04#32 : Word) ≠ 0x08#32 := by decide

/-! ## Witnesses: mode requests -/

/-- A state in a mode with a request in progress. -/
def asking (m : Mode) (r : RunRequest) (s : State) : State := s.setCtl { s.ctl with mode := m, request := r }

/-- A RUN request's snapshot read is in progress: the bytes it has brought, whether its result is discarded, and its access's length. -/
def snapAfter (got : List Byte) (dropped : Bool) (length : Nat) (m : Mode) : State :=
  withAccess .snapshot length
    (asking m .reading (linked.setExch { linked.exch with activity := some (.snapshot got dropped) }))

/-- The first access of the snapshot read is in progress. -/
def readingSnap (m : Mode) : State := snapAfter [] false 960 m

theorem witness_RunRequestByMode :
    ((asking .stopped .absent linked).ctl.mode = .stopped ∧ (asking .stopped .absent linked).ctl.request = .absent) ∧
    ((asking .run .absent linked).ctl.mode = .run ∧ (asking .run .absent linked).ctl.request ≠ .reading) ∧
    ((asking .warming .absent linked).ctl.mode = .warming ∧ (asking .warming .absent linked).ctl.request ≠ .reading) ∧
    ((asking .hold .pendingHome linked).ctl.mode = .hold ∧ (asking .hold .pendingHome linked).ctl.request = .pendingHome) ∧
    (linked.ctl.mode = .idle ∧ linked.ctl.request = .absent ∧ attached linked = true) ∧
    (State.reset.ctl.mode = .idle ∧ State.reset.ctl.request = .absent ∧ attached State.reset = false) ∧
    ((readingSnap .hold).ctl.mode = .hold ∧ (readingSnap .hold).ctl.request = .reading ∧
      attached (readingSnap .hold) = true ∧ (readingSnap .hold).exch.activity = some (.snapshot [] false)) := by decide +kernel

theorem witness_HoldRequestByMode :
    (running.ctl.request ≠ .reading ∧ running.ctl.mode = .run ∧ running.dryer.ticking = true) ∧
    ((inMode .hold running).ctl.request ≠ .reading ∧ (inMode .hold running).ctl.mode = .hold) ∧
    (State.reset.ctl.request ≠ .reading ∧ State.reset.ctl.mode = .idle) := by decide +kernel

theorem witness_IdleRequestByMode :
    ((inMode .warming running).ctl.request ≠ .reading ∧ (inMode .warming running).ctl.mode = .warming ∧
      noGarment (inMode .warming running) = true) ∧
    (running.ctl.request ≠ .reading ∧ running.ctl.mode = .run ∧ running.dryer.ticking = true) ∧
    ((inMode .warming (withShirt 0 id running)).ctl.mode = .warming ∧
      noGarment (inMode .warming (withShirt 0 id running)) = false ∧
      (inMode .warming (withShirt 0 id running)).dryer.ticking = true) ∧
    ((inMode .hold running).ctl.request ≠ .reading ∧ (inMode .hold running).ctl.mode = .hold) ∧
    (State.reset.ctl.request ≠ .reading ∧ State.reset.ctl.mode = .idle) ∧
    ((inMode .stopped running).ctl.request ≠ .reading ∧ (inMode .stopped running).ctl.mode = .stopped) := by decide +kernel

theorem witness_BaseWriteStartsAttachInIdle :
    running.ctl.mode ≠ .idle ∧ State.reset.ctl.mode = .idle ∧
    ((readingSnap .idle).ctl.mode = .idle ∧ (readingSnap .idle).ctl.request = .reading) := by decide +kernel

/-- The nudge FIFO is full. -/
def nudgesFull : State := linked.setExch { linked.exch with nudges := List.replicate 16 0 }

/-- Slot numbers 0 and 127 and the two other nudges are taken, 128 and 0xFD and a nudge that finds the FIFO full are dropped. -/
theorem witness_PostWriteQueuesNudge :
    attached State.reset = false ∧ attached linked = true ∧ linked.exch.nudges.length < 16 ∧
    (0#32 : Word).toNat % 256 < 128 ∧ (127#32 : Word).toNat % 256 < 128 ∧ (0xFE#32 : Word).toNat % 256 = 0xFE ∧
    (0x1FF#32 : Word).toNat % 256 = 0xFF ∧
    ¬((128#32 : Word).toNat % 256 < 128 ∨ (128#32 : Word).toNat % 256 = 0xFE ∨ (128#32 : Word).toNat % 256 = 0xFF) ∧
    ¬((0xFD#32 : Word).toNat % 256 < 128 ∨ (0xFD#32 : Word).toNat % 256 = 0xFE ∨ (0xFD#32 : Word).toNat % 256 = 0xFF) ∧
    attached nudgesFull = true ∧ ¬nudgesFull.exch.nudges.length < 16 := by decide +kernel

/-! ## Witnesses: direct inputs -/

/-- A pass is under way on the shirt at PRETREAT, at a row, with the tank at 1,000 µL. -/
def spraying (row : Nat) (v : Tbl 8 Valve) : State :=
  withShirt 1 id
    (running.setPretreat
      { running.pretreat with
        state := .spraying, job := some { garment := 3, platen := 11 }, factor := 16, row := row, latched := pulseExample
        guard := some { start := 0, limit := 3000000 }, valves := v
        tank := { level := 1000, rest := 0, state := .ready, lowMark := 980, reserve := 200, generation := none } })

/-- All channels closed but one. -/
def oneValve (z : Fin 8) (v : Valve) : Tbl 8 Valve := Tbl.put (Tbl.all .closed) z v

theorem unitsHeld_spraying : UnitsHeld (spraying 9 (oneValve 4 (.opened 200500 204500 400))) :=
  ⟨fun _ => rfl, fun h => (h rfl).elim, fun u h => by cases u <;> exact (h rfl).elim, fun h => (h rfl).elim⟩

theorem witness_EstopAssertionStillsTheLine :
    (inMode .stopped running).ctl.mode = .stopped ∧
    ((spraying 9 (oneValve 4 (.opened 200500 204500 400))).ctl.mode ≠ .stopped ∧
      UnitsHeld (spraying 9 (oneValve 4 (.opened 200500 204500 400)))) :=
  ⟨rfl, by decide +kernel, unitsHeld_spraying⟩

/-- The line in RUN with a LINE transaction in a state, its module of INDEX_DRIVE PRESENT or LOST. -/
def lineAsks (w : Option PlaceState) (drive : ModuleState) : State :=
  putModule .indexDrive { state := drive, silences := 0, probe := none, probeReady := false }
    (putPlace .line
      { now := w.map fun st => { txn := putCmd .zone1 .heatOn 0, rank := 3, tries := 1, state := st, withdrawn := false }
        kept := [] } running)

/-- After an assertion the LINE place is free, queued, on the link, or skips a LOST module, and every role present. -/
theorem witness_listPut :
    ((placeAt (lineAsks none .present) .line).now = none ∧
      (Claims.estopCommands.filter fun x => (roleAddr (after (exec .estopAssertion (lineAsks none .present))) x.role).isSome) =
        Claims.estopCommands ∧
      unreachable (after (exec .estopAssertion (lineAsks none .present))) .indexDrive = false) ∧
    ((placeAt (lineAsks (some .queued) .lost) .line).now.map Queued.state = some .queued ∧
      unreachable (after (exec .estopAssertion (lineAsks (some .queued) .lost))) .indexDrive = true ∧
      unreachable (after (exec .estopAssertion (lineAsks (some .queued) .lost))) .sprayCarriage = false) ∧
    (placeAt (lineAsks (some .onLink) .present) .line).now.map Queued.state = some .onLink := by decide +kernel

/-- Of a lost head the next command stands in the LINE place, and nine follow. -/
theorem test_estop_list :
    let t := after (exec .estopAssertion (lineAsks (some .queued) .lost))
    ((placeAt t .line).now.map fun w => (w.txn.role, w.txn.word, w.rank)) = some (.sprayCarriage, 3, 3) ∧
    t.ctl.commands.map Txn.role =
      [.whiteCarriage, .colorCarriage, .press, .beltDrive, .flash, .zone1, .zone2, .zone3, .zone4] := by decide +kernel

/-- STOPPED with the release time running from 0 to a limit, at clock 2000. -/
def releasing (limit : Nat) : State :=
  atClock 2000 (running.setCtl { running.ctl with mode := .stopped, monitor := .releasing { start := 0, limit := limit } })

theorem witness_EstopDeassertionStartsRelease :
    ({ running.ctl with mode := .stopped, monitor := .asserted } : LineCtl).monitor = .asserted ∧
    State.reset.ctl.monitor ≠ .asserted := by decide +kernel

theorem witness_EstopReleaseEntersHold :
    ((releasing 2001).ctl.monitor = .releasing { start := 0, limit := 2001 } ∧ ((releasing 2001).clock - 0).toNat < 2001) ∧
    ((releasing 2000).ctl.monitor = .releasing { start := 0, limit := 2000 } ∧ 2000 ≤ ((releasing 2000).clock - 0).toNat ∧
      (releasing 2000).ctl.mode = .stopped ∧ (releasing 2000).dryer.ticking = true) := by decide +kernel

/-- A button unit in a state, its settled level released, its time running from 0 to 2000. -/
def buttonIn (st : ButtonState) : ButtonUnit := { state := st, level := false, timer := { start := 0, limit := 2000 } }

theorem witness_ButtonChangeByState :
    buttonLevel State.reset .loadGo = false ∧ buttonLevel State.reset .loadGo ≠ true ∧
    ((buttonAt (withButton .loadGo (buttonIn .checking) true running) .loadGo).state = .checking ∧
      buttonLevel (withButton .loadGo (buttonIn .checking) true running) .loadGo ≠ false) ∧
    ((buttonAt (withButton .unloadGo (buttonIn .lockout) true running) .unloadGo).state = .lockout ∧
      buttonLevel (withButton .unloadGo (buttonIn .lockout) true running) .unloadGo ≠ false) := by decide +kernel

/-- A press of a button whose check is over at clock 2000. -/
def pressedNow (b : Button) (s : State) : State := atClock 2000 (withButton b (buttonIn .checking) true s)

/-- A lockout is over at clock 2000. -/
def lockedNow : State := atClock 2000 (withButton .loadGo (buttonIn .lockout) true running)

theorem witness_DebounceAcceptsPresses :
    (buttonAt running .loadGo).state = .settled ∧
    ((buttonAt (atClock 1999 (pressedNow .loadGo running)) .loadGo).timer.limit = 2000 ∧
      ((atClock 1999 (pressedNow .loadGo running)).clock - 0).toNat < 2000) ∧
    ((buttonAt (pressedNow .loadGo running) .loadGo).state ≠ .settled ∧
      (buttonAt (pressedNow .loadGo running) .loadGo).timer.limit ≤
        ((pressedNow .loadGo running).clock - (buttonAt (pressedNow .loadGo running) .loadGo).timer.start).toNat ∧
      (buttonAt (pressedNow .loadGo running) .loadGo).state = .checking ∧
      buttonLevel (pressedNow .loadGo running) .loadGo = true ∧
      (buttonAt (pressedNow .loadGo running) .loadGo).level = false) ∧
    ((buttonAt lockedNow .loadGo).state = .lockout ∧
      (buttonAt lockedNow .loadGo).timer.limit ≤ (lockedNow.clock - (buttonAt lockedNow .loadGo).timer.start).toNat) := by
  decide +kernel

/-- UNLOAD_GO is accepted for the shirt at UNLOAD with a destination. -/
def unloading (d : Destination) (m : Mode) (transfer : List TimedEntry) : State :=
  pressedNow .unloadGo
    (inMode m
      (withShirt 9 (fun r => { r with dest := some d }) (running.setDryer { running.dryer with transfer := transfer })))

/-- The shirt to be unloaded. -/
def unloadShirt (d : Destination) : Garment := { shirt with platen := some 9, dest := some d }

/-- A transfer list of four. -/
def fourInTransfer : List TimedEntry := List.replicate 4 { garment := 7, entry := 0 }

theorem witness_UnloadGoActsOnDestination :
    (Claims.acceptsUnload (unloading .dryer .warming []) ∧ garmentAtPos (unloading .dryer .warming []) 9 = some 3 ∧
      garmentAt (unloading .dryer .warming []) 3 = some (unloadShirt .dryer) ∧ (unloading .dryer .warming []).ctl.mode = .warming) ∧
    (Claims.acceptsUnload (unloading .dryer .run fourInTransfer) ∧
      garmentAtPos (unloading .dryer .run fourInTransfer) 9 = some 3 ∧
      garmentAt (unloading .dryer .run fourInTransfer) 3 = some (unloadShirt .dryer) ∧
      4 ≤ (unloading .dryer .run fourInTransfer).dryer.transfer.length) ∧
    (Claims.acceptsUnload (unloading .dryer .hold []) ∧ garmentAtPos (unloading .dryer .hold []) 9 = some 3 ∧
      garmentAt (unloading .dryer .hold []) 3 = some (unloadShirt .dryer) ∧ (unloading .dryer .hold []).ctl.mode ≠ .warming ∧
      (unloading .dryer .hold []).dryer.transfer.length < 4 ∧
      (unloadShirt .dryer).platen = some (platenAt (unloading .dryer .hold []) 9)) ∧
    (Claims.acceptsUnload (unloading .reject .warming []) ∧ garmentAtPos (unloading .reject .warming []) 9 = some 3 ∧
      garmentAt (unloading .reject .warming []) 3 = some (unloadShirt .reject) ∧ Destination.reject ≠ .dryer) := by
  unfold Claims.acceptsUnload
  decide +kernel

/-- The state with a time in a capture unit. -/
def captured (i : CaptureInput) (c : Clock) (s : State) : State := putCapture i (some c) s

theorem witness_CaptureEdgeRecordsClock :
    CaptureInput.sprayRow ≠ .beltEntry ∧
    Tbl.at State.reset.config.edges (captureNum .sprayRow) ≠ .falling ∧
    (Tbl.at State.reset.config.edges (captureNum .sprayRow) = .rising ∧ captureAt State.reset .sprayRow = none) ∧
    (Tbl.at rowSeen.config.edges (captureNum .sprayRow) = .rising ∧ captureAt rowSeen .sprayRow = some 5) := by
  decide +kernel

theorem witness_HomeEdgeSettles :
    captureAt State.reset .indexHome = none ∧ captureAt (captured .indexHome 5 running) .indexHome = some 5 ∧
    CaptureInput.beltExit ≠ .indexHome := by decide +kernel

/-- The coverage is below the floor, the factor is 0, or neither, at the floor itself too; and row 16 is taken in SPRAYING. -/
theorem witness_PulseTimeOfAZone :
    7 < pulseExample.floor ∧ ¬(8 < pulseExample.floor ∨ 16 = 0) ∧ ¬(255 < pulseExample.floor ∨ 31 = 0) ∧
    (captureAt (captured .sprayRow 5 (spraying 15 (Tbl.all .closed))) .sprayRow = some 5 ∧
      (captured .sprayRow 5 (spraying 15 (Tbl.all .closed))).pretreat.state = .spraying ∧
      (captured .sprayRow 5 (spraying 15 (Tbl.all .closed))).pretreat.row < 16 ∧
      (captured .sprayRow 5 (spraying 15 (Tbl.all .closed))).pretreat.job = some { garment := 3, platen := 11 }) := by
  decide +kernel

theorem witness_SprayRowArmsTheRow :
    (captureAt rowSeen .sprayRow = some 5 ∧ ¬(rowSeen.pretreat.state = .spraying ∧ rowSeen.pretreat.row < 16)) ∧
    (captureAt (captured .sprayRow 5 (spraying 16 (Tbl.all .closed))) .sprayRow = some 5 ∧
      ¬(captured .sprayRow 5 (spraying 16 (Tbl.all .closed))).pretreat.row < 16) ∧
    (captureAt (captured .sprayRow 5 (spraying 15 (Tbl.all .closed))) .sprayRow = some 5 ∧
      (spraying 15 (Tbl.all .closed)).pretreat.state = .spraying ∧ (spraying 15 (Tbl.all .closed)).pretreat.row < 16 ∧
      (spraying 15 (Tbl.all .closed)).pretreat.job = some { garment := 3, platen := 11 } ∧
      anyValve (spraying 15 (Tbl.all .closed)) = false) ∧
    ((spraying 1 (oneValve 4 (.opened 0 4 400))).pretreat.row < 16 ∧
      anyValve (captured .sprayRow 5 (spraying 1 (oneValve 4 (.opened 0 4 400)))) = true ∧
      garmentAt (captured .sprayRow 5 (spraying 1 (oneValve 4 (.opened 0 4 400)))) 3 =
        some { shirt with platen := some 1 }) := by decide +kernel

/-- A belt entry of a garment, or a phantom. -/
def beltEntry (g : Option (Fin 32)) : BeltEntry :=
  { garment := g, entry := 0, odo := 0, beyond := false, overdue := false, counted := true }

/-- The dryer with a transfer list and a belt queue, and the shirt in transfer or on the belt. -/
def inDryer (transfer : List TimedEntry) (belt : List BeltEntry) : State :=
  putGarment 3 { shirt with platen := none, place := .inTransfer }
    (running.setDryer { running.dryer with transfer := transfer, belt := belt })

/-- The shirt in the transfer list. -/
def shirtEntry : TimedEntry := { garment := 3, entry := 0 }

theorem witness_BeltEntryJoinsTheBelt :
    (captureAt (captured .beltEntry 5 (inDryer [] (List.replicate 16 (beltEntry none)))) .beltEntry = some 5 ∧
      16 ≤ (inDryer [] (List.replicate 16 (beltEntry none))).dryer.belt.length) ∧
    (captureAt (captured .beltEntry 5 (inDryer [] (List.replicate 15 (beltEntry none)))) .beltEntry = some 5 ∧
      (inDryer [] (List.replicate 15 (beltEntry none))).dryer.belt.length < 16 ∧
      (inDryer [] (List.replicate 15 (beltEntry none))).dryer.transfer = []) ∧
    (captureAt (captured .beltEntry 5 (inDryer [shirtEntry] [])) .beltEntry = some 5 ∧
      (inDryer [shirtEntry] []).dryer.belt.length < 16 ∧ (inDryer [shirtEntry] []).dryer.transfer = shirtEntry :: [] ∧
      garmentAt (captured .beltEntry 5 (inDryer [shirtEntry] [])) 3 =
        some { shirt with platen := none, place := .inTransfer }) := by decide +kernel

theorem witness_BeltExitTakesTheHead :
    (captureAt (captured .beltExit 5 running) .beltExit = some 5 ∧ running.dryer.belt = []) ∧
    (captureAt (captured .beltExit 5 (inDryer [] [beltEntry none])) .beltExit = some 5 ∧
      (inDryer [] [beltEntry none]).dryer.belt = beltEntry none :: [] ∧ (beltEntry none).garment = none) ∧
    (captureAt (captured .beltExit 5 (inDryer [] [beltEntry (some 3)])) .beltExit = some 5 ∧
      (inDryer [] [beltEntry (some 3)]).dryer.belt = beltEntry (some 3) :: [] ∧
      garmentAt (inDryer [] [beltEntry (some 3)]) 3 = some { shirt with platen := none, place := .inTransfer } ∧
      (inDryer [] [beltEntry (some 3)]).pack.queue.length < 4) := by decide +kernel

/-- The belt's head is the shirt, changed by `f`; its line needs 900 CU with a limit of 2000 CU, and the refeed limit is 1. -/
def exiting (f : Garment → Garment) (queue : List TimedEntry) : State :=
  let s := inDryer [] [beltEntry (some 3)]
  captured .beltExit 5
    (putGarment 7 { shirt with platen := none, place := .awaitingPack, slot := 9, cond := .failed }
      (putGarment 3 (f { shirt with platen := none, place := .onBelt })
        (putLine 5 { LineEntry.blank with state := .active, bound := 2, snap := some { parsePosting [] with cure := 900, scorch := 2000 } }
          { s with config := { s.config with refeedLimit := 1 }, pack := { s.pack with queue := queue } })))

/-- The verdicts of section 7.5's example, by dose, with a blank that has no scorch temperature. -/
theorem test_three_verdicts :
    Claims.verdictOf (exiting id []) { shirt with dryerDose := 9810000, peak := 1630 } = (some .cured, false, .good, none) ∧
    Claims.verdictOf (exiting id []) { shirt with dryerDose := 20000001 } = (none, false, .failed, some .scorched) ∧
    Claims.verdictOf (exiting id []) { shirt with dryerDose := 8700000, peak := 1612 } = (some .undercured, true, .good, none) ∧
    Claims.verdictOf (exiting id []) { shirt with dryerDose := 8700000, refeeds := 1 } =
      (some .undercured, false, .failed, some .undercured) := by decide +kernel

/-- The exit of a garment marked for refeed: the record says so, and the line has the dose in CU. -/
theorem test_refeed_at_exit :
    let t := after (exec .beltExitEdge (exiting (fun r => { r with dryerDose := 8700000 }) []))
    ((garmentAt t 3).map fun r => (r.refeed, r.verdict, r.place)) = some (true, some .undercured, .awaitingPack) ∧
    (lineAt t 5).lastDose = 870 := by decide +kernel

theorem witness_ExitJudgesTheGarment :
    captureAt (exiting id []) .beltExit = some 5 ∧ (exiting id []).dryer.belt = beltEntry (some 3) :: [] ∧
    garmentAt (exiting id []) 3 = some { shirt with platen := none, place := .onBelt } ∧
    (exiting id []).pack.queue.length < 4 ∧ (lineAt (exiting id []) 5).take = shirt.stamp := by decide +kernel

theorem witness_FullPackQueueLosesItsHead :
    let s := exiting (fun r => { r with cond := .failed }) [{ garment := 7, entry := 0 }, shirtEntry, shirtEntry, shirtEntry]
    captureAt s .beltExit = some 5 ∧ s.dryer.belt = beltEntry (some 3) :: [] ∧
    garmentAt s 3 = some { shirt with platen := none, place := .onBelt, cond := .failed } ∧
    s.pack.queue = { garment := 7, entry := 0 } :: [shirtEntry, shirtEntry, shirtEntry] ∧
    garmentAt s 7 = some { shirt with platen := none, place := .awaitingPack, slot := 9, cond := .failed } ∧
    s.reports.fifo.length < 16 := by decide +kernel

theorem witness_AttentionLineFollowsItsInput : (7 : Fin 8) ≠ 0 := by decide

/-! ## Witnesses: the station link -/

/-- A transaction of a requester's place, ready since 0. -/
def readyNow (r : Role) (k : TxnKind) : Queued :=
  { txn := { role := r, kind := k, word := 0, acted := true }, rank := 0, tries := 0, state := .queued, withdrawn := false }

/-- The state with a transaction, and some kept, in a requester's place. -/
def withPlace (q : Requester) (w : Queued) (kept : List Txn) (s : State) : State :=
  putPlace q { now := some w, kept := kept } s

/-- Attention line 6 is mapped to the load scanner and line 2 to the color carriage, asserted high. -/
def attnSettings : LinkSettings :=
  { settings with
    attention :=
      Tbl.put (Tbl.put settings.attention 6 { role := some .loadScanner, high := true }) 2
        { role := some .colorCarriage, high := true } }

/-- Lines 2 and 6 are asserted. -/
def attnRaised : State :=
  { linked with
    link := { linked.link with settings := some attnSettings }
    pins := { linked.pins with attention := Tbl.put (Tbl.put linked.pins.attention 6 true) 2 true } }

/-- A probe of ZONE3 is due. -/
def probeReady : State :=
  putModule .zone3 { state := .lost, silences := 3, probe := some 0, probeReady := true } linked

theorem witness_OldestWorkIsOldest :
    oldestWork (withPlace .sampler (readyNow .zone1 .getStatus) [] linked) =
      some { carrier := .requester .sampler, role := .zone1, txn := (readyNow .zone1 .getStatus).txn, rank := 0 } := by
  decide +kernel

theorem witness_ChoiceServesAttentionFirst :
    (attached attnRaised = true ∧ attnRaised.link.onLink = none ∧ attnRaised.link.service = none ∧
      attnRaised.link.settings = some attnSettings ∧ lineEligible attnRaised attnSettings 6 = true ∧
      (∀ b : Fin 8, 6 < b → lineEligible attnRaised attnSettings b = false) ∧
      (Tbl.at attnSettings.attention 6).role = some .loadScanner ∧
      Tbl.at attnSettings.roles (roleNum .loadScanner) = some 21) ∧
    ((∀ b : Fin 8, lineEligible (withPlace .sampler (readyNow .zone1 .getStatus) [] linked) settings b = false) ∧
      (placeAt (withPlace .sampler (readyNow .zone1 .getStatus) [] linked) .sampler).now =
        some (readyNow .zone1 .getStatus) ∧
      Tbl.at settings.roles (roleNum .zone1) = some 16) ∧
    ((∀ b : Fin 8, lineEligible probeReady settings b = false) ∧
      oldestWork probeReady = some { carrier := .probe, role := .zone3, txn := getStatus .zone3, rank := 0 } ∧
      attached probeReady = true ∧ probeReady.link.onLink = none ∧ probeReady.link.service = none ∧
      probeReady.link.settings = some settings ∧ Tbl.at settings.roles (roleNum .zone3) = some 18) := by decide +kernel

/-- A try on the link for a carrier. -/
def tryOf (c : Carrier) (r : Role) (k : TxnKind) : OnLink :=
  { carrier := c, role := r, addr := BitVec.ofNat 8 (10 + (roleNum r).val), kind := k, continued := false, word := 0
    settings := settings }

/-- The state with a try on the link. -/
def onTry (o : OnLink) (s : State) : State := putOnLink o s

/-- A SHOW of the match unit is on the link, with some kept behind it. -/
def showOnLink (kept : List Txn) : State :=
  onTry (tryOf (.requester .load) .loadScanner .putCmd)
    (withPlace .load { readyNow .loadScanner .putCmd with state := .onLink } kept linked)

/-- With nothing on the link the driver enable is off; a PUT_CMD of word 0 to address 21 goes out, its first character 0xA5 between its start and
stop bits, and the driver is off again after the ninth. -/
theorem witness_RequestFrameOnTheLine :
    (linked.link.onLink = none ∧ linkDriverEnable linked 0 = false) ∧
    (showOnLink []).link.onLink = some (tryOf (.requester .load) .loadScanner .putCmd) ∧
    (linkBits (showOnLink [])).take 10 = [false, true, false, true, false, false, true, false, true, true] ∧
    linkDriverEnable (showOnLink []) 89 = true ∧ linkDriverEnable (showOnLink []) 90 = false := by decide +kernel

theorem witness_AcceptCompletesTransaction :
    ((showOnLink []).link.onLink = some (tryOf (.requester .load) .loadScanner .putCmd) ∧
      roleAddr (showOnLink []) .loadScanner = some (tryOf (.requester .load) .loadScanner .putCmd).addr ∧
      classify (tryOf (.requester .load) .loadScanner .putCmd) (answer 21 1) = .accept 0 ∧
      (moduleAt (showOnLink []) .loadScanner).state = .present ∧
      (placeAt (showOnLink []) .load).now = some { readyNow .loadScanner .putCmd with state := .onLink } ∧
      (placeAt (showOnLink []) .load).kept = []) ∧
    ((placeAt (showOnLink [putCmd .loadScanner .show 9]) .load).kept = [putCmd .loadScanner .show 9] ∧
      unreachable (showOnLink [putCmd .loadScanner .show 9]) .loadScanner = false) := by decide +kernel

/-- Status maps with READY in bit 0, FAULT in bit 1 and VALUE in the bits from 2 on. -/
def readMaps : RoleMaps :=
  { ready := { width := 1, pos := 0 }, done := noMap, fault := { width := 1, pos := 1 }, value := { width := 16, pos := 2 } }

/-- A sampler read of a role on the link under those maps. -/
def readTry (r : Role) : OnLink :=
  { tryOf (.requester .sampler) r .getStatus with settings := { settings with maps := Tbl.all readMaps } }

/-- A sampler read is on the link, some targets behind it. -/
def sampling (r : Role) (behind : List Role) (s : State) : State :=
  onTry (readTry r)
    (withPlace .sampler { readyNow r .getStatus with state := .onLink } []
      (s.setDryer { s.dryer with reads := r :: behind }))

/-- The response that brings a role's status word. -/
def readAnswer (r : Role) (w : Nat) : List Byte := answerWord (BitVec.ofNat 8 (10 + (roleNum r).val)) 0x22 w

theorem witness_AcceptedReads :
    (∀ r : Role, r ∈ [Role.zone1, .beltDrive, .flash] →
      (sampling r [.zone2] running).link.onLink = some (readTry r) ∧
      classify (readTry r) (readAnswer r 0x1001) = .accept 0x1001 ∧ (moduleAt (sampling r [.zone2] running) r).state = .present ∧
      placeAt (sampling r [.zone2] running) .sampler = { now := some { readyNow r .getStatus with state := .onLink }, kept := [] } ∧
      ((sampling r [.zone2] running).dryer.reads.filter fun x => x != r) = .zone2 :: [] ∧
      ((sampling r [] running).dryer.reads.filter fun x => x != r) = [] ∧
      unreachable (sampling r [.zone2] running) .zone2 = false) ∧
    ((sampling .zone1 [] running).dryer.ticking = true ∧ (sampling .zone1 [] linked).dryer.ticking = false) ∧
    (statusFields readMaps 0x1001#32).fault = 0 ∧ (statusFields readMaps 0x1001#32).ready ≠ 0 ∧
    (statusFields readMaps 2#32).fault ≠ 0 := by
  refine ⟨fun r h => ?_, by decide +kernel⟩
  simp only [List.mem_cons, List.not_mem_nil, or_false] at h
  rcases h with rfl | rfl | rfl <;> decide +kernel

/-- A VALUE of 1024 reaches zone 1 and, READY being set, the belt runs. -/
theorem test_accepted_reads :
    (zoneAt (after (exec (.tryAccept (readAnswer .zone1 0x1001)) (sampling .zone1 [] running))) 0).received = some 1024 ∧
    (after (exec (.tryAccept (readAnswer .beltDrive 0x1001)) (sampling .beltDrive [] running))).dryer.running = true := by
  decide +kernel

/-- A probe of ZONE3 is on the link while its module is in a state. -/
def probeOnLink (st : ModuleState) : State :=
  onTry (tryOf .probe .zone3 .getStatus)
    (putModule .zone3 { state := st, silences := 3, probe := some 5, probeReady := false } linked)

theorem witness_AcceptedProbeBringsModuleBack :
    ((probeOnLink .lost).link.onLink = some (tryOf .probe .zone3 .getStatus) ∧
      roleAddr (probeOnLink .lost) .zone3 = some (tryOf .probe .zone3 .getStatus).addr ∧
      classify (tryOf .probe .zone3 .getStatus) (answerWord 18 0x22 7) = .accept 7 ∧
      (moduleAt (probeOnLink .lost) .zone3).state ≠ .present ∧ (probeOnLink .lost).ctl.mode = .idle) ∧
    (moduleAt (probeOnLink .unknown) .zone3).state ≠ .present := by decide +kernel

/-- The probe's role has become absent since. -/
def leftProbe : State :=
  let s := probeOnLink .unknown
  s.setLink { s.link with settings := some { settings with roles := Tbl.put settings.roles (roleNum .zone3) none } }

theorem witness_ProbeOfALeftAddressIsIdle :
    leftProbe.link.onLink = some (tryOf .probe .zone3 .getStatus) ∧
    roleAddr leftProbe .zone3 ≠ some (tryOf .probe .zone3 .getStatus).addr ∧
    classify (tryOf .probe .zone3 .getStatus) (answerWord 18 0x22 7) = .accept 7 ∧
    classify (tryOf .probe .zone3 .getStatus) (answer 18 0x42) = .decline ∧
    classify (tryOf .probe .zone3 .getStatus) [] = .silence := by decide +kernel

/-- The role's probe stays out of the queue then, so that the link's choice and the line clock go on. -/
theorem test_absent_role_frees_the_link :
    let t := after (exec (.trySilence []) (putModule .zone3 { state := .lost, silences := 3, probe := some 0, probeReady := true } leftProbe))
    choiceReady t = false ∧ nextOwn t = none := by decide +kernel

/-- A display try to a scanner after a number of earlier tries. -/
def showTried (tries : Nat) : State :=
  onTry (tryOf (.requester .load) .loadScanner .putCmd)
    (withPlace .load { readyNow .loadScanner .putCmd with state := .onLink, tries := tries } [] linked)

/-- The last try that the retry limit of 2 allows: one more follows after the second. -/
theorem witness_DeclineWaitsOutTheRetryGap :
    (showTried 1).link.onLink = some (tryOf (.requester .load) .loadScanner .putCmd) ∧
    classify (tryOf (.requester .load) .loadScanner .putCmd) (answer 21 0x41) = .decline ∧
    (placeAt (showTried 1) .load).now = some { readyNow .loadScanner .putCmd with state := .onLink, tries := 1 } ∧
    1 + 1 ≤ (tryOf (.requester .load) .loadScanner .putCmd).settings.retryLimit ∧
    unreachable (showTried 1) (readyNow .loadScanner .putCmd).txn.role = false := by decide +kernel

/-- The service of line 6 with the color carriage or a scanner. -/
def serving (r : Role) (status : Option Word) : Service :=
  { line := 6, role := r, addr := BitVec.ofNat 8 (10 + (roleNum r).val), settings := settings, status := status, tries := 0
    retryAt := none }

/-- A service is in progress with its try on the link. -/
def served (r : Role) (k : TxnKind) (status : Option Word) (s : State) : State :=
  putService (serving r status) (onTry (tryOf .attention r k) s)

theorem witness_DeclinedServiceHoldsItsLine :
    (served .colorCarriage .getStatus none linked).link.onLink = some (tryOf .attention .colorCarriage .getStatus) ∧
    classify (tryOf .attention .colorCarriage .getStatus) (answer 15 0x42) = .decline ∧
    (served .colorCarriage .getStatus none linked).link.service = some (serving .colorCarriage none) ∧
    (serving .colorCarriage none).status = none := by decide +kernel

/-- A SHOW is on the link to a load scanner whose module has been silent a number of times. -/
def silentScanner (st : ModuleState) (n : Nat) : State :=
  putModule .loadScanner { state := st, silences := n, probe := none, probeReady := false } (showTried 0)

theorem witness_ThirdSilenceLosesTheModule :
    ((silentScanner .present 2).link.onLink = some (tryOf (.requester .load) .loadScanner .putCmd) ∧
      roleAddr (silentScanner .present 2) .loadScanner = some (tryOf (.requester .load) .loadScanner .putCmd).addr ∧
      classify (tryOf (.requester .load) .loadScanner .putCmd) [] = .silence ∧
      (placeAt (silentScanner .present 2) .load).now = some { readyNow .loadScanner .putCmd with state := .onLink } ∧
      (placeAt (silentScanner .present 2) .load).kept = [] ∧ (silentScanner .present 2).ctl.mode = .idle ∧
      (moduleAt (silentScanner .present 2) .loadScanner).state ≠ .lost ∧
      2 ≤ (moduleAt (silentScanner .present 2) .loadScanner).silences) ∧
    (∀ (p : Requester) (n : Queued), p ≠ .load → (placeAt (silentScanner .present 2) p).now = some n →
      n.txn.role ≠ .loadScanner) ∧
    ((moduleAt (silentScanner .unknown 1) .loadScanner).state ≠ .lost ∧
      (moduleAt (silentScanner .unknown 1) .loadScanner).silences < 2) ∧
    (moduleAt (silentScanner .lost 3) .loadScanner).state = .lost := by
  refine ⟨by decide +kernel, ?_, by decide +kernel, by decide +kernel⟩
  intro p n h hn
  cases p <;> first | exact (h rfl).elim | cases hn

/-- A pair whose second transfer waits out a gap until 100. -/
def pairWaits (c : Clock) : State :=
  atClock c (putService { serving .loadScanner (some 1) with retryAt := some 100, tries := 1 } linked)

/-- A retry, a probe and a decline hold that end at 100. -/
def timesAt (c : Clock) : State :=
  putAttn 6 { hold := some 100, served := false }
    (putModule .zone3 { state := .lost, silences := 3, probe := some 100, probeReady := false }
      (withPlace .load { readyNow .loadScanner .putCmd with state := .retryGap 100 } [] (atClock c linked)))

theorem witness_LinkTimesMakeWorkReady :
    ((placeAt (timesAt 99) .load).now = some { readyNow .loadScanner .putCmd with state := .retryGap 100 } ∧
      reached (timesAt 99) 100 = false ∧ reached (timesAt 100) 100 = true) ∧
    ((pairWaits 99).link.service = some { serving .loadScanner (some 1) with retryAt := some 100, tries := 1 } ∧
      reached (pairWaits 99) 100 = false ∧ reached (pairWaits 100) 100 = true) ∧
    (attached (timesAt 99) = true ∧ (roleAddr (timesAt 99) .zone3).isSome = true ∧
      (moduleAt (timesAt 99) .zone3).probe = some 100 ∧
      (moduleAt (timesAt 99) .zone3).probeReady = false) ∧
    (attnAt (timesAt 99) 6).hold = some 100 := by decide +kernel

/-! ## Witnesses: the carousel -/

/-- Every station has released its platen. -/
def allFree : State := running.setCarousel { running.carousel with released := Tbl.all true }

/-- A home is asked for on an unhomed carousel in HOLD. -/
def homeWanted : State := inMode .hold (linked.setCarousel { linked.carousel with homeAsked := true })

theorem witness_IndexAndHomeStart :
    ¬(linked.ctl.mode = .run ∧ linked.carousel.homed = true ∧ linked.carousel.op = .none ∧
      ∀ st : Station, released linked st = true) ∧
    ¬(running.carousel.homeAsked = true ∧ running.carousel.homed = false ∧ running.carousel.op = .none ∧
      stationWork running = false ∧ (running.ctl.mode = .run ∨ running.ctl.mode = .hold)) ∧
    (allFree.ctl.mode = .run ∧ allFree.carousel.homed = true ∧ allFree.carousel.op = .none ∧
      (placeAt allFree .carousel).now = none ∧ unreachable allFree .indexDrive = false) ∧
    (∀ st : Station, released allFree st = true) ∧
    (homeWanted.carousel.homeAsked = true ∧ homeWanted.carousel.homed = false ∧ homeWanted.carousel.op = .none ∧
      stationWork homeWanted = false ∧ homeWanted.ctl.mode = .hold ∧ (placeAt homeWanted .carousel).now = none ∧
      unreachable homeWanted .indexDrive = false) := by
  refine ⟨fun h => ?_, by decide +kernel, by decide +kernel, fun st => by cases st <;> decide +kernel, by decide +kernel⟩
  exact absurd h.1 (by decide +kernel)

/-- The index drive's module is LOST. -/
def driveLost (s : State) : State :=
  putModule .indexDrive { state := .lost, silences := 3, probe := none, probeReady := false } s

theorem witness_UnreachableDriveFaults :
    ((driveLost allFree).carousel.op = .none ∧ (placeAt (driveLost allFree) .carousel).now = none ∧
      unreachable (driveLost allFree) .indexDrive = true ∧ (driveLost allFree).dryer.ticking = true ∧
      (driveLost allFree).ctl.mode = .run ∧ (driveLost allFree).carousel.homed = true) ∧
    (∀ st : Station, released (driveLost allFree) st = true) ∧
    ((driveLost (ticking homeWanted)).carousel.homeAsked = true ∧ (driveLost (ticking homeWanted)).carousel.homed = false ∧
      stationWork (driveLost (ticking homeWanted)) = false ∧ (driveLost (ticking homeWanted)).ctl.mode = .hold ∧
      (driveLost (ticking homeWanted)).dryer.ticking = true ∧
      unreachable (driveLost (ticking homeWanted)) .indexDrive = true) :=
  ⟨by decide +kernel, fun st => by cases st <;> decide +kernel, by decide +kernel⟩

/-- An index or a home is MOVING with its timer of 500 ticks started at 0. -/
def movingAt (home : Bool) (r : RunRequest) (c : Clock) : State :=
  atClock c
    ((asking .hold r running).setCarousel
      { running.carousel with op := .moving home, homed := !home, timer := some { start := 0, limit := 500 } })

theorem witness_IndexTimerExpiryFaults :
    ((movingAt false .absent 499).carousel.op ≠ .none ∧
      (movingAt false .absent 499).carousel.timer = some { start := 0, limit := 500 } ∧
      ((movingAt false .absent 499).clock - 0).toNat < 500) ∧
    ((movingAt false .absent 500).carousel.op ≠ .none ∧
      (movingAt false .absent 500).carousel.timer = some { start := 0, limit := 500 } ∧
      500 ≤ ((movingAt false .absent 500).clock - 0).toNat ∧ (movingAt false .absent 500).dryer.ticking = true ∧
      (movingAt false .absent 500).reports.fifo.length + 2 ≤ 16) ∧
    ((movingAt true .pendingHome 500).carousel.op = .moving true ∧
      (movingAt true .pendingHome 500).ctl.request = .pendingHome) := by decide +kernel

/-- Bit 0 of a role's status word is DONE and bit 1 FAULT. -/
def doneSettings (r : Role) : LinkSettings :=
  { settings with
    maps :=
      Tbl.put settings.maps (roleNum r)
        { ready := noMap, done := { width := 1, pos := 0 }, fault := { width := 1, pos := 1 }, value := noMap } }

/-- A service of a role under those maps. -/
def doneService (r : Role) : Service := { serving r none with settings := doneSettings r }

/-- A role's attention is served. -/
def servedDone (r : Role) (s : State) : State := putService (doneService r) (onTry (tryOf .attention r .getStatus) s)

/-- The response that brings a role's status with DONE set. -/
def doneAnswer (r : Role) : List Byte := answerWord (BitVec.ofNat 8 (10 + (roleNum r).val)) 0x22 1

theorem witness_statusDone (r : Role) (s : State) (h : (moduleAt s r).state = .present) :
    Claims.statusDone (servedDone r s) (doneAnswer r) r :=
  ⟨tryOf .attention r .getStatus, doneService r, 1, rfl, rfl, by cases r <;> decide +kernel, rfl, rfl, rfl, h,
    by cases r <;> decide +kernel, by cases r <;> decide +kernel⟩

/-- An index or a home is SETTLING and the drive's attention is served, in a mode with a request. -/
def driveServed (home : Bool) (m : Mode) (r : RunRequest) : State :=
  servedDone .indexDrive (asking m r (running.setCarousel { running.carousel with op := .settling home, homed := !home }))

theorem witness_DriveDoneCompletesTheIndex :
    Claims.statusDone (driveServed false .run .absent) (doneAnswer .indexDrive) .indexDrive ∧
    (driveServed false .run .absent).carousel.op = .settling false := ⟨witness_statusDone _ _ rfl, rfl⟩

theorem witness_DriveDoneCompletesTheHome :
    (driveServed true .hold .pendingHome).carousel.op = .settling true ∧
    (driveServed true .hold .pendingHome).ctl.request = .pendingHome ∧ (driveServed true .hold .pendingHome).ctl.mode = .hold ∧
    requiredLost (driveServed true .hold .pendingHome) = false ∧
    (driveServed true .run .absent).ctl.request ≠ .pendingHome ∧
    (driveServed true .run .absent).reports.fifo.length + 4 ≤ 16 := by decide +kernel

/-- Slot 5's line with the planes of both white channels, a factor of 16 and a flash requirement. -/
def planedLine : LineEntry :=
  { LineEntry.blank with
    state := .active, bound := 1
    snap :=
      some
        { parsePosting [] with
          factor := some 16, flash := 30, chains := Tbl.put (Tbl.put (Tbl.all none) 0 (some 0x2000)) 1 (some 0x3000) } }

/-- An index or a home is SETTLING with the shirt, changed by `f`, one position before a station or an approach, and a white tally. -/
def arriving (home : Bool) (q : Fin 12) (f : Garment → Garment) (tally : List TallyPlace) : State :=
  servedDone .indexDrive
    (putTally .white tally
      (putLine 5 planedLine
        (withShirt q f (running.setCarousel { running.carousel with op := .settling home, homed := !home }))))

/-- A tally place. -/
def tallyOf (g : Fin 32) : TallyPlace := { garment := { index := g, stamp := 0 }, channels := [0], count := none }

theorem witness_CompletionHandsTheArrivals (home : Bool) (q : Fin 12) (f : Garment → Garment) (tally : List TallyPlace) :
    (Claims.statusDone (arriving home q f tally) (doneAnswer .indexDrive) .indexDrive ∧
      (arriving home q f tally).carousel.op = .settling home ∧ (arriving home q f tally).reports.fifo.length + 2 ≤ 16) ∧
    ((Claims.workAt (arriving home 0 id []) .pretreat).isSome = true ∧
      (Claims.workAt (arriving home 1 (fun r => { r with pretreat := .done }) []) .press).isSome = true ∧
      (Claims.workAt (arriving home 3 id []) .white).isSome = true ∧
      (Claims.workAt (arriving home 4 (fun r => { r with white := .done }) []) .flash).isSome = true) ∧
    (Claims.startsAt (arriving home 2 id []) .white = some ({ garment := (tallyOf 3).garment, slot := 5 }, [0, 1]) ∧
      tallyAt (arriving home 2 id []) .white = [] ∧
      tallyAt (arriving home 2 id [tallyOf 3]) .white = [tallyOf 3] ∧
      ¬(tallyAt (arriving home 2 id [tallyOf 7, tallyOf 8]) .white).length < 2 ∧
      Claims.startsAt (arriving home 5 id []) .color = some ({ garment := (tallyOf 3).garment, slot := 5 }, [])) :=
  ⟨⟨witness_statusDone _ _ rfl, rfl, Nat.le_of_ble_eq_true rfl⟩, by cases home <;> decide +kernel, by cases home <;> decide +kernel⟩

/-- The shirt that comes to position 3 has its two white planes walked from their chain addresses; one that comes to COLOR without planes is released,
its mark SKIPPED; a FAILED one that comes to UNLOAD lights LAMP_REJECT. -/
theorem test_arrivals :
    let go := fun q f => after (exec (.tryAccept (doneAnswer .indexDrive)) (arriving false q f []))
    ((walkerAt (go 2 id) 0).next = 0x2000 ∧ (walkerAt (go 2 id) 1).state = .walking ∧ (walkerAt (go 2 id) 2).state = .idle) ∧
    (released (go 6 id) .color = true ∧ (garmentAt (go 6 id) 3).map Garment.color = some .skipped) ∧
    (go 8 fun r => { r with cond := .failed }).carousel.lamp = some .reject := by decide +kernel

/-- A home asked for while one is in flight is that one: after it faults no home starts of itself (R37, R175). -/
theorem test_no_home_without_a_request :
    let s := pendRun (movingAt true .reading 499)
    (after (exec .indexTimerExpiry (atClock 500 s))).carousel.homeAsked = false := by decide +kernel

/-! ## Witnesses: pretreatment and press -/

/-- A spray pass waits, in a mode. -/
def passWaits (m : Mode) : State :=
  inMode m ((spraying 0 (Tbl.all .closed)).setPretreat { (spraying 0 (Tbl.all .closed)).pretreat with state := .waiting })

theorem witness_PassStartLatchesAndCommands :
    ((passWaits .hold).pretreat.state = .waiting ∧ mayWork (passWaits .hold) = false) ∧
    ((passWaits .run).pretreat.state = .waiting ∧ (passWaits .run).ctl.mode = .run ∧ (passWaits .run).carousel.homed = true ∧
      (passWaits .run).carousel.op = .none ∧ (passWaits .run).pretreat.tank.state ≠ .empty ∧
      (placeAt (passWaits .run) .pretreat).now = none ∧ unreachable (passWaits .run) .sprayCarriage = false) := by
  decide +kernel

theorem witness_ValvesOpenAndCloseOnTime :
    (valveAt (atClock 99 (spraying 1 (oneValve 3 (.armed 100 2110 201)))) 3 = .armed 100 2110 201 ∧
      reached (atClock 99 (spraying 1 (oneValve 3 (.armed 100 2110 201)))) 100 = false ∧
      reached (atClock 100 (spraying 1 (oneValve 3 (.armed 100 2110 201)))) 100 = true) ∧
    (valveAt (atClock 2110 (spraying 1 (oneValve 3 (.opened 100 2110 201)))) 3 = .opened 100 2110 201 ∧
      reached (atClock 2109 (spraying 1 (oneValve 3 (.opened 100 2110 201)))) 2110 = false ∧
      reached (atClock 2110 (spraying 1 (oneValve 3 (.opened 100 2110 201)))) 2110 = true ∧
      (atClock 2110 (spraying 1 (oneValve 3 (.opened 100 2110 201)))).pretreat.state = .spraying ∧
      (atClock 2110 (spraying 1 (oneValve 3 (.opened 100 2110 201)))).pretreat.tank.rest < 1000) := by decide +kernel

/-- The example "Two Rows of a Pass": zone 3 opens at 200,500 and closes at 202,510, which leaves 989 µL and 950 nL. -/
theorem test_two_rows_of_a_pass :
    let t := after (exec (.valveCloseTime 3) (atClock 202510 (spraying 1 (oneValve 3 (.opened 200500 202510 201)))))
    t.pretreat.tank.level = 989 ∧ t.pretreat.tank.rest = 950 ∧ t.pretreat.tank.state = .ready := by decide +kernel

/-- The pass has had its 16 rows and one channel is still open. -/
def finishing : State :=
  let s := spraying 16 (oneValve 3 (.opened 100 2110 201))
  atClock 2110 (s.setPretreat { s.pretreat with state := .finishing, job := some { garment := 3, platen := 1 } })

theorem witness_LastValveCompletesThePass :
    (finishing.pretreat.state = .finishing ∧ finishing.pretreat.job = some { garment := 3, platen := 1 } ∧
      finishing.pretreat.row = 16 ∧ garmentAt finishing 3 = some { shirt with platen := some 1 } ∧
      valveAt finishing 3 = .opened 100 2110 201 ∧ reached finishing 2110 = true ∧ platenAt finishing 1 = 1 ∧
      finishing.carousel.op = .none) ∧
    (∀ y : Fin 8, y ≠ 3 → valveAt finishing y = .closed) := by decide +kernel

theorem witness_PassGuardCutsThePass :
    ((spraying 9 (Tbl.all .closed)).pretreat.state = .spraying ∧
      (spraying 9 (Tbl.all .closed)).pretreat.guard = some { start := 0, limit := 3000000 } ∧
      (spraying 9 (Tbl.all .closed)).pretreat.job = some { garment := 3, platen := 11 } ∧
      garmentAt (spraying 9 (Tbl.all .closed)) 3 = some { shirt with platen := some 1 } ∧ shirt.cond = .good) ∧
    ((atClock 2999999 (spraying 9 (Tbl.all .closed))).clock - 0).toNat < 3000000 ∧
    3000000 ≤ ((atClock 3000000 (spraying 9 (Tbl.all .closed))).clock - 0).toNat := by decide +kernel

/-- The press unit in a state on the shirt at PRESS, with its guard of 22 s started at 0. -/
def pressing (st : PressState) (c : Clock) : State :=
  atClock c
    (withShirt 2 id
      (running.setPress
        { state := st, job := some { garment := 3, platen := 2 }, guard := some { start := 0, limit := 2200000 } }))

theorem witness_PressCycleStartSendsSetpoint :
    ((inMode .hold (pressing .waiting 0)).press.state = .waiting ∧ mayWork (inMode .hold (pressing .waiting 0)) = false) ∧
    ((pressing .waiting 0).press.state = .waiting ∧ (pressing .waiting 0).ctl.mode = .run ∧
      (pressing .waiting 0).carousel.homed = true ∧ (pressing .waiting 0).carousel.op = .none ∧
      (pressing .waiting 0).press.job = some { garment := 3, platen := 2 } ∧
      garmentAt (pressing .waiting 0) 3 = some { shirt with platen := some 2 } ∧
      (placeAt (pressing .waiting 0) .press).now = none ∧ unreachable (pressing .waiting 0) .press = false ∧
      (catalogAt (pressing .waiting 0) shirt.blank).pressTemp ≤ 5000) := by decide +kernel

theorem witness_PressGuardCutsTheCycle :
    ((pressing .pressing 2199999).press.state = .pressing ∧
      (pressing .pressing 2199999).press.guard = some { start := 0, limit := 2200000 } ∧
      (pressing .pressing 2199999).press.job = some { garment := 3, platen := 2 } ∧
      garmentAt (pressing .pressing 2199999) 3 = some { shirt with platen := some 2 } ∧
      ((pressing .pressing 2199999).clock - 0).toNat < 2200000) ∧
    (2200000 ≤ ((pressing .pressing 2200000).clock - 0).toNat ∧ platenAt (pressing .pressing 2200000) 2 = 2 ∧
      (pressing .pressing 2200000).carousel.op = .none) := by decide +kernel

/-! ## Witnesses: band chains -/

/-- The shirt's name for the fetch engine and the print units. -/
def shirtId : GarmentId := { index := 3, stamp := 0 }

/-- A walker at work on the shirt. -/
def walker : Walker :=
  { Walker.reset with
    state := .walking, work := some { garment := shirtId, slot := 5 }, next := 0x2000, quota := some 2, startMark := some 1 }

/-- The color channels 2 and 4 walk, channel 2 holding bank 0. -/
def walking : State :=
  withShirt 7 id
    (running.setEngine
      { Engine.reset with
        walkers := Tbl.put (Tbl.put Engine.reset.walkers 2 walker) 4 walker
        banks := Tbl.put Engine.reset.banks 0 { Bank.freed with state := .staged, owner := some 2 } })

theorem witness_ChannelChoiceIsFewestHeld :
    chooseChannel walking = some 4 ∧ chooseChannel linked = none ∧ eligible walking 2 = true := by decide +kernel

/-- A fetch is in flight for channel 2 in bank 1. -/
def fetching (ph : FetchPhase) (k : AccessKind) (length : Nat) : State :=
  withAccess k length
    (walking.setEngine
      { walking.engine with
        banks := Tbl.put walking.engine.banks 1 { state := .filling, owner := some 2, band := none, freeAsked := false }
        fetch := some { channel := 2, bank := 1, phase := ph, stopping := false } })

theorem witness_FetchStartTakesLowestFreeBank :
    (attached (fetching .descriptor .descriptor 32) = true ∧ (fetching .descriptor .descriptor 32).engine.fetch ≠ none) ∧
    (attached walking = true ∧ walking.engine.fetch = none ∧ chooseChannel walking = some 4 ∧
      (bankAt walking 1).state = .free ∧ walking.port.current = none) ∧
    (∀ x : Fin 8, x < 1 → (bankAt walking x).state ≠ .free) := by decide +kernel

/-- The bytes of a descriptor: data at 0x3000, 512 bytes, 7 drops, the chain's end. -/
def endDescriptor : List Byte :=
  leBytes 8 0x3000 ++ leBytes 8 0 ++ leBytes 4 512 ++ leBytes 4 7 ++ leBytes 3 100 ++ leBytes 1 3 ++ leBytes 4 0

theorem witness_AcceptedDescriptorFillsTheBand :
    .descriptor ∉ (fetching .descriptor .descriptor 32).port.late ∧
    (fetching .descriptor .descriptor 32).port.current = some (accessOf .descriptor 32) ∧
    (fetching .descriptor .descriptor 32).port.waiting = [] ∧ (accessOf .descriptor 32).discard = false ∧
    endDescriptor.length = (accessOf .descriptor 32).length ∧
    (fetching .descriptor .descriptor 32).engine.fetch =
      some { channel := 2, bank := 1, phase := .descriptor, stopping := false } ∧
    (walkerAt (fetching .descriptor .descriptor 32) 2).work = some { garment := shirtId, slot := 5 } ∧
    checkDescriptor (fetching .descriptor .descriptor 32) 2 shirtId (parseDescriptor endDescriptor) = none := by
  decide +kernel

theorem witness_DescriptorErrorFailsTheGarment :
    (.descriptor ∉ (fetching .descriptor .descriptor 32).port.late ∧
      (fetching .descriptor .descriptor 32).port.current = some (accessOf .descriptor 32) ∧
      (fetching .descriptor .descriptor 32).engine.fetch =
        some { channel := 2, bank := 1, phase := .descriptor, stopping := false } ∧
      (walkerAt (fetching .descriptor .descriptor 32) 2).work = some { garment := shirtId, slot := 5 } ∧
      garmentAt (fetching .descriptor .descriptor 32) 3 = some { shirt with platen := some 7 } ∧ shirt.cond = .good) ∧
    (∀ c : Fin 6, (laneAt (fetching .descriptor .descriptor 32) c).bank ≠ some 1) := by decide +kernel

/-- A descriptor that passes every check, as `parseDescriptor` gives it. -/
def plainDescriptor : Descriptor :=
  { dataAddr := 0x3000, nextAddr := 0x2020, length := 64, drops := 0, tag := 0, swathEnd := false, chainEnd := false
    repass := 0 }

/-- Channel 2's walker has read a number of descriptors and closed a number of swaths. -/
def walked (read swaths : Nat) : State := putWalker 2 { walker with read := read, swaths := swaths } walking

/-- One descriptor for each check that fails, in their order, and one at each limit that passes. -/
theorem witness_DescriptorChecksInOrder :
    checkDescriptor walking 2 shirtId { plainDescriptor with dataAddr := 0x3004 } = some .misaligned ∧
    checkDescriptor walking 2 shirtId { plainDescriptor with length := 56 } = some .badLength ∧
    checkDescriptor walking 2 shirtId { plainDescriptor with length := 65544 } = some .badLength ∧
    checkDescriptor walking 2 shirtId { plainDescriptor with nextAddr := 0 } = some .noChainEnd ∧
    checkDescriptor (walked 4095 0) 2 shirtId plainDescriptor = some .tooManyBands ∧
    checkDescriptor (walked 9 63) 2 shirtId { plainDescriptor with swathEnd := true } = some .tooManySwaths ∧
    checkDescriptor walking 2 shirtId plainDescriptor = none ∧
    checkDescriptor walking 2 shirtId { plainDescriptor with length := 65536 } = none ∧
    checkDescriptor (walked 4094 0) 2 shirtId plainDescriptor = none := by decide +kernel

/-- The descriptor of a band in data. -/
def dataDescriptor : Descriptor := parseDescriptor endDescriptor

theorem witness_BurstsFillTheBank :
    (.burst ∉ (fetching (.data dataDescriptor 1) .burst 256).port.late ∧
      (fetching (.data dataDescriptor 1) .burst 256).port.current = some (accessOf .burst 256) ∧
      (fetching (.data dataDescriptor 1) .burst 256).port.waiting = [] ∧
      (zeros 256).length = (accessOf .burst 256).length ∧
      (fetching (.data dataDescriptor 1) .burst 256).engine.fetch =
        some { channel := 2, bank := 1, phase := .data dataDescriptor 1, stopping := false } ∧
      Memory.wf (fetching (.data dataDescriptor 1) .burst 256).staging = true ∧ 256 * 1 < dataDescriptor.length) ∧
    (dataDescriptor.length ≤ 256 * 2 ∧ (bankAt (fetching (.data dataDescriptor 2) .burst 256) 1).freeAsked = false) := by
  decide +kernel

/-! ## Witnesses: printing -/

/-- The color unit in a state on the shirt, its times running from 0, in a mode. -/
def printing (st : PrintState) (m : Mode) (c : Clock) : State :=
  atClock c
    (inMode m
      (putUnit .color
        { state := st, job := some { garment := shirtId, platen := 7, slot := 5 }, active := [2], swath := 1, passes := 1
          pass := 1, graceful := false, starve := some { start := 0, limit := 10000 }, starveLimit := 100
          guard := some { start := 0, limit := 3000000 } } walking))

/-- The tally place of the shirt's color print. -/
def tallied (s : State) : State := putTally .color [{ garment := shirtId, channels := [2], count := none }] s

theorem witness_PrintBeginsFromItsTallyPlace :
    ((unitAt (printing .arrived .hold 0) .color).state = .arrived ∧ mayWork (printing .arrived .hold 0) = false) ∧
    ((unitAt (tallied (printing .arrived .run 0)) .color).state = .arrived ∧
      (unitAt (tallied (printing .arrived .run 0)) .color).job = some { garment := shirtId, platen := 7, slot := 5 } ∧
      mayWork (tallied (printing .arrived .run 0)) = true ∧
      tallyFor (tallied (printing .arrived .run 0)) .color shirtId =
        some { garment := shirtId, channels := [2], count := none }) ∧
    (mayWork (printing .arrived .run 0) = true ∧ tallyFor (printing .arrived .run 0) .color shirtId = none ∧
      garmentAt (printing .arrived .run 0) 3 = some { shirt with platen := some 7 } ∧ shirt.cond = .good) := by
  decide +kernel

/-- Bank 0 holds band 1 of swath 1, which closes it with a repass, on channel 2's staged queue. -/
def bandStaged (s : State) : State :=
  putStaged 2 [0]
    (putBank 0
      { state := .staged, owner := some 2, freeAsked := false
        band :=
          some { garment := shirtId, swath := 1, band := 1, closes := true, passes := 2, length := 64, drops := 7, tag := 0 } }
      s)

theorem witness_SwathStartCommandsTheCarriage :
    ((unitAt (printing .waiting .run 0) .color).state = .waiting ∧
      (unitAt (printing .waiting .run 0) .color).job = some { garment := shirtId, platen := 7, slot := 5 } ∧
      2 ∈ (unitAt (printing .waiting .run 0) .color).active ∧ channelReady (printing .waiting .run 0) shirtId 1 2 = false) ∧
    ((∀ c ∈ (unitAt (bandStaged (printing .waiting .run 0)) .color).active,
        channelReady (bandStaged (printing .waiting .run 0)) shirtId 1 c = true ∧
        channelPasses (bandStaged (printing .waiting .run 0)) shirtId 1 c ≤ 4) ∧
      (placeAt (bandStaged (printing .waiting .run 0)) (printRequester .color)).now = none ∧
      unreachable (bandStaged (printing .waiting .run 0)) (printRole .color) = false) := by decide +kernel

theorem witness_PrintTimersCutThePrint :
    ((unitAt (printing .waiting .run 9999) .color).job = some { garment := shirtId, platen := 7, slot := 5 } ∧
      garmentAt (printing .waiting .run 9999) 3 = some { shirt with platen := some 7 } ∧ shirt.cond = .good ∧
      (unitAt (printing .waiting .run 9999) .color).state = .waiting ∧
      (unitAt (printing .waiting .run 9999) .color).starve = some { start := 0, limit := 10000 } ∧
      ((printing .waiting .run 9999).clock - 0).toNat < 10000 ∧ 10000 ≤ ((printing .waiting .run 10000).clock - 0).toNat ∧
      2 ∈ (unitAt (printing .waiting .run 10000) .color).active ∧
      channelReady (printing .waiting .run 10000) shirtId (unitAt (printing .waiting .run 10000) .color).swath 2 = false) ∧
    (∀ c ∈ (unitAt (bandStaged (printing .waiting .run 10000)) .color).active,
      channelReady (bandStaged (printing .waiting .run 10000)) shirtId 1 c = true) ∧
    ((unitAt (printing .command .run 2999999) .color).state = .command ∧
      (unitAt (printing .command .run 2999999) .color).guard = some { start := 0, limit := 3000000 } ∧
      ((printing .command .run 2999999).clock - 0).toNat < 3000000 ∧
      3000000 ≤ ((printing .command .run 3000000).clock - 0).toNat) := by decide +kernel

/-- The band of bank 0, which closes its swath or not. -/
def bandRecord (closes : Bool) : Band :=
  { garment := shirtId, swath := 1, band := 1, closes := closes, passes := 1, length := 64, drops := 7, tag := 0 }

/-- Channel 2's lane emits bank 0. -/
def emittingBand (closes : Bool) : State :=
  putLane 2 { state := .emitting, sum := 4294967290, bank := some 0, lastPass := 1 }
    (putStaged 2 [0]
      (putBank 0 { state := .emitting, owner := some 2, freeAsked := false, band := some (bandRecord closes) }
        (printing .printing .run 0)))

theorem witness_BandEmissionSumsDrops :
    ((unitAt (emittingBand true) (channelUnit 2)).state = .printing ∧ (laneAt (emittingBand true) 2).state = .emitting ∧
      (unitAt (emittingBand true) (channelUnit 2)).job = some { garment := shirtId, platen := 7, slot := 5 } ∧
      (laneAt (emittingBand true) 2).bank = some 0 ∧ (bankAt (emittingBand true) 0).band = some (bandRecord true) ∧
      (bankAt (emittingBand true) 0).owner = some 2 ∧
      (laneAt (emittingBand true) 2).lastPass ≤ (unitAt (emittingBand true) (channelUnit 2)).pass) ∧
    ((bankAt (emittingBand false) 0).band = some (bandRecord false) ∧
      ∀ x ∈ stagedAt (emittingBand false) 2, x ≠ 0 →
        bandOfSwath (emittingBand false) shirtId 1 (fun y => y.band == 1 + 1) x = false) := by decide +kernel

/-! ## Witnesses: heat -/

/-- The flash unit in a state on the shirt at FLASH, with a requirement in CU and what its source received, at a clock value. -/
def flashing (st : FlashState) (need : Nat) (v : Option Nat) (m : Mode) (c : Clock) : State :=
  atClock c
    (inMode m
      (withShirt 5 id
        (running.setFlash
          { state := st, job := some { garment := shirtId, platen := 5, slot := 5 }, need := need, periodMs := 125
            nextTick := 12500, limit := some { start := 0, limit := 800000 }
            source := { received := v, lastGood := none, age := 0, state := .stale }, sampling := false })))

/-- The exposure's read brings a FAULT. -/
theorem witness_AcceptedReads_fault :
    (sampling .flash [] (flashing .exposing 30 none .run 0)).flash.state = .exposing ∧
    classify (readTry .flash) (readAnswer .flash 2) = .accept 2 ∧
    (sampling .flash [] (flashing .exposing 30 none .run 0)).flash.job = some { garment := shirtId, platen := 5, slot := 5 } ∧
    (garmentAt (sampling .flash [] (flashing .exposing 30 none .run 0)) 3).map Garment.cond = some .good ∧
    (placeAt (sampling .flash [] (flashing .exposing 30 none .run 0)) .flash).now = none ∧
    unreachable (sampling .flash [] (flashing .exposing 30 none .run 0)) .flash = false := by decide +kernel

/-- It cuts the exposure with cause 4. -/
theorem test_exposure_fault :
    let t := after (exec (.tryAccept (readAnswer .flash 2)) (sampling .flash [] (flashing .exposing 30 none .run 0)))
    t.flash.state = .ending ∧ (t.reports.fifo.head?.map fun i => (i.kind, i.detail)) = some (.flashCut, 4) := by decide +kernel

theorem witness_ExposureStartSendsHeatOn :
    ((flashing .waiting 30 none .hold 0).flash.state = .waiting ∧ mayWork (flashing .waiting 30 none .hold 0) = false) ∧
    ((flashing .waiting 30 none .run 0).flash.state = .waiting ∧ (flashing .waiting 30 none .run 0).ctl.mode = .run ∧
      (flashing .waiting 30 none .run 0).carousel.homed = true ∧ (flashing .waiting 30 none .run 0).carousel.op = .none ∧
      (placeAt (flashing .waiting 30 none .run 0) .flash).now = none ∧
      unreachable (flashing .waiting 30 none .run 0) .flash = false) := by decide +kernel

theorem witness_FlashLimitCutsTheExposure :
    ((flashing .exposing 30 none .run 799999).flash.state = .exposing ∧
      (flashing .exposing 30 none .run 799999).flash.limit = some { start := 0, limit := 800000 } ∧
      (flashing .exposing 30 none .run 799999).flash.job = some { garment := shirtId, platen := 5, slot := 5 } ∧
      garmentAt (flashing .exposing 30 none .run 799999) 3 = some { shirt with platen := some 5 } ∧ shirt.cond = .good ∧
      ((flashing .exposing 30 none .run 799999).clock - 0).toNat < 800000) ∧
    (800000 ≤ ((flashing .exposing 30 none .run 800000).clock - 0).toNat ∧
      (placeAt (flashing .exposing 30 none .run 800000) .flash).now = none ∧
      unreachable (flashing .exposing 30 none .run 800000) .flash = false) := by decide +kernel

/-- A dose of 250 over the base of 0, cut at the ceiling of 10, for 125 ms is 1,250 ticks: below 1 CU, and meeting 0 CU. -/
theorem witness_FlashTickAddsDose :
    ((flashing .exposing 30 (some 250) .run 12499).flash.state = .exposing ∧
      (flashing .exposing 30 (some 250) .run 12499).flash.job = some { garment := shirtId, platen := 5, slot := 5 } ∧
      garmentAt (flashing .exposing 30 (some 250) .run 12499) 3 = some { shirt with platen := some 5 } ∧
      reached (flashing .exposing 30 (some 250) .run 12499) 12500 = false) ∧
    (reached (flashing .exposing 30 (some 250) .run 12500) 12500 = true ∧
      unreachable (flashing .exposing 30 (some 250) .run 12500) .flash = false ∧
      Claims.doseAfter 0 10 125 0 (Claims.tickTemp 0 (flashing .exposing 30 (some 250) .run 12500).flash.source) <
        30 * 10000) ∧
    (0 * 10000 ≤
        Claims.doseAfter 0 10 125 0 (Claims.tickTemp 0 (flashing .exposing 0 (some 250) .run 12500).flash.source) ∧
      (placeAt (flashing .exposing 0 (some 250) .run 12500) .flash).now = none) := by decide +kernel

/-! ## Witnesses: accepted commands and DONE statuses -/

/-- A requester's command for a role is on the link. -/
def commandOut (q : Requester) (r : Role) (s : State) : State :=
  onTry (tryOf (.requester q) r .putCmd) (withPlace q { readyNow r .putCmd with state := .onLink } [] s)

/-- The response that accepts a role's command. -/
def takenAnswer (r : Role) : List Byte := answer (BitVec.ofNat 8 (10 + (roleNum r).val)) 1

theorem witness_tryTaken (q : Requester) (r : Role) (s : State) (h : (moduleAt s r).state = .present)
    (hc : classify (tryOf (.requester q) r .putCmd) (takenAnswer r) = .accept 0) :
    Claims.tryTaken (commandOut q r s) (takenAnswer r) q r :=
  ⟨tryOf (.requester q) r .putCmd, { readyNow r .putCmd with state := .onLink }, 0, rfl, rfl, rfl, hc, h,
    placeAt_putPlace_self q _ s, rfl⟩

theorem witness_StationCommandAccepted :
    (Claims.tryTaken (commandOut .press .press (pressing .setpoint 0)) (takenAnswer .press) .press .press ∧
      (pressing .setpoint 0).press.job = some { garment := 3, platen := 2 } ∧
      garmentAt (pressing .setpoint 0) 3 = some { shirt with platen := some 2 } ∧
      unreachable (commandOut .press .press (pressing .setpoint 0)) .press = false) ∧
    (Claims.tryTaken (commandOut .press .press (pressing .command 0)) (takenAnswer .press) .press .press ∧
      (pressing .command 0).press.state = .command) ∧
    Claims.tryTaken (commandOut .pretreat .sprayCarriage running) (takenAnswer .sprayCarriage) .pretreat .sprayCarriage ∧
    (Claims.tryTaken (commandOut .flash .flash (flashing .ending 30 none .run 0)) (takenAnswer .flash) .flash .flash ∧
      (flashing .ending 30 none .run 0).flash.state = .ending ∧
      (flashing .ending 30 none .run 0).flash.job = some { garment := shirtId, platen := 5, slot := 5 } ∧
      platenAt (flashing .ending 30 none .run 0) 5 = 5 ∧ (flashing .ending 30 none .run 0).carousel.op = .none) :=
  ⟨⟨witness_tryTaken _ _ _ rfl (by decide +kernel), rfl, by decide +kernel, by decide +kernel⟩, ⟨witness_tryTaken _ _ _ rfl (by decide +kernel), rfl⟩,
    witness_tryTaken _ _ _ rfl (by decide +kernel), ⟨witness_tryTaken _ _ _ rfl (by decide +kernel), rfl, rfl, by decide +kernel, rfl⟩⟩

/-- HEAT_ON is on the link, with the SAMPLER place empty or taken. -/
def heating (s : State → State) : State := commandOut .flash .flash (s (flashing .heating 30 none .run 0))

theorem witness_HeatOnBeginsTheExposure :
    (Claims.tryTaken (heating id) (takenAnswer .flash) .flash .flash ∧ (heating id).flash.state = .heating ∧
      (heating id).flash.sampling = false ∧ (heating id).dryer.reads = [] ∧ (placeAt (heating id) .sampler).now = none ∧
      unreachable (heating id) .flash = false) ∧
    (placeAt (heating (withPlace .sampler (readyNow .zone1 .getStatus) [])) .sampler).now ≠ none :=
  ⟨⟨witness_tryTaken _ _ _ rfl (by decide +kernel), rfl, rfl, rfl, rfl, by decide +kernel⟩, nofun⟩

theorem witness_PassAcceptedBeginsTheSwath :
    (Claims.tryTaken (commandOut .color .colorCarriage (bandStaged (printing .command .run 0))) (takenAnswer .colorCarriage)
        (printRequester .color) (printRole .color) ∧
      (unitAt (bandStaged (printing .command .run 0)) .color).state = .command ∧
      (unitAt (bandStaged (printing .command .run 0)) .color).job = some { garment := shirtId, platen := 7, slot := 5 } ∧
      2 ∈ (unitAt (bandStaged (printing .command .run 0)) .color).active ∧
      (swathBanks (bandStaged (printing .command .run 0)) 2 shirtId 1).head? = some 0) ∧
    (swathBanks (printing .command .run 0) 2 shirtId 1).head? = none :=
  ⟨⟨witness_tryTaken .color .colorCarriage _ rfl (by decide +kernel), by decide +kernel, by decide +kernel, by decide +kernel, by decide +kernel⟩,
    by decide +kernel⟩

/-- The color unit is in its first swath of a print of `count`, its channel's lane in a state with a drop sum of 70. -/
def swathEnds (st : LaneState) (count : Option Nat) : State :=
  putLane 2 { Lane.off with state := st, sum := 70 }
    (putTally .color [{ garment := shirtId, channels := [2], count := count }] (printing .printing .run 0))

theorem witness_SwathDoneIsJudged (st : LaneState) (count : Option Nat) :
    (Claims.statusDone (servedDone (printRole .color) (swathEnds st count)) (doneAnswer .colorCarriage) (printRole .color) ∧
      (unitAt (swathEnds st count) .color).state = .printing ∧
      (unitAt (swathEnds st count) .color).job = some { garment := shirtId, platen := 7, slot := 5 } ∧
      (unitAt (swathEnds st count) .color).active = [2]) ∧
    (garmentAt (swathEnds .complete (some 1)) 3 = some { shirt with platen := some 7 } ∧ shirt.cond = .good ∧
      (laneAt (swathEnds .complete (some 1)) 2).state = .complete ∧
      (tallyFor (swathEnds .complete (some 1)) .color shirtId).bind TallyPlace.count = some 1 ∧
      (tallyFor (swathEnds .complete none) .color shirtId).bind TallyPlace.count ≠ some 1 ∧
      (unitAt (swathEnds .complete none) .color).graceful = false) ∧
    (laneAt (swathEnds .emitting none) 2).state ≠ .complete :=
  ⟨⟨witness_statusDone .colorCarriage _ rfl, rfl, rfl, rfl⟩, by decide +kernel, by decide +kernel⟩

/-- The swath's drops are added, and the print goes on to swath 2, is over with its mark DONE, or is cut. -/
theorem test_swath_done :
    let go := fun c => after (exec (.tryAccept (doneAnswer .colorCarriage)) (servedDone .colorCarriage c))
    let seen := fun t : State =>
      ((unitAt t .color).state, (unitAt t .color).swath, (garmentAt t 3).map fun r => (r.color, Tbl.at r.ink 2))
    seen (go (swathEnds .complete none)) = (.waiting, 2, some (.pending, 70)) ∧
    seen (go (swathEnds .complete (some 1))) = (.idle, 0, some (.done, 70)) ∧
    seen (go (swathEnds .stopped (some 1))) = (.idle, 0, some (.cut, 0)) := by decide +kernel

theorem witness_StationDoneEndsTheWork :
    (Claims.statusDone (servedDone .press (pressing .pressing 0)) (doneAnswer .press) .press ∧
      (pressing .pressing 0).press.state = .pressing ∧ (pressing .pressing 0).press.job = some { garment := 3, platen := 2 } ∧
      garmentAt (pressing .pressing 0) 3 = some { shirt with platen := some 2 }) ∧
    (Claims.statusDone (servedDone .sprayCarriage (spraying 16 (oneValve 3 (.opened 100 2110 201)))) (doneAnswer .sprayCarriage)
        .sprayCarriage ∧
      (spraying 16 (oneValve 3 (.opened 100 2110 201))).pretreat.state = .spraying ∧
      (spraying 16 (oneValve 3 (.opened 100 2110 201))).pretreat.job = some { garment := 3, platen := 11 } ∧
      anyValve (spraying 16 (oneValve 3 (.opened 100 2110 201))) = true) ∧
    (anyValve (spraying 16 (Tbl.all .closed)) = false ∧ (spraying 16 (Tbl.all .closed)).pretreat.row = 16) :=
  ⟨⟨witness_statusDone _ _ rfl, rfl, rfl, by decide +kernel⟩, ⟨witness_statusDone _ _ rfl, rfl, rfl, by decide +kernel⟩,
    by decide +kernel⟩

/-! ## Witnesses: the dryer -/

/-- The shirt on the belt, the odometer at `odo`, the four zones of 750 µm with what their sources received, the first tick due at 25,000. -/
def onDryer (odo : Word) (v last : Option Nat) (m : Mode) (c : Clock) : State :=
  let s := inDryer [] [beltEntry none, beltEntry (some 3)]
  atClock c
    (inMode m
      { s with
        config := { s.config with zoneLengths := Tbl.all 750, readyTemp := 100 }
        dryer :=
          { s.dryer with
            odometer := odo, running := true, nextTick := 25000, ready := Tbl.all 1
            zones := Tbl.all { received := v, lastGood := last, age := 0, state := .fresh } } })

theorem witness_DryerTickAdvancesTheTunnel :
    ((onDryer 750 (some 200) none .run 24999).dryer.ticking = true ∧
      reached (onDryer 750 (some 200) none .run 24999) 25000 = false) ∧
    ((onDryer 750 (some 200) none .run 25000).dryer.ticking = true ∧
      reached (onDryer 750 (some 200) none .run 25000) 25000 = true ∧
      (zoneAt (onDryer 750 (some 200) none .run 25000) 0).received = some 200 ∧
      (onDryer 750 (some 200) none .run 25000).ctl.mode ≠ .warming) ∧
    ((zoneAt (onDryer 750 none (some 200) .run 25000) 0).received = none ∧
      (zoneAt (onDryer 750 none (some 200) .run 25000) 0).lastGood = some 200) ∧
    ((onDryer 750 (some 200) none .warming 25000).ctl.mode = .warming ∧
      requiredLost (onDryer 750 (some 200) none .warming 25000) = false) ∧
    (∀ z : Fin 4,
      1 ≤ Tbl.at (onDryer 750 (some 200) none .warming 25000).dryer.ready z ∧
      (zoneAt (onDryer 750 (some 200) none .warming 25000) z).received = some 200 ∧
      (onDryer 750 (some 200) none .warming 25000).config.readyTemp ≤ 200) := by decide +kernel

/-- At 750 µm, the boundary of zones 0 and 1, the shirt is in zone 1; with a temperature and without. -/
theorem witness_DryerTickCreditsTheGarment :
    ((onDryer 750 (some 200) none .run 25000).dryer.belt = [beltEntry none] ++ beltEntry (some 3) :: [] ∧
      (∀ x ∈ [beltEntry none] ++ [], x.garment ≠ some 3) ∧ (beltEntry (some 3)).counted = true ∧
      (beltEntry (some 3)).beyond = false ∧
      garmentAt (onDryer 750 (some 200) none .run 25000) 3 = some { shirt with platen := none, place := .inTransfer }) ∧
    ((List.ofFn fun y : Fin 4 =>
          if y < 1 then Tbl.at (onDryer 750 (some 200) none .run 25000).config.zoneLengths y else 0).sum ≤
        ((onDryer 750 (some 200) none .run 25000).dryer.odometer - (beltEntry (some 3)).odo).toNat ∧
      ((onDryer 750 (some 200) none .run 25000).dryer.odometer - (beltEntry (some 3)).odo).toNat < 750 + 750) ∧
    (Claims.tickTemp 0 (zoneAt (onDryer 750 (some 200) none .run 25000) 1) = some 200 ∧
      Claims.tickTemp 0 (zoneAt (onDryer 750 none (some 200) .run 25000) 1) = none) := by decide +kernel

/-! ## Witnesses: timeouts, the drain and the warm-up -/

/-- The shirt in the transfer list, or in the pack queue, since 0, with both timeouts 10 s. -/
def missing (c : Clock) : State :=
  let s := inDryer [shirtEntry] []
  atClock c (s.setPack { s.pack with queue := [shirtEntry] })

theorem witness_TimeoutsDeleteMissingGarments :
    (garmentAt (missing 999999) 3 = some { shirt with platen := none, place := .inTransfer } ∧
      (∀ e ∈ (missing 999999).dryer.transfer,
        ((missing 999999).clock - e.entry).toNat < (missing 999999).config.transferTimeout * 100000) ∧
      (∀ e ∈ (missing 999999).pack.queue,
        ((missing 999999).clock - e.entry).toNat < (missing 999999).config.packTimeout * 100000)) ∧
    ((missing 1000000).ctl.mode ≠ .stopped ∧ shirtEntry ∈ (missing 1000000).dryer.transfer ∧ shirtEntry.garment = 3 ∧
      (missing 1000000).config.transferTimeout * 100000 ≤ ((missing 1000000).clock - shirtEntry.entry).toNat ∧
      shirtEntry ∈ (missing 1000000).pack.queue ∧
      (missing 1000000).config.packTimeout * 100000 ≤ ((missing 1000000).clock - shirtEntry.entry).toNat) ∧
    (inMode .stopped (missing 1000000)).ctl.mode = .stopped := by decide +kernel

/-- HOLD with the drain flag, or WARMING with the warm-up timer of 60 s started at 0. -/
def draining : State := running.setCtl { running.ctl with mode := .hold, drain := true }
def warmingUp (c : Clock) : State :=
  atClock c (running.setCtl { running.ctl with mode := .warming, warmup := some { start := 0, limit := 6000000 } })

theorem witness_DrainAndWarmupEnd :
    ¬(running.ctl.drain = true ∧ noGarment running = true ∧ running.carousel.op = .none) ∧
    (draining.ctl.drain = true ∧ noGarment draining = true ∧ draining.carousel.op = .none ∧ draining.ctl.mode ≠ .idle) ∧
    ((warmingUp 5999999).ctl.mode = .warming ∧ (warmingUp 5999999).ctl.warmup = some { start := 0, limit := 6000000 } ∧
      ((warmingUp 5999999).clock - 0).toNat < 6000000) ∧
    (6000000 ≤ ((warmingUp 6000000).clock - 0).toNat ∧ (warmingUp 6000000).dryer.ticking = true) := by decide +kernel

/-! ## Witnesses: the exchange area -/

/-- A config region and catalog in which the roles have the given addresses, and everything else is zero. -/
def regionWith (addrs : List Byte) (total : Nat) : List Byte :=
  [0x20#8, 0x07, 0x01, 0x00] ++ zeros 0x7C ++ addrs ++ zeros (total - 0x8D)

/-- Thirteen addresses, one for each role; those with PACK_SCANNER absent; those with two roles at 1. -/
def goodAddrs : List Byte := [1, 2, 3, 4, 5, 6, 7, 8, 9, 10, 11, 12, 13]
def absentAddrs : List Byte := [1, 2, 3, 4, 5, 6, 7, 8, 9, 10, 11, 12, 63]
def sharedAddrs : List Byte := [1, 2, 3, 4, 5, 6, 7, 8, 9, 10, 11, 12, 1]

theorem witness_SnapshotReadGoesOn :
    Claims.snapshotInProgress (readingSnap .hold) (accessOf .snapshot 960) [] false ∧
    ((readingSnap .hold).ctl.request = .reading ∧ (readingSnap .hold).ctl.mode = .hold ∧
      (readingSnap .hold).exch.base = some 0x10000#64 ∧ (zeros 960).length = (accessOf .snapshot 960).length ∧
      0 + (zeros 960).length < 1984) ∧
    Claims.snapshotInProgress (snapAfter (zeros 1968) true 16 .idle) (accessOf .snapshot 16) (zeros 1968) true ∧
    1984 ≤ (zeros 1968).length + (zeros 16).length := by
  refine ⟨⟨⟨rfl, rfl, rfl, rfl, by decide⟩, rfl⟩, by decide +kernel, ⟨⟨rfl, rfl, rfl, rfl, by decide⟩, rfl⟩, by decide +kernel⟩

/-- The snapshot read's last access is in progress: all but the last catalog entry of a region with some role addresses has been read. -/
def snapLast (addrs : List Byte) (m : Mode) : State := snapAfter (regionWith addrs 1968) false 16 m

theorem snapshotWhole_snapLast (addrs : List Byte) (h : 1968 ≤ (regionWith addrs 1968).length) (m : Mode) (s : State)
    (hs : s.port = (snapLast addrs m).port) (ha : s.exch = (snapLast addrs m).exch) (hr : s.ctl.request = .reading) :
    Claims.snapshotWhole s (zeros 16) (regionWith addrs 1968 ++ zeros 16) := by
  refine ⟨accessOf .snapshot 16, regionWith addrs 1968, ⟨⟨?_, ?_, rfl, rfl, ?_⟩, ?_⟩, rfl, rfl, ?_, hr⟩
  · rw [hs]; rfl
  · rw [hs]; rfl
  · rw [hs]; exact (by decide : AccessKind.snapshot ∉ ([] : List AccessKind))
  · rw [ha]; rfl
  · rw [List.length_append]; exact Nat.add_le_add h (by decide : 16 ≤ (zeros 16).length)

/-- What was read, whole. -/
def allRead (addrs : List Byte) : List Byte := regionWith addrs 1968 ++ zeros 16

theorem witness_SnapshotReadIsChecked :
    (Claims.snapshotWhole (snapLast absentAddrs .hold) (zeros 16) (allRead absentAddrs) ∧
      (snapLast absentAddrs .hold).ctl.mode = .hold ∧
      missingRole (parseSettings ((allRead absentAddrs).take 960)) = some .packScanner) ∧
    (Claims.snapshotWhole (snapLast sharedAddrs .idle) (zeros 16) (allRead sharedAddrs) ∧
      (snapLast sharedAddrs .idle).ctl.mode = .idle ∧
      missingRole (parseSettings ((allRead sharedAddrs).take 960)) = none ∧
      sharedAddress (parseSettings ((allRead sharedAddrs).take 960)) = some 1) :=
  ⟨⟨snapshotWhole_snapLast absentAddrs (by decide +kernel) .hold _ rfl rfl rfl, rfl, by decide +kernel⟩,
    snapshotWhole_snapLast sharedAddrs (by decide +kernel) .idle _ rfl rfl rfl, rfl, by decide +kernel, by decide +kernel⟩

theorem settings_allRead :
    missingRole (parseSettings ((allRead goodAddrs).take 960)) = none ∧
    sharedAddress (parseSettings ((allRead goodAddrs).take 960)) = none := by decide +kernel

theorem linkAtRest_snapLast (m : Mode) : Claims.linkAtRest (snapLast goodAddrs m) :=
  ⟨fun r => by cases r <;> exact (by decide : ModuleState.present ≠ .lost), fun q => by cases q <;> rfl⟩

theorem witness_RunIsAcceptedInIdle :
    Claims.snapshotWhole (snapLast goodAddrs .idle) (zeros 16) (allRead goodAddrs) ∧
    ((snapLast goodAddrs .idle).ctl.mode = .idle ∧ (snapLast goodAddrs .idle).ctl.warm = false) ∧
    Claims.linkAtRest (snapLast goodAddrs .idle) :=
  ⟨snapshotWhole_snapLast goodAddrs (by decide +kernel) .idle _ rfl rfl rfl, ⟨rfl, rfl⟩, linkAtRest_snapLast .idle⟩

/-- The request in HOLD with a hold-cause set and a homed carousel or not. -/
def heldRequest (c : Causes) (homed : Bool) : State :=
  let s := snapLast goodAddrs .hold
  (s.setCtl { s.ctl with causes := c }).setCarousel { s.carousel with homed := homed }

/-- The set is barred with MODULE_LOST, and with INDEX_FAULT on a homed carousel; it is not with WARMUP_TIMEOUT on an unhomed one, on which the request is accepted,
nor with INDEX_FAULT on an unhomed one, on which it is pending. -/
theorem witness_RunIsAnsweredInHold (c : Causes) (homed : Bool) :
    Claims.snapshotWhole (heldRequest c homed) (zeros 16) (allRead goodAddrs) ∧ (heldRequest c homed).ctl.mode = .hold ∧
    Claims.linkAtRest (heldRequest c homed) ∧
    (heldRequest { Causes.empty with moduleLost := true } false).ctl.causes.moduleLost = true ∧
    ((heldRequest { Causes.empty with indexFault := true } true).ctl.causes.indexFault = true ∧
      (heldRequest { Causes.empty with indexFault := true } true).carousel.homed = true) ∧
    ((heldRequest { Causes.empty with warmupTimeout := true } false).ctl.causes.moduleLost = false ∧
      (heldRequest { Causes.empty with warmupTimeout := true } false).ctl.causes.indexFault = false ∧
      (heldRequest { Causes.empty with warmupTimeout := true } false).ctl.causes.warmupTimeout = true) ∧
    ((heldRequest { Causes.empty with indexFault := true } false).ctl.causes.warmupTimeout = false ∧
      (heldRequest { Causes.empty with indexFault := true } false).carousel.homed = false) :=
  ⟨snapshotWhole_snapLast goodAddrs (by decide +kernel) .hold _ rfl rfl rfl, rfl, linkAtRest_snapLast .hold, rfl, ⟨rfl, rfl⟩,
    ⟨rfl, rfl, rfl⟩, rfl, rfl⟩

/-- An attach read is in progress. -/
def attachReading : State :=
  withAccess .attach 960 { State.reset with exch := { Exch.reset with attach := .reading, base := some 0x10000#64 } }

theorem witness_AttachReadAndHeaderWrite :
    (attachReading.port.current = some (accessOf .attach 960) ∧ attachReading.port.waiting = [] ∧
      (zeros 960).length = (accessOf .attach 960).length ∧ headerFormat (zeros 960) ≠ 0x00010720#32) ∧
    ((regionWith goodAddrs 960).length = (accessOf .attach 960).length ∧
      headerFormat (regionWith goodAddrs 960) = 0x00010720#32 ∧ attachReading.exch.sweep = none) ∧
    ((withAccess .headerWrite 0 linked).port.current = some (accessOf .headerWrite 0) ∧
      (withAccess .headerWrite 0 linked).port.waiting = [] ∧ .headerWrite ∉ (withAccess .headerWrite 0 linked).port.late) ∧
    (.attach ∉ attachReading.port.late ∧ attachReading.ctl.mode = .idle) := by decide +kernel

/-- The exchange interface with the sweep timer running from 0 for 500 ticks. -/
def sweeping (sweep : Option Nat) (c : Clock) : State :=
  atClock c (linked.setExch { linked.exch with sweep := sweep, sweepTimer := some { start := 0, limit := 500 } })

/-- The exchange interface with nudges waiting and a snapshot wanted or not. -/
def nudged (vs : List Byte) (snap : Bool) : State :=
  linked.setExch { linked.exch with nudges := vs, snapWanted := snap }

theorem witness_SweepTimerStartsSweeps :
    attached (sweeping none 499) = true ∧ (sweeping none 499).exch.sweepTimer = some { start := 0, limit := 500 } ∧
    ((sweeping none 499).clock - 0).toNat < 500 ∧ 500 ≤ ((sweeping none 500).clock - 0).toNat ∧
    (sweeping none 500).exch.sweep = none ∧ (sweeping (some 128) 500).exch.sweep ≠ none := by decide +kernel

theorem witness_ServiceInItsOrder :
    (attached (readingSnap .hold) = true ∧ (readingSnap .hold).exch.activity ≠ none) ∧
    (linked.exch.snapWanted = false ∧ linked.exch.nudges = [] ∧ linked.exch.sweep = none) ∧
    ((nudged [] true).exch.activity = none ∧ (nudged [] true).port.current = none ∧
      (nudged [] true).exch.base = some 0x10000#64 ∧ (nudged [] true).exch.snapWanted = true) ∧
    ((nudged [127, 5] false).exch.nudges = 127 :: [5] ∧ (127 : Byte).toNat = (127 : Fin 128).val) ∧
    ((nudged [0xFE] false).exch.nudges = 0xFE :: [] ∧ (nudged [0xFE] false).exch.snapWanted = false) ∧
    ((nudged [0xFF, 0] false).exch.nudges = 0xFF :: [0] ∧ (nudged [0xFF, 0] false).exch.sweep = none) ∧
    ((sweeping (some 0) 0).exch.sweep = some 0 ∧ (sweeping (some 128) 0).exch.sweep = some ((127 : Fin 128).val + 1) ∧
      (sweeping (some 128) 0).exch.activity = none ∧ (sweeping (some 128) 0).exch.nudges = []) := by decide +kernel

/-- A look at slot 5 for a nudge, one of its reads in progress, with a catalog snapshot taken or not. -/
def looking (k : AccessKind) (length : Nat) (posting : List Byte) (c : Option (Tbl 64 CatalogEntry)) : State :=
  withAccess k length
    { linked with
      catalog := c, exch := { linked.exch with activity := some (.look 5 false posting) } }

/-- The posting fields of an order line: hand count 4, line 1 of 1, key 7710, blank 12, quantity 2, a white chain at 0x2000. -/
def posting : List Byte :=
  [4, 0, 1, 1] ++ leBytes 4 7710 ++ [12, 0, 2, 2] ++ zeros 12 ++ leBytes 8 0x2000 ++ zeros 168

/-- A catalog whose every entry is in use. -/
def someCatalog : Tbl 64 CatalogEntry := Tbl.all (parseCatalogEntry (1 :: zeros 15))

theorem lookReads_looking (k : AccessKind) (length : Nat) (posting : List Byte) (c : Option (Tbl 64 CatalogEntry)) :
    Claims.lookReads (looking k length posting c) k (accessOf k length) 5 false posting :=
  ⟨⟨rfl, rfl, rfl, rfl, nofun⟩, rfl⟩

theorem witness_FirstReadOfALook :
    Claims.lookReads (looking .handCount 2 [] none) .handCount (accessOf .handCount 2) 5 false [] ∧
    (looking .handCount 2 [] none).exch.base = some 0x10000#64 ∧
    ((zeros 2).getD 0 0 = (lineAt (looking .handCount 2 [] none) 5).take ∧ (zeros 2).getD 1 0 = 0) ∧
    ([4, 0] : List Byte).getD 0 0 ≠ (lineAt (looking .handCount 2 [] none) 5).take :=
  ⟨lookReads_looking _ _ _ _, rfl, by decide +kernel, by decide +kernel⟩

/-- The look's slot with a line in a state. -/
def onLine (l : LineEntry) (s : State) : State := putLine 5 l s

theorem witness_PostIsTakenOrDropped :
    (Claims.lookReads (looking .posting 200 [] (some someCatalog)) .posting (accessOf .posting 200) 5 false [] ∧
      posting.length = (accessOf .posting 200).length ∧
      posting.getD 0 0 ≠ (lineAt (looking .posting 200 [] (some someCatalog)) 5).take ∧
      openState (lineAt (looking .posting 200 [] (some someCatalog)) 5).state = false ∧
      (looking .posting 200 [] (some someCatalog)).catalog ≠ none ∧
      validate (looking .posting 200 [] (some someCatalog)) 5 none (parsePosting posting) = none ∧
      validate (looking .posting 200 [] (some someCatalog)) 5 none (parsePosting (4 :: zeros 199)) = some .badLine) ∧
    openState (lineAt (onLine { LineEntry.blank with state := .queued } (looking .posting 200 [] none)) 5).state = true ∧
    ((looking .posting 200 [] none).catalog = none ∧ (parsePosting posting).blank < 64) ∧
    (Claims.lookReads (looking .catalog 16 posting none) .catalog (accessOf .catalog 16) 5 false posting ∧
      openState (lineAt (looking .catalog 16 posting none) 5).state = false) :=
  ⟨⟨lookReads_looking _ _ _ _, by decide +kernel⟩, by decide +kernel, by decide +kernel, lookReads_looking _ _ _ _,
    by decide +kernel⟩

/-- A snapshot that passes every check. -/
def goodPost : Snapshot := parsePosting posting

/-- A catalog is taken; the lines and the orders are as given. -/
def checking (f : State → State) : State := f (looking .posting 200 [] (some someCatalog))

/-- One snapshot for each check that fails, in their order, at the first value outside the range. -/
theorem witness_PostChecksInOrder :
    validate (checking id) 5 none { goodPost with lineNo := 2 } = some .badLine ∧
    validate (checking id) 5 none { goodPost with lineNo := 16, linesIn := 16 } = some .badLine ∧
    validate (checking id) 5 none { goodPost with blank := 64 } = some .badBlank ∧
    validate (checking id) 5 none { goodPost with quantity := 51 } = some .badQuantity ∧
    validate (checking id) 5 none { goodPost with chains := Tbl.all (some 0x2004) } = some .badChainAddr ∧
    validate (checking id) 5 none { goodPost with chains := Tbl.all none } = some .noPlanes ∧
    validate (checking fun s => s.setPack { s.pack with orders := [{ newOrder 7710 2 (itemOf 6 1 goodPost) with bin := .none }] }) 5
      none goodPost = some .orderMismatch ∧
    validate (checking (putLine 6 { LineEntry.blank with state := .closing, snap := some goodPost })) 5 none goodPost =
      some .dupLine ∧
    validate (checking fun s => s.setPack { s.pack with orders := List.replicate 24 (newOrder 1 1 (itemOf 6 1 goodPost)) }) 5 none
      goodPost = some .ordersFull ∧
    validate (checking id) 5 none { goodPost with lineNo := 15, linesIn := 15, blank := 63, quantity := 50 } = none := by
  decide +kernel

/-! ## Witnesses: voids and failures -/

/-- The look's slot has a line in a state, with a take count of 0, a quantity of 3, a failure limit of 0, some garments bound and a reason. -/
def lineWith (st : LineState) (bound : Nat) (r : Reason) : LineEntry :=
  { LineEntry.blank with state := st, bound := bound, reason := r, snap := some { goodPost with quantity := 3, failLimit := 0 } }

/-- The first read of a look at that line. -/
def voiding (st : LineState) (bound : Nat) (r : Reason) (f : State → State) : State :=
  f (onLine (lineWith st bound r) (looking .handCount 2 [] none))

/-- A hand count of 0 with a void request. -/
def voidBytes : List Byte := [0, 1]

theorem voidFound_voiding (st : LineState) (bound : Nat) (r : Reason) (f : State → State)
    (hf : ∀ s, (f s).port = s.port ∧ (f s).exch = s.exch ∧ (f s).lines = s.lines) :
    Claims.voidFound (voiding st bound r f) 5 false voidBytes := by
  refine ⟨accessOf .handCount 2, [], ⟨⟨?_, ?_, rfl, rfl, ?_⟩, ?_⟩, rfl, ?_, by decide⟩
  · unfold voiding; rw [(hf _).1]; rfl
  · unfold voiding; rw [(hf _).1]; rfl
  · unfold voiding; rw [(hf _).1]; exact (by decide : AccessKind.handCount ∉ ([] : List AccessKind))
  · unfold voiding; rw [(hf _).2.1]; rfl
  · unfold voiding lineAt; rw [(hf _).2.2]; rfl

theorem witness_VoidByLineState (st : LineState) (r : Reason) :
    Claims.voidFound (voiding st 0 r id) 5 false voidBytes ∧
    ((lineAt (voiding .queued 0 .none id) 5).state = .queued ∧ (lineAt (voiding .queued 0 .none id) 5).bound = 0 ∧
      (lineAt (voiding .queued 0 .none id) 5).finished < quantityOf (lineAt (voiding .queued 0 .none id) 5)) ∧
    ((lineAt (voiding .closing 0 .void id) 5).state = .closing ∧ (lineAt (voiding .closing 0 .void id) 5).reason = .void) :=
  ⟨voidFound_voiding st 0 r id fun _ => ⟨rfl, rfl, rfl⟩, by decide +kernel, by decide +kernel⟩

/-- The shirt is live, and its white print done or not. -/
def withLive (white : Mark) (s : State) : State := putGarment 3 { shirt with white := white } s

theorem witness_VoidHandlesTheGarments (m : Mark) :
    Claims.voidFound (voiding .active 1 .none (withLive m)) 5 false voidBytes ∧
    Claims.voidFound (voiding .closing 1 .failLimit (withLive m)) 5 false voidBytes ∧
    (garmentAt (voiding .active 1 .none (withLive m)) 3 = some { shirt with white := m } ∧
      Claims.voided (voiding .active 1 .none (withLive m)) 5 { shirt with white := m } ∧
      garmentAt (voiding .active 1 .none (withLive m)) 4 = none) ∧
    (Claims.printStarted (voiding .active 1 .none (withLive .done)) 3 { shirt with white := .done } ∧
      ¬Claims.printStarted (voiding .active 1 .none (withLive .pending)) 3 { shirt with white := .pending }) :=
  ⟨voidFound_voiding _ _ _ _ fun _ => ⟨rfl, rfl, rfl⟩, voidFound_voiding _ _ _ _ fun _ => ⟨rfl, rfl, rfl⟩,
    ⟨by cases m <;> decide +kernel, ⟨rfl, by cases m <;> decide +kernel, rfl⟩, by cases m <;> decide +kernel⟩, .inl rfl,
    fun h => by
      rcases h with h | h | ⟨u, j, h, _⟩
      · cases h
      · cases h
      · cases u <;> cases h⟩

theorem witness_VoidClosesTheLine (m : Mark) :
    Claims.voidFound (voiding .active 1 .none (withLive m)) 5 false voidBytes ∧
    (lineAt (voiding .active 1 .none (withLive m)) 5).state = .active ∧
    (lineAt (voiding .active 1 .none (withLive m)) 5).bound = 1 ∧
    garmentAt (voiding .active 1 .none (withLive m)) 3 = some { shirt with white := m } ∧
    (∀ h : Fin 32, h ≠ 3 → garmentAt (voiding .active 1 .none (withLive m)) h = none) :=
  ⟨voidFound_voiding _ _ _ _ fun _ => ⟨rfl, rfl, rfl⟩, by cases m <;> decide +kernel, by cases m <;> decide +kernel,
    by cases m <;> decide +kernel, by cases m <;> decide +kernel⟩

/-- One shirt stripped with nothing done to it: RETURN, and the line VOIDED (R20 to R22). -/
theorem test_void_strips_the_only_shirt :
    let t := after (exec (.handCountReadDone (.data voidBytes)) (voiding .active 1 .none (withLive .pending)))
    ((garmentAt t 3).map fun r => (r.cond, r.press)) = some (.stripped, .skipped) ∧
    ((lineAt t 5).state, (lineAt t 5).bound) = (.voided, 0) ∧
    t.reports.fifo.map (fun i => (i.kind, i.detail)) = [(.garmentStripped, 2)] := by decide +kernel

/-- A pass on the shirt runs out of time, its line having a failure limit of 0 and some garments bound. -/
def failing (bound : Nat) (c : Condition) : State :=
  onLine (lineWith .active bound .none)
    (putGarment 3 { shirt with cond := c } (atClock 3000000 (spraying 9 (Tbl.all .closed))))

theorem witness_FailureCountsForItsLine :
    ((failing 2 .good).pretreat.state = .spraying ∧ (failing 2 .good).pretreat.guard = some { start := 0, limit := 3000000 } ∧
      3000000 ≤ ((failing 2 .good).clock - 0).toNat ∧ anyValve (failing 2 .good) = false ∧
      (failing 2 .good).pretreat.job = some { garment := 3, platen := 11 } ∧
      garmentAt (failing 2 .good) 3 = some shirt ∧ (lineAt (failing 2 .good) 5).take = shirt.stamp ∧
      (failing 2 .good).reports.fifo.length + 3 ≤ 16) ∧
    garmentAt (failing 2 .voidPrinted) 3 = some { shirt with cond := .voidPrinted } ∧
    garmentAt (failing 2 .failed) 3 = some { shirt with cond := .failed } ∧
    ((flashing .exposing 30 none .run 800000).flash.state = .exposing ∧
      (flashing .exposing 30 none .run 800000).flash.limit = some { start := 0, limit := 800000 } ∧
      800000 ≤ ((flashing .exposing 30 none .run 800000).clock - 0).toNat ∧
      (flashing .exposing 30 none .run 800000).flash.job = some { garment := shirtId, platen := 5, slot := 5 } ∧
      garmentAt (flashing .exposing 30 none .run 800000) 3 = some { shirt with platen := some 5 }) := by decide +kernel

/-- A failure limit of 0 closes the line at its first failure, and with nothing else bound it has failed (R19, R22). -/
theorem test_failure_limit_of_zero :
    let t := after (exec .passGuardExpiry (failing 2 .good))
    let u := after (exec .passGuardExpiry (failing 1 .good))
    ((lineAt t 5).state, (lineAt t 5).reason, (lineAt t 5).bound, (lineAt t 5).failed) = (.closing, .failLimit, 1, 1) ∧
    ((lineAt u 5).state, (lineAt u 5).reason, (lineAt u 5).bound, (lineAt u 5).failed) = (.failed, .failLimit, 0, 1) := by
  decide +kernel

/-- The recovery bytes of a slot with a state code, hand count 4 and take count 4. -/
def recovered (state : Byte) : List Byte := [4, 0] ++ zeros 198 ++ [4, state] ++ zeros 38

theorem witness_RecoveryAndRefillReads :
    Claims.lookReads (looking .recovery 240 [] none) .recovery (accessOf .recovery 240) 5 false [] ∧
    (.recovery ∉ (looking .recovery 240 [] none).port.late ∧ .refill ∉ (withAccess .refill 16 linked).port.late ∧
      (looking .recovery 240 [] none).port.current = some (accessOf .recovery 240) ∧
      (looking .recovery 240 [] none).exch.activity = some (.look 5 false []) ∧
      (recovered 3).length = (accessOf .recovery 240).length ∧ 2 ≤ ((recovered 3).getD 0xC9 0).toNat ∧
      ((recovered 4).getD 0xC9 0).toNat ≤ 4 ∧ 2 ≤ ((recovered 2).getD 0xC9 0).toNat) ∧
    (((recovered 1).getD 0xC9 0).toNat < 2 ∧ (recovered 1).getD 0 0 = (recovered 1).getD 0xC8 0 ∧
      4 < ((recovered 5).getD 0xC9 0).toNat ∧ (recovered 5).getD 1 0 = 0) ∧
    ((withAccess .refill 16 (linked.setExch { linked.exch with activity := some (.refill false) })).exch.activity =
        some (.refill false) ∧
      (withAccess .refill 16 linked).port.current = some (accessOf .refill 16) ∧
      (zeros 16).length = (accessOf .refill 16).length ∧
      linked.pretreat.tank.generation ≠ some (parseRefill (zeros 16)).generation) ∧
    ((spraying 0 (Tbl.all .closed)).setPretreat
        { Pretreat.reset with tank := { Pretreat.reset.tank with generation := some 0 } }).pretreat.tank.generation =
      some (parseRefill (zeros 16)).generation := ⟨lookReads_looking _ _ _ _, by decide +kernel⟩

/-- The recovery look at slot 5 is the sweep's, and the slot's IDLE line finds the post of the bytes read. -/
def sweptRecovery : State :=
  let s := looking .recovery 240 [] (some someCatalog)
  s.setExch { s.exch with activity := some (.look 5 true []), sweep := some 6 }

theorem witness_RecoveryOfTheFirstSweep :
    Claims.lookReads sweptRecovery .recovery (accessOf .recovery 240) 5 true [] ∧
    (posting ++ zeros 40).length = (accessOf .recovery 240).length ∧
    ((posting ++ zeros 40).getD 0xC9 0).toNat < 2 ∧ (posting ++ zeros 40).getD 0 0 ≠ (posting ++ zeros 40).getD 0xC8 0 ∧
    openState (lineAt sweptRecovery 5).state = false ∧ sweptRecovery.catalog ≠ none :=
  ⟨⟨⟨rfl, rfl, rfl, rfl, nofun⟩, rfl⟩, by decide +kernel, by decide +kernel, by decide +kernel, by decide +kernel, nofun⟩

/-- The report writer with incidents waiting and one dirty slot. -/
def reporting (fifo : List Incident) (job : Option ReportJob) : State :=
  linked.setReports { Reports.reset with fifo := fifo, dirty := Tbl.put Reports.reset.dirty 12 true, job := job }

theorem witness_ReportsStartInOrder :
    (attached (reporting [incident .bound] none) = true ∧ (reporting [incident .bound] none).reports.job = none ∧
      (reporting [incident .bound] none).reports.headerWriting = false ∧
      (reporting [incident .bound] none).port.current = none ∧
      (reporting [incident .bound] none).exch.base = some 0x10000#64 ∧
      (reporting [incident .bound] none).reports.fifo = incident .bound :: []) ∧
    ((reporting [] none).reports.fifo = [] ∧ Tbl.at (reporting [] none).reports.dirty 12 = true ∧
      ∀ o : Fin 128, Tbl.at (reporting [] none).reports.dirty o = true → o ≠ 12 →
        (12 + 127 - (reporting [] none).reports.last.val) % 128 < (o.val + 127 - (reporting [] none).reports.last.val) % 128) ∧
    (linked.reports.fifo = [] ∧ ∀ o : Fin 128, Tbl.at linked.reports.dirty o = false) := by decide +kernel

theorem witness_ReportsEnd (j : ReportJob) :
    Claims.onlyAccess (withAccess .report 0 (reporting [] (some j))) .report (accessOf .report 0) ∧
    (withAccess .report 0 (reporting [] (some j))).reports.job = some j := ⟨⟨rfl, rfl, rfl, rfl, nofun⟩, rfl⟩

/-! ## Witnesses: matching and the invariants -/

/-- The tag maps of the example of section 9.8. -/
def tagMaps : TagMaps :=
  { kind := { width := 2, pos := 30 }, blank := { width := 6, pos := 24 }, serial := { width := 16, pos := 0 }
    slot := { width := 7, pos := 16 }, bin := { width := 4, pos := 16 } }

/-- A load scanner's pair whose second transfer is on the link, its tags laid out by some maps. -/
def pairService (m : TagMaps) : Service := { serving .loadScanner (some 0) with settings := { settings with tags := m } }

/-- Slot 5 is a QUEUED line of blank 12 with room for two, changed by `f`, and the pair is about to bring a tag. -/
def scanningBy (m : TagMaps) (f : LineEntry → LineEntry) : State :=
  putService (pairService m)
    (onTry (tryOf .attention .loadScanner .getData)
      { running with
        lines :=
          Tbl.put running.lines 5
            (f { LineEntry.blank with state := .queued, take := 4, snap := some (parsePosting posting) })
        accepted := [5] })

/-- The scan with the maps of the example and the line as it is. -/
abbrev scanning : State := scanningBy tagMaps id

/-- The response that brings a tag to the load scanner's pair. -/
def tagAnswer (tag : Word) : List Byte := answerWord 21 0x23 tag.toNat

theorem witness_loadScan (m : TagMaps) (f : LineEntry → LineEntry) (tag : Word)
    (hc : classify (tryOf .attention .loadScanner .getData) (tagAnswer tag) = .accept tag)
    (hs : scanReady (pairService m) 0 = true) : Claims.loadScan (scanningBy m f) (tagAnswer tag) (tagFields m tag) :=
  ⟨tryOf .attention .loadScanner .getData, pairService m, 0, tag, rfl, rfl, rfl, hc, rfl, rfl, rfl, hs, rfl, rfl, .inl rfl, rfl, rfl⟩

theorem witness_BindJoinsShirtAndLine :
    Claims.loadScan scanning (tagAnswer 0x0C1F1770#32) (tagFields tagMaps 0x0C1F1770#32) ∧
    ((tagFields tagMaps 0x0C1F1770#32).kind = 0 ∧ (platenOf scanning (platenAt scanning 0)).garment = none ∧
      findSerial scanning (tagFields tagMaps 0x0C1F1770#32).serial = none ∧ freeRecord scanning = some 0 ∧
      stockMatch scanning (tagFields tagMaps 0x0C1F1770#32).blank = some 5 ∧ (lineAt scanning 5).bound < 255 ∧
      (placeAt scanning .load).now = none ∧ unreachable scanning .loadScanner = false) :=
  ⟨witness_loadScan _ _ _ (by decide +kernel) (by decide +kernel), by decide +kernel⟩

/-- Maps in which an ORDER tag's slot has eight bits. -/
def wideMaps : TagMaps := { tagMaps with slot := { width := 8, pos := 16 } }

/-- One tag for each outcome, of serial 6000: bound to slot 5, a slot of 128, the IDLE line of slot 6, blank 11, and a line with two bound of two. -/
theorem witness_OrderTagNamesItsLine :
    (Claims.loadScan scanning (tagAnswer 0x4C051770#32) (tagFields tagMaps 0x4C051770#32) ∧
      Claims.loadScan (scanningBy wideMaps id) (tagAnswer 0x4C801770#32) (tagFields wideMaps 0x4C801770#32) ∧
      Claims.loadScan scanning (tagAnswer 0x4C061770#32) (tagFields tagMaps 0x4C061770#32) ∧
      Claims.loadScan scanning (tagAnswer 0x4B051770#32) (tagFields tagMaps 0x4B051770#32) ∧
      Claims.loadScan (scanningBy tagMaps fun l => { l with bound := 2 }) (tagAnswer 0x4C051770#32)
        (tagFields tagMaps 0x4C051770#32)) ∧
    ((tagFields tagMaps 0x4C051770#32).kind = 1 ∧ (tagFields wideMaps 0x4C801770#32).kind = 1 ∧
      (platenOf scanning (platenAt scanning 0)).garment = none ∧ findSerial scanning 6000 = none ∧
      (tagFields tagMaps 0x4C051770#32).serial = 6000 ∧ freeRecord scanning = some 0) ∧
    ((tagFields wideMaps 0x4C801770#32).slot = 128 ∧ (tagFields tagMaps 0x4C051770#32).slot = 5 ∧
      (tagFields tagMaps 0x4C061770#32).slot = 6 ∧ (lineAt scanning 6).state = .idle ∧ (lineAt scanning 5).state = .queued ∧
      (tagFields tagMaps 0x4B051770#32).blank = 11 ∧ (tagFields tagMaps 0x4C051770#32).blank = 12) ∧
    ((lineAt scanning 5).snap = some (parsePosting posting) ∧ (parsePosting posting).blank = 12 ∧
      (parsePosting posting).quantity = 2 ∧ (lineAt scanning 5).bound = 0 ∧ (lineAt scanning 5).finished = 0 ∧
      (placeAt scanning .load).now = none ∧ unreachable scanning .loadScanner = false) :=
  ⟨⟨witness_loadScan _ _ _ (by decide +kernel) (by decide +kernel),
      witness_loadScan _ _ _ (by decide +kernel) (by decide +kernel),
      witness_loadScan _ _ _ (by decide +kernel) (by decide +kernel),
      witness_loadScan _ _ _ (by decide +kernel) (by decide +kernel),
      witness_loadScan _ _ _ (by decide +kernel) (by decide +kernel)⟩,
    by decide +kernel, by decide +kernel, by decide +kernel⟩

/-- The outcomes of those five tags: the line bound, or TAG_MISMATCH with its detail. -/
theorem test_order_tags :
    let go := fun (s : State) (w : Word) => after (exec (.tryAccept (tagAnswer w)) s)
    let told := fun t : State => t.reports.fifo.map fun i => (i.kind, i.detail)
    told (go scanning 0x4C051770#32) = [(.bound, 1)] ∧
    told (go (scanningBy wideMaps id) 0x4C801770#32) = [(.tagMismatch, 65536)] ∧
    told (go scanning 0x4C061770#32) = [(.tagMismatch, 65537)] ∧ told (go scanning 0x4B051770#32) = [(.tagMismatch, 65538)] ∧
    told (go (scanningBy tagMaps fun l => { l with bound := 2 }) 0x4C051770#32) = [(.tagMismatch, 65539)] := by decide +kernel

/-- The LOAD platen carries the shirt of slot 5 with a serial; its line is ACTIVE with two bound. -/
def loadHeld (serial : Nat) (c : Condition) : State :=
  withShirt 0 (fun r => { r with serial := serial, stamp := 4, cond := c, place := .atLoad })
    (scanningBy tagMaps fun l => { l with state := .active, bound := 2 })

theorem witness_ScanOfTheLoadPlaten (serial : Nat) (c : Condition) :
    (Claims.loadScan (loadHeld serial c) (tagAnswer 0x0C1F1770#32) (tagFields tagMaps 0x0C1F1770#32) ∧
      (platenOf (loadHeld serial c) (platenAt (loadHeld serial c) 0)).garment = some 3 ∧
      garmentAt (loadHeld serial c) 3 =
        some { shirt with platen := some 0, serial := serial, stamp := 4, cond := c, place := .atLoad }) ∧
    ((tagFields tagMaps 0x0C1F1770#32).kind = 0 ∧ (tagFields tagMaps 0x0C1F1770#32).serial = 6000 ∧
      platenAt (loadHeld 6000 .good) 0 = 0 ∧ (lineAt (loadHeld 6000 .good) 5).take = 4 ∧
      (lineAt (loadHeld 6000 .good) 5).state = .active ∧
      (lineAt (loadHeld 6000 .good) 5).finished < quantityOf (lineAt (loadHeld 6000 .good) 5)) :=
  ⟨⟨⟨tryOf .attention .loadScanner .getData, pairService tagMaps, 0, 0x0C1F1770#32, rfl, rfl, rfl, by decide +kernel, rfl, rfl,
        rfl, by decide +kernel, rfl, rfl, .inl rfl, rfl, rfl⟩, rfl, rfl⟩, by decide +kernel⟩

/-- The second scan withdraws the shirt: bound falls for a GOOD one only. -/
theorem test_withdrawal :
    let go := fun s : State => after (exec (.tryAccept (tagAnswer 0x0C1F1770#32)) s)
    let seen := fun t : State =>
      ((lineAt t 5).bound, garmentAt t 3, (platenOf t 0).garment, t.reports.fifo.map fun i => i.kind)
    seen (go (loadHeld 6000 .good)) = (1, none, none, [.withdrawn]) ∧
    seen (go (loadHeld 6000 .stripped)) = (2, none, none, [.withdrawn]) ∧
    (go (loadHeld 6001 .good)).reports.fifo.map (fun i => i.kind) = [.platenOccupied] := by decide +kernel

/-- Slots 5, NORMAL and first in the acceptance list, 9, RUSH, and 2, RUSH, all of blank 12. -/
def ranked (rush : Bool) : State :=
  { State.reset with
    lines :=
      Tbl.put
        (Tbl.put (Tbl.put State.reset.lines 5 { LineEntry.blank with state := .active, snap := some goodPost }) 9
          { LineEntry.blank with state := .queued, snap := some { goodPost with rush := rush } })
        2 { LineEntry.blank with state := .queued, snap := some { goodPost with rush := rush } }
    accepted := [5, 9, 2] }

theorem witness_MatchRanksTheLines :
    stockMatch (ranked true) 12 = some 9 ∧ stockMatch (ranked false) 12 = some 5 ∧ stockMatch (ranked true) 11 = none := by
  decide +kernel

theorem witness_FreeRecordIsLowest :
    freeRecord (putGarment 0 shirt State.reset) = some 1 ∧
    freeRecord (State.reset.setGarments (Tbl.all (some shirt))) = none := by decide +kernel

/-- A pack scanner's pair whose second transfer is on the link, its tags laid out by the maps. -/
def packService : Service := { serving .packScanner (some 0) with settings := { settings with tags := tagMaps } }

/-- The order of key 7710 with one item, READY or not, in a bin. -/
def order (key : Word) (ready : Bool) (b : OrderBin) : Order :=
  { key := key, expected := 1, items := [{ slot := 5, take := 4, lineNo := 1, final := ready }], bin := b, packed := 1
    overflow := 0, ready := ready }

/-- A pack scan is about to be whole: orders 7710, in bin 2, and 7801, which waits, and the shirt of slot 5 in the pack queue. -/
def packing (ready : Bool) (waiting : List Word) (f : Garment → Garment) : State :=
  putService packService
    (onTry (tryOf .attention .packScanner .getData)
      (putGarment 3 (f { shirt with platen := none, place := .awaitingPack, stamp := 4, serial := 6000 })
        { running with
          lines :=
            Tbl.put running.lines 5
              { LineEntry.blank with
                state := .active, bound := 2, take := 4, snap := some { parsePosting posting with quantity := 2 } }
          pack :=
            { queue := [shirtEntry], orders := [order 7710 ready (.bin 1), order 7801 false .waiting]
              bins := Tbl.put Pack.reset.bins 1 (some 7710), waiting := waiting } }))

/-- The fields of the two tags: BIN 2, and the shirt's STOCK tag 0x0C1F1770. -/
def binTag : TagFields := tagFields tagMaps 0x80020000#32
def shirtTag : TagFields := tagFields tagMaps 0x0C1F1770#32

theorem witness_packScan_bin (ready : Bool) (w : List Word) (f : Garment → Garment) :
    Claims.packScan (packing ready w f) (answerWord 22 0x23 0x80020000) binTag :=
  ⟨tryOf .attention .packScanner .getData, packService, 0, 0x80020000#32, rfl, rfl, rfl, by decide +kernel, rfl, rfl, rfl,
    by decide +kernel, rfl, rfl, rfl, rfl⟩

theorem witness_packScan_shirt (ready : Bool) (w : List Word) (f : Garment → Garment) :
    Claims.packScan (packing ready w f) (answerWord 22 0x23 0x0C1F1770) shirtTag :=
  ⟨tryOf .attention .packScanner .getData, packService, 0, 0x0C1F1770#32, rfl, rfl, rfl, by decide +kernel, rfl, rfl, rfl,
    by decide +kernel, rfl, rfl, rfl, rfl⟩

theorem witness_BinTagActsOnItsBin :
    Claims.packScan (packing true [] id) (answerWord 22 0x23 0x80020000) binTag ∧
    (binTag.kind = 2 ∧ binTag.bin = (1 : Fin 12).val + 1 ∧ Tbl.at (packing true [] id).pack.bins 1 = some 7710 ∧
      orderAt (packing true [] id) 7710 = some (order 7710 true (.bin 1)) ∧ (packing true [] id).pack.waiting = []) ∧
    (orderAt (packing false [] id) 7710 = some (order 7710 false (.bin 1)) ∧ (order 7710 false (.bin 1)).ready = false) ∧
    ((packing true [7801] id).pack.waiting = 7801 :: [] ∧
      orderAt (packing true [7801] id) 7801 = some (order 7801 false .waiting) ∧ (7801 : Word) ≠ 7710) ∧
    (Claims.packScan ((packing true [] id).setPack Pack.reset) (answerWord 22 0x23 0x80020000) binTag ∧
      Tbl.at ((packing true [] id).setPack Pack.reset).pack.bins 1 = none) :=
  ⟨witness_packScan_bin _ _ _, by decide +kernel, by decide +kernel, by decide +kernel,
    witness_packScan_bin true [] id, by decide +kernel⟩

/-- The garment to be packed. -/
def packShirt : Garment := { shirt with platen := none, place := .awaitingPack, stamp := 4, serial := 6000 }

theorem packFinds_packing (f : Garment → Garment) (ready : Bool) (w : List Word)
    (hf : (f packShirt).serial = 6000) : Claims.packFinds (packing ready w f) (answerWord 22 0x23 0x0C1F1770) shirtTag shirtEntry (f packShirt) :=
  ⟨witness_packScan_shirt ready w f, .inl rfl, rfl, hf, [], [], rfl, nofun⟩

theorem witness_PackScanSortsTheGarment :
    (Claims.packFinds (packing false [] id) (answerWord 22 0x23 0x0C1F1770) shirtTag shirtEntry packShirt ∧
      packShirt.platen = none ∧ (lineAt (packing false [] id) packShirt.slot).take = packShirt.stamp) ∧
    (orderAt (packing false [] id) (keyOf (packing false [] id) 5) = some (order 7710 false (.bin 1)) ∧
      (lineAt (packing false [] id) 5).state = .active ∧
      (lineAt (packing false [] id) 5).finished + 1 < quantityOf (lineAt (packing false [] id) 5)) ∧
    Claims.packFinds (packing false [] fun r => { r with cond := .failed }) (answerWord 22 0x23 0x0C1F1770) shirtTag shirtEntry
      { packShirt with cond := .failed } ∧
    (Claims.packFinds (packing false [] fun r => { r with cond := .voidPrinted }) (answerWord 22 0x23 0x0C1F1770) shirtTag
        shirtEntry { packShirt with cond := .voidPrinted } ∧
      (lineAt (packing false [] id) 5).bound = 2) :=
  ⟨⟨packFinds_packing id false [] rfl, rfl, by decide +kernel⟩, by decide +kernel,
    packFinds_packing (fun r => { r with cond := .failed }) false [] rfl,
    packFinds_packing (fun r => { r with cond := .voidPrinted }) false [] rfl, by decide +kernel⟩

/-- The pack scan of the shirt, the state changed by `g` in what a scan does not read. -/
def packingIn (g : State → State) (f : Garment → Garment) : State := g (packing false [] f)

/-- The order of the shirt has no bin yet, and every bin is taken or only bin 1 is. -/
def binless (bins : Tbl 12 (Option Word)) (s : State) : State :=
  s.setPack { s.pack with orders := [order 7710 false .none], bins := bins }

theorem packFinds_packingIn (g : State → State) (f : Garment → Garment) (hf : (f packShirt).serial = 6000)
    (hl : (g (packing false [] f)).link = (packing false [] f).link) (he : (g (packing false [] f)).exch = (packing false [] f).exch)
    (hg : (g (packing false [] f)).garments = (packing false [] f).garments)
    (hq : (g (packing false [] f)).pack.queue = (packing false [] f).pack.queue) :
    Claims.packFinds (packingIn g f) (answerWord 22 0x23 0x0C1F1770) shirtTag shirtEntry (f packShirt) := by
  obtain ⟨⟨o, v, st, tag, h1, h2, h3, h4, h5, h6, h7, h8, h9, h10, h11, h12⟩, hk, hr, hs, b, r, hb, hx⟩ :=
    packFinds_packing f false [] hf
  have hm : ∀ q, moduleAt (packingIn g f) q = moduleAt (packing false [] f) q := fun q => by unfold moduleAt packingIn; rw [hl]
  have hga : ∀ x, garmentAt (packingIn g f) x = garmentAt (packing false [] f) x := fun x => by unfold garmentAt packingIn; rw [hg]
  refine ⟨⟨o, v, st, tag, ?_, h2, h3, h4, ?_, h6, h7, h8, h9, ?_, ?_, ?_⟩, hk, ?_, hs, b, r, ?_, ?_⟩
  · unfold packingIn; rw [hl]; exact h1
  · unfold packingIn; rw [hl]; exact h5
  · rw [hm]; exact h10
  · unfold placeAt packingIn; rw [hl]; exact h11
  · unfold unreachable; rw [hm]; unfold attached roleAddr packingIn; rw [hl, he]; exact h12
  · rw [hga]; exact hr
  · unfold packingIn; rw [hq]; exact hb
  · intro x hxb y hy; rw [hga] at hy; exact hx x hxb y hy

theorem witness_FirstPackTakesABin :
    (Claims.packFinds (packingIn (binless (Tbl.put (Tbl.all none) 0 (some 1))) id) (answerWord 22 0x23 0x0C1F1770) shirtTag
        shirtEntry packShirt ∧
      Claims.packFinds (packingIn (binless (Tbl.all (some 1))) id) (answerWord 22 0x23 0x0C1F1770) shirtTag shirtEntry packShirt) ∧
    (orderAt (packingIn (binless (Tbl.put (Tbl.all none) 0 (some 1))) id) 7710 = some (order 7710 false .none) ∧
      keyOf (packingIn (binless (Tbl.put (Tbl.all none) 0 (some 1))) id) 5 = 7710) ∧
    (Tbl.at (packingIn (binless (Tbl.put (Tbl.all none) 0 (some 1))) id).pack.bins 1 = none ∧
      ∀ x : Fin 12, x < 1 → Tbl.at (packingIn (binless (Tbl.put (Tbl.all none) 0 (some 1))) id).pack.bins x ≠ none) ∧
    (∀ x : Fin 12, Tbl.at (packingIn (binless (Tbl.all (some 1))) id).pack.bins x ≠ none) ∧
    ({ slot := 5, take := 4, lineNo := 1, final := false } : OrderItem) ∈ (order 7710 false .none).items :=
  ⟨⟨packFinds_packingIn _ id rfl rfl rfl rfl rfl, packFinds_packingIn _ id rfl rfl rfl rfl rfl⟩, by decide +kernel,
    by decide +kernel, by decide +kernel, by decide⟩

/-- The shirt's line lacks one garment, and its order, in bin 2, expects a number of lines. -/
def lastPack (expected : Nat) (s : State) : State :=
  { s with
    lines := Tbl.put s.lines 5 { lineAt s 5 with finished := 1 }
    pack := { s.pack with orders := [{ order 7710 false (.bin 1) with expected := expected }] } }

theorem witness_PackThatFinishesALine (n : Nat) :
    (Claims.packFinds (packingIn (lastPack n) id) (answerWord 22 0x23 0x0C1F1770) shirtTag shirtEntry packShirt ∧
      orderAt (packingIn (lastPack n) id) (keyOf (packingIn (lastPack n) id) 5) =
        some { order 7710 false (.bin 1) with expected := n }) ∧
    (packShirt.platen = none ∧ (lineAt (packingIn (lastPack 1) id) 5).take = packShirt.stamp ∧ packShirt.cond = .good ∧
      packShirt.refeed = false ∧ (lineAt (packingIn (lastPack 1) id) 5).state = .active ∧
      (lineAt (packingIn (lastPack 1) id) 5).finished + 1 = quantityOf (lineAt (packingIn (lastPack 1) id) 5)) ∧
    (({ slot := 5, take := 4, lineNo := 1, final := false } : OrderItem) ∈ (order 7710 false (.bin 1)).items ∧
      ((order 7710 false (.bin 1)).items.map (Claims.finalized 5 4)).length = 1) :=
  ⟨⟨packFinds_packingIn _ id rfl rfl rfl rfl rfl, by rfl⟩, by decide +kernel, by decide +kernel⟩

/-- The last pack of the line finishes it, and makes its order READY when no other line is expected. -/
theorem test_last_pack :
    let go := fun n => after (exec (.tryAccept (answerWord 22 0x23 0x0C1F1770)) (packingIn (lastPack n) id))
    let seen := fun t : State => ((lineAt t 5).state, (lineAt t 5).bound, t.reports.fifo.map fun i => (i.kind, i.detail))
    seen (go 1) = (.finished, 1, [(.packed, 2), (.orderReady, 2)]) ∧ seen (go 2) = (.finished, 1, [(.packed, 2)]) := by
  decide +kernel

/-- The transfer list holds some entries. -/
def transferring (l : List TimedEntry) (s : State) : State := s.setDryer { s.dryer with transfer := l }

theorem witness_RefeedGoesBackToTheBelt (l : List TimedEntry) :
    Claims.packFinds (packingIn (transferring l) fun r => { r with refeed := true }) (answerWord 22 0x23 0x0C1F1770) shirtTag
      shirtEntry { packShirt with refeed := true } ∧
    (packingIn (transferring []) id).dryer.transfer.length < 4 ∧
    4 ≤ (packingIn (transferring fourInTransfer) id).dryer.transfer.length :=
  ⟨packFinds_packingIn (transferring l) (fun r => { r with refeed := true }) rfl rfl rfl rfl rfl, by decide, by decide⟩

/-- Tags of bins 0 and 13, of kind 3, and of a shirt that stands nowhere. -/
theorem witness_OtherPackScans :
    (∀ tag : Word, tag ∈ [0x80000000#32, 0x800D0000#32, 0xC0000000#32, 0x0C1F1771#32] →
      Claims.packScan (packing false [] id) (answerWord 22 0x23 tag.toNat) (tagFields tagMaps tag)) ∧
    ((tagFields tagMaps 0x80000000#32).kind = 2 ∧ (tagFields tagMaps 0x80000000#32).bin = 0 ∧
      12 < (tagFields tagMaps 0x800D0000#32).bin ∧ 2 < (tagFields tagMaps 0xC0000000#32).kind) ∧
    ((tagFields tagMaps 0x0C1F1771#32).kind = 0 ∧ (tagFields tagMaps 0x0C1F1771#32).serial = 6001 ∧
      ∀ g : Fin 32, garmentAt (packing false [] id) g ≠ none → g = 3) := by
  refine ⟨?_, by decide +kernel, by decide +kernel⟩
  intro tag h
  refine ⟨tryOf .attention .packScanner .getData, packService, 0, tag, rfl, rfl, rfl, ?_, rfl, rfl, rfl, by decide +kernel, rfl,
    rfl, rfl, rfl⟩
  simp only [List.mem_cons, List.not_mem_nil, or_false] at h
  rcases h with rfl | rfl | rfl | rfl <;> decide +kernel

/-- The shirt, changed by `f`, is on the belt and not in the pack queue, the state changed by `g`, and the pack scan brings its tag. -/
def earlyPicking (g : State → State) (f : Garment → Garment) : State :=
  g ((putBelt [beltEntry none, beltEntry (some 3)] (packing false [] f)).setPack { (packing false [] f).pack with queue := [] })

/-- The five ends of an early pick: FAILED, VOID_PRINTED, failed by the verdict, CURED with a bin and with the waiting list, and marked for refeed with room and
without. The shirt's line needs no dose, or 900 CU. -/
theorem witness_EarlyPackScans (f : Garment → Garment) :
    (Claims.packScan (earlyPicking id f) (answerWord 22 0x23 0x0C1F1770) shirtTag ∧ shirtTag.kind = 0 ∧
      (earlyPicking id f).pack.queue = [] ∧ (earlyPicking id f).dryer.belt = [beltEntry none] ++ beltEntry (some 3) :: [] ∧
      garmentAt (earlyPicking id f) 3 = some (f packShirt) ∧ packShirt.serial = shirtTag.serial) ∧
    ((Claims.verdictOf (earlyPicking id id) { packShirt with unverified := true }).2.2 = (.failed, some .unverified) ∧
      Claims.verdictOf (earlyPicking id id) packShirt = (some .cured, false, .good, none) ∧
      orderAt (earlyPicking id id) (keyOf (earlyPicking id id) 5) = some (order 7710 false (.bin 1)) ∧
      (lineAt (earlyPicking id id) 5).take = packShirt.stamp ∧
      orderAt (earlyPicking (fun s => s.setPack { s.pack with orders := [order 7710 false .waiting] }) id) 7710 =
        some (order 7710 false .waiting)) ∧
    (∀ l : List TimedEntry,
      let needing : State → State := fun s =>
        transferring l
          (putLine 5 { lineAt s 5 with snap := some { parsePosting posting with cure := 900 } }
            { s with config := { s.config with refeedLimit := 1 } })
      (Claims.verdictOf (earlyPicking needing id) packShirt).2.1 = true ∧
      Claims.packScan (earlyPicking needing id) (answerWord 22 0x23 0x0C1F1770) shirtTag ∧
      (earlyPicking needing id).dryer.transfer = l) ∧
    (earlyPicking id f).reports.fifo.length + 5 ≤ 16 := by
  refine ⟨⟨?_, rfl, rfl, rfl, rfl, rfl⟩, by decide +kernel, fun l => ⟨by rfl, ?_, rfl⟩, Nat.le_of_ble_eq_true rfl⟩
  · exact ⟨tryOf .attention .packScanner .getData, packService, 0, 0x0C1F1770#32, rfl, rfl, rfl, by decide +kernel, rfl, rfl, rfl,
      by decide +kernel, rfl, rfl, rfl, rfl⟩
  · exact ⟨tryOf .attention .packScanner .getData, packService, 0, 0x0C1F1770#32, rfl, rfl, rfl, by decide +kernel, rfl, rfl, rfl,
      by decide +kernel, rfl, rfl, rfl, rfl⟩

/-- A VOID_PRINTED shirt picked early goes to SPARE with EARLY_PICK and PACKED. -/
theorem test_early_pick :
    let t := after
      (exec (.tryAccept (answerWord 22 0x23 0x0C1F1770)) (earlyPicking id fun r => { r with cond := .voidPrinted, dryerDose := 120000 }))
    (t.reports.fifo.map fun i => (i.kind, i.detail, i.value)) = [(.earlyPick, 0, 0), (.packed, 14, 12)] ∧
    garmentAt t 3 = none ∧ (lineAt t 5).lastDose = 12 := by decide +kernel

/-- A stopped line with a waiting pass, at which the invariant of a stopped line means something. -/
theorem witness_EveryStepKeepsAStoppedLineStill :
    EstopSafe (passWaits .stopped) ∧ ∃ t, step (passWaits .stopped) = .next t :=
  ⟨⟨⟨fun _ => rfl, fun h => (h rfl).elim, fun u h => by cases u <;> exact (h rfl).elim, fun h => (h rfl).elim⟩,
      fun _ => ⟨rfl, rfl, rfl, fun u => by cases u <;> rfl, rfl, by decide +kernel⟩⟩, ⟨_, rfl⟩⟩

theorem witness_EveryStepKeepsTheTables :
    (∃ t, step (walking.setPending [.fetchStart]) = .next t) ∧ Bounded walking ∧ MapOneToOne walking ∧
    PortBusyWhileWaiting walking ∧ StagingCanonical walking :=
  ⟨⟨_, rfl⟩, ⟨by decide, by decide, by decide, by decide, by decide, by decide⟩, by unfold MapOneToOne; decide +kernel,
    fun _ => rfl, rfl⟩

theorem witness_OnlyReleaseLeavesStopped :
    (passWaits .stopped).ctl.mode = .stopped ∧ (passWaits .stopped).ctl.drain = false ∧
    (passWaits .stopped).ctl.request = .absent ∧ (passWaits .stopped).carousel.op = .none ∧
    (∃ t, exec .runRequest (passWaits .stopped) = .next t) ∧ Instr.runRequest ≠ .estopReleaseTimePasses ∧
    Instr.runRequest ≠ .powerReset ∧ Instr.runRequest ≠ .pinReset ∧ Instr.runRequest ≠ .softReset :=
  ⟨rfl, rfl, rfl, rfl, ⟨_, rfl⟩, nofun, nofun, nofun, nofun⟩

end Sys2Proof.Tests
end

section
/-! PROOFS. Pretreatment: the pulse time of a zone (R47), and the valve channels of a row when its edge is taken (R50, R52). -/

namespace Sys2Proof.Machine

/-! ## The pulse time (R47) -/

/-- Rounding to the nearest with halves up is one division by twice the divisor. -/
theorem roundedPulse_eq (q : Nat) : roundedPulse q = (2 * q + 4080) / 8160 := by
  unfold roundedPulse Config.pulseDivisor
  split <;> omega

theorem pulseTime_of_unsprayed {p : SprayParams} {factor cover : Nat} (h : cover < p.floor ∨ factor = 0) :
    pulseTime p factor cover = 0 := if_pos h

theorem pulseTime_of_sprayed {p : SprayParams} {factor cover : Nat} (h : ¬(cover < p.floor ∨ factor = 0)) :
    pulseTime p factor cover =
      min p.dwell (max (min p.minPulse p.dwell) ((2 * (p.base * factor * cover) + 4080) / 8160)) := by
  rw [pulseTime, if_neg h, roundedPulse_eq, effectiveMin]

theorem pulseTime_le_dwell (p : SprayParams) (factor cover : Nat) : pulseTime p factor cover ≤ p.dwell := by
  by_cases h : cover < p.floor ∨ factor = 0
  · rw [pulseTime_of_unsprayed h]; exact Nat.zero_le _
  · rw [pulseTime_of_sprayed h]; exact Nat.min_le_left ..

theorem effectiveMin_le_pulseTime {p : SprayParams} {factor cover : Nat} (h : ¬(cover < p.floor ∨ factor = 0)) :
    min p.minPulse p.dwell ≤ pulseTime p factor cover := by
  rw [pulseTime_of_sprayed h]
  exact Nat.le_min.mpr ⟨Nat.min_le_right .., Nat.le_max_left ..⟩

/-! ## What a zone's pulse time depends on -/

/-- The pulse time of zone `z` in row `row` of the garment that is sprayed. -/
def zonePulse (s : State) (row : Nat) (z : Fin 8) : Nat :=
  pulseTime s.pretreat.latched s.pretreat.factor (coverageAt s row z)

/-- The states agree on what the pulse times are computed from: the latched parameters, the pass's factor and job, the lines, and the slots
of the garments. -/
structure SameSpray (s t : State) : Prop where
  latched : t.pretreat.latched = s.pretreat.latched
  factor : t.pretreat.factor = s.pretreat.factor
  job : t.pretreat.job = s.pretreat.job
  lines : t.lines = s.lines
  slots : ∀ g, (garmentAt t g).map Garment.slot = (garmentAt s g).map Garment.slot

theorem SameSpray.refl (s : State) : SameSpray s s := ⟨rfl, rfl, rfl, rfl, fun _ => rfl⟩

theorem SameSpray.trans {s t u : State} (h : SameSpray s t) (k : SameSpray t u) : SameSpray s u :=
  ⟨k.latched.trans h.latched, k.factor.trans h.factor, k.job.trans h.job, k.lines.trans h.lines,
    fun g => (k.slots g).trans (h.slots g)⟩

/-- Operations that keep every garment record need only keep the pass. -/
theorem SameSpray.of_garments {s t : State} (hp : t.pretreat.latched = s.pretreat.latched)
    (hf : t.pretreat.factor = s.pretreat.factor) (hj : t.pretreat.job = s.pretreat.job) (hl : t.lines = s.lines)
    (hg : t.garments = s.garments) : SameSpray s t :=
  ⟨hp, hf, hj, hl, fun g => by rw [garmentAt, hg, ← garmentAt]⟩

/-- A run of operations that each keep it. -/
theorem SameSpray.foldl {f : State → Fin 8 → State} (hf : ∀ s z, SameSpray s (f s z)) (l : List (Fin 8)) (s : State) :
    SameSpray s (l.foldl f s) := by
  induction l generalizing s with
  | nil => exact .refl s
  | cons z l ih => exact (hf s z).trans (ih (f s z))

/-- The snapshot of a garment's line is found from its slot alone. -/
theorem bind_snapOf (s : State) (o : Option Garment) :
    o.bind (snapOf s) = (o.map Garment.slot).bind fun i => (lineAt s i).snap := by
  cases o <;> rfl

theorem SameSpray.coverageAt_eq {s t : State} (h : SameSpray s t) (row : Nat) (z : Fin 8) :
    coverageAt t row z = coverageAt s row z := by
  have hline : ∀ i, lineAt t i = lineAt s i := fun i => by rw [lineAt, h.lines, ← lineAt]
  have hsnap : (fun j : Job => (garmentAt t j.garment).bind (snapOf t)) =
      fun j => (garmentAt s j.garment).bind (snapOf s) := by
    funext j
    simp only [bind_snapOf, h.slots, hline]
  rw [coverageAt, h.job, hsnap, ← coverageAt]

theorem SameSpray.zonePulse_eq {s t : State} (h : SameSpray s t) (row : Nat) (z : Fin 8) :
    zonePulse t row z = zonePulse s row z := by
  rw [zonePulse, h.latched, h.factor, h.coverageAt_eq, ← zonePulse]

theorem sameSpray_putCapture (i : CaptureInput) (c : Option Clock) (s : State) : SameSpray s (putCapture i c s) :=
  .of_garments rfl rfl rfl rfl rfl

theorem sameSpray_putValve (z : Fin 8) (v : Valve) (s : State) : SameSpray s (putValve z v s) :=
  .of_garments rfl rfl rfl rfl rfl

/-! ## A fluid use, and the closing of channels (R51, R57) -/

/-- The use of fluid changes the tank alone of the pretreat unit. -/
theorem useFluid_pretreat (fluid : Nat) (s : State) :
    (useFluid fluid s).pretreat = { s.pretreat with tank := drawTank fluid s.pretreat.tank } := by
  simp only [useFluid, tankFall_frame]
  rfl

@[simp] theorem valveAt_useFluid (fluid : Nat) (s : State) (z : Fin 8) : valveAt (useFluid fluid s) z = valveAt s z := by
  simp only [valveAt, useFluid_pretreat]

theorem sameSpray_useFluid (fluid : Nat) (s : State) : SameSpray s (useFluid fluid s) := by
  apply SameSpray.of_garments <;> simp [useFluid_pretreat]

/-- Closing a channel: it alone is CLOSED, whatever it was. -/
theorem valveAt_closeValve (s : State) (i z : Fin 8) :
    valveAt (closeValve s i) z = if i = z then .closed else valveAt s z := by
  unfold closeValve
  split
  case h_1 hclosed =>
    split
    · next hiz => rw [← hiz, hclosed]
    · rfl
  case h_2 => exact valveAt_putValve ..
  case h_3 => rw [valveAt_useFluid, valveAt_putValve]

theorem sameSpray_closeValve (s : State) (i : Fin 8) : SameSpray s (closeValve s i) := by
  unfold closeValve
  split
  · exact .refl s
  · exact sameSpray_putValve ..
  · exact (sameSpray_putValve ..).trans (sameSpray_useFluid ..)

theorem valveAt_foldl_closeValve (l : List (Fin 8)) (s : State) (z : Fin 8) :
    valveAt (l.foldl closeValve s) z = if z ∈ l then .closed else valveAt s z := by
  induction l generalizing s with
  | nil => rfl
  | cons i l ih =>
    rw [List.foldl_cons, ih, valveAt_closeValve]
    by_cases hz : z ∈ l <;> simp [hz, eq_comm]

theorem mem_allValves (z : Fin 8) : z ∈ allValves := by revert z; decide

@[simp] theorem valveAt_closeValves (s : State) (z : Fin 8) : valveAt (closeValves s) z = .closed := by
  rw [closeValves, valveAt_foldl_closeValve, if_pos (mem_allValves z)]

theorem sameSpray_closeValves (s : State) : SameSpray s (closeValves s) :=
  .foldl sameSpray_closeValve allValves s

/-! ## The row (R50, R52) -/

/-- A channel armed for zone `z` of a row whose edge was at `edge`. -/
def armedFor (edge : Clock) (row : Nat) (s : State) (z : Fin 8) : Valve :=
  let opens := later edge (s.pretreat.latched.delay * Config.ticksPerTenth)
  .armed opens (later opens (zonePulse s row z * Config.ticksPerTenth)) (zonePulse s row z)

theorem SameSpray.armedFor_eq {s t : State} (h : SameSpray s t) (edge : Clock) (row : Nat) (z : Fin 8) :
    armedFor edge row t z = armedFor edge row s z := by
  rw [armedFor, h.latched, h.zonePulse_eq, ← armedFor]

theorem armZone_eq (edge : Clock) (row : Nat) (s : State) (z : Fin 8) :
    armZone edge row s z = if zonePulse s row z = 0 then s else putValve z (armedFor edge row s z) s := rfl

theorem sameSpray_armZone (edge : Clock) (row : Nat) (s : State) (z : Fin 8) : SameSpray s (armZone edge row s z) := by
  rw [armZone_eq]
  split
  · exact .refl s
  · exact sameSpray_putValve ..

/-- Arming a zone: it alone changes, and only with a pulse time above 0. -/
theorem valveAt_armZone (edge : Clock) (row : Nat) (s : State) (i z : Fin 8) :
    valveAt (armZone edge row s i) z =
      if i = z ∧ zonePulse s row z ≠ 0 then armedFor edge row s z else valveAt s z := by
  rw [armZone_eq]
  by_cases hiz : i = z
  · subst hiz
    by_cases h0 : zonePulse s row i = 0 <;> simp [h0]
  · split <;> simp [hiz, valveAt_putValve]

/-- No zone's arming changes what another's is computed from, so each is armed as from the state before the first. -/
theorem valveAt_foldl_armZone (edge : Clock) (row : Nat) (l : List (Fin 8)) (s : State) (z : Fin 8) :
    valveAt (l.foldl (armZone edge row) s) z =
      if z ∈ l ∧ zonePulse s row z ≠ 0 then armedFor edge row s z else valveAt s z := by
  induction l generalizing s with
  | nil => simp
  | cons i l ih =>
    have keeps := sameSpray_armZone edge row s i
    rw [List.foldl_cons, ih, keeps.zonePulse_eq, keeps.armedFor_eq, valveAt_armZone]
    by_cases hz : z ∈ l <;> by_cases h0 : zonePulse s row z = 0 <;> simp [hz, h0, eq_comm]

/-- The flag of a row overlap leaves the garment's slot. -/
theorem sameSpray_noteOverlap (s : State) : SameSpray s (noteOverlap s) := by
  refine ⟨by simp, by simp, by simp, by simp, fun g => ?_⟩
  unfold noteOverlap
  split
  · rfl
  · split
    · rw [garmentAt_changeGarment]
      split
      · next hg => rw [hg, Option.map_map]; rfl
      · rfl
    · rfl

/-- The counting of a row. -/
def countRow (row : Nat) (s : State) : State := s.setPretreat { s.pretreat with row := row }

theorem sameSpray_countRow (row : Nat) (s : State) : SameSpray s (countRow row s) :=
  .of_garments rfl rfl rfl rfl rfl

@[simp] theorem valveAt_countRow (row : Nat) (s : State) (z : Fin 8) : valveAt (countRow row s) z = valveAt s z := rfl

theorem nextRow_eq (edge : Clock) (s : State) :
    nextRow edge s =
      allValves.foldl (armZone edge (s.pretreat.row + 1)) (countRow (s.pretreat.row + 1) (closeValves (noteOverlap s))) := rfl

/-- After a row's edge a channel is CLOSED or armed for this row; none is as it was in the row before. -/
theorem valveAt_nextRow (edge : Clock) (s : State) (z : Fin 8) :
    valveAt (nextRow edge s) z =
      if zonePulse s (s.pretreat.row + 1) z = 0 then .closed else armedFor edge (s.pretreat.row + 1) s z := by
  have keeps : SameSpray s (countRow (s.pretreat.row + 1) (closeValves (noteOverlap s))) :=
    ((sameSpray_noteOverlap s).trans (sameSpray_closeValves _)).trans (sameSpray_countRow ..)
  rw [nextRow_eq, valveAt_foldl_armZone, keeps.zonePulse_eq, keeps.armedFor_eq, valveAt_countRow, valveAt_closeValves]
  by_cases h0 : zonePulse s (s.pretreat.row + 1) z = 0 <;> simp [h0, mem_allValves]

/-! ## The edge -/

/-- An edge that is the next row of a pass. -/
theorem exec_sprayRowEdge_of_row {s : State} {edge : Clock} (hedge : captureAt s .sprayRow = some edge)
    (hstate : s.pretreat.state = .spraying) (hrow : s.pretreat.row < 16) :
    exec .sprayRowEdge s = .next (nextRow edge (putCapture .sprayRow none s)) := by
  have taken : exec .sprayRowEdge s = .next (rowEdge edge (putCapture .sprayRow none s)) := by
    rcases takeCapture_cases .sprayRow rowEdge s with ⟨hnone, -⟩ | ⟨c, hc, h⟩
    · rw [hnone] at hedge; cases hedge
    · rw [hc] at hedge; cases hedge; exact h
  rw [taken, rowEdge, if_pos (by simpa using ⟨hstate, hrow⟩)]

/-- Settles O16: the arithmetic of R47, and the channels after the edge, each CLOSED or armed with its zone's pulse time. -/
theorem pulseTimeOfAZone : Obligations.PulseTimeOfAZone := by
  refine ⟨fun p factor cover => ⟨pulseTime_of_unsprayed, fun h =>
    ⟨pulseTime_of_sprayed h, effectiveMin_le_pulseTime h, pulseTime_le_dwell ..⟩⟩, ?_⟩
  intro s edge j hedge hstate hrow _
  refine ⟨_, exec_sprayRowEdge_of_row hedge hstate hrow, fun z => ?_⟩
  have keeps := sameSpray_putCapture .sprayRow none s
  have channel := valveAt_nextRow edge (putCapture .sprayRow none s) z
  rw [keeps.zonePulse_eq, keeps.armedFor_eq] at channel
  exact ⟨fun h0 => channel.trans (if_pos h0), fun h0 => ⟨_, _, channel.trans (if_neg h0)⟩⟩

end Sys2Proof.Machine
end

section
/-! PROOFS. The tunnel dryer: what a BELT_ENTRY edge does to the transfer list, the belt queue and the garment (R122). -/

namespace Sys2Proof.Machine

/-! ## An edge that its unit holds -/

/-- The owner of a capture acts on the time that the unit holds, in the state with that unit emptied. -/
theorem takeCapture_of_captured {i : CaptureInput} {s : State} {edge : Clock} (hedge : captureAt s i = some edge)
    (f : Clock → State → State) : takeCapture i f s = .next (f edge (putCapture i none s)) := by
  rw [takeCapture, hedge]

theorem exec_beltEntryEdge_of_captured {s : State} {edge : Clock} (hedge : captureAt s .beltEntry = some edge) :
    exec .beltEntryEdge s = .next (beltEntryAt edge (putCapture .beltEntry none s)) :=
  takeCapture_of_captured hedge beltEntryAt

/-! ## The entry that joins the belt's tail -/

/-- The belt entry that an edge makes, with the odometer's present value. -/
def newBeltEntry (g : Option (Fin 32)) (edge : Clock) (s : State) : BeltEntry :=
  { garment := g, entry := edge, odo := s.dryer.odometer, beyond := false, overdue := false, counted := false }

theorem joinBelt_dryer (g : Option (Fin 32)) (edge : Clock) (s : State) :
    (joinBelt g edge s).dryer = { s.dryer with belt := s.dryer.belt ++ [newBeltEntry g edge s] } := rfl

theorem joinBelt_belt_length (g : Option (Fin 32)) (edge : Clock) (s : State) :
    (joinBelt g edge s).dryer.belt.length = s.dryer.belt.length + 1 := by
  rw [joinBelt_dryer, List.length_append, List.length_singleton]

/-! ## A phantom -/

theorem enterPhantom_dryer (edge : Clock) (s : State) :
    (enterPhantom edge s).dryer = { s.dryer with belt := s.dryer.belt ++ [newBeltEntry none edge s] } := rfl

theorem enterPhantom_garments (edge : Clock) (s : State) : (enterPhantom edge s).garments = s.garments := rfl

/-- STRAY_ENTRY counts the phantom: its value is the length of the belt queue after the phantom joined. -/
theorem enterPhantom_reports (edge : Clock) (s : State) :
    (enterPhantom edge s).reports =
      Claims.raised { incident .strayEntry with value := s.dryer.belt.length + 1 } s := by
  rw [← joinBelt_belt_length none edge s]
  rfl

/-! ## A garment -/

/-- Changing a garment's record changes the records alone. -/
theorem changeGarment_eq (g : Fin 32) (f : Garment → Garment) (s : State) :
    changeGarment g f s = { s with garments := (changeGarment g f s).garments } := by
  unfold changeGarment
  split <;> rfl

theorem enterBelt_dryer (g : Fin 32) (rest : List TimedEntry) (edge : Clock) (s : State) :
    (enterBelt g rest edge s).dryer =
      { s.dryer with transfer := rest, belt := s.dryer.belt ++ [newBeltEntry (some g) edge s] } := by
  simp only [enterBelt, changeGarment_frame]
  rfl

theorem enterBelt_reports (g : Fin 32) (rest : List TimedEntry) (edge : Clock) (s : State) :
    (enterBelt g rest edge s).reports = s.reports := by
  simp only [enterBelt_frame]

/-- The garment that entered is on the belt; every other record is as it was. -/
theorem garmentAt_enterBelt (g h : Fin 32) (rest : List TimedEntry) (edge : Clock) (s : State) :
    garmentAt (enterBelt g rest edge s) h =
      if g = h then (garmentAt s g).map (onBelt edge s.dryer.odometer) else garmentAt s h :=
  garmentAt_changeGarment ..

/-! ## The edge -/

theorem beltEntryAt_of_full {s : State} (hfull : Config.beltPlaces ≤ s.dryer.belt.length) (edge : Clock) :
    beltEntryAt edge s = raise { incident .beltFull with value := s.dryer.transfer.length } s :=
  if_neg (Nat.not_lt.mpr hfull)

theorem beltEntryAt_of_stray {s : State} (hroom : s.dryer.belt.length < Config.beltPlaces)
    (hempty : s.dryer.transfer = []) (edge : Clock) : beltEntryAt edge s = enterPhantom edge s := by
  rw [beltEntryAt, if_pos hroom, hempty]

theorem beltEntryAt_of_head {s : State} {e : TimedEntry} {rest : List TimedEntry}
    (hroom : s.dryer.belt.length < Config.beltPlaces) (hhead : s.dryer.transfer = e :: rest) (edge : Clock) :
    beltEntryAt edge s = enterBelt e.garment rest edge s := by
  rw [beltEntryAt, if_pos hroom, hhead]

/-- Whichever of the three an edge is, it changes the dryer, the garment records and the reports alone. -/
theorem beltEntryAt_eq (edge : Clock) (s : State) :
    beltEntryAt edge s =
      { s with
        dryer := (beltEntryAt edge s).dryer, garments := (beltEntryAt edge s).garments
        reports := (beltEntryAt edge s).reports } := by
  rcases Nat.lt_or_ge s.dryer.belt.length Config.beltPlaces with hroom | hfull
  · cases hlist : s.dryer.transfer with
    | nil => rw [beltEntryAt_of_stray hroom hlist]; rfl
    | cons e rest => rw [beltEntryAt_of_head hroom hlist, enterBelt, changeGarment_eq]; rfl
  · rw [beltEntryAt_of_full hfull, raise_eq]

/-- Settles O18: the three outcomes of R122, each by what its operation does to the dryer, the garments and the reports. -/
theorem beltEntryJoinsTheBelt : Obligations.BeltEntryJoinsTheBelt := by
  intro s edge hedge
  refine ⟨_, exec_beltEntryEdge_of_captured hedge, ?captureTaken, ?restKept, ?full, ?stray, ?head⟩
  case captureTaken => simp only [captureAt, beltEntryAt_frame]; exact captureAt_putCapture_self ..
  case restKept => rw [beltEntryAt_eq]; rfl
  case full =>
    intro hfull
    rw [beltEntryAt_of_full (s := putCapture .beltEntry none s) hfull]
    exact ⟨rfl, rfl, rfl⟩
  case stray =>
    intro hroom hempty
    rw [beltEntryAt_of_stray (s := putCapture .beltEntry none s) hroom hempty]
    exact ⟨enterPhantom_dryer .., enterPhantom_garments .., enterPhantom_reports ..⟩
  case head =>
    intro e rest r hroom hhead hgarment
    rw [beltEntryAt_of_head (s := putCapture .beltEntry none s) hroom hhead]
    refine ⟨enterBelt_dryer .., enterBelt_reports .., ?entered, fun h hne => ?other⟩
    case entered =>
      rw [garmentAt_enterBelt, if_pos rfl]
      exact congrArg (Option.map _) hgarment
    case other => exact (garmentAt_enterBelt ..).trans (if_neg hne.symm)

end Sys2Proof.Machine
end

section
/-! PROOFS. The exchange area: INT (R198), and what a reset leaves of the fields it depends on (R199). -/

namespace Sys2Proof.Machine

/-! ## INT (R198) -/

theorem intAsserted_iff (s : State) :
    intAsserted s = true ↔ s.exch.intEnable = true ∧ s.reports.chipSeq ≠ s.exch.seqAck := by
  rw [intAsserted, Bool.and_eq_true, bne_iff_ne]

theorem intAsserted_of_disabled {s : State} (h : s.exch.intEnable = false) : intAsserted s = false := by
  rw [intAsserted, h, Bool.false_and]

/-! ## The host's writes of the enable and of SEQ_ACK (R189, R198) -/

theorem exec_interruptEnable (e : Bool) (s : State) :
    exec (.interruptEnable e) s = .next (s.setExch { s.exch with intEnable := e }) := rfl

theorem exec_seqAckWrite (v : Word) (s : State) :
    exec (.seqAckWrite v) s = .next (s.setExch { s.exch with seqAck := v }) := rfl

/-! ## The exchange interface and the report writer after a reset (R199) -/

theorem resetPart_exch (cause : ResetCause) (s : State) :
    (resetPart cause s).exch = { Exch.reset with cause := cause } := rfl

theorem resetPart_reports (cause : ResetCause) (s : State) : (resetPart cause s).reports = Reports.reset := rfl

/-- The attach that a base taken starts at once is all that a soft reset adds to what it keeps of the exchange interface. -/
theorem softResets_exch (s : State) :
    (softResets s).exch =
      { keptExch s.exch with attach := if s.exch.base.isSome then .reading else .none } := by
  unfold softResets
  split
  · simp only [askAttach_frame]
    rfl
  · rfl

theorem softResets_reports (s : State) : (softResets s).reports = Reports.reset := by
  unfold softResets
  split
  · simp only [askAttach_frame, setAttach_frame]
    rfl
  · rfl

/-- After a reset of any kind the chip sequence and SEQ_ACK are 0 and the interrupt enable is clear. -/
theorem interruptFields_of_reset {s t : State}
    (h : exec .powerReset s = .next t ∨ exec .pinReset s = .next t ∨ exec .softReset s = .next t) :
    t.reports.chipSeq = 0 ∧ t.exch.seqAck = 0 ∧ t.exch.intEnable = false := by
  rcases h with hpower | hpin | hsoft
  · obtain rfl : powerUp s = t := Host.Outcome.next.inj hpower
    rw [powerUp, resetPart_exch, resetPart_reports]
    exact ⟨rfl, rfl, rfl⟩
  · obtain rfl : pinResets s = t := Host.Outcome.next.inj hpin
    rw [pinResets, setStaging_exch, setStaging_reports, resetPart_exch, resetPart_reports]
    exact ⟨rfl, rfl, rfl⟩
  · obtain rfl : softResets s = t := Host.Outcome.next.inj hsoft
    rw [softResets_exch, softResets_reports]
    exact ⟨rfl, rfl, rfl⟩

/-- Settles O7: the two writes, R198's condition and its pin, and INT deasserted by a reset, since the enable is then clear. -/
theorem interruptFollowsEnableAndAck : Obligations.InterruptFollowsEnableAndAck := by
  refine ⟨exec_interruptEnable, exec_seqAckWrite, intAsserted_iff, fun _ => rfl, fun s t hreset => ?cleared⟩
  case cleared =>
    obtain ⟨hseq, hack, henable⟩ := interruptFields_of_reset hreset
    exact ⟨hseq, hack, henable, intAsserted_of_disabled henable⟩

end Sys2Proof.Machine
end

section
/-! PROOFS. What no operation of the part does: it brings no table past its places, and moves nothing on a stopped line. One relation says both, and
each operation meets it; the invariants of `Safety` are read off at the end. -/

namespace Sys2Proof.Machine

-- Elaborated all at once, the proofs of this text start more threads than the check's memory limit lets it.
set_option Elab.async false

open Sys2Proof.Safety

/-! ## Motion -/

/-- What a stopped line does not do: each can be in progress on its own. -/
inductive Motion where
  | carousel
  | pass
  | cycle
  | print (u : Printer)
  | exposure
  | valves

/-- A motion is in progress. -/
def moves (s : State) : Motion → Bool
  | .carousel => opInFlight s
  | .pass => passInFlight s
  | .cycle => cycleInFlight s
  | .print u => begunState (unitAt s u).state
  | .exposure => exposureInFlight s
  | .valves => anyValve s

theorem still_iff (s : State) : Still s ↔ ∀ m, moves s m = false := by
  refine ⟨fun ⟨hop, hpass, hcycle, hprints, hexposure, hvalves⟩ m => ?_, fun h =>
    ⟨h .carousel, h .pass, h .cycle, fun u => h (.print u), h .exposure, h .valves⟩⟩
  cases m with
  | carousel => exact hop
  | pass => exact hpass
  | cycle => exact hcycle
  | print u => exact hprints u
  | exposure => exact hexposure
  | valves => exact hvalves

/-! ## The two relations -/

/-- What an operation does to the tables of fixed size, the platen map, the port and the staging memory: each stays as `Safety` has it. -/
structure Tidy (s t : State) : Prop where
  incidents : s.reports.fifo.length ≤ Config.incidentPlaces → t.reports.fifo.length ≤ Config.incidentPlaces
  nudges : s.exch.nudges.length ≤ Config.nudgePlaces → t.exch.nudges.length ≤ Config.nudgePlaces
  transfer : s.dryer.transfer.length ≤ Config.transferPlaces → t.dryer.transfer.length ≤ Config.transferPlaces
  belt : s.dryer.belt.length ≤ Config.beltPlaces → t.dryer.belt.length ≤ Config.beltPlaces
  pack : s.pack.queue.length ≤ Config.packPlaces → t.pack.queue.length ≤ Config.packPlaces
  orders : s.pack.orders.length ≤ Config.orderPlaces → t.pack.orders.length ≤ Config.orderPlaces
  map : MapOneToOne s → MapOneToOne t
  port : PortBusyWhileWaiting s → PortBusyWhileWaiting t
  staging : StagingCanonical s → StagingCanonical t

/-- An operation leaves no unit at work without its garment, takes no line into STOPPED, and starts no motion on a stopped line. -/
structure Calm (s t : State) : Prop where
  units : UnitsHeld s → UnitsHeld t
  stopped : t.ctl.mode = .stopped → s.ctl.mode = .stopped ∧ ∀ m, moves s m = false → moves t m = false

structure Orderly (s t : State) : Prop extends Tidy s t, Calm s t

theorem Tidy.refl (s : State) : Tidy s s := ⟨id, id, id, id, id, id, id, id, id⟩

theorem Tidy.trans {s t u : State} (h : Tidy s t) (k : Tidy t u) : Tidy s u :=
  ⟨k.incidents ∘ h.incidents, k.nudges ∘ h.nudges, k.transfer ∘ h.transfer, k.belt ∘ h.belt, k.pack ∘ h.pack,
    k.orders ∘ h.orders, k.map ∘ h.map, k.port ∘ h.port, k.staging ∘ h.staging⟩

theorem Calm.refl (s : State) : Calm s s := ⟨id, fun h => ⟨h, fun _ => id⟩⟩

theorem Calm.trans {s t u : State} (h : Calm s t) (k : Calm t u) : Calm s u :=
  ⟨k.units ∘ h.units, fun hu =>
    have ⟨ht, hm⟩ := k.stopped hu
    have ⟨hs, hl⟩ := h.stopped ht
    ⟨hs, fun m => hm m ∘ hl m⟩⟩

theorem Orderly.refl (s : State) : Orderly s s := ⟨.refl s, .refl s⟩

theorem Orderly.trans {s t u : State} (h : Orderly s t) (k : Orderly t u) : Orderly s u :=
  ⟨h.toTidy.trans k.toTidy, h.toCalm.trans k.toCalm⟩

theorem Orderly.foldl {α : Type} {f : State → α → State} (h : ∀ s a, Orderly s (f s a)) (l : List α) (s : State) :
    Orderly s (l.foldl f s) := by
  induction l generalizing s with
  | nil => exact .refl s
  | cons a l ih => exact (h s a).trans (ih _)

/-- An operation that is made only when a condition holds. -/
theorem Orderly.ite {p : Prop} [Decidable p] {s t u : State} (h : p → Orderly s t) (k : ¬p → Orderly s u) :
    Orderly s (if p then t else u) := by
  split
  · next hp => exact h hp
  · next hp => exact k hp

theorem bounded_of_tidy {s t : State} (h : Tidy s t) (hs : Bounded s) : Bounded t :=
  ⟨h.incidents hs.incidents, h.nudges hs.nudges, h.transfer hs.transfer, h.belt hs.belt, h.pack hs.pack, h.orders hs.orders⟩

theorem estopSafe_of_calm {s t : State} (h : Calm s t) (hs : EstopSafe s) : EstopSafe t := by
  refine ⟨h.units hs.units, fun ht => (still_iff t).mpr fun m => ?_⟩
  obtain ⟨hmode, hmoves⟩ := h.stopped ht
  exact hmoves m ((still_iff s).mp (hs.still hmode) m)

/-! ## What one named update does -/

/-- Neither relation reads these fields, so an operation on them alone is orderly. -/
theorem Orderly.of_rest {s t : State}
    (h : t = { s with
      pending := t.pending, clock := t.clock, pins := t.pins, captures := t.captures, buttons := t.buttons
      config := t.config, catalog := t.catalog, lines := t.lines, accepted := t.accepted, garments := t.garments
      engine := t.engine, lanes := t.lanes, link := t.link }) : Orderly s t := by
  rw [h]
  exact ⟨.mk id id id id id id id id id, ⟨fun ⟨a, b, c, d⟩ => ⟨a, b, c, d⟩, fun h => ⟨h, fun _ => id⟩⟩⟩

theorem orderly_setReports {v : Reports} {s : State}
    (h : s.reports.fifo.length ≤ Config.incidentPlaces → v.fifo.length ≤ Config.incidentPlaces := by exact id) :
    Orderly s (s.setReports v) :=
  ⟨.mk h id id id id id id id id, ⟨fun ⟨a, b, c, d⟩ => ⟨a, b, c, d⟩, fun h => ⟨h, fun _ => id⟩⟩⟩

theorem orderly_setExch {v : Exch} {s : State}
    (h : s.exch.nudges.length ≤ Config.nudgePlaces → v.nudges.length ≤ Config.nudgePlaces := by exact id) : Orderly s (s.setExch v) :=
  ⟨.mk id h id id id id id id id, ⟨fun ⟨a, b, c, d⟩ => ⟨a, b, c, d⟩, fun h => ⟨h, fun _ => id⟩⟩⟩

theorem orderly_setDryer {v : Dryer} {s : State}
    (transfer : s.dryer.transfer.length ≤ Config.transferPlaces → v.transfer.length ≤ Config.transferPlaces := by exact id)
    (belt : s.dryer.belt.length ≤ Config.beltPlaces → v.belt.length ≤ Config.beltPlaces := by exact id) : Orderly s (s.setDryer v) :=
  ⟨.mk id id transfer belt id id id id id, ⟨fun ⟨a, b, c, d⟩ => ⟨a, b, c, d⟩, fun h => ⟨h, fun _ => id⟩⟩⟩

theorem orderly_setPack {v : Pack} {s : State}
    (queue : s.pack.queue.length ≤ Config.packPlaces → v.queue.length ≤ Config.packPlaces := by exact id)
    (orders : s.pack.orders.length ≤ Config.orderPlaces → v.orders.length ≤ Config.orderPlaces := by exact id) :
    Orderly s (s.setPack v) :=
  ⟨.mk id id id id queue orders id id id, ⟨fun ⟨a, b, c, d⟩ => ⟨a, b, c, d⟩, fun h => ⟨h, fun _ => id⟩⟩⟩

theorem orderly_setPort {v : Port} {s : State}
    (h : (s.port.current = none → s.port.waiting = []) → v.current = none → v.waiting = []) : Orderly s (s.setPort v) :=
  ⟨.mk id id id id id id id h id, ⟨fun ⟨a, b, c, d⟩ => ⟨a, b, c, d⟩, fun h => ⟨h, fun _ => id⟩⟩⟩

theorem orderly_setStaging {v : Memory} {s : State} (h : Memory.wf s.staging = true → Memory.wf v = true) :
    Orderly s (s.setStaging v) :=
  ⟨.mk id id id id id id id id h, ⟨fun ⟨a, b, c, d⟩ => ⟨a, b, c, d⟩, fun h => ⟨h, fun _ => id⟩⟩⟩

theorem orderly_setCtl {v : LineCtl} {s : State} (h : v.mode = .stopped → s.ctl.mode = .stopped := by exact id) :
    Orderly s (s.setCtl v) :=
  ⟨.mk id id id id id id id id id, ⟨fun ⟨a, b, c, d⟩ => ⟨a, b, c, d⟩, fun hv => ⟨h hv, fun _ => id⟩⟩⟩

/-- Only an operation that is allowed to move the carousel may begin to. -/
theorem orderly_setCarousel {v : Carousel} {s : State} (map : MapOneToOne s → MapOneToOne (s.setCarousel v))
    (op : s.ctl.mode = .stopped → s.carousel.op = .none → v.op = .none) : Orderly s (s.setCarousel v) := by
  refine ⟨.mk id id id id id id map id id, ⟨fun ⟨a, b, c, d⟩ => ⟨a, b, c, d⟩, fun h => ⟨h, fun m => ?_⟩⟩⟩
  cases m with
  | carousel =>
    simp only [moves, opInFlight, bne_eq_false_iff_eq]
    exact op h
  | pass | cycle | print u | exposure | valves => exact id

theorem orderly_setPretreat {v : Pretreat} {s : State}
    (held : v.state ≠ .idle → (s.pretreat.state ≠ .idle → s.pretreat.job.isSome) → v.job.isSome)
    (pass : s.ctl.mode = .stopped → passInFlight s = false → passInFlight (s.setPretreat v) = false)
    (valves : s.ctl.mode = .stopped → anyValve s = false → anyValve (s.setPretreat v) = false) :
    Orderly s (s.setPretreat v) := by
  refine ⟨.mk id id id id id id id id id, ⟨fun ⟨a, b, c, d⟩ => ⟨fun h => held h a, b, c, d⟩, fun h => ⟨h, fun m => ?_⟩⟩⟩
  cases m with
  | pass => exact pass h
  | valves => exact valves h
  | carousel | cycle | print u | exposure => exact id

theorem orderly_setPress {v : Press} {s : State}
    (held : v.state ≠ .idle → (s.press.state ≠ .idle → s.press.job.isSome) → v.job.isSome)
    (cycle : s.ctl.mode = .stopped → cycleInFlight s = false → cycleInFlight (s.setPress v) = false) :
    Orderly s (s.setPress v) := by
  refine ⟨.mk id id id id id id id id id, ⟨fun ⟨a, b, c, d⟩ => ⟨a, fun h => held h b, c, d⟩, fun h => ⟨h, fun m => ?_⟩⟩⟩
  cases m with
  | cycle => exact cycle h
  | carousel | pass | print u | exposure | valves => exact id

theorem orderly_setFlash {v : Flash} {s : State}
    (held : v.state ≠ .idle → (s.flash.state ≠ .idle → s.flash.job.isSome) → v.job.isSome)
    (exposure : s.ctl.mode = .stopped → exposureInFlight s = false → exposureInFlight (s.setFlash v) = false) :
    Orderly s (s.setFlash v) := by
  refine ⟨.mk id id id id id id id id id, ⟨fun ⟨a, b, c, d⟩ => ⟨a, b, c, fun h => held h d⟩, fun h => ⟨h, fun m => ?_⟩⟩⟩
  cases m with
  | exposure => exact exposure h
  | carousel | pass | cycle | print u | valves => exact id

theorem orderly_putUnit {u : Printer} {p : PrintUnit} {s : State}
    (held : p.state ≠ .idle → ((unitAt s u).state ≠ .idle → (unitAt s u).job.isSome) → p.job.isSome)
    (begun : s.ctl.mode = .stopped → begunState (unitAt s u).state = false → begunState p.state = false) :
    Orderly s (putUnit u p s) := by
  refine ⟨.mk id id id id id id id id id, ⟨fun ⟨a, b, c, d⟩ => ⟨a, b, fun w => ?_, d⟩, fun h => ⟨h, fun m => ?_⟩⟩⟩
  · rw [unitAt_putUnit]
    split
    · next hw => exact fun h => held h (hw ▸ c u)
    · exact c w
  cases m with
  | print w =>
    simp only [moves, unitAt_putUnit]
    split
    · next hw => exact hw ▸ begun h
    · exact id
  | carousel | pass | cycle | exposure | valves => exact id

/-! ## Incidents and dirty slots -/

theorem orderly_raise (i : Incident) (s : State) : Orderly s (raise i s) :=
  orderly_setReports (pushIncident_length s.reports _)

theorem orderly_markDirty (i : Fin 128) (s : State) : Orderly s (markDirty i s) := orderly_setReports

end Sys2Proof.Machine
end

section
/-! PROOFS. The shared operations are orderly: the port, lines and garments, the station link's places, the line mode. -/

namespace Sys2Proof.Machine

-- Elaborated all at once, the proofs of this text start more threads than the check's memory limit lets it.
set_option Elab.async false

open Sys2Proof.Safety

/-! ## The host memory port -/

theorem orderly_askPort (a : Access) (s : State) : Orderly s (askPort a s) := by
  unfold askPort
  split
  · exact orderly_setPort fun _ hnone => by cases hnone
  · next h => exact orderly_setPort fun _ hnone => by rw [h] at hnone; cases hnone

/-- The port is free only when nothing waited for it. -/
theorem nextAccess_eq_none {w : List Access} (h : nextAccess w = none) : w = [] := by
  by_contra hw
  have := nextAccess_isSome hw
  rw [h] at this
  cases this

theorem orderly_endAccess (s : State) : Orderly s (endAccess s) := by
  unfold endAccess
  split
  · next h => exact orderly_setPort fun _ _ => nextAccess_eq_none h
  · exact orderly_setPort fun _ hnone => by cases hnone

theorem orderly_dropLate (k : AccessKind) (s : State) : Orderly s (dropLate k s) := orderly_setPort id

theorem orderly_discardAccesses (ks : List AccessKind) (s : State) : Orderly s (discardAccesses ks s) :=
  orderly_setPort fun h hnone => by
    rw [Option.map_eq_none_iff] at hnone
    rw [h hnone]
    rfl

/-! ## Lines and garments -/

theorem orderly_putLine (i : Fin 128) (l : LineEntry) (s : State) : Orderly s (putLine i l s) := .of_rest rfl

theorem orderly_reportLine (i : Fin 128) (l : LineEntry) (s : State) : Orderly s (reportLine i l s) :=
  (orderly_putLine i l s).trans (orderly_markDirty ..)

theorem orderly_putGarment (g : Fin 32) (r : Garment) (s : State) : Orderly s (putGarment g r s) := .of_rest rfl

theorem orderly_changeGarment (g : Fin 32) (f : Garment → Garment) (s : State) : Orderly s (changeGarment g f s) := by
  unfold changeGarment
  split
  · exact .refl s
  · exact orderly_putGarment ..

theorem orderly_ifCurrent (r : Garment) {f : Fin 128 → State → State} (h : ∀ i s, Orderly s (f i s)) (s : State) :
    Orderly s (ifCurrent r f s) :=
  .ite (fun _ => h ..) fun _ => .refl s

/-! ## The order table, the counts and the final states of lines -/

theorem orderly_putOrder (o : Order) (s : State) : Orderly s (putOrder o s) :=
  orderly_setPack (orders := by rw [List.length_map]; exact id)

theorem orderly_deleteOrder (key : Word) (s : State) : Orderly s (deleteOrder key s) :=
  orderly_setPack (orders := (List.length_filter_le _ _).trans)

theorem orderly_writeItemBin (b : OrderBin) (s : State) (i : OrderItem) : Orderly s (writeItemBin b s i) :=
  .ite (fun _ => orderly_reportLine ..) fun _ => .refl s

theorem orderly_writeBins (o : Order) (s : State) : Orderly s (writeBins o s) := .foldl (orderly_writeItemBin o.bin) ..

/-- An accepted line finds its order in the table, or room for it. -/
theorem orderly_acceptOrder {key : Word} {s : State}
    (room : (orderAt s key).isSome ∨ s.pack.orders.length < Config.orderPlaces) (expected : Nat) (item : OrderItem) :
    Orderly s (acceptOrder key expected item s) := by
  unfold acceptOrder
  split
  · next h =>
    refine .trans (orderly_setPack (orders := fun _ => ?_)) (orderly_writeItemBin ..)
    rw [h] at room
    simpa [Nat.succ_le_iff] using room
  · refine .trans ?_ (orderly_writeItemBin ..)
    exact .ite (fun _ => (orderly_putOrder ..).trans (orderly_raise ..)) fun _ => orderly_putOrder ..

theorem orderly_judgeOrder (o : Order) (s : State) : Orderly s (judgeOrder o s) := by
  unfold judgeOrder
  split_ifs
  · exact (orderly_putOrder ..).trans (orderly_raise ..)
  · exact (orderly_raise ..).trans (orderly_deleteOrder ..)
  · exact (orderly_raise ..).trans (orderly_deleteOrder ..)
  · exact .refl s

theorem orderly_finalOrder (i : Fin 128) (take : Byte) (key : Word) (s : State) : Orderly s (finalOrder i take key s) := by
  unfold finalOrder
  split
  · exact .refl s
  · exact .ite (fun _ => (orderly_putOrder ..).trans (orderly_judgeOrder ..)) fun _ => .refl s

theorem orderly_finishLine (i : Fin 128) (st : LineState) (r : Reason) (s : State) : Orderly s (finishLine i st r s) :=
  ((Orderly.of_rest (t := s.setAccepted (s.accepted.filter fun j => j != i)) rfl).trans (orderly_reportLine ..)).trans
    (orderly_finalOrder ..)

theorem orderly_settleCounts (i : Fin 128) (s : State) : Orderly s (settleCounts i s) :=
  .ite (fun _ => orderly_finishLine ..) fun _ => .ite (fun _ => orderly_finishLine ..) fun _ => .refl s

theorem orderly_lowerBound (i : Fin 128) (s : State) : Orderly s (lowerBound i s) :=
  (orderly_reportLine ..).trans (orderly_settleCounts ..)

theorem orderly_countFinished (i : Fin 128) (s : State) : Orderly s (countFinished i s) :=
  (orderly_reportLine ..).trans (orderly_settleCounts ..)

theorem orderly_countFailed (i : Fin 128) (s : State) : Orderly s (countFailed i s) :=
  (orderly_reportLine ..).trans (orderly_settleCounts ..)

theorem orderly_addInk (counters : Tbl 6 Nat) (i : Fin 128) (s : State) : Orderly s (addInk counters i s) :=
  .ite (fun _ => .refl s) fun _ => orderly_reportLine ..

/-! ## The station link's places, the read list and the command list -/

theorem orderly_putPlace (q : Requester) (p : LinkPlace) (s : State) : Orderly s (putPlace q p s) := .of_rest rfl

theorem orderly_enqueue (q : Requester) (t : Txn) (s : State) : Orderly s (enqueue q t s) := orderly_putPlace ..

theorem orderly_handIn (q : Requester) (t : Txn) (s : State) : Orderly s (handIn q t s) := by
  unfold handIn
  split
  · exact .ite (fun _ => .refl s) fun _ => orderly_enqueue ..
  · exact orderly_putPlace ..

theorem orderly_replaceTxn (q : Requester) (t : Txn) (s : State) : Orderly s (replaceTxn q t s) := by
  unfold replaceTxn
  split
  · exact orderly_handIn ..
  · split <;> exact orderly_putPlace ..

theorem orderly_withdrawTxn (q : Requester) (s : State) : Orderly s (withdrawTxn q s) := by
  unfold withdrawTxn
  split
  · exact orderly_putPlace ..
  · split <;> exact orderly_putPlace ..

/-- The read list has no bound of its own. -/
theorem orderly_setReads (reads : List Role) (s : State) : Orderly s (s.setDryer { s.dryer with reads := reads }) :=
  orderly_setDryer

theorem orderly_setSampling (v : Bool) (s : State) : Orderly s (s.setFlash { s.flash with sampling := v }) :=
  orderly_setFlash (fun h held => held h) fun _ => id

theorem orderly_readLost (r : Role) (s : State) : Orderly s (readLost r s) :=
  .ite (fun _ => orderly_setSampling ..) fun _ => .refl s

theorem orderly_serveReadList (rs : List Role) (s : State) : Orderly s (serveReadList rs s) := by
  induction rs generalizing s with
  | nil => exact orderly_setReads ..
  | cons r rs ih =>
    exact .ite (fun _ => (orderly_readLost r s).trans (ih _)) fun _ => (orderly_setReads ..).trans (orderly_enqueue ..)

theorem orderly_serveReads (s : State) : Orderly s (serveReads s) :=
  .ite (fun _ => orderly_serveReadList ..) fun _ => .refl s

theorem orderly_askReads (targets : List Role) (s : State) : Orderly s (askReads targets s) :=
  (orderly_setReads ..).trans (orderly_serveReads _)

theorem orderly_setCommands (ts : List Txn) (s : State) : Orderly s (s.setCtl { s.ctl with commands := ts }) :=
  orderly_setCtl

theorem orderly_commandLost (t : Txn) (s : State) : Orderly s (commandLost t s) :=
  .ite (fun _ => orderly_raise ..) fun _ => .refl s

theorem orderly_serveCommandList (ts : List Txn) (s : State) : Orderly s (serveCommandList ts s) := by
  induction ts generalizing s with
  | nil => exact orderly_setCommands ..
  | cons t ts ih =>
    exact .ite (fun _ => (orderly_commandLost t s).trans (ih _)) fun _ => (orderly_setCommands ..).trans (orderly_enqueue ..)

theorem orderly_serveCommands (s : State) : Orderly s (serveCommands s) :=
  .ite (fun _ => orderly_serveCommandList ..) fun _ => .refl s

theorem orderly_takeOverList (w : Queued) (ts : List Txn) (s : State) : Orderly s (takeOverList w ts s) := by
  induction ts generalizing s with
  | nil => exact (orderly_setCommands ..).trans (orderly_putPlace ..)
  | cons t ts ih =>
    exact .ite (fun _ => (orderly_commandLost t s).trans (ih _)) fun _ => (orderly_setCommands ..).trans (orderly_putPlace ..)

theorem orderly_putCommands (ts : List Txn) (s : State) : Orderly s (putCommands ts s) := by
  unfold putCommands
  split
  · exact orderly_serveCommandList ..
  · split
    · exact (orderly_setCommands ..).trans (orderly_withdrawTxn ..)
    · exact orderly_takeOverList ..
    · exact orderly_takeOverList ..

/-! ## The line mode -/

theorem orderly_startTicking (s : State) : Orderly s (startTicking s) :=
  (orderly_setDryer (belt := by rw [List.length_map]; exact id)).trans (orderly_askReads ..)

theorem orderly_stopTicking (s : State) : Orderly s (stopTicking s) := orderly_setDryer

theorem orderly_ensureTicking (s : State) : Orderly s (ensureTicking s) :=
  .ite (fun _ => .refl s) fun _ => orderly_startTicking s

/-- The carousel's other fields: neither the map nor the operation. -/
theorem orderly_setCarousel_of_eq {v : Carousel} {s : State} (map : v.map = s.carousel.map := by rfl)
    (op : v.op = s.carousel.op := by rfl) : Orderly s (s.setCarousel v) :=
  orderly_setCarousel (fun h p q hpq => h p q (by simpa only [setCarousel_carousel, map] using hpq)) fun _ h => op.trans h

theorem orderly_askHome (s : State) : Orderly s (askHome s) :=
  .ite (fun _ => .refl s) fun _ => orderly_setCarousel_of_eq

theorem orderly_dropHome (s : State) : Orderly s (dropHome s) := orderly_setCarousel_of_eq

theorem orderly_stopWarmup (s : State) : Orderly s (stopWarmup s) := orderly_setCtl

/-- STOPPED is not entered by a change to another mode, or to the mode that the line is in. -/
theorem orderly_setLine {m : Mode} {s : State} (h : m = .stopped → s.ctl.mode = .stopped) (c : Causes) :
    Orderly s (setLine m c s) :=
  .ite (fun _ => .refl s) fun _ => (orderly_setCtl h).trans (orderly_raise ..)

theorem orderly_enterWarming (s : State) : Orderly s (enterWarming s) :=
  Orderly.trans orderly_setCtl (.ite (fun _ => orderly_setDryer) fun _ => orderly_startTicking _)

theorem orderly_enterRun (s : State) : Orderly s (enterRun s) :=
  ((orderly_stopWarmup s).trans (orderly_ensureTicking _)).trans (.ite (fun _ => .refl _) fun _ => orderly_askHome _)

theorem orderly_enterHold (s : State) : Orderly s (enterHold s) := (orderly_stopWarmup s).trans (orderly_ensureTicking _)

theorem orderly_enterIdle (s : State) : Orderly s (enterIdle s) :=
  ((Orderly.trans orderly_setCtl (orderly_dropHome _)).trans (orderly_putCommands ..)).trans (orderly_stopTicking _)

theorem orderly_enterStopped (s : State) : Orderly s (enterStopped s) := (orderly_stopWarmup s).trans (orderly_dropHome _)

theorem orderly_enterMode (m : Mode) (s : State) : Orderly s (enterMode m s) := by
  cases m with
  | idle => exact orderly_enterIdle s
  | warming => exact orderly_enterWarming s
  | run => exact orderly_enterRun s
  | hold => exact orderly_enterHold s
  | stopped => exact orderly_enterStopped s

theorem orderly_changeLine {m : Mode} {s : State} (h : m = .stopped → s.ctl.mode = .stopped) (c : Causes) :
    Orderly s (changeLine m c s) :=
  .ite (fun _ => orderly_setLine h c) fun _ => (orderly_setLine h c).trans (orderly_enterMode ..)

theorem heldMode_eq_stopped {m : Mode} : heldMode m = .stopped ↔ m = .stopped := by cases m <;> decide

theorem orderly_holdWith (c : Causes) (s : State) : Orderly s (holdWith c s) :=
  orderly_changeLine heldMode_eq_stopped.mp c

theorem orderly_followModules (s : State) : Orderly s (followModules s) :=
  .ite (fun _ => .refl s) fun _ => .ite (fun _ => orderly_holdWith ..) fun _ => orderly_setLine id _

theorem orderly_moveLine {m : Mode} {s : State} (h : m = .stopped → s.ctl.mode = .stopped) (c : Causes) :
    Orderly s (moveLine m c s) := (orderly_changeLine h c).trans (orderly_followModules _)

/-! ## RUN requests -/

theorem orderly_refuseRun (detail value : Nat) (config : Bool) (s : State) : Orderly s (refuseRun detail value config s) :=
  (Orderly.trans orderly_setCtl (orderly_raise ..)).trans (.ite (fun _ => orderly_holdWith ..) fun _ => .refl _)

theorem orderly_acceptRun (s : State) : Orderly s (acceptRun s) :=
  Orderly.trans orderly_setCtl (orderly_moveLine (fun h => by split at h <;> cases h) _)

theorem orderly_settleHomed (s : State) : Orderly s (settleHomed s) := .ite (fun _ => orderly_acceptRun s) fun _ => .refl s

theorem orderly_settleFaulted (s : State) : Orderly s (settleFaulted s) :=
  .ite (fun _ => orderly_refuseRun ..) fun _ => .refl s

theorem orderly_zonesReady (s : State) : Orderly s (zonesReady s) :=
  .ite (fun _ => Orderly.trans orderly_setCtl (orderly_moveLine (fun h => by cases h) _)) fun _ => .refl s

/-! ## The carousel's tables -/

theorem orderly_putPlaten (p : Fin 12) (e : Platen) (s : State) : Orderly s (putPlaten p e s) :=
  orderly_setCarousel_of_eq

theorem orderly_emptyPlaten (p : Fin 12) (s : State) : Orderly s (emptyPlaten p s) := orderly_putPlaten ..

theorem orderly_takeEnables (e : Tbl 12 Bool) (s : State) : Orderly s (takeEnables e s) := orderly_setCarousel_of_eq

theorem orderly_setReleased (st : Station) (s : State) : Orderly s (setReleased st s) := orderly_setCarousel_of_eq

theorem orderly_releaseStation (st : Station) (p : Fin 12) (s : State) : Orderly s (releaseStation st p s) :=
  .ite (fun _ => orderly_setReleased ..) fun _ => .refl s

theorem orderly_setLamp (d : Option Destination) (s : State) : Orderly s (s.setCarousel { s.carousel with lamp := d }) :=
  orderly_setCarousel_of_eq

theorem orderly_decideUnload (s : State) : Orderly s (decideUnload s) := by
  unfold decideUnload
  split
  · exact orderly_setLamp ..
  · split
    · exact orderly_setLamp ..
    · exact (orderly_putGarment ..).trans (orderly_setLamp ..)

theorem orderly_noticeUnload (g : Fin 32) (s : State) : Orderly s (noticeUnload g s) :=
  .ite (fun _ => orderly_decideUnload s) fun _ => .refl s

theorem orderly_deleteGarment (g : Fin 32) (s : State) : Orderly s (deleteGarment g s) := by
  unfold deleteGarment
  split
  · exact .refl s
  · next r _ =>
    have freed : Orderly s (clearGarment g (ifCurrent r (addInk r.ink) s)) :=
      (orderly_ifCurrent r (orderly_addInk r.ink) s).trans (.of_rest rfl)
    split
    · exact freed
    · exact freed.trans (orderly_emptyPlaten ..)

theorem orderly_appendTransfer (g : Fin 32) (s : State) : Orderly s (appendTransfer g s) :=
  .ite (fun room => (orderly_setDryer (transfer := fun _ => by
    rw [List.length_append]; exact of_decide_eq_true room)).trans
    (orderly_changeGarment ..)) fun _ => .refl s

end Sys2Proof.Machine
end

section
/-! PROOFS. The operations of the stations are orderly: the fetch engine, the print units, pretreatment, press and flash, and the notices
and cuts that end their work. -/

namespace Sys2Proof.Machine

-- Elaborated all at once, the proofs of this text start more threads than the check's memory limit lets it.
set_option Elab.async false

open Sys2Proof.Safety

/-- An operation whose frame holds every field that the relations read. -/
theorem Orderly.of_frame {s t : State} (reports : t.reports = s.reports := by simp) (exch : t.exch = s.exch := by simp)
    (dryer : t.dryer = s.dryer := by simp) (pack : t.pack = s.pack := by simp) (staging : t.staging = s.staging := by simp)
    (port : t.port = s.port := by simp) (carousel : t.carousel = s.carousel := by simp) (ctl : t.ctl = s.ctl := by simp)
    (pretreat : t.pretreat = s.pretreat := by simp) (press : t.press = s.press := by simp)
    (prints : t.prints = s.prints := by simp) (flash : t.flash = s.flash := by simp) : Orderly s t := by
  refine .of_rest ?_
  rw [← reports, ← exch, ← dryer, ← pack, ← staging, ← port, ← carousel, ← ctl, ← pretreat, ← press, ← prints, ← flash]

/-! ## The fetch engine -/

theorem orderly_abruptCancel (u : Printer) (g : GarmentId) (s : State) : Orderly s (abruptCancel u g s) := .of_frame

theorem orderly_gracefulCancel (u : Printer) (g : GarmentId) (keep : Option Nat) (s : State) :
    Orderly s (gracefulCancel u g keep s) := .of_frame

theorem orderly_noticeEngine (g : GarmentId) (s : State) : Orderly s (noticeEngine g s) := .of_frame

theorem orderly_dropTally (u : Printer) (g : GarmentId) (s : State) : Orderly s (dropTally u g s) := .of_frame

/-! ## The print units -/

theorem orderly_stopLanes (u : Printer) (s : State) : Orderly s (stopLanes u s) := .of_frame

theorem orderly_lanesOff (u : Printer) (s : State) : Orderly s (lanesOff u s) := .of_frame

theorem orderly_beginPass (g : GarmentId) (k : Nat) (s : State) (c : Fin 6) : Orderly s (beginPass g k s c) := .of_frame

/-- A unit that keeps its state and its garment. -/
theorem orderly_putUnit_of_eq {u : Printer} {p : PrintUnit} {s : State} (state : p.state = (unitAt s u).state := by rfl)
    (job : p.job = (unitAt s u).job := by rfl) : Orderly s (putUnit u p s) :=
  orderly_putUnit (fun hp held => job ▸ held (state ▸ hp)) fun _ h => state ▸ h

theorem orderly_stepPass (u : Printer) (g : GarmentId) (s : State) : Orderly s (stepPass u g s) :=
  .ite (fun _ => Orderly.trans orderly_putUnit_of_eq (.foldl (orderly_beginPass g _) ..)) fun _ => .refl s

theorem orderly_idleUnit (u : Printer) (s : State) : Orderly s (idleUnit u s) :=
  orderly_putUnit (fun h => (h rfl).elim) fun _ _ => rfl

theorem orderly_leaveUnit (u : Printer) (j : PrintJob) (s : State) : Orderly s (leaveUnit u j s) :=
  (orderly_releaseStation ..).trans (orderly_idleUnit ..)

theorem orderly_printOver (u : Printer) (j : PrintJob) (s : State) : Orderly s (printOver u j s) :=
  (orderly_dropTally ..).trans (orderly_leaveUnit ..)

theorem orderly_stopCarriage (u : Printer) (s : State) : Orderly s (stopCarriage u s) := orderly_replaceTxn ..

theorem orderly_quietCut (u : Printer) (j : PrintJob) (s : State) : Orderly s (quietCut u j s) := by
  have dropped := ((orderly_stopLanes u s).trans (orderly_changeGarment j.garment.index (withPrintMark u .cut) _)).trans
    (orderly_abruptCancel u j.garment _)
  exact dropped.trans (Orderly.trans (.ite (fun _ => orderly_stopCarriage ..) fun _ => .refl _) (orderly_leaveUnit ..))

theorem orderly_fadeOut (u : Printer) (j : PrintJob) (s : State) : Orderly s (fadeOut u j s) :=
  (orderly_gracefulCancel ..).trans (orderly_printOver ..)

theorem orderly_fadeAfter (u : Printer) (j : PrintJob) (s : State) : Orderly s (fadeAfter u j s) :=
  Orderly.trans orderly_putUnit_of_eq (orderly_gracefulCancel ..)

theorem orderly_noticeCurrent (u : Printer) (j : PrintJob) (n : Notice) (s : State) : Orderly s (noticeCurrent u j n s) := by
  unfold noticeCurrent
  have inFlight : Orderly s (if abruptNotice n then quietCut u j s else if n = .voidPrinted then fadeAfter u j s else s) :=
    .ite (fun _ => orderly_quietCut ..) fun _ => .ite (fun _ => orderly_fadeAfter ..) fun _ => .refl s
  split
  · exact .refl s
  · exact .ite (fun _ => .refl s) fun _ => orderly_leaveUnit ..
  · exact .ite (fun _ => orderly_quietCut ..) fun _ => orderly_fadeOut ..
  · exact inFlight
  · exact inFlight

theorem orderly_noticePrint (u : Printer) (g : GarmentId) (n : Notice) (s : State) : Orderly s (noticePrint u g n s) := by
  have tallied : Orderly s (noticeTallied u g n s) :=
    .ite (fun _ => (orderly_gracefulCancel ..).trans (orderly_dropTally ..)) fun _ => .refl s
  unfold noticePrint
  split
  · exact tallied
  · exact .ite (fun _ => tallied.trans (orderly_noticeCurrent ..)) fun _ => tallied

/-! ## Pretreatment -/

/-- The pretreat unit's other fields: neither its state, nor its garment, nor a valve. -/
theorem orderly_setPretreat_of_eq {v : Pretreat} {s : State} (state : v.state = s.pretreat.state := by rfl)
    (job : v.job = s.pretreat.job := by rfl) (valves : v.valves = s.pretreat.valves := by rfl) : Orderly s (s.setPretreat v) :=
  orderly_setPretreat (fun hv held => job ▸ held (state ▸ hv))
    (fun _ h => by simpa only [passInFlight, setPretreat_pretreat, state] using h)
    fun _ h => by simpa only [anyValve, setPretreat_pretreat, valves] using h

theorem orderly_putTank (t : Tank) (s : State) : Orderly s (putTank t s) := orderly_setPretreat_of_eq

theorem orderly_tankFall (old : TankState) (t : Tank) (s : State) : Orderly s (tankFall old t s) := by
  unfold tankFall
  split
  case h_2 => exact (orderly_raise ..).trans (orderly_raise ..)
  case h_1 | h_3 => exact orderly_raise ..
  all_goals exact .refl s

theorem orderly_useFluid (fluid : Nat) (s : State) : Orderly s (useFluid fluid s) :=
  (orderly_putTank ..).trans (orderly_tankFall ..)

theorem anyValve_eq_false_iff (s : State) : anyValve s = false ↔ ∀ z, valveBusy (valveAt s z) = false := by
  simp only [anyValve, List.any_eq_false, Vector.mem_toList_iff, Vector.mem_iff_getElem, Bool.not_eq_true, valveAt, Tbl.at]
  exact ⟨fun h z => h _ ⟨z.val, z.isLt, rfl⟩, fun h v ⟨i, hi, hv⟩ => hv ▸ h ⟨i, hi⟩⟩

/-- A channel that closes, or that was busy already, makes no valve busy. -/
theorem orderly_putValve {z : Fin 8} {v : Valve} {s : State}
    (h : s.ctl.mode = .stopped → valveBusy (valveAt s z) = false → valveBusy v = false) : Orderly s (putValve z v s) := by
  refine orderly_setPretreat (fun hv held => held hv) (fun _ => id) fun hmode hidle => ?_
  rw [anyValve_eq_false_iff] at hidle
  refine (anyValve_eq_false_iff (putValve z v s)).mpr fun w => ?_
  rw [valveAt_putValve]
  split
  · exact h hmode (hidle z)
  · exact hidle w

theorem orderly_closed (z : Fin 8) (s : State) : Orderly s (putValve z .closed s) := orderly_putValve fun _ _ => rfl

theorem orderly_closeValve (s : State) (z : Fin 8) : Orderly s (closeValve s z) := by
  unfold closeValve
  split
  · exact .refl s
  · exact orderly_closed ..
  · exact (orderly_closed ..).trans (orderly_useFluid ..)

theorem orderly_closeValves (s : State) : Orderly s (closeValves s) := .foldl orderly_closeValve ..

theorem orderly_idlePretreat (s : State) : Orderly s (idlePretreat s) :=
  orderly_setPretreat (fun h => (h rfl).elim) (fun _ _ => rfl) fun _ => id

theorem orderly_leavePretreat (j : Job) (s : State) : Orderly s (leavePretreat j s) :=
  (orderly_releaseStation ..).trans (orderly_idlePretreat _)

theorem orderly_noticePretreat (g : Fin 32) (s : State) : Orderly s (noticePretreat g s) := by
  unfold noticePretreat
  split
  · exact .ite (fun _ => orderly_leavePretreat ..) fun _ => .refl s
  all_goals exact .refl s

/-! ## Press -/

theorem orderly_idlePress (s : State) : Orderly s (idlePress s) := orderly_setPress (fun h => (h rfl).elim) fun _ _ => rfl

theorem orderly_leavePress (j : Job) (s : State) : Orderly s (leavePress j s) :=
  (orderly_releaseStation ..).trans (orderly_idlePress _)

theorem orderly_noticePress (g : Fin 32) (s : State) : Orderly s (noticePress g s) := by
  unfold noticePress
  split
  · exact .ite (fun _ => orderly_leavePress ..) fun _ => .refl s
  all_goals exact .refl s

/-! ## Flash -/

theorem orderly_idleFlash (s : State) : Orderly s (idleFlash s) := orderly_setFlash (fun h => (h rfl).elim) fun _ _ => rfl

theorem orderly_leaveFlash (j : PrintJob) (s : State) : Orderly s (leaveFlash j s) :=
  (orderly_releaseStation ..).trans (orderly_idleFlash _)

theorem orderly_flashOver (s : State) : Orderly s (flashOver s) := by
  unfold flashOver
  split
  · exact orderly_idleFlash s
  · exact orderly_leaveFlash ..

/-- An exposure that ends has its garment, since it is under way. -/
theorem orderly_enterEnding {s : State} (h : s.ctl.mode = .stopped → exposureInFlight s = true) (job : s.flash.job.isSome) :
    Orderly s (enterEnding s) :=
  orderly_setFlash (fun _ _ => job) fun hmode hidle => by rw [h hmode] at hidle; cases hidle

theorem orderly_heatOff (s : State) : Orderly s (heatOff s) :=
  .ite (fun _ => orderly_flashOver s) fun _ => orderly_replaceTxn ..

theorem orderly_endExposure {s : State} (h : s.ctl.mode = .stopped → exposureInFlight s = true) (job : s.flash.job.isSome) :
    Orderly s (endExposure s) := (orderly_enterEnding h job).trans (orderly_heatOff _)

theorem orderly_noticeExposure {s : State} (h : s.ctl.mode = .stopped → exposureInFlight s = true) (job : s.flash.job.isSome)
    (g : Fin 32) (n : Notice) : Orderly s (noticeExposure g n s) := by
  cases n with
  | voidPrinted => exact orderly_endExposure h job
  | failed =>
    refine (orderly_changeGarment g _ s).trans (orderly_endExposure ?_ ?_)
    · simpa [exposureInFlight] using h
    · simpa using job
  | stripped | chainFault => exact .refl s

theorem exposureInFlight_of_limitedState {s : State} (h : limitedState s.flash.state = true) : exposureInFlight s = true := by
  unfold exposureInFlight
  cases hs : s.flash.state with
  | heating | exposing | ending => rfl
  | idle | waiting => rw [hs] at h; cases h

theorem orderly_noticeFlash (g : GarmentId) (n : Notice) (s : State) : Orderly s (noticeFlash g n s) := by
  unfold noticeFlash
  split
  · exact .refl s
  · next j hj =>
    have job : s.flash.job.isSome := by rw [hj]; rfl
    refine .ite (fun _ => ?_) fun _ => .refl s
    split
    · exact orderly_leaveFlash ..
    · next hs => exact orderly_noticeExposure (fun _ => exposureInFlight_of_limitedState (by rw [hs]; rfl)) job ..
    · next hs => exact orderly_noticeExposure (fun _ => exposureInFlight_of_limitedState (by rw [hs]; rfl)) job ..
    · exact .refl s
    · exact .refl s

/-! ## Failures and voids -/

theorem orderly_noticeAll (g : Fin 32) (r : Garment) (n : Notice) (s : State) : Orderly s (noticeAll g r n s) := by
  have engine : Orderly s (noticeFetch (garmentId g r) n s) := by
    cases n with
    | failed | stripped => exact orderly_noticeEngine ..
    | voidPrinted | chainFault => exact .refl s
  exact (((((engine.trans (orderly_noticePretreat ..)).trans (orderly_noticePress ..)).trans (orderly_noticePrint ..)).trans
    (orderly_noticeFlash ..)).trans (orderly_noticePrint ..)).trans (orderly_noticeUnload ..)

theorem orderly_failOp (g : Fin 32) (code : FaultCode) (s : State) : Orderly s (failOp g code s) := by
  unfold failOp
  split
  · exact .refl s
  · exact .ite (fun _ => (((orderly_putGarment ..).trans (orderly_ifCurrent _ orderly_countFailed _)).trans
      (orderly_raise ..)).trans (orderly_noticeAll ..)) fun _ => .refl s

theorem orderly_stripGarment (g : Fin 32) (r : Garment) (s : State) : Orderly s (stripGarment g r s) :=
  (((orderly_putGarment ..).trans (orderly_ifCurrent _ orderly_lowerBound _)).trans (orderly_raise ..)).trans
    (orderly_noticeAll ..)

theorem orderly_carryGarment (g : Fin 32) (r : Garment) (s : State) : Orderly s (carryGarment g r s) :=
  (orderly_putGarment ..).trans (orderly_noticeAll ..)

theorem orderly_voidGarment (slot : Fin 128) (take : Byte) (s : State) (g : Fin 32) :
    Orderly s (voidGarment slot take s g) := by
  unfold voidGarment
  split
  · exact .refl s
  · exact .ite (fun _ => .ite (fun _ => orderly_carryGarment ..) fun _ => orderly_stripGarment ..) fun _ => .refl s

theorem orderly_voidGarments (slot : Fin 128) (s : State) : Orderly s (voidGarments slot s) :=
  .foldl (orderly_voidGarment slot _) ..

theorem orderly_closeVoid (slot : Fin 128) (s : State) : Orderly s (closeVoid slot s) := orderly_reportLine ..

theorem orderly_voidLine (slot : Fin 128) (s : State) : Orderly s (voidLine slot s) := by
  unfold voidLine
  split
  · exact (orderly_closeVoid ..).trans (orderly_settleCounts ..)
  · exact ((orderly_closeVoid ..).trans (orderly_settleCounts ..)).trans (orderly_voidGarments ..)
  · exact .ite (fun _ => (orderly_closeVoid ..).trans (orderly_voidGarments ..)) fun _ => .refl s
  all_goals exact .refl s

/-! ## Cuts and completions -/

theorem orderly_failPass (j : Job) (detail row : Nat) (s : State) : Orderly s (failPass j detail row s) :=
  ((((orderly_idlePretreat s).trans (orderly_changeGarment ..)).trans (orderly_failOp ..)).trans (orderly_raise ..)).trans
    (orderly_releaseStation ..)

theorem orderly_passCut (detail : Nat) (s : State) : Orderly s (passCut detail s) := by
  unfold passCut
  split
  · exact .refl s
  · exact ((orderly_closeValves s).trans (orderly_failPass ..)).trans (orderly_replaceTxn ..)

theorem orderly_passComplete (s : State) : Orderly s (passComplete s) := by
  unfold passComplete
  split
  · exact .refl s
  · exact .ite (fun _ => ((orderly_idlePretreat s).trans (orderly_changeGarment ..)).trans (orderly_releaseStation ..)) fun _ =>
      orderly_failPass ..

/-- The carriage ends its part of a pass that is in flight. -/
theorem orderly_passDone {s : State} (h : s.pretreat.state = .spraying) : Orderly s (passDone s) :=
  .ite (fun _ => orderly_setPretreat (fun _ held => held (by rw [h]; decide))
    (fun _ hidle => by rw [passInFlight, h] at hidle; cases hidle) fun _ => id) fun _ => orderly_passComplete s

theorem orderly_raisePressSkipped (g : Fin 32) (detail : Nat) (s : State) : Orderly s (raisePressSkipped g detail s) := by
  unfold raisePressSkipped
  split
  · exact .refl s
  · exact orderly_raise ..

theorem orderly_skipPress (j : Job) (detail : Nat) (s : State) : Orderly s (skipPress j detail s) :=
  (((orderly_changeGarment ..).trans (orderly_idlePress _)).trans (orderly_raisePressSkipped ..)).trans
    (orderly_releaseStation ..)

theorem orderly_pressCut (detail : Nat) (s : State) : Orderly s (pressCut detail s) := by
  unfold pressCut
  split
  · exact .refl s
  · exact .ite (fun _ => (orderly_skipPress ..).trans (orderly_replaceTxn ..)) fun _ => orderly_skipPress ..

theorem orderly_pressComplete (s : State) : Orderly s (pressComplete s) := by
  unfold pressComplete
  split
  · exact .refl s
  · exact (orderly_changeGarment ..).trans (orderly_leavePress ..)

theorem orderly_haltPrint (u : Printer) (j : PrintJob) (s : State) : Orderly s (haltPrint u j s) :=
  ((orderly_stopLanes u s).trans (orderly_changeGarment ..)).trans (orderly_idleUnit ..)

theorem orderly_dropPrint (u : Printer) (j : PrintJob) (code : FaultCode) (s : State) : Orderly s (dropPrint u j code s) :=
  (orderly_failOp ..).trans (orderly_abruptCancel ..)

theorem orderly_raisePrintCut (u : Printer) (g : Fin 32) (cause swath : Nat) (s : State) :
    Orderly s (raisePrintCut u g cause swath s) := by
  unfold raisePrintCut
  split
  · exact .refl s
  · exact orderly_raise ..

theorem orderly_printCut (u : Printer) (cause : Nat) (s : State) : Orderly s (printCut u cause s) := by
  unfold printCut
  split
  · exact .refl s
  · next j _ =>
    have dropped := ((orderly_haltPrint u j s).trans (orderly_raisePrintCut u j.garment.index cause (unitAt s u).swath _)).trans
      (orderly_dropPrint u j (printFault cause) _)
    exact dropped.trans (Orderly.trans (.ite (fun _ => orderly_stopCarriage ..) fun _ => .refl _) (orderly_releaseStation ..))

/-- A print goes on to its next swath from one in flight. -/
theorem orderly_nextSwath {u : Printer} {s : State} (h : begunState (unitAt s u).state = true) : Orderly s (nextSwath u s) :=
  orderly_putUnit (fun _ held => held fun hidle => by rw [hidle] at h; cases h) fun _ hidle => by rw [h] at hidle; cases hidle

theorem orderly_swathDone {u : Printer} {s : State} (h : begunState (unitAt s u).state = true) (j : PrintJob) :
    Orderly s (swathDone u j s) := by
  have inked := (orderly_changeGarment j.garment.index (inkedGarment s (unitAt s u).active) s).trans (orderly_lanesOff u _)
  exact .ite (fun _ => inked.trans (orderly_printOver ..)) fun _ =>
    .ite (fun _ => (inked.trans (orderly_changeGarment ..)).trans (orderly_printOver ..)) fun _ =>
      inked.trans (orderly_nextSwath (by simpa [unitAt] using h))

theorem orderly_judgeSwath {u : Printer} {s : State} (h : begunState (unitAt s u).state = true) : Orderly s (judgeSwath u s) := by
  unfold judgeSwath
  split
  · exact .refl s
  · exact .ite (fun _ => orderly_swathDone h _) fun _ => orderly_printCut ..

theorem orderly_raiseFlashCut (g : Fin 32) (cause : Nat) (s : State) : Orderly s (raiseFlashCut g cause s) := by
  unfold raiseFlashCut
  split
  · exact .refl s
  · exact orderly_raise ..

theorem orderly_markFlash (g : Fin 32) (m : Mark) (s : State) : Orderly s (markFlash g m s) := orderly_changeGarment ..

theorem orderly_flashCut {s : State} (h : s.ctl.mode = .stopped → exposureInFlight s = true) (cause : Nat) :
    Orderly s (flashCut cause s) := by
  unfold flashCut
  split
  · exact .refl s
  · next j hj =>
    exact ((((orderly_enterEnding h (by rw [hj]; rfl)).trans (orderly_markFlash ..)).trans (orderly_raiseFlashCut ..)).trans
      (orderly_failOp ..)).trans (orderly_heatOff _)

theorem orderly_flashDone {s : State} (h : exposureInFlight s = true) : Orderly s (flashDone s) := by
  unfold flashDone
  split
  · exact .refl s
  · next j hj =>
    refine (orderly_markFlash ..).trans (orderly_endExposure (fun _ => ?_) ?_)
    · simpa [exposureInFlight] using h
    · simp [hj]

theorem orderly_chainFaulted (c : Fin 6) (f : ChainFault) (tag : Nat) (g : GarmentId) (s : State) :
    Orderly s (chainFaulted c f tag g s) := by
  have raised : Orderly s (raiseChainFault c f tag g.index s) := by
    unfold raiseChainFault
    split
    · exact .refl s
    · exact orderly_raise ..
  exact ((raised.trans (orderly_failOp ..)).trans (orderly_abruptCancel ..)).trans (orderly_noticePrint ..)

/-! ## The end of an index or a home -/

/-- The carousel comes to rest, its map as it is. -/
theorem orderly_atRest {v : Carousel} {s : State} (map : v.map = s.carousel.map := by rfl)
    (op : v.op = .none := by rfl) :
    Orderly s (s.setCarousel v) :=
  orderly_setCarousel (fun h p q hpq => h p q (by simpa only [setCarousel_carousel, map] using hpq)) fun _ _ => op

theorem orderly_endOp (s : State) : Orderly s (endOp s) := orderly_atRest

theorem orderly_setHomed (v : Bool) (s : State) : Orderly s (s.setCarousel { s.carousel with homed := v }) :=
  orderly_setCarousel_of_eq

theorem orderly_indexFault (cause : Nat) (s : State) : Orderly s (indexFault cause s) := by
  have settled (t : State) : Orderly t (if homing s then settleFaulted t else t) :=
    .ite (fun _ => orderly_settleFaulted t) fun _ => .refl t
  exact (((((orderly_endOp s).trans (orderly_setHomed ..)).trans (orderly_holdWith ..)).trans (orderly_raise ..)).trans
    (orderly_replaceTxn ..)).trans (settled _)

end Sys2Proof.Machine
end

section
/-! PROOFS. The operations of the carousel's arrivals, the dryer, the match and pack units are orderly. -/

namespace Sys2Proof.Machine

-- Elaborated all at once, the proofs of this text start more threads than the check's memory limit lets it.
set_option Elab.async false

open Sys2Proof.Safety

/-! ## Arrivals and the completion of an index or a home -/

theorem orderly_arrivePretreat (p : Fin 12) (g : Fin 32) (r : Garment) (s : State) : Orderly s (arrivePretreat p g r s) := by
  refine .ite (fun _ => .ite (fun _ => ?_) fun _ => ?_) fun _ => orderly_releaseStation ..
  · exact (orderly_putGarment ..).trans (orderly_releaseStation ..)
  · exact orderly_setPretreat (fun _ _ => rfl) (fun _ _ => rfl) fun _ => id

theorem orderly_arrivePress (p : Fin 12) (g : Fin 32) (r : Garment) (s : State) : Orderly s (arrivePress p g r s) := by
  refine .ite (fun _ => .ite (fun _ => ?_) fun _ => .ite (fun _ => ?_) fun _ => ?_) fun _ => orderly_releaseStation ..
  · exact (orderly_putGarment ..).trans (orderly_releaseStation ..)
  · exact ((orderly_putGarment ..).trans (orderly_raisePressSkipped ..)).trans (orderly_releaseStation ..)
  · exact orderly_setPress (fun _ _ => rfl) fun _ _ => rfl

theorem orderly_arrivePrint (u : Printer) (p : Fin 12) (g : Fin 32) (r : Garment) (s : State) :
    Orderly s (arrivePrint u p g r s) := by
  refine .ite (fun _ => .ite (fun _ => ?_) fun _ => ?_) fun _ => orderly_releaseStation ..
  · exact orderly_putUnit (fun _ _ => rfl) fun _ _ => rfl
  · exact (orderly_putGarment ..).trans (orderly_releaseStation ..)

theorem orderly_skipFlash (p : Fin 12) (g : Fin 32) (r : Garment) (s : State) : Orderly s (skipFlash p g r s) :=
  (orderly_putGarment ..).trans (orderly_releaseStation ..)

theorem orderly_arriveFlash (p : Fin 12) (g : Fin 32) (r : Garment) (s : State) : Orderly s (arriveFlash p g r s) := by
  refine .ite (fun _ => .ite (fun _ => ?_) fun _ => .ite (fun _ => ?_) fun _ => ?_) fun _ => orderly_releaseStation ..
  · exact orderly_skipFlash ..
  · exact (orderly_raise ..).trans (orderly_skipFlash ..)
  · exact orderly_setFlash (fun _ _ => rfl) fun _ _ => rfl

theorem orderly_arriveAt (st : Station) (p : Fin 12) (g : Fin 32) (r : Garment) (s : State) :
    Orderly s (arriveAt st p g r s) := by
  cases st with
  | pretreat => exact orderly_arrivePretreat ..
  | press => exact orderly_arrivePress ..
  | white | color => exact orderly_arrivePrint ..
  | flash => exact orderly_arriveFlash ..
  | load | unload => exact .refl s

theorem orderly_arrive (s : State) (st : Station) : Orderly s (arrive s st) := by
  unfold arrive
  split
  · exact .refl s
  · split
    · exact .refl s
    · exact orderly_arriveAt ..

theorem orderly_startPlanes (u : Printer) (pos : Fin 12) (s : State) : Orderly s (startPlanes u pos s) := .of_frame

theorem at_rotateMap (m : Tbl 12 (Fin 12)) (q : Fin 12) : Tbl.at (rotateMap m) q = Tbl.at m (q + 11) := Tbl.at_ofFn ..

/-- A rotation moves every platen, and no two to one position. -/
theorem orderly_rotate (s : State) : Orderly s (rotate s) := by
  refine orderly_setCarousel (fun h p q hpq => ?_) fun _ => id
  rw [setCarousel_carousel, at_rotateMap, at_rotateMap] at hpq
  exact add_right_cancel (h _ _ hpq)

theorem orderly_leaveLoad (s : State) : Orderly s (leaveLoad s) := by
  unfold leaveLoad
  split
  · exact .refl s
  · exact orderly_changeGarment ..

theorem orderly_clearReleases (s : State) : Orderly s (clearReleases s) := orderly_setCarousel_of_eq

theorem orderly_handArrivals (s : State) : Orderly s (handArrivals s) := .foldl orderly_arrive ..

theorem orderly_handStarts (s : State) : Orderly s (handStarts s) := (orderly_startPlanes ..).trans (orderly_startPlanes ..)

theorem orderly_completion (s : State) : Orderly s (completion s) :=
  (((((orderly_rotate s).trans (orderly_leaveLoad _)).trans (orderly_clearReleases _)).trans (orderly_decideUnload _)).trans
    (orderly_handArrivals _)).trans (orderly_handStarts _)

theorem orderly_indexComplete (s : State) : Orderly s (indexComplete s) := (orderly_endOp s).trans (orderly_completion _)

theorem orderly_homeComplete (s : State) : Orderly s (homeComplete s) :=
  (((((orderly_endOp s).trans (orderly_setHomed ..)).trans (orderly_completion _)).trans (orderly_setLine id _)).trans
    (orderly_raise ..)).trans (orderly_settleHomed _)

theorem orderly_opComplete (s : State) : Orderly s (opComplete s) :=
  .ite (fun _ => orderly_homeComplete s) fun _ => orderly_indexComplete s

/-! ## The dryer -/

theorem orderly_putZone (z : Fin 4) (c : Source) (s : State) : Orderly s (putZone z c s) := orderly_setDryer

theorem orderly_tickZone (s : State) (z : Fin 4) : Orderly s (tickZone s z) :=
  (orderly_putZone ..).trans (.ite (fun _ => orderly_raise ..) fun _ => .ite (fun _ => orderly_raise ..) fun _ => .refl _)

theorem orderly_tickReadiness (s : State) : Orderly s (tickReadiness s) :=
  .ite (fun _ => .ite (fun _ => Orderly.trans orderly_setDryer (orderly_zonesReady _)) fun _ => orderly_setDryer) fun _ => .refl s

theorem orderly_stepEntry (period : Nat) (s : State) (e : BeltEntry) : Orderly s (stepEntry period s e) := by
  unfold stepEntry doseStep
  split
  · exact .refl s
  · refine .ite (fun _ => .ite (fun _ => .refl s) fun _ => ?_) fun _ => .refl s
    split
    · exact .refl s
    · exact orderly_changeGarment ..

/-- A belt queue whose entries were changed one by one. -/
theorem orderly_putBelt_map {s t : State} (h : Orderly s t) (dryer : t.dryer = s.dryer) (f : BeltEntry → BeltEntry) :
    Orderly s (putBelt (s.dryer.belt.map f) t) :=
  h.trans (orderly_setDryer (belt := by rw [List.length_map, dryer]; exact id))

theorem orderly_stepBelt (period : Nat) (s : State) : Orderly s (stepBelt period s) :=
  orderly_putBelt_map (.foldl (orderly_stepEntry period) ..) (foldl_dryer _ (by simp) ..) _

theorem orderly_advance (period : Nat) (s : State) : Orderly s (advance period s) :=
  .ite (fun _ => orderly_setDryer) fun _ => .refl s

theorem orderly_raiseOverdue (s : State) (e : BeltEntry) : Orderly s (raiseOverdue s e) := by
  unfold raiseOverdue
  split
  · exact .refl s
  · split
    · exact .refl s
    · exact .ite (fun _ => (orderly_putGarment ..).trans (orderly_raise ..)) fun _ => .refl s

theorem orderly_testOverdue (s : State) : Orderly s (testOverdue s) :=
  orderly_putBelt_map (.foldl orderly_raiseOverdue ..) (foldl_dryer _ (by simp) ..) _

/-! ## The pack queue -/

/-- A pack queue that loses entries. -/
theorem orderly_withoutGarment (g : Fin 32) (s : State) : Orderly s (putQueue (withoutGarment g s.pack.queue) s) :=
  orderly_setPack (queue := (List.length_filter_le ..).trans)

theorem orderly_raiseMissing (g : Fin 32) (detail : Nat) (s : State) : Orderly s (raiseMissing g detail s) := by
  unfold raiseMissing
  split
  · exact .refl s
  · exact orderly_raise ..

theorem orderly_packMissing (g : Fin 32) (detail : Nat) (s : State) : Orderly s (packMissing g detail s) :=
  (((orderly_withoutGarment g s).trans (orderly_failOp ..)).trans (orderly_raiseMissing ..)).trans (orderly_deleteGarment ..)

theorem orderly_makeRoom (s : State) : Orderly s (makeRoom s) := by
  refine .ite (fun _ => .refl s) fun _ => ?_
  split
  · exact .refl s
  · exact orderly_packMissing ..

@[simp] theorem putOrder_queue (o : Order) (s : State) : (putOrder o s).pack.queue = s.pack.queue := rfl

@[simp] theorem deleteOrder_queue (key : Word) (s : State) : (deleteOrder key s).pack.queue = s.pack.queue := rfl

@[simp] theorem finalOrder_queue (i : Fin 128) (take : Byte) (key : Word) (s : State) :
    (finalOrder i take key s).pack.queue = s.pack.queue := by
  unfold finalOrder judgeOrder
  (repeat' split) <;> simp

@[simp] theorem settleCounts_queue (i : Fin 128) (s : State) : (settleCounts i s).pack.queue = s.pack.queue := by
  simp only [settleCounts, finishLine]
  (repeat' split) <;> simp

/-- A failure is counted in the order table and leaves the pack queue. -/
@[simp] theorem failOp_queue (g : Fin 32) (code : FaultCode) (s : State) : (failOp g code s).pack.queue = s.pack.queue := by
  unfold failOp failCounted ifCurrent countFailed
  (repeat' split) <;> simp

theorem packMissing_queue (g : Fin 32) (detail : Nat) (s : State) :
    (packMissing g detail s).pack.queue = withoutGarment g s.pack.queue := by
  simp [packMissing, putQueue]

/-- A full pack queue gives up its head. -/
theorem makeRoom_queue {s : State} (h : s.pack.queue.length ≤ Config.packPlaces) :
    (makeRoom s).pack.queue.length < Config.packPlaces := by
  unfold makeRoom
  split
  · assumption
  · next full =>
    split
    · next hnil => exact absurd (by rw [hnil]; decide) full
    · next e rest hq =>
      rw [packMissing_queue, hq, withoutGarment, List.filter_cons_of_neg (by simp)]
      rw [hq, List.length_cons] at h
      exact Nat.lt_of_le_of_lt (List.length_filter_le ..) h

theorem orderly_packAppend (g : Fin 32) (exit : Clock) (s : State) : Orderly s (packAppend g exit s) := by
  have ready := orderly_makeRoom s
  obtain ⟨units, stopped⟩ := ready.toCalm
  refine ⟨{ ready.toTidy with pack := fun h => ?_ }, ⟨fun h => ?_, stopped⟩⟩
  · simpa [packAppend, putQueue, Nat.succ_le_iff] using makeRoom_queue h
  · exact ⟨(units h).pretreat, (units h).press, (units h).prints, (units h).flash⟩

/-! ## Exits and refeeds -/

theorem orderly_reachVerdict (g : Fin 32) (s : State) : Orderly s (reachVerdict g s) := by
  unfold reachVerdict failByRow
  split
  · exact .refl s
  · split
    · split
      · exact orderly_putGarment ..
      · exact (orderly_putGarment ..).trans (orderly_failOp ..)
    · exact orderly_putGarment ..
    · exact .refl s
    · exact .refl s

theorem orderly_reportDose (g : Fin 32) (s : State) : Orderly s (reportDose g s) := by
  unfold reportDose
  split
  · exact .refl s
  · exact orderly_ifCurrent _ (fun _ _ => orderly_reportLine ..) _

theorem orderly_exitGarment (e : BeltEntry) (g : Fin 32) (exit : Clock) (s : State) : Orderly s (exitGarment e g exit s) :=
  ((orderly_changeGarment ..).trans (orderly_reachVerdict ..)).trans (orderly_reportDose ..)

theorem orderly_exitToPack (e : BeltEntry) (g : Fin 32) (exit : Clock) (s : State) : Orderly s (exitToPack e g exit s) :=
  ((orderly_exitGarment ..).trans (orderly_changeGarment ..)).trans (orderly_packAppend ..)

theorem orderly_refeedAppend (g : Fin 32) (s : State) : Orderly s (refeedAppend g s) :=
  (orderly_changeGarment ..).trans (orderly_appendTransfer ..)

/-! ## Samples -/

theorem orderly_beltStatus (f : StatusFields) (s : State) : Orderly s (beltStatus f s) := orderly_setDryer

/-- The flash unit's other fields: neither its state nor its garment. -/
theorem orderly_setFlash_of_eq {v : Flash} {s : State} (state : v.state = s.flash.state := by rfl)
    (job : v.job = s.flash.job := by rfl) : Orderly s (s.setFlash v) :=
  orderly_setFlash (fun hv held => job ▸ held (state ▸ hv)) fun _ h => by
    simpa only [exposureInFlight, setFlash_flash, state] using h

theorem orderly_flashStatus (f : StatusFields) (s : State) : Orderly s (flashStatus f s) := by
  unfold flashStatus
  split
  case h_1 h =>
    exact .ite (fun _ => orderly_setFlash_of_eq) fun _ =>
      orderly_flashCut (fun _ => exposureInFlight_of_limitedState (by rw [h]; rfl)) _
  all_goals exact .refl s

/-! ## The match unit -/

theorem orderly_bind (t : TagFields) (k : TagKind) (i : Fin 128) (g : Fin 32) (s : State) : Orderly s (bind t k i g s) :=
  ((((orderly_putGarment ..).trans (orderly_putPlaten ..)).trans (orderly_reportLine ..)).trans (orderly_replaceTxn ..)).trans
    (orderly_raise ..)

theorem orderly_matchStock (t : TagFields) (g : Fin 32) (s : State) : Orderly s (matchStock t g s) := by
  unfold matchStock
  split
  · exact orderly_raise ..
  · exact orderly_bind ..

theorem orderly_matchOrder (t : TagFields) (g : Fin 32) (s : State) : Orderly s (matchOrder t g s) := by
  unfold matchOrder orderMismatch
  split
  · exact orderly_raise ..
  · split_ifs
    · exact orderly_raise ..
    · exact orderly_raise ..
    · exact orderly_raise ..
    · exact orderly_bind ..

theorem orderly_withdraw (t : TagFields) (g : Fin 32) (r : Garment) (s : State) : Orderly s (withdraw t g r s) := by
  have counted (t : State) : Orderly t (withdrawnCount r t) :=
    .ite (fun _ => orderly_ifCurrent _ orderly_lowerBound _) fun _ => .refl t
  exact ((orderly_deleteGarment g s).trans (counted _)).trans (orderly_raise ..)

theorem orderly_matchTag (t : TagFields) (k : TagKind) (s : State) : Orderly s (matchTag t k s) := by
  unfold matchTag
  split
  · split
    · exact .refl s
    · exact orderly_raise ..
  · split
    · exact orderly_raise ..
    · cases k with
      | stock => exact orderly_matchStock ..
      | order => exact orderly_matchOrder ..

theorem orderly_screenPlaten (t : TagFields) (k : TagKind) (s : State) : Orderly s (screenPlaten t k s) := by
  refine .ite (fun _ => orderly_raise ..) fun _ => ?_
  split
  · unfold occupied
    split
    · exact .refl s
    · exact .ite (fun _ => orderly_withdraw ..) fun _ => orderly_raise ..
  · exact orderly_matchTag ..

theorem orderly_loadScan (t : TagFields) (s : State) : Orderly s (loadScan t s) := by
  refine .ite (fun _ => orderly_raise ..) fun _ => .ite (fun _ => orderly_raise ..) fun _ => ?_
  split
  · exact orderly_screenPlaten ..
  · exact orderly_screenPlaten ..
  · exact orderly_raise ..
  · exact orderly_raise ..

/-! ## The pack unit -/

theorem orderly_showPack (c : PackCode) (s : State) : Orderly s (showPack c s) := orderly_replaceTxn ..

theorem orderly_putBin (b : Fin 12) (key : Option Word) (s : State) : Orderly s (putBin b key s) := orderly_setPack

theorem orderly_putWaiting (w : List Word) (s : State) : Orderly s (putWaiting w s) := orderly_setPack

theorem orderly_changeBin (o : Order) (b : OrderBin) (s : State) : Orderly s (changeBin o b s) :=
  (orderly_putOrder ..).trans (orderly_writeBins ..)

theorem orderly_ensureBin (key : Word) (s : State) : Orderly s (ensureBin key s) := by
  unfold ensureBin assignBin
  split
  · exact .refl s
  · refine .ite (fun _ => ?_) fun _ => .refl s
    split
    · exact (orderly_putBin ..).trans (orderly_changeBin ..)
    · exact (orderly_putWaiting ..).trans (orderly_changeBin ..)

theorem orderly_countPacked (key : Word) (c : PackCode) (s : State) : Orderly s (countPacked key c s) := by
  unfold countPacked
  split
  · exact .refl s
  · cases c with
    | bin _ | overflow => exact orderly_putOrder ..
    | spare | refeed | reject | cleared | refused => exact .refl s

theorem orderly_raisePacked (g : Fin 32) (c : PackCode) (s : State) : Orderly s (raisePacked g c s) := by
  unfold raisePacked
  split
  · exact .refl s
  · exact orderly_raise ..

theorem orderly_packCounts (r : Garment) (c : PackCode) (s : State) : Orderly s (packCounts r c s) := by
  cases c with
  | bin _ | overflow => exact orderly_ifCurrent _ orderly_countFinished _
  | spare => exact orderly_ifCurrent _ orderly_lowerBound _
  | refeed | reject | cleared | refused => exact .refl s

theorem orderly_packTold (g : Fin 32) (r : Garment) (c : PackCode) (s : State) : Orderly s (packTold g r c s) :=
  ((orderly_showPack ..).trans (orderly_raisePacked ..)).trans (orderly_packCounts ..)

theorem orderly_packOut (g : Fin 32) (r : Garment) (c : PackCode) (s : State) : Orderly s (packOut g r c s) :=
  (orderly_packTold ..).trans (orderly_deleteGarment ..)

theorem orderly_packToOrder (g : Fin 32) (r : Garment) (s : State) : Orderly s (packToOrder g r s) :=
  ((orderly_ensureBin ..).trans (orderly_countPacked ..)).trans (orderly_packOut ..)

theorem orderly_packRefeed (g : Fin 32) (r : Garment) (s : State) : Orderly s (packRefeed g r s) := by
  have raised : Orderly s (countRefeed g s) := orderly_changeGarment ..
  exact .ite (fun _ => (raised.trans (orderly_refeedAppend ..)).trans (orderly_packTold ..)) fun _ =>
    (raised.trans (orderly_failOp ..)).trans (orderly_packOut ..)

theorem orderly_packGarment (g : Fin 32) (s : State) : Orderly s (packGarment g s) := by
  unfold packGarment
  split
  · exact .refl s
  · split
    · exact orderly_packOut ..
    · exact orderly_packOut ..
    · exact .ite (fun _ => orderly_packRefeed ..) fun _ => orderly_packToOrder ..
    · exact orderly_packOut ..

theorem orderly_withoutEntry (g : Fin 32) (s : State) : Orderly s (putBelt (withoutEntry g s.dryer.belt) s) :=
  orderly_setDryer (belt := (List.length_filter_le ..).trans)

theorem orderly_earlyPick (e : BeltEntry) (g : Fin 32) (s : State) : Orderly s (earlyPick e g s) := by
  have told : Orderly s (raiseEarlyPick e g s) := by
    unfold raiseEarlyPick
    split
    · exact .refl s
    · exact orderly_raise ..
  exact ((told.trans (orderly_withoutEntry ..)).trans (orderly_exitGarment ..)).trans (orderly_packGarment ..)

theorem orderly_shirtScan (t : TagFields) (s : State) : Orderly s (shirtScan t s) := by
  unfold shirtScan
  split
  · exact (orderly_withoutGarment ..).trans (orderly_packGarment ..)
  · split
    · exact (orderly_raise ..).trans (orderly_showPack ..)
    · split
      · exact .refl s
      · exact orderly_earlyPick ..

theorem orderly_moveOverflow (b : Fin 12) (s : State) : Orderly s (moveOverflow b s) := by
  unfold moveOverflow
  split
  · exact .refl s
  · split
    · exact orderly_putWaiting ..
    · next key rest _ _ o _ =>
      have told := (((orderly_putWaiting rest s).trans (orderly_putBin b (some key) _)).trans
        (orderly_changeBin o (.bin b) _)).trans
          (orderly_raise { orderIncident .moveOverflow key with detail := b.val + 1, value := o.overflow } _)
      exact .ite (fun _ => told.trans (orderly_raise ..)) fun _ => told

theorem orderly_binClear (b : Fin 12) (s : State) : Orderly s (binClear b s) := by
  unfold binClear
  split
  · exact (orderly_raise ..).trans (orderly_showPack ..)
  · exact .ite (fun _ => ((((orderly_putBin ..).trans (orderly_deleteOrder ..)).trans (orderly_raise ..)).trans
      (orderly_moveOverflow ..)).trans (orderly_showPack ..)) fun _ => (orderly_raise ..).trans (orderly_showPack ..)

theorem orderly_packScan (t : TagFields) (s : State) : Orderly s (packScan t s) := by
  unfold packScan
  split
  · exact orderly_shirtScan ..
  · exact orderly_shirtScan ..
  · unfold binScan
    split
    · exact (orderly_raise ..).trans (orderly_showPack ..)
    · exact orderly_binClear ..
  · exact (orderly_raise ..).trans (orderly_showPack ..)

end Sys2Proof.Machine
end

section
/-! PROOFS. The station link, the exchange interface and the inputs are orderly. -/

namespace Sys2Proof.Machine

-- Elaborated all at once, the proofs of this text start more threads than the check's memory limit lets it.
set_option Elab.async false

open Sys2Proof.Safety

/-! ## Outcomes of transactions -/

theorem orderly_ifActed (t : Txn) {f : State → State} (h : ∀ s, Orderly s (f s)) (s : State) : Orderly s (ifActed t f s) :=
  .ite (fun _ => h s) fun _ => .refl s

theorem orderly_carouselOutcome (o : TxnOutcome) (s : State) : Orderly s (carouselOutcome o s) := by
  unfold carouselOutcome
  split
  · exact .refl s
  · exact .ite (fun _ => orderly_indexFault ..) fun _ => .refl s

theorem orderly_pretreatOutcome (o : TxnOutcome) (s : State) : Orderly s (pretreatOutcome o s) := by
  unfold pretreatOutcome
  split
  · exact .refl s
  · exact .ite (fun _ => orderly_passCut ..) fun _ => .refl s

/-- The press unit goes on with a cycle in flight. -/
theorem orderly_pressGoesOn {v : Press} {s : State} (h : cycleInFlight s = true) (job : v.job = s.press.job := by rfl) :
    Orderly s (s.setPress v) :=
  orderly_setPress (fun _ held => job ▸ held fun hidle => by rw [cycleInFlight, hidle] at h; cases h) fun _ hidle => by
    rw [h] at hidle; cases hidle

theorem orderly_commandPress {s : State} (h : cycleInFlight s = true) : Orderly s (commandPress s) := by
  unfold commandPress
  split
  · exact .refl s
  · split
    · exact .refl s
    · exact .ite (fun _ => (orderly_pressGoesOn h).trans (orderly_pressCut ..)) fun _ =>
        (orderly_pressGoesOn h).trans (orderly_handIn ..)

theorem orderly_pressOutcome (o : TxnOutcome) (s : State) : Orderly s (pressOutcome o s) := by
  unfold pressOutcome
  split
  · next h =>
    split
    · exact orderly_commandPress (by rw [cycleInFlight, h])
    · exact orderly_pressCut ..
  · next h =>
    split
    · exact orderly_pressGoesOn (by rw [cycleInFlight, h])
    · exact orderly_pressCut ..
  all_goals exact .refl s

theorem orderly_beginSwath {u : Printer} {s : State} (h : (unitAt s u).state = .command) (j : PrintJob) :
    Orderly s (beginSwath u j s) := by
  refine .trans (orderly_putUnit (fun _ held => ?_) fun _ hidle => ?_) (.foldl (orderly_beginPass _ _) ..)
  · exact held (by rw [h]; decide)
  · rw [h] at hidle; cases hidle

theorem orderly_printOutcome (u : Printer) (o : TxnOutcome) (s : State) : Orderly s (printOutcome u o s) := by
  unfold printOutcome
  split
  · next h _ =>
    split
    · exact orderly_beginSwath h _
    · exact orderly_printCut ..
  all_goals exact .refl s

theorem orderly_askSample (s : State) : Orderly s (askSample s) :=
  .ite (fun _ => .refl s) fun _ => (orderly_setSampling ..).trans (orderly_askReads ..)

theorem orderly_beginExposing {s : State} (h : s.flash.state = .heating) : Orderly s (beginExposing s) := by
  refine .trans (orderly_setFlash (fun _ held => ?_) fun _ hidle => ?_) (orderly_askSample _)
  · exact held (by rw [h]; decide)
  · rw [exposureInFlight, h] at hidle; cases hidle

theorem orderly_flashOutcome (o : TxnOutcome) (s : State) : Orderly s (flashOutcome o s) := by
  unfold flashOutcome
  split
  · next h =>
    split
    · exact orderly_beginExposing h
    · exact orderly_flashCut (fun _ => exposureInFlight_of_limitedState (by rw [h]; rfl)) _
  · exact orderly_flashOver s
  all_goals exact .refl s

theorem orderly_dryerSample (r : Role) (f : StatusFields) (s : State) : Orderly s (dryerSample r f s) := by
  refine .ite (fun _ => ?_) fun _ => .refl s
  split
  · exact orderly_putZone ..
  · exact orderly_beltStatus ..

theorem orderly_sampleOutcome (r : Role) (o : TxnOutcome) (s : State) : Orderly s (sampleOutcome r o s) := by
  have cleared := orderly_readLost r s
  cases o with
  | accept f =>
    exact .ite (fun _ => cleared.trans (orderly_flashStatus ..)) fun _ => cleared.trans (orderly_dryerSample ..)
  | declined | silent | lost => exact cleared

theorem orderly_lineOutcome (t : Txn) (o : TxnOutcome) (s : State) : Orderly s (lineOutcome t o s) := by
  cases o with
  | accept _ => exact .refl s
  | declined | silent => exact orderly_raise ..
  | lost => exact orderly_commandLost ..

theorem orderly_deliver (q : Requester) (t : Txn) (o : TxnOutcome) (s : State) : Orderly s (deliver q t o s) := by
  cases q with
  | carousel => exact orderly_ifActed t (orderly_carouselOutcome o) s
  | pretreat => exact orderly_ifActed t (orderly_pretreatOutcome o) s
  | press => exact orderly_ifActed t (orderly_pressOutcome o) s
  | white => exact orderly_ifActed t (orderly_printOutcome .white o) s
  | flash => exact orderly_ifActed t (orderly_flashOutcome o) s
  | color => exact orderly_ifActed t (orderly_printOutcome .color o) s
  | sampler => exact ((orderly_setReads ..).trans (orderly_sampleOutcome ..)).trans (orderly_serveReads _)
  | load | pack => exact .refl s
  | line => exact (orderly_ifActed t (orderly_lineOutcome t o) s).trans (orderly_serveCommands _)

theorem orderly_drainKept (q : Requester) (ts : List Txn) (s : State) : Orderly s (drainKept q ts s) := by
  induction ts generalizing s with
  | nil => exact .refl s
  | cons t ts ih =>
    have kept : Orderly s (keep q ts s) := orderly_putPlace ..
    exact .ite (fun _ => .refl s) fun _ => .ite (fun _ => (kept.trans (orderly_deliver ..)).trans (ih _)) fun _ =>
      kept.trans (orderly_enqueue ..)

theorem orderly_complete (q : Requester) (t : Txn) (o : TxnOutcome) (s : State) : Orderly s (complete q t o s) :=
  ((orderly_putPlace ..).trans (orderly_deliver ..)).trans (orderly_drainKept ..)

/-! ## Statuses -/

theorem orderly_driveStatus (f : StatusFields) (s : State) : Orderly s (driveStatus f s) := by
  unfold driveStatus
  split
  · exact .refl s
  · exact .ite (fun _ => .refl s) fun _ => orderly_indexFault ..
  · exact .ite (fun _ => orderly_indexFault ..) fun _ => .ite (fun _ => orderly_opComplete s) fun _ => .refl s

theorem orderly_sprayStatus (f : StatusFields) (s : State) : Orderly s (sprayStatus f s) :=
  .ite (fun h => .ite (fun _ => orderly_passCut ..) fun _ => .ite (fun _ => orderly_passDone h) fun _ => .refl s) fun _ => .refl s

theorem orderly_pressStatus (f : StatusFields) (s : State) : Orderly s (pressStatus f s) :=
  .ite (fun _ => .ite (fun _ => orderly_pressCut ..) fun _ => .ite (fun _ => orderly_pressComplete s) fun _ => .refl s) fun _ =>
    .refl s

theorem orderly_printStatus (u : Printer) (f : StatusFields) (s : State) : Orderly s (printStatus u f s) :=
  .ite (fun h => .ite (fun _ => orderly_printCut ..) fun _ =>
    .ite (fun _ => orderly_judgeSwath (by rw [h]; rfl)) fun _ => .refl s) fun _ => .refl s

theorem orderly_ownerStatus (r : Role) (f : StatusFields) (s : State) : Orderly s (ownerStatus r f s) := by
  cases r with
  | indexDrive => exact orderly_driveStatus ..
  | sprayCarriage => exact orderly_sprayStatus ..
  | press => exact orderly_pressStatus ..
  | whiteCarriage | colorCarriage => exact orderly_printStatus ..
  | flash => exact orderly_flashStatus ..
  | zone1 | zone2 | zone3 | zone4 => exact orderly_putZone ..
  | beltDrive => exact orderly_beltStatus ..
  | loadScanner | packScanner => exact .refl s

/-! ## The module table -/

theorem orderly_putModule (r : Role) (m : ModuleEntry) (s : State) : Orderly s (putModule r m s) := .of_rest rfl

theorem orderly_lostReport (r : Role) (s : State) : Orderly s (lostReport r s) := by
  cases r with
  | sprayCarriage => exact .ite (fun _ => orderly_passCut ..) fun _ => .refl s
  | press => exact .ite (fun _ => orderly_pressCut ..) fun _ => .refl s
  | whiteCarriage | colorCarriage => exact .ite (fun _ => orderly_printCut ..) fun _ => .refl s
  | beltDrive => exact orderly_setDryer
  | indexDrive | flash | zone1 | zone2 | zone3 | zone4 | loadScanner | packScanner => exact .refl s

theorem orderly_loseQueued (p : Txn → Bool) (s : State) (q : Requester) : Orderly s (loseQueued p s q) := by
  unfold loseQueued
  split
  · exact .refl s
  · split
    · exact .refl s
    · exact .ite (fun _ => orderly_complete ..) fun _ => .refl s
    · exact .ite (fun _ => orderly_complete ..) fun _ => .refl s

theorem orderly_loseAll (p : Txn → Bool) (s : State) : Orderly s (loseAll p s) := .foldl (orderly_loseQueued p) ..

theorem orderly_moduleLost (r : Role) (addr : Byte) (s : State) : Orderly s (moduleLost r addr s) :=
  ((((orderly_putModule ..).trans (orderly_raise ..)).trans (orderly_followModules _)).trans (orderly_lostReport ..)).trans
    (orderly_loseAll ..)

theorem orderly_silence (r : Role) (addr : Byte) (s : State) : Orderly s (silence r addr s) :=
  .ite (fun _ => .refl s) fun _ => .ite (fun _ => orderly_moduleLost ..) fun _ => orderly_putModule ..

theorem orderly_moduleBack (r : Role) (value : Nat) (s : State) : Orderly s (moduleBack r value s) :=
  ((orderly_putModule ..).trans (orderly_raise ..)).trans (orderly_followModules _)

theorem orderly_moduleAccept (r : Role) (s : State) : Orderly s (moduleAccept r s) := by
  unfold moduleAccept
  split
  · exact orderly_putModule ..
  · exact orderly_moduleBack ..
  · exact orderly_moduleBack ..

theorem orderly_probeLater (r : Role) (s : State) : Orderly s (probeLater r s) :=
  .ite (fun _ => .refl s) fun _ => orderly_putModule ..

theorem orderly_setLink (v : Link) (s : State) : Orderly s (s.setLink v) := .of_rest rfl

theorem orderly_takeSettings (new : LinkSettings) (s : State) : Orderly s (takeSettings new s) :=
  ((orderly_setLink ..).trans (orderly_loseAll ..)).trans (orderly_followModules _)

theorem orderly_attachSettings (new : LinkSettings) (s : State) : Orderly s (attachSettings new s) :=
  (orderly_setLink ..).trans (orderly_followModules _)

/-! ## The link's choice and tries -/

theorem orderly_makeChoice (s : State) : Orderly s (makeChoice s) := .of_frame

theorem orderly_endService (v : Service) (s : State) : Orderly s (endService v s) := .of_frame

theorem orderly_handScan (r : Role) (t : TagFields) (s : State) : Orderly s (handScan r t s) := by
  cases r with
  | loadScanner => exact orderly_loadScan ..
  | packScanner => exact orderly_packScan ..
  | indexDrive | sprayCarriage | press | whiteCarriage | flash | colorCarriage | zone1 | zone2 | zone3 | zone4 | beltDrive =>
    exact .refl s

theorem orderly_serviceAccepted (v : Service) (w : Word) (s : State) : Orderly s (serviceAccepted v w s) := by
  refine .ite (fun _ => ?_) fun _ => (orderly_endService ..).trans (orderly_ownerStatus ..)
  split
  · exact .of_frame
  · exact .ite (fun _ => (orderly_endService ..).trans (orderly_handScan ..)) fun _ => orderly_endService ..

theorem orderly_onModule (o : OnLink) {f : State → State} (h : ∀ s, Orderly s (f s)) (s : State) :
    Orderly s (onModule o f s) :=
  .ite (fun _ => h s) fun _ => .refl s

theorem orderly_freeLink (s : State) : Orderly s (freeLink s) := orderly_setLink ..

theorem orderly_tryAccepted (o : OnLink) (word : Word) (s : State) : Orderly s (tryAccepted o word s) := by
  have taken := (orderly_freeLink s).trans (orderly_onModule o (orderly_moduleAccept o.role) _)
  unfold tryAccepted
  dsimp only
  split
  · split
    · exact taken
    · exact taken.trans (orderly_complete ..)
  · exact taken
  · split
    · exact taken
    · exact taken.trans (orderly_serviceAccepted ..)

theorem orderly_requesterDeclined (q : Requester) (w : Queued) (c : LinkSettings) (s : State) :
    Orderly s (requesterDeclined q w c s) :=
  .ite (fun _ => .ite (fun _ => orderly_complete ..) fun _ => orderly_putPlace ..) fun _ => orderly_complete ..

theorem orderly_tryDeclined (o : OnLink) (s : State) : Orderly s (tryDeclined o s) := by
  have freed := orderly_freeLink s
  unfold tryDeclined
  dsimp only
  split
  · split
    · exact freed
    · exact freed.trans (orderly_requesterDeclined ..)
  · exact freed.trans (orderly_onModule o (orderly_probeLater o.role) _)
  · split
    · exact freed
    · exact freed.trans .of_frame

theorem orderly_trySilent (o : OnLink) (s : State) : Orderly s (trySilent o s) := by
  have ended (s : State) : Orderly s (silentEnd o s) := by
    unfold silentEnd
    split
    · split
      · exact .refl s
      · exact orderly_complete ..
    · exact orderly_onModule o (orderly_probeLater o.role) _
    · split
      · exact .refl s
      · exact orderly_endService ..
  exact ((orderly_freeLink s).trans (ended _)).trans (orderly_onModule o (orderly_silence o.role o.addr) _)

theorem orderly_endTry (frame : List Byte) (wanted : TryEnd → Bool) (s : State) : Orderly s (endTry frame wanted s) := by
  unfold endTry
  split
  · exact .refl s
  · refine .ite (fun _ => ?_) fun _ => .refl s
    split
    · exact orderly_tryAccepted ..
    · exact orderly_tryDeclined ..
    · exact orderly_trySilent ..

/-! ## The exchange interface -/

theorem orderly_takeRefill (r : RefillGroup) (s : State) : Orderly s (takeRefill r s) :=
  .ite (fun _ => .refl s) fun _ => ((orderly_putTank ..).trans (orderly_tankFall ..)).trans (orderly_raise ..)

theorem orderly_putActivity (a : Option Activity) (s : State) : Orderly s (putActivity a s) := orderly_setExch

theorem orderly_beginSweep (s : State) : Orderly s (beginSweep s) := orderly_setExch

theorem orderly_startSweep (s : State) : Orderly s (startSweep s) := by
  unfold startSweep
  split
  · exact orderly_beginSweep s
  · exact orderly_setExch

theorem orderly_endSweep (s : State) : Orderly s (endSweep s) :=
  .ite (fun _ => Orderly.trans orderly_setExch (orderly_beginSweep _)) fun _ => orderly_setExch

theorem orderly_advanceSweep (s : State) : Orderly s (advanceSweep s) := by
  unfold advanceSweep
  split
  · exact .refl s
  · exact .ite (fun _ => orderly_setExch) fun _ => orderly_endSweep s

theorem orderly_endActivity (ofSweep : Bool) (s : State) : Orderly s (endActivity ofSweep s) :=
  .ite (fun _ => (orderly_putActivity ..).trans (orderly_advanceSweep _)) fun _ => orderly_putActivity ..

theorem orderly_putFaultMark (slot : Fin 128) (v : Bool) (s : State) : Orderly s (putFaultMark slot v s) := orderly_setExch

theorem orderly_lookError (slot : Fin 128) (ofSweep : Bool) (s : State) : Orderly s (lookError slot ofSweep s) := by
  have told : Orderly s (slotReadError slot s) :=
    .ite (fun _ => .refl s) fun _ => (orderly_raise ..).trans (orderly_putFaultMark ..)
  exact told.trans (orderly_endActivity ..)

theorem orderly_setTake (slot : Fin 128) (hand : Byte) (s : State) : Orderly s (setTake slot hand s) := orderly_putLine ..

theorem orderly_setAccepted (v : List (Fin 128)) (s : State) : Orderly s (s.setAccepted v) := .of_rest rfl

/-- A post that passes every check finds its order in the table, or room for it. -/
theorem ordersFull_of_valid {s : State} {slot : Fin 128} {entry : Option CatalogEntry} {p : Snapshot}
    (h : validate s slot entry p = none) : ordersFull s p = false := by
  unfold validate at h
  split_ifs at h with _ _ _ _ _ _ _ hfull
  exact Bool.eq_false_iff.mpr hfull

theorem orderly_takePost (slot : Fin 128) (bytes : List Byte) (entry : Option CatalogEntry) (s : State) :
    Orderly s (takePost slot bytes entry s) := by
  refine .ite (fun _ => (orderly_setTake ..).trans (orderly_raise ..)) fun _ => ?_
  split
  · next h =>
    have hroom := ordersFull_of_valid h
    refine ((orderly_reportLine ..).trans (orderly_setAccepted ..)).trans (orderly_acceptOrder ?_ ..)
    simp only [ordersFull, Bool.and_eq_false_iff, decide_eq_false_iff_not, not_le] at hroom
    simpa [orderAt, Option.isSome_iff_ne_none] using hroom
  · exact orderly_reportLine ..

theorem orderly_foundPost (slot : Fin 128) (ofSweep : Bool) (bytes : List Byte) (s : State) :
    Orderly s (foundPost slot ofSweep bytes s) :=
  .ite (fun _ => (orderly_putActivity ..).trans (orderly_askPort ..)) fun _ =>
    (orderly_takePost ..).trans (orderly_endActivity ..)

theorem orderly_foundNoPost (slot : Fin 128) (ofSweep : Bool) (bytes : List Byte) (s : State) :
    Orderly s (foundNoPost slot ofSweep bytes s) :=
  (Orderly.ite (fun _ => orderly_voidLine ..) fun _ => .refl s).trans (orderly_endActivity ..)

theorem orderly_lookRead (slot : Fin 128) (ofSweep : Bool) (bytes : List Byte) (s : State) :
    Orderly s (lookRead slot ofSweep bytes s) :=
  .ite (fun _ => (orderly_putFaultMark ..).trans (orderly_foundNoPost ..)) fun _ =>
    (orderly_putFaultMark ..).trans (orderly_askPort ..)

theorem orderly_postRead (slot : Fin 128) (ofSweep : Bool) (bytes : List Byte) (s : State) :
    Orderly s (postRead slot ofSweep bytes s) :=
  .ite (fun _ => orderly_endActivity ..) fun _ => orderly_foundPost ..

theorem orderly_recoveryRead (slot : Fin 128) (ofSweep : Bool) (bytes : List Byte) (s : State) :
    Orderly s (recoveryRead slot ofSweep bytes s) := by
  have clear := Orderly.trans (orderly_setExch (s := s) (v := { s.exch with recovery := Tbl.put s.exch.recovery slot false }))
    (orderly_putFaultMark slot false _)
  exact .ite (fun _ => (clear.trans (orderly_reportLine ..)).trans (orderly_endActivity ..)) fun _ =>
    .ite (fun _ => (clear.trans (orderly_setTake ..)).trans (orderly_foundNoPost ..)) fun _ =>
      (clear.trans (orderly_setTake ..)).trans (orderly_foundPost ..)

theorem orderly_beginLook (slot : Fin 128) (ofSweep : Bool) (s : State) : Orderly s (beginLook slot ofSweep s) :=
  .ite (fun _ => (orderly_putActivity ..).trans (orderly_askPort ..)) fun _ =>
    (orderly_putActivity ..).trans (orderly_askPort ..)

theorem orderly_beginRefill (ofSweep : Bool) (s : State) : Orderly s (beginRefill ofSweep s) :=
  (orderly_putActivity ..).trans (orderly_askPort ..)

theorem orderly_setMem (s : State) : Orderly s (setMem s) := orderly_setExch

theorem orderly_setAttach (a : AttachState) (s : State) : Orderly s (setAttach a s) := orderly_setExch

theorem orderly_askAttach (s : State) : Orderly s (askAttach s) := orderly_askPort ..

theorem orderly_refuseReading (s : State) : Orderly s (refuseReading s) :=
  .ite (fun _ => orderly_refuseRun ..) fun _ => .refl s

theorem orderly_startAttach (s : State) : Orderly s (startAttach s) :=
  (((((orderly_discardAccesses ..).trans (orderly_setExch (h := fun _ => Nat.zero_le _))).trans
    (orderly_setReports (h := by exact id))).trans (orderly_refuseReading _)).trans (orderly_loseAll ..)).trans
      (orderly_askAttach _)

theorem orderly_attachBlocks (hdr : List Byte) (s : State) : Orderly s (attachBlocks hdr s) := by
  have settled := (orderly_attachSettings s.config.link s).trans (orderly_takeRefill (parseRefill (hdr.drop 4)) _)
  exact .ite (fun _ => settled.trans (orderly_putCommands ..)) fun _ => settled

theorem orderly_writeHeader (s : State) : Orderly s (writeHeader s) := by
  unfold writeHeader
  exact Orderly.trans orderly_setReports (orderly_askPort ..)

theorem orderly_setConfig (v : ConfigSnap) (s : State) : Orderly s (s.setConfig v) := .of_rest rfl

theorem orderly_attachDone (hdr : List Byte) (s : State) : Orderly s (attachDone hdr s) :=
  ((((orderly_setAttach ..).trans (orderly_setConfig ..)).trans (orderly_attachBlocks hdr _)).trans
    (orderly_writeHeader _)).trans (orderly_startSweep _)

theorem orderly_attachRead (hdr : List Byte) (s : State) : Orderly s (attachRead hdr s) :=
  .ite (fun _ => orderly_attachDone ..) fun _ => orderly_setAttach ..

theorem orderly_writeIncident {i : Incident} {rest : List Incident} {s : State} (h : s.reports.fifo = i :: rest) :
    Orderly s (writeIncident i rest s) :=
  Orderly.trans (orderly_setReports fun hs => by
    rw [h] at hs
    exact (Nat.le_succ _).trans hs) (orderly_askPort ..)

theorem orderly_writeSlot (i : Fin 128) (s : State) : Orderly s (writeSlot i s) :=
  Orderly.trans orderly_setReports (orderly_askPort ..)

theorem orderly_startReport (s : State) : Orderly s (startReport s) := by
  unfold startReport
  split
  · next h => exact orderly_writeIncident h
  · split
    · exact .refl s
    · exact orderly_writeSlot ..

theorem orderly_endReport (r : WriteResult) (s : State) : Orderly s (endReport r s) := by
  unfold endReport
  split
  · exact .refl s
  · next j _ =>
    cases r with
    | ok => exact orderly_setReports (by cases j <;> exact id)
    | error => exact Orderly.trans (orderly_setReports (by cases j <;> exact id)) (orderly_setMem _)

end Sys2Proof.Machine
end

section
/-! PROOFS. Every command but a reset, an ESTOP assertion and a SPRAY_ROW edge is orderly. -/

namespace Sys2Proof.Machine

-- Elaborated all at once, the proofs of this text start more threads than the check's memory limit lets it.
set_option Elab.async false

open Sys2Proof.Safety

/-! ## Starts of work: the line is in RUN, or, for a home, in HOLD -/

theorem not_stopped_of_mayWork {s : State} (h : mayWork s = true) : s.ctl.mode ≠ .stopped := by
  intro hstopped
  rw [mayWork, hstopped] at h
  cases h

theorem orderly_enterMoving {s : State} (h : s.ctl.mode ≠ .stopped) (home : Bool) : Orderly s (enterMoving home s) :=
  orderly_setCarousel (fun hmap p q => hmap p q) fun hmode => (h hmode).elim

theorem orderly_commandDrive (c : Command) (s : State) : Orderly s (commandDrive c s) :=
  .ite (fun _ => orderly_indexFault ..) fun _ => orderly_handIn ..

theorem orderly_startIndex {s : State} (h : indexDue s = true) : Orderly s (startIndex s) :=
  (orderly_enterMoving (not_stopped_of_mayWork (Bool.and_eq_true_iff.mp h).1) false).trans (orderly_commandDrive ..)

theorem orderly_startHome {s : State} (h : homeDue s = true) : Orderly s (startHome s) := by
  refine ((orderly_dropHome s).trans (orderly_enterMoving ?_ true)).trans (orderly_commandDrive ..)
  intro hstopped
  simp [homeDue, show s.ctl.mode = .stopped from hstopped] at h

theorem orderly_startPass {s : State} (h : passDue s = true) : Orderly s (startPass s) := by
  simp only [passDue, Bool.and_eq_true, beq_iff_eq] at h
  obtain ⟨⟨hstate, hwork⟩, -⟩ := h
  have hmode := not_stopped_of_mayWork hwork
  have spraying : Orderly s (s.setPretreat (sprayingUnit s)) :=
    orderly_setPretreat (fun _ held => held (by rw [hstate]; decide)) (fun hs => (hmode hs).elim) fun hs => (hmode hs).elim
  exact .ite (fun _ => spraying.trans (orderly_passCut ..)) fun _ => spraying.trans (orderly_handIn ..)

theorem orderly_openValve (z : Fin 8) (s : State) : Orderly s (openValve z s) := by
  unfold openValve
  split
  · next h => exact orderly_putValve fun _ hidle => by rw [h] at hidle; cases hidle
  · exact .refl s
  · exact .refl s

theorem orderly_closeOnTime (z : Fin 8) (s : State) : Orderly s (closeOnTime z s) := by
  unfold closeOnTime
  split
  · exact (orderly_closed ..).trans (orderly_useFluid ..)
  · exact .refl s
  · exact .refl s

theorem orderly_finishPass (s : State) : Orderly s (finishPass s) := .ite (fun _ => orderly_passComplete s) fun _ => .refl s

theorem orderly_startCycle {s : State} (h : cycleDue s = true) : Orderly s (startCycle s) := by
  simp only [cycleDue, Bool.and_eq_true, beq_iff_eq] at h
  obtain ⟨hstate, hwork⟩ := h
  unfold startCycle
  split
  · exact .refl s
  · next r _ =>
    have setpoint : Orderly s
        (s.setPress { s.press with state := .setpoint, guard := some (pressTimer s (catalogAt s r.blank).dwell) }) :=
      orderly_setPress (fun _ held => held (by rw [hstate]; decide)) fun hs => (not_stopped_of_mayWork hwork hs).elim
    exact .ite (fun _ => setpoint.trans (orderly_pressCut ..)) fun _ => setpoint.trans (orderly_handIn ..)

theorem orderly_beginPrint {u : Printer} {s : State} (h : beginDue s u = true) : Orderly s (beginPrint u s) := by
  simp only [beginDue, Bool.and_eq_true, beq_iff_eq] at h
  obtain ⟨hstate, hwork⟩ := h
  unfold beginPrint
  split
  · exact .refl s
  · split
    · exact orderly_printCut ..
    · refine .trans (orderly_putUnit (fun _ held => ?_) fun hs => ?_) (orderly_lanesOff ..)
      · exact held (by rw [hstate]; decide)
      · exact (not_stopped_of_mayWork hwork hs).elim

theorem orderly_readyLane (g : GarmentId) (k : Nat) (s : State) (c : Fin 6) : Orderly s (readyLane g k s c) := .of_frame

theorem orderly_startSwath {u : Printer} {s : State} (h : swathDue s u = true) : Orderly s (startSwath u s) := by
  simp only [swathDue, Bool.and_eq_true, beq_iff_eq] at h
  obtain ⟨hstate, -⟩ := h
  unfold startSwath
  split
  · exact .refl s
  · next j _ =>
    have lanes := Orderly.foldl (orderly_readyLane j.garment (unitAt s u).swath) (unitAt s u).active s
    have unit : unitAt ((unitAt s u).active.foldl (readyLane j.garment (unitAt s u).swath) s) u = unitAt s u := by
      simp [unitAt]
    have command := lanes.trans (orderly_putUnit (u := u)
      (p := commandUnit s (swathPasses s j.garment (unitAt s u)) (unitAt s u))
      (fun _ held => by rw [unit] at held; exact held (by rw [hstate]; decide))
      fun _ hidle => by rw [unit, hstate] at hidle; cases hidle)
    exact .ite (fun _ => command.trans (orderly_printCut ..)) fun _ => command.trans (orderly_handIn ..)

theorem orderly_endBand (c : Fin 6) (s : State) : Orderly s (endBand c s) := by
  unfold endBand
  split
  · split
    · exact .refl s
    · exact Orderly.trans .of_frame (orderly_stepPass ..)
  · exact .refl s
  · exact .refl s

theorem orderly_startExposure {s : State} (h : exposureDue s = true) : Orderly s (startExposure s) := by
  simp only [exposureDue, Bool.and_eq_true, beq_iff_eq] at h
  obtain ⟨hstate, hwork⟩ := h
  have hmode := not_stopped_of_mayWork hwork
  have heating : Orderly s (s.setFlash (heatingUnit s)) :=
    orderly_setFlash (fun _ held => held (by rw [hstate]; decide)) fun hs => (hmode hs).elim
  exact .ite (fun _ => heating.trans (orderly_flashCut (s := s.setFlash (heatingUnit s)) (fun hs => (hmode hs).elim) _)) fun _ =>
    heating.trans (orderly_handIn ..)

theorem orderly_flashTick {s : State} (h : flashTickDue s = true) : Orderly s (flashTick s) := by
  simp only [flashTickDue, Bool.and_eq_true, beq_iff_eq] at h
  obtain ⟨hstate, -⟩ := h
  unfold flashTick
  split
  · exact .refl s
  · next j _ =>
    have credited := (orderly_setFlash_of_eq (s := s) (v := tickedFlash s)).trans
      (orderly_changeGarment j.garment.index (flashCredited (s.setFlash (tickedFlash s)) (yielded (tickedFlash s).source)) _)
    refine .ite (fun _ => credited.trans (orderly_flashDone ?_)) fun _ => credited.trans (orderly_askSample _)
    simp [exposureInFlight, tickedFlash, hstate]

theorem orderly_setNextTick (s : State) : Orderly s (setNextTick s) := orderly_setDryer

theorem orderly_dryerTick (s : State) : Orderly s (dryerTick s) :=
  ((((((orderly_setNextTick s).trans (.foldl orderly_tickZone allZones _)).trans (orderly_tickReadiness _)).trans
    (orderly_stepBelt ..)).trans (orderly_advance ..)).trans (orderly_testOverdue _)).trans (orderly_askReads ..)

/-! ## Fetches -/

theorem orderly_startFetch (s : State) : Orderly s (startFetch s) := by
  unfold startFetch
  split
  · exact Orderly.trans .of_frame (orderly_askPort ..)
  · exact .refl s
  · exact .refl s

theorem orderly_stopFetch (f : Fetch) (s : State) : Orderly s (stopFetch f s) := .of_frame

theorem orderly_faultFetch (f : Fetch) (fault : ChainFault) (tag : Nat) (s : State) : Orderly s (faultFetch f fault tag s) := by
  unfold faultFetch
  split
  · exact .of_frame
  · exact Orderly.trans .of_frame (orderly_chainFaulted ..)

theorem orderly_acceptDescriptor (f : Fetch) (g : GarmentId) (d : Descriptor) (s : State) :
    Orderly s (acceptDescriptor f g d s) := Orderly.trans .of_frame (orderly_askPort ..)

theorem orderly_fetchDescriptor (r : ReadResult) (s : State) : Orderly s (fetchDescriptor r s) := by
  unfold fetchDescriptor
  split
  · exact .refl s
  · refine .ite (fun _ => orderly_stopFetch ..) fun _ => ?_
    cases r with
    | error => exact orderly_faultFetch ..
    | data bytes =>
      simp only [judgeDescriptor]
      split
      · exact .of_frame
      · split
        · exact orderly_faultFetch ..
        · exact orderly_acceptDescriptor ..

theorem orderly_storeBurst (b : Fin 8) (i : Nat) (bytes : List Byte) (s : State) : Orderly s (storeBurst b i bytes s) :=
  orderly_setStaging (Memory.wf_writeAll _ _ _)

theorem orderly_stageBand (f : Fetch) (d : Descriptor) (s : State) : Orderly s (stageBand f d s) := .of_frame

theorem orderly_putFetch (f : Option Fetch) (s : State) : Orderly s (putFetch f s) := .of_frame

theorem orderly_burstStored (f : Fetch) (d : Descriptor) (i : Nat) (bytes : List Byte) (s : State) :
    Orderly s (burstStored f d i bytes s) :=
  .ite (fun _ => (orderly_storeBurst ..).trans (orderly_stageBand ..)) fun _ =>
    ((orderly_storeBurst ..).trans (orderly_putFetch ..)).trans (orderly_askPort ..)

theorem orderly_fetchBurst (r : ReadResult) (s : State) : Orderly s (fetchBurst r s) := by
  unfold fetchBurst
  split
  · exact .refl s
  · split
    · exact .refl s
    · refine .ite (fun _ => orderly_stopFetch ..) fun _ => ?_
      cases r with
      | error => exact orderly_faultFetch ..
      | data bytes => exact orderly_burstStored ..

/-! ## Timeouts -/

theorem orderly_expireTransfer (g : Fin 32) (s : State) : Orderly s (expireTransfer g s) :=
  ((orderly_setDryer (transfer := (List.length_filter_le ..).trans)).trans (orderly_failOp ..)).trans (orderly_deleteGarment ..)

/-! ## Mode requests -/

theorem orderly_setRefused (v : Bool) (s : State) : Orderly s (setRefused v s) := orderly_setCtl

theorem orderly_dropReading (s : State) : Orderly s (dropReading s) :=
  .ite (fun _ => Orderly.trans orderly_setCtl orderly_setExch) fun _ => .refl s

theorem orderly_newRequest (s : State) : Orderly s (newRequest s) := (orderly_setRefused ..).trans (orderly_dropReading _)

theorem orderly_askRun (s : State) : Orderly s (askRun s) :=
  .ite (fun _ => .refl s) fun _ => .ite (fun _ => Orderly.trans orderly_setCtl orderly_setExch) fun _ => orderly_refuseRun ..

theorem orderly_runByMode (s : State) : Orderly s (runByMode s) := by
  unfold runByMode
  split
  · exact orderly_refuseRun ..
  · exact .refl s
  · exact .refl s
  · exact orderly_askRun s
  · exact orderly_askRun s

theorem orderly_addHost (s : State) : Orderly s (addHost s) := orderly_holdWith ..

theorem orderly_dropPendingRun (s : State) : Orderly s (dropPendingRun s) := .ite (fun _ => orderly_setCtl) fun _ => .refl s

theorem orderly_holdByMode (s : State) : Orderly s (holdByMode s) := by
  unfold holdByMode
  split
  · exact orderly_addHost s
  · exact orderly_addHost s
  · exact (orderly_addHost s).trans (orderly_dropPendingRun _)
  · exact orderly_setRefused ..
  · exact orderly_setRefused ..

theorem orderly_setDrain (s : State) : Orderly s (setDrain s) := orderly_setCtl

theorem orderly_toIdle (s : State) : Orderly s (toIdle s) := orderly_changeLine (fun h => by cases h) _

theorem orderly_idleByMode (s : State) : Orderly s (idleByMode s) := by
  have held := (orderly_addHost s).trans (orderly_setDrain _)
  unfold idleByMode
  split
  · exact .ite (fun _ => orderly_toIdle s) fun _ => held
  · exact held
  · exact held.trans (orderly_dropPendingRun _)
  · exact .refl s
  · exact orderly_setRefused ..

/-! ## The snapshot read of a RUN request -/

theorem orderly_setCatalog (v : Option (Tbl 64 CatalogEntry)) (s : State) : Orderly s (s.setCatalog v) := .of_rest rfl

/-- The snapshots of a RUN request are taken. -/
def runTaken (bytes : List Byte) (s : State) : State :=
  (s.setConfig (parseConfig (bytes.take headerConfigBytes))).setCatalog (some (parseCatalog (bytes.drop headerConfigBytes)))

theorem takeRun_eq (bytes : List Byte) (s : State) :
    takeRun bytes s = putCommands
      (runList (takeSettings (runTaken bytes s).config.link (takeEnables (runTaken bytes s).config.enables (runTaken bytes s))))
      (takeSettings (runTaken bytes s).config.link (takeEnables (runTaken bytes s).config.enables (runTaken bytes s))) := rfl

theorem orderly_takeRun (bytes : List Byte) (s : State) : Orderly s (takeRun bytes s) := by
  rw [takeRun_eq]
  have taken : Orderly s (runTaken bytes s) := (orderly_setConfig ..).trans (orderly_setCatalog ..)
  exact ((taken.trans (orderly_takeEnables ..)).trans (orderly_takeSettings ..)).trans (orderly_putCommands ..)

theorem orderly_pendRun (s : State) : Orderly s (pendRun s) := Orderly.trans orderly_setCtl (orderly_askHome _)

theorem orderly_answerHold (bytes : List Byte) (s : State) : Orderly s (answerHold bytes s) := by
  unfold answerHold
  split
  · exact (orderly_takeRun ..).trans (orderly_acceptRun _)
  · exact (orderly_takeRun ..).trans (orderly_pendRun _)
  · exact orderly_refuseRun ..

theorem orderly_passRun (bytes : List Byte) (s : State) : Orderly s (passRun bytes s) := by
  have cleared : Orderly s (clearConfig s) := orderly_setLine id _
  exact .ite (fun _ => cleared.trans (orderly_answerHold ..)) fun _ =>
    (cleared.trans (orderly_takeRun ..)).trans (orderly_acceptRun _)

theorem orderly_judgeRun (r : ReadResult) (s : State) : Orderly s (judgeRun r s) := by
  refine .ite (fun _ => ?_) fun _ => .refl s
  cases r with
  | error => exact orderly_refuseRun ..
  | data bytes =>
    simp only [checkRun]
    split
    · exact orderly_refuseRun ..
    · split
      · exact orderly_refuseRun ..
      · exact orderly_passRun ..

theorem orderly_snapshotEnds (dropped : Bool) (r : ReadResult) (s : State) : Orderly s (snapshotEnds dropped r s) :=
  .ite (fun _ => orderly_putActivity ..) fun _ => (orderly_putActivity ..).trans (orderly_judgeRun ..)

theorem orderly_snapshotOutcome (r : ReadResult) (s : State) : Orderly s (snapshotOutcome r s) := by
  unfold snapshotOutcome
  split
  · cases r with
    | error => exact orderly_snapshotEnds ..
    | data bytes =>
      exact .ite (fun _ => (orderly_putActivity ..).trans (orderly_askPort ..)) fun _ => orderly_snapshotEnds ..
  all_goals exact .refl s

/-! ## Reads and services of the exchange interface -/

theorem orderly_attachEnds (r : ReadResult) (s : State) : Orderly s (attachEnds r s) := by
  cases r with
  | error => exact (orderly_setAttach ..).trans (orderly_setMem _)
  | data hdr => exact orderly_attachRead ..

theorem orderly_headerWritten (r : WriteResult) (s : State) : Orderly s (headerWritten r s) := by
  cases r with
  | ok => exact orderly_setReports
  | error => exact Orderly.trans orderly_setReports (orderly_setMem _)

theorem orderly_serveNext {s : State} : Orderly s (serveNext s) := by
  refine .ite (fun _ => ?_) fun _ => ?_
  · exact (Orderly.trans orderly_setExch (orderly_putActivity ..)).trans (orderly_askPort ..)
  · split
    · next v rest hq =>
      have taken : Orderly s (s.setExch { s.exch with nudges := rest }) := orderly_setExch fun h => by
        rw [hq] at h
        exact (Nat.le_succ _).trans h
      refine taken.trans ?_
      unfold serveNudge
      split
      · exact orderly_beginLook ..
      · exact .ite (fun _ => orderly_beginRefill ..) fun _ => orderly_startSweep _
    · split
      · exact .refl s
      · unfold serveSweep
        split
        · exact orderly_beginRefill ..
        · split
          · exact orderly_endSweep s
          · exact orderly_beginLook ..

theorem orderly_lookOutcome (r : ReadResult) {f : Fin 128 → Bool → List Byte → State → State}
    (h : ∀ slot ofSweep bytes s, Orderly s (f slot ofSweep bytes s)) (s : State) : Orderly s (lookOutcome r f s) := by
  unfold lookOutcome
  split
  · cases r with
    | error => exact orderly_lookError ..
    | data bytes => exact h ..
  all_goals exact .refl s

theorem orderly_catalogRead (r : ReadResult) (s : State) : Orderly s (catalogRead r s) := by
  unfold catalogRead
  split
  · cases r with
    | error => exact orderly_lookError ..
    | data bytes => exact (orderly_takePost ..).trans (orderly_endActivity ..)
  all_goals exact .refl s

theorem orderly_refillEnds (r : ReadResult) (s : State) : Orderly s (refillEnds r s) := by
  have outcome : Orderly s (refillOutcome r s) := by
    cases r with
    | error => exact .ite (fun _ => .refl s) fun _ => (orderly_raise ..).trans orderly_setExch
    | data bytes => exact Orderly.trans orderly_setExch (orderly_takeRefill ..)
  unfold refillEnds
  split
  · exact outcome.trans (orderly_endActivity ..)
  all_goals exact .refl s

/-! ## Registers and inputs -/

theorem orderly_exchBaseHiWrite (v : Word) {s t : State} (h : exec (.exchBaseHiWrite v) s = .next t) : Orderly s t := by
  cases h
  exact .ite (fun _ => Orderly.trans orderly_setExch (orderly_startAttach _)) fun _ => orderly_setExch

theorem orderly_postWrite (v : Word) {s t : State} (h : exec (.postWrite v) s = .next t) : Orderly s t := by
  cases h
  refine .ite (fun _ => .ite (fun hroom => ?_) fun _ => ?_) fun _ => .refl s
  · refine orderly_setExch fun _ => ?_
    simpa [Nat.succ_le_iff] using (Bool.and_eq_true_iff.mp hroom).2
  · exact .ite (fun _ => .refl s) fun _ => (orderly_raise ..).trans orderly_setExch

theorem orderly_setPins (v : Pins) (s : State) : Orderly s (s.setPins v) := .of_rest rfl

theorem orderly_setMonitor (m : Monitor) (s : State) : Orderly s (setMonitor m s) := orderly_setCtl

theorem orderly_leaveStopped (s : State) : Orderly s (leaveStopped s) := by
  have restarted (t : State) : Orderly t (restartEntries t) :=
    Orderly.trans (orderly_setDryer (transfer := by rw [List.length_map]; exact id))
      (orderly_setPack (queue := by rw [List.length_map]; exact id))
  exact ((orderly_setMonitor .clear s).trans (restarted _)).trans (orderly_moveLine (fun h => by cases h) _)

theorem orderly_putButton (b : Button) (u : ButtonUnit) (s : State) : Orderly s (putButton b u s) := .of_rest rfl

theorem orderly_releaseUnload (s : State) : Orderly s (releaseUnload s) := (orderly_setReleased ..).trans (orderly_setLamp ..)

theorem orderly_unloadTo (g : Fin 32) (d : Destination) (s : State) : Orderly s (unloadTo g d s) := by
  have deleted := (orderly_deleteGarment g s).trans (orderly_releaseUnload _)
  unfold unloadTo
  split
  · exact .ite (fun _ => (((orderly_appendTransfer ..).trans (orderly_changeGarment ..)).trans (orderly_emptyPlaten ..)).trans
      (orderly_releaseUnload _)) fun _ => .refl s
  · exact deleted
  · exact deleted

theorem orderly_pressed (b : Button) (s : State) : Orderly s (pressed b s) := by
  cases b with
  | loadGo => exact .ite (fun _ => orderly_setReleased ..) fun _ => .refl s
  | unloadGo =>
    refine .ite (fun _ => ?_) fun _ => .refl s
    split
    · exact .refl s
    · split
      · exact .refl s
      · exact orderly_unloadTo ..

theorem orderly_endDebounce (b : Button) (s : State) : Orderly s (endDebounce b s) := by
  unfold endDebounce
  split
  · exact .refl s
  · exact .ite (fun _ => orderly_putButton ..) fun _ =>
      .ite (fun _ => (orderly_putButton ..).trans (orderly_pressed ..)) fun _ => orderly_putButton ..
  · exact .ite (fun _ => orderly_putButton ..) fun _ => orderly_putButton ..

theorem orderly_putCapture (i : CaptureInput) (t : Option Clock) (s : State) : Orderly s (putCapture i t s) := .of_rest rfl

theorem orderly_capture (i : CaptureInput) (s : State) : Orderly s (capture i s) := by
  unfold capture
  split
  · exact orderly_putCapture ..
  · exact orderly_raise ..

theorem orderly_homeEdge (s : State) : Orderly s (homeEdge s) := by
  unfold homeEdge
  split
  · next h => exact orderly_setCarousel (fun hmap p q => hmap p q) fun _ hnone => by rw [h] at hnone; cases hnone
  · exact .refl s
  · exact .refl s

theorem orderly_beltEntryAt (edge : Clock) (s : State) : Orderly s (beltEntryAt edge s) := by
  refine .ite (fun room => ?_) fun _ => orderly_raise ..
  have grows (e : BeltEntry) : (s.dryer.belt ++ [e]).length ≤ Config.beltPlaces := by
    rw [List.length_append]
    exact room
  split
  · next e rest h =>
    have taken : Orderly s (s.setDryer { s.dryer with transfer := rest }) := orderly_setDryer (transfer := fun hs => by
      rw [h] at hs
      exact (Nat.le_succ _).trans hs)
    exact (taken.trans (orderly_setDryer (belt := fun _ => grows _))).trans (orderly_changeGarment ..)
  · exact Orderly.trans (orderly_setDryer (belt := fun _ => grows _)) (orderly_raise ..)

theorem orderly_beltExitAt (edge : Clock) (s : State) : Orderly s (beltExitAt edge s) := by
  unfold beltExitAt
  split
  · exact orderly_raise ..
  · next e rest h =>
    have taken : Orderly s (putBelt rest s) := orderly_setDryer (belt := fun hs => by
      rw [h] at hs
      exact (Nat.le_succ _).trans hs)
    split
    · exact taken.trans (orderly_raise ..)
    · exact taken.trans (orderly_exitToPack ..)

/-! ## Link times -/

theorem orderly_endRetry (p : RetryPlace) (s : State) : Orderly s (endRetry p s) := .of_frame

end Sys2Proof.Machine
end

section
/-! PROOFS. Every command but a reset, an ESTOP assertion and a SPRAY_ROW edge is orderly; a SPRAY_ROW edge is unless it arms channels on a stopped
line. -/

namespace Sys2Proof.Machine

-- Elaborated all at once, the proofs of this text start more threads than the check's memory limit lets it.
set_option Elab.async false

open Sys2Proof.Safety

/-! ## The forms of a command's answer -/

theorem orderly_whenDue {due : Bool} {f : State → State} {s t : State} (h : whenDue due f s = .next t)
    (hf : due = true → Orderly s (f s)) : Orderly s t := by
  rw [whenDue_eq_next.mp h]
  exact .ite hf fun _ => .refl s

theorem orderly_readDone {k : AccessKind} {r : ReadResult} {f : State → State} {s t : State} (h : readDone k r f s = .next t)
    (hf : ∀ s, Orderly s (f s)) : Orderly s t := by
  rcases readDone_cases k r f s with ⟨-, e⟩ | ⟨-, -, e⟩ | ⟨_, -, -, -, -, e⟩ | ⟨_, -, -, -, -, e⟩ | ⟨_, -, -, -, e⟩ <;>
    rw [e] at h <;> cases h
  · exact orderly_dropLate ..
  · exact .refl s
  · exact orderly_endAccess s
  · exact (orderly_endAccess s).trans (hf _)

theorem orderly_writeDone {k : AccessKind} {f : State → State} {s t : State} (h : writeDone k f s = .next t)
    (hf : ∀ s, Orderly s (f s)) : Orderly s t := by
  rcases writeDone_cases k f s with ⟨-, e⟩ | ⟨-, -, e⟩ | ⟨_, -, -, -, e⟩ | ⟨_, -, -, -, e⟩ <;> rw [e] at h <;> cases h
  · exact orderly_dropLate ..
  · exact .refl s
  · exact orderly_endAccess s
  · exact (orderly_endAccess s).trans (hf _)

theorem orderly_takeCapture {i : CaptureInput} {f : Clock → State → State} {s t : State} (h : takeCapture i f s = .next t)
    (hf : ∀ edge s, Orderly s (f edge s)) : Orderly s t := by
  rcases takeCapture_cases i f s with ⟨-, e⟩ | ⟨edge, -, e⟩ <;> rw [e] at h <;> cases h
  · exact .refl s
  · exact (orderly_putCapture ..).trans (hf ..)

/-! ## A row of spray -/

theorem orderly_noteOverlap (s : State) : Orderly s (noteOverlap s) := by
  unfold noteOverlap
  split
  · exact .refl s
  · exact .ite (fun _ => orderly_changeGarment ..) fun _ => .refl s

theorem orderly_countRow (row : Nat) (s : State) : Orderly s (countRow row s) := orderly_setPretreat_of_eq

theorem orderly_rowStart (s : State) : Orderly s (countRow (s.pretreat.row + 1) (closeValves (noteOverlap s))) :=
  ((orderly_noteOverlap s).trans (orderly_closeValves _)).trans (orderly_countRow ..)

theorem tidy_putValve (z : Fin 8) (v : Valve) (s : State) : Tidy s (putValve z v s) := .mk id id id id id id id id id

theorem tidy_armZone (edge : Clock) (row : Nat) (s : State) (z : Fin 8) : Tidy s (armZone edge row s z) := by
  rw [armZone_eq]
  split
  · exact .refl s
  · exact tidy_putValve ..

theorem Tidy.foldl {α : Type} {f : State → α → State} (h : ∀ s a, Tidy s (f s a)) (l : List α) (s : State) : Tidy s (l.foldl f s) := by
  induction l generalizing s with
  | nil => exact .refl s
  | cons a l ih => exact (h s a).trans (ih _)

theorem tidy_rowEdge (edge : Clock) (s : State) : Tidy s (rowEdge edge s) := by
  unfold rowEdge
  split
  · rw [nextRow_eq]
    exact (orderly_rowStart s).toTidy.trans (.foldl (tidy_armZone _ _) ..)
  · exact .refl s

/-- A pass in flight is no stopped line's, so its row arms no channel of one. -/
theorem orderly_rowEdge (edge : Clock) {s : State} (h : s.ctl.mode = .stopped → passInFlight s = false) :
    Orderly s (rowEdge edge s) := by
  refine .ite (fun row => ?_) fun _ => .refl s
  have running : s.ctl.mode ≠ .stopped := fun hs => by
    have := h hs
    rw [passInFlight, row.1] at this
    cases this
  rw [nextRow_eq]
  have start := orderly_rowStart s
  generalize countRow (s.pretreat.row + 1) (closeValves (noteOverlap s)) = u at start
  induction allValves generalizing u with
  | nil => exact start
  | cons z l ih =>
    refine ih _ (start.trans ?_)
    rw [armZone_eq]
    exact .ite (fun _ => .refl u) fun _ => orderly_putValve fun hs => (running (start.stopped hs).1).elim

/-! ## The commands -/

/-- The commands that move nothing on any line: all but the resets, an ESTOP assertion and a SPRAY_ROW edge. -/
def calmCommand : Instr → Bool
  | .powerReset | .pinReset | .softReset | .estopAssertion | .sprayRowEdge => false
  | _ => true

theorem orderly_exec {c : Instr} {s t : State} (hc : calmCommand c = true) (h : exec c s = .next t) : Orderly s t := by
  cases c with
  | powerReset | pinReset | softReset | estopAssertion | sprayRowEdge => cases hc
  | interruptEnable enable => cases h; exact orderly_setExch
  | memClear => cases h; exact orderly_setExch
  | runRequest => cases h; exact (orderly_newRequest s).trans (orderly_runByMode _)
  | holdRequest => cases h; exact (orderly_newRequest s).trans (orderly_holdByMode _)
  | idleRequest => cases h; exact (orderly_newRequest s).trans (orderly_idleByMode _)
  | exchBaseHiWrite value => exact orderly_exchBaseHiWrite value h
  | postWrite value => exact orderly_postWrite value h
  | seqAckWrite value => cases h; exact orderly_setExch
  | registerWrite offset value => cases h; exact .ite (fun _ => orderly_setExch) fun _ => .refl s
  | estopDeassertion =>
    cases h
    exact .ite (fun _ => (orderly_setPins ..).trans (orderly_setMonitor ..)) fun _ => orderly_setPins ..
  | estopReleaseTimePasses => exact orderly_whenDue h fun _ => orderly_leaveStopped s
  | buttonInputChange button pressed =>
    cases h
    exact .ite (fun _ => .refl s) fun _ => (orderly_setPins ..).trans (orderly_putButton ..)
  | buttonDebounceTimePasses button => exact orderly_whenDue h fun _ => orderly_endDebounce ..
  | captureEdge input edge =>
    cases h
    exact .ite (fun _ => (orderly_setPins ..).trans (orderly_capture ..)) fun _ => orderly_setPins ..
  | indexHomeEdge => exact orderly_takeCapture h fun _ => orderly_homeEdge
  | beltEntryEdge => exact orderly_takeCapture h orderly_beltEntryAt
  | beltExitEdge => exact orderly_takeCapture h orderly_beltExitAt
  | attentionLineChange line high => cases h; exact orderly_setPins ..
  | linkChoice => exact orderly_whenDue h fun _ => orderly_makeChoice s
  | tryAccept frame => cases h; exact orderly_endTry ..
  | tryDecline frame => cases h; exact orderly_endTry ..
  | trySilence frame => cases h; exact orderly_endTry ..
  | retryTimeDue place => exact orderly_whenDue h fun _ => orderly_endRetry place s
  | probeDue role => exact orderly_whenDue h fun _ => orderly_putModule ..
  | declineHoldPasses line => exact orderly_whenDue h fun _ => .of_frame
  | indexStart => exact orderly_whenDue h orderly_startIndex
  | homeStart => exact orderly_whenDue h orderly_startHome
  | indexTimerExpiry => exact orderly_whenDue h fun _ => orderly_indexFault ..
  | passStart => exact orderly_whenDue h orderly_startPass
  | valveOpenTime valve => exact orderly_whenDue h fun _ => orderly_openValve ..
  | valveCloseTime valve =>
    exact orderly_whenDue (f := fun u => finishPass (closeOnTime valve u)) h fun _ => (orderly_closeOnTime ..).trans (orderly_finishPass _)
  | passGuardExpiry => exact orderly_whenDue h fun _ => orderly_passCut ..
  | pressCycleStart => exact orderly_whenDue h orderly_startCycle
  | pressGuardExpiry => exact orderly_whenDue h fun _ => orderly_pressCut ..
  | fetchStart => exact orderly_whenDue h fun _ => orderly_startFetch s
  | descriptorReadDone result => exact orderly_readDone h (orderly_fetchDescriptor result)
  | dataBurstDone result => exact orderly_readDone h (orderly_fetchBurst result)
  | printBegin unit => exact orderly_whenDue h orderly_beginPrint
  | swathStart unit => exact orderly_whenDue h orderly_startSwath
  | starveTimerExpiry unit => exact orderly_whenDue h fun _ => orderly_printCut ..
  | bandEmissionDone channel => exact orderly_whenDue h fun _ => orderly_endBand ..
  | swathGuardExpiry unit => exact orderly_whenDue h fun _ => orderly_printCut ..
  | exposureStart => exact orderly_whenDue h orderly_startExposure
  | flashPeriodTick => exact orderly_whenDue h orderly_flashTick
  | flashLimitExpiry =>
    exact orderly_whenDue h fun due =>
      orderly_flashCut (fun _ => exposureInFlight_of_limitedState (Bool.and_eq_true_iff.mp due).1) 0
  | dryerPeriodTick => exact orderly_whenDue h fun _ => orderly_dryerTick s
  | transferTimeout garment => exact orderly_whenDue h fun _ => orderly_expireTransfer ..
  | packTimeout garment => exact orderly_whenDue h fun _ => orderly_packMissing ..
  | drainEnd => exact orderly_whenDue h fun _ => orderly_toIdle s
  | warmupTimerExpiry => exact orderly_whenDue h fun _ => orderly_holdWith ..
  | snapshotReadDone result => exact orderly_readDone h (orderly_snapshotOutcome result)
  | attachReadDone result => exact orderly_readDone h (orderly_attachEnds result)
  | attachHeaderWriteDone result => exact orderly_writeDone h (orderly_headerWritten result)
  | sweepTimerExpiry => exact orderly_whenDue h fun _ => Orderly.trans orderly_setExch (orderly_startSweep _)
  | exchServe => exact orderly_whenDue h fun _ => orderly_serveNext
  | handCountReadDone result => exact orderly_readDone h (orderly_lookOutcome result orderly_lookRead)
  | postingReadDone result => exact orderly_readDone h (orderly_lookOutcome result orderly_postRead)
  | catalogReadDone result => exact orderly_readDone h (orderly_catalogRead result)
  | recoveryReadDone result => exact orderly_readDone h (orderly_lookOutcome result orderly_recoveryRead)
  | refillReadDone result => exact orderly_readDone h (orderly_refillEnds result)
  | reportStart => exact orderly_whenDue h fun _ => orderly_startReport s
  | reportWriteDone result => exact orderly_writeDone h (orderly_endReport result)

end Sys2Proof.Machine
end

section
/-! PROOFS. The commands that are not orderly, and the invariants: an ESTOP assertion enters STOPPED and stills each block, and a reset returns all to
rest. -/

namespace Sys2Proof.Machine

-- Elaborated all at once, the proofs of this text start more threads than the check's memory limit lets it.
set_option Elab.async false

open Sys2Proof.Safety

/-! ## The line enters STOPPED -/

theorem tidy_setCtl (v : LineCtl) (s : State) : Tidy s (s.setCtl v) := .mk id id id id id id id id id

theorem tidy_setLine (m : Mode) (c : Causes) (s : State) : Tidy s (setLine m c s) := by
  unfold setLine
  split
  · exact .refl s
  · exact (tidy_setCtl ..).trans (orderly_raise ..).toTidy

theorem unitsHeld_setLine {s : State} (h : UnitsHeld s) (m : Mode) (c : Causes) : UnitsHeld (setLine m c s) := by
  unfold setLine
  split
  · exact h
  · exact (orderly_raise ..).units ⟨h.pretreat, h.press, h.prints, h.flash⟩

theorem orderly_stoppedLine (c : Causes) (s : State) : Orderly (setLine .stopped c s) (moveLine .stopped c s) := by
  unfold moveLine changeLine
  split
  · exact orderly_followModules _
  · exact (orderly_enterStopped _).trans (orderly_followModules _)

theorem orderly_estopRequest (s : State) : Orderly s (estopRequest s) := by
  unfold estopRequest
  split
  · exact .refl s
  · exact (orderly_dropReading s).trans (orderly_setRefused ..)
  · exact (orderly_dropPendingRun s).trans (orderly_setRefused ..)

theorem orderly_clearFlags (s : State) : Orderly s (s.setCtl { s.ctl with warm := false, drain := false }) := orderly_setCtl

theorem orderly_estopLine (s : State) : Orderly (setLine .stopped s.ctl.causes s) (estopLine s) :=
  (((orderly_stoppedLine ..).trans (orderly_clearFlags _)).trans (orderly_estopRequest _)).trans (orderly_putCommands ..)

theorem tidy_estopLine (s : State) : Tidy s (estopLine s) := (tidy_setLine ..).trans (orderly_estopLine s).toTidy

theorem unitsHeld_estopLine {s : State} (h : UnitsHeld s) : UnitsHeld (estopLine s) :=
  (orderly_estopLine s).units (unitsHeld_setLine h ..)

/-! ## Each block's e-stop, by what is in flight -/

theorem estopPass_of_rest {s : State} (h : passInFlight s = false) : estopPass s = s := by
  simp only [estopPass, h]
  split <;> rfl

theorem estopPass_of_flight {s : State} {j : Job} (hj : s.pretreat.job = some j) (h : passInFlight s = true) :
    estopPass s =
      releaseStation .pretreat j.platen (failOp j.garment .cutByStop (markPretreat j.garment .cut (idlePretreat s))) := by
  simp only [estopPass, hj, h, if_pos]

theorem estopCycle_of_rest {s : State} (h : cycleInFlight s = false) : estopCycle s = s := by
  simp only [estopCycle, h]
  split <;> rfl

theorem estopCycle_of_flight {s : State} {j : Job} (hj : s.press.job = some j) (h : cycleInFlight s = true) :
    estopCycle s = skipPress j 6 s := by
  simp only [estopCycle, hj, h, if_pos]

/-- A print unit back in ARRIVED for its garment. -/
def arrivedUnit (j : PrintJob) : PrintUnit := { PrintUnit.reset with state := .arrived, job := some j }

theorem estopPrint_of_rest {u : Printer} {s : State} (h : begunState (unitAt s u).state = false) : estopPrint u s = s := by
  simp only [estopPrint, h]
  split <;> rfl

theorem estopPrint_of_begun {u : Printer} {s : State} {j : PrintJob} (hj : (unitAt s u).job = some j)
    (h : begunState (unitAt s u).state = true) :
    estopPrint u s =
      if (unitAt s u).state = .waiting ∧ (unitAt s u).swath ≤ 1 then putUnit u (arrivedUnit j) s else estopCut u j s := by
  simp only [estopPrint, hj, h, if_pos]
  rfl

theorem estopFlash_of_rest {s : State} (h : exposureInFlight s = false) : estopFlash s = s := by
  unfold estopFlash
  split
  · rfl
  · split
    · next hstate => simp [exposureInFlight, hstate] at h
    · next hstate => simp [exposureInFlight, hstate] at h
    · next hstate => simp [exposureInFlight, hstate] at h
    · rfl
    · rfl

/-- The exposure of a garment is cut by e-stop. -/
def cutExposure (j : PrintJob) (s : State) : State :=
  withdrawTxn .flash
    (releaseStation .flash j.platen (failOp j.garment.index .cutByStop (idleFlash (markFlash j.garment.index .cut s))))

theorem estopFlash_of_flight {s : State} {j : PrintJob} (hj : s.flash.job = some j) (h : exposureInFlight s = true) :
    estopFlash s = if s.flash.state = .ending then leaveFlash j s else cutExposure j s := by
  cases hstate : s.flash.state <;> simp [exposureInFlight, hstate] at h <;> simp only [estopFlash, hj, hstate] <;> rfl

/-! ## Each block's e-stop is orderly and ends the block's motion -/

theorem Calm.stays {s t : State} (h : Calm s t) (ht : t.ctl.mode = .stopped) {m : Motion} (hm : moves s m = false) :
    moves t m = false := (h.stopped ht).2 m hm

theorem orderly_estopCarousel (s : State) : Orderly s (estopCarousel s) :=
  .ite (fun _ => ((orderly_endOp s).trans orderly_setCarousel_of_eq).trans (orderly_withdrawTxn ..)) fun _ => .refl s

theorem estopCarousel_stills (s : State) : moves (estopCarousel s) .carousel = false := by
  unfold estopCarousel
  split
  · simp [moves, opInFlight, endOp]
  · next h => simpa [moves] using h

/-- The unit is IDLE first; the garment and its platen follow. -/
theorem orderly_passStopped (j : Job) (s : State) :
    Orderly (idlePretreat s)
      (releaseStation .pretreat j.platen (failOp j.garment .cutByStop (markPretreat j.garment .cut (idlePretreat s)))) :=
  ((orderly_changeGarment ..).trans (orderly_failOp ..)).trans (orderly_releaseStation ..)

theorem orderly_estopPass (s : State) : Orderly s (estopPass s) := by
  unfold estopPass
  split
  · exact .refl s
  · exact .ite (fun _ => (orderly_idlePretreat s).trans (orderly_passStopped ..)) fun _ => .refl s

theorem orderly_estopPretreat (s : State) : Orderly s (estopPretreat s) :=
  ((orderly_closeValves s).trans (orderly_estopPass _)).trans (orderly_withdrawTxn ..)

theorem estopPass_stills {s : State} (held : s.pretreat.state ≠ .idle → s.pretreat.job.isSome)
    (hmode : (estopPass s).ctl.mode = .stopped) : moves (estopPass s) .pass = false := by
  cases hflight : passInFlight s with
  | false => rw [estopPass_of_rest hflight]; exact hflight
  | true =>
    obtain ⟨j, hj⟩ := Option.isSome_iff_exists.mp (held fun hidle => by simp [passInFlight, hidle] at hflight)
    rw [estopPass_of_flight hj hflight] at hmode ⊢
    exact (orderly_passStopped j s).stays hmode (m := .pass) rfl

theorem estopPretreat_stills {s : State} (held : UnitsHeld s) (hmode : (estopPretreat s).ctl.mode = .stopped) :
    moves (estopPretreat s) .pass = false ∧ moves (estopPretreat s) .valves = false := by
  have withdrawn : Orderly (estopPass (closeValves s)) (estopPretreat s) := orderly_withdrawTxn ..
  have passed := orderly_estopPass (closeValves s)
  have passMode := (withdrawn.stopped hmode).1
  have heldClosed := (orderly_closeValves s).units held
  have closed : moves (closeValves s) .valves = false := (anyValve_eq_false_iff _).mpr fun z => by
    rw [valveAt_closeValves]
    rfl
  exact ⟨withdrawn.stays hmode (estopPass_stills heldClosed.pretreat passMode), (passed.trans withdrawn).stays hmode closed⟩

theorem orderly_estopCycle (s : State) : Orderly s (estopCycle s) := by
  unfold estopCycle
  split
  · exact .refl s
  · exact .ite (fun _ => orderly_skipPress ..) fun _ => .refl s

theorem orderly_estopPress (s : State) : Orderly s (estopPress s) := (orderly_estopCycle s).trans (orderly_withdrawTxn ..)

theorem orderly_pressStopped (j : Job) (s : State) :
    Orderly (idlePress (changeGarment j.garment (fun r => { r with press := .cut }) s)) (skipPress j 6 s) :=
  (orderly_raisePressSkipped ..).trans (orderly_releaseStation ..)

theorem estopPress_stills {s : State} (held : UnitsHeld s) (hmode : (estopPress s).ctl.mode = .stopped) :
    moves (estopPress s) .cycle = false := by
  have withdrawn : Orderly (estopCycle s) (estopPress s) := orderly_withdrawTxn ..
  have cycleMode := (withdrawn.stopped hmode).1
  refine withdrawn.stays hmode ?_
  cases hflight : cycleInFlight s with
  | false => rw [estopCycle_of_rest hflight]; exact hflight
  | true =>
    obtain ⟨j, hj⟩ := Option.isSome_iff_exists.mp (held.press fun hidle => by simp [cycleInFlight, hidle] at hflight)
    rw [estopCycle_of_flight hj hflight] at cycleMode ⊢
    exact (orderly_pressStopped j s).stays cycleMode (m := .cycle) rfl

theorem orderly_backToArrived (u : Printer) (j : PrintJob) (s : State) : Orderly s (putUnit u (arrivedUnit j) s) :=
  orderly_putUnit (fun _ _ => rfl) fun _ _ => rfl

theorem orderly_printStopped (u : Printer) (j : PrintJob) (s : State) : Orderly (haltPrint u j s) (estopCut u j s) :=
  ((orderly_dropPrint ..).trans (orderly_releaseStation ..)).trans (orderly_withdrawTxn ..)

theorem orderly_estopPrint (u : Printer) (s : State) : Orderly s (estopPrint u s) := by
  unfold estopPrint
  dsimp only
  split
  · exact .refl s
  · exact .ite (fun _ => .ite (fun _ => orderly_backToArrived ..) fun _ =>
      (orderly_haltPrint ..).trans (orderly_printStopped ..)) fun _ => .refl s

theorem estopPrint_stills {u : Printer} {s : State} (held : UnitsHeld s) (hmode : (estopPrint u s).ctl.mode = .stopped) :
    moves (estopPrint u s) (.print u) = false := by
  cases hbegun : begunState (unitAt s u).state with
  | false => rw [estopPrint_of_rest hbegun]; exact hbegun
  | true =>
    obtain ⟨j, hj⟩ := Option.isSome_iff_exists.mp (held.prints u fun hidle => by simp [begunState, hidle] at hbegun)
    rw [estopPrint_of_begun hj hbegun] at hmode ⊢
    split
    · simp [moves, begunState, arrivedUnit]
    · next hstarted =>
      rw [if_neg hstarted] at hmode
      refine (orderly_printStopped u j s).stays hmode ?_
      simp [moves, haltPrint, idleUnit, begunState, PrintUnit.reset]

theorem orderly_exposureStopped (j : PrintJob) (s : State) :
    Orderly (idleFlash (markFlash j.garment.index .cut s)) (cutExposure j s) :=
  ((orderly_failOp ..).trans (orderly_releaseStation ..)).trans (orderly_withdrawTxn ..)

theorem orderly_cutExposure (j : PrintJob) (s : State) : Orderly s (cutExposure j s) :=
  ((orderly_changeGarment ..).trans (orderly_idleFlash _)).trans (orderly_exposureStopped j s)

theorem orderly_estopFlash (s : State) : Orderly s (estopFlash s) := by
  unfold estopFlash
  split
  · exact .refl s
  · split
    · exact orderly_cutExposure ..
    · exact orderly_cutExposure ..
    · exact orderly_leaveFlash ..
    · exact .refl s
    · exact .refl s

theorem estopFlash_stills {s : State} (held : UnitsHeld s) (hmode : (estopFlash s).ctl.mode = .stopped) :
    moves (estopFlash s) .exposure = false := by
  cases hflight : exposureInFlight s with
  | false => rw [estopFlash_of_rest hflight]; exact hflight
  | true =>
    obtain ⟨j, hj⟩ := Option.isSome_iff_exists.mp (held.flash fun hidle => by simp [exposureInFlight, hidle] at hflight)
    rw [estopFlash_of_flight hj hflight] at hmode ⊢
    split
    · rfl
    · next hheat =>
      rw [if_neg hheat] at hmode
      exact (orderly_exposureStopped j s).stays hmode (m := .exposure) rfl

theorem orderly_estopBlocks (s : State) : Orderly s (estopBlocks s) :=
  (((((orderly_estopCarousel s).trans (orderly_estopPretreat _)).trans (orderly_estopPress _)).trans
    (orderly_estopPrint .white _)).trans (orderly_estopPrint .color _)).trans (orderly_estopFlash _)

/-- After every block's e-stop a stopped line is still. -/
theorem estopBlocks_still {s : State} (held : UnitsHeld s) (hmode : (estopBlocks s).ctl.mode = .stopped) :
    Still (estopBlocks s) := by
  unfold estopBlocks at hmode ⊢
  have carousel := orderly_estopCarousel s
  have pretreat := orderly_estopPretreat (estopCarousel s)
  have press := orderly_estopPress (estopPretreat (estopCarousel s))
  have white := orderly_estopPrint .white (estopPress (estopPretreat (estopCarousel s)))
  have color := orderly_estopPrint .color (estopPrint .white (estopPress (estopPretreat (estopCarousel s))))
  have afterColor := orderly_estopFlash (estopPrint .color (estopPrint .white (estopPress (estopPretreat (estopCarousel s)))))
  have afterWhite := color.trans afterColor
  have afterPress := white.trans afterWhite
  have afterPretreat := press.trans afterPress
  have afterCarousel := pretreat.trans afterPretreat
  have heldPretreat := carousel.units held
  have heldPress := pretreat.units heldPretreat
  have heldWhite := press.units heldPress
  have heldColor := white.units heldWhite
  have sprayed := estopPretreat_stills heldPretreat (afterPretreat.stopped hmode).1
  rw [still_iff]
  intro m
  cases m with
  | carousel => exact afterCarousel.stays hmode (estopCarousel_stills s)
  | pass => exact afterPretreat.stays hmode sprayed.1
  | valves => exact afterPretreat.stays hmode sprayed.2
  | cycle => exact afterPress.stays hmode (estopPress_stills heldPress (afterPress.stopped hmode).1)
  | print u =>
    cases u with
    | white => exact afterWhite.stays hmode (estopPrint_stills heldWhite (afterWhite.stopped hmode).1)
    | color => exact afterColor.stays hmode (estopPrint_stills heldColor (afterColor.stopped hmode).1)
  | exposure => exact estopFlash_stills (color.units heldColor) hmode

theorem orderly_asserted (s : State) : Orderly s (setMonitor .asserted (setEstopPin true s)) :=
  (orderly_setPins ..).trans (orderly_setMonitor ..)

theorem tidy_estopAssertion {s t : State} (h : exec .estopAssertion s = .next t) : Tidy s t := by
  cases h
  split
  · exact (orderly_asserted s).toTidy
  · exact ((orderly_asserted s).toTidy.trans (tidy_estopLine _)).trans (orderly_estopBlocks _).toTidy

theorem estopSafe_estopAssertion {s t : State} (hs : EstopSafe s) (h : exec .estopAssertion s = .next t) : EstopSafe t := by
  cases h
  split
  · exact estopSafe_of_calm (orderly_asserted s).toCalm hs
  · have held := unitsHeld_estopLine ((orderly_asserted s).units hs.units)
    exact ⟨(orderly_estopBlocks _).units held, estopBlocks_still held⟩

/-! ## Resets -/

/-- Every unit is IDLE, and nothing moves. -/
theorem estopSafe_resetPart (cause : ResetCause) (s : State) : EstopSafe (resetPart cause s) := by
  refine ⟨⟨fun h => (h rfl).elim, fun h => (h rfl).elim, fun u h => ?_, fun h => (h rfl).elim⟩, fun _ =>
    ⟨rfl, rfl, rfl, fun u => ?_, rfl, rfl⟩⟩ <;> cases u
  · exact (h rfl).elim
  · exact (h rfl).elim
  · rfl
  · rfl

theorem mapOneToOne_reset : MapOneToOne State.reset := by
  unfold MapOneToOne
  decide

theorem mapOneToOne_resetPart (cause : ResetCause) (s : State) : MapOneToOne (resetPart cause s) := mapOneToOne_reset

theorem Port.freed_waiting (p : Port) : p.freed.waiting = [] := by
  rw [Port.freed_eq]
  split <;> rfl

/-- A reset empties every table and frees the port. -/
theorem tidy_resetPart (cause : ResetCause) (s : State) : Tidy s (resetPart cause s) := by
  refine .mk ?_ ?_ ?_ ?_ ?_ ?_ (fun _ => mapOneToOne_resetPart cause s) (fun _ _ => Port.freed_waiting s.port) fun _ => rfl <;>
    exact fun _ => Nat.zero_le _

/-- A reset that keeps the staging bytes. -/
theorem tidy_keptStaging (cause : ResetCause) (s : State) : Tidy s ((resetPart cause s).setStaging s.staging) :=
  have fresh := tidy_resetPart cause s
  .mk fresh.incidents fresh.nudges fresh.transfer fresh.belt fresh.pack fresh.orders fresh.map fresh.port id

theorem estopSafe_keptStaging (cause : ResetCause) (s : State) : EstopSafe ((resetPart cause s).setStaging s.staging) :=
  have safe := estopSafe_resetPart cause s
  ⟨⟨safe.units.pretreat, safe.units.press, safe.units.prints, safe.units.flash⟩, fun h => (still_iff _).mpr fun m =>
    (still_iff _).mp (safe.still h) m⟩

theorem orderly_softKept (s : State) : Orderly ((resetPart .soft s).setStaging s.staging) (softResets s) := by
  have kept : Orderly ((resetPart .soft s).setStaging s.staging)
      (((resetPart .soft s).setStaging s.staging).setExch (keptExch s.exch)) := orderly_setExch fun _ => Nat.zero_le _
  exact .ite (fun _ => (kept.trans (orderly_setAttach ..)).trans (orderly_askAttach _)) fun _ => kept

/-! ## Every command and every step -/

theorem tidy_exec {c : Instr} {s t : State} (h : exec c s = .next t) : Tidy s t := by
  cases hc : calmCommand c with
  | true => exact (orderly_exec hc h).toTidy
  | false =>
    cases c with
    | powerReset => cases h; exact tidy_resetPart ..
    | pinReset => cases h; exact tidy_keptStaging ..
    | softReset => cases h; exact (tidy_keptStaging ..).trans (orderly_softKept s).toTidy
    | estopAssertion => exact tidy_estopAssertion h
    | sprayRowEdge =>
      rcases takeCapture_cases .sprayRow rowEdge s with ⟨-, e⟩ | ⟨edge, -, e⟩ <;> cases e.symm.trans h
      · exact .refl s
      · exact (orderly_putCapture ..).toTidy.trans (tidy_rowEdge ..)
    | _ => cases hc

theorem estopSafe_exec {c : Instr} {s t : State} (hs : EstopSafe s) (h : exec c s = .next t) : EstopSafe t := by
  cases hc : calmCommand c with
  | true => exact estopSafe_of_calm (orderly_exec hc h).toCalm hs
  | false =>
    cases c with
    | powerReset => cases h; exact estopSafe_resetPart ..
    | pinReset => cases h; exact estopSafe_keptStaging ..
    | softReset => cases h; exact estopSafe_of_calm (orderly_softKept s).toCalm (estopSafe_keptStaging ..)
    | estopAssertion => exact estopSafe_estopAssertion hs h
    | sprayRowEdge =>
      rcases takeCapture_cases .sprayRow rowEdge s with ⟨-, e⟩ | ⟨edge, -, e⟩ <;> cases e.symm.trans h
      · exact hs
      · have taken := estopSafe_of_calm (orderly_putCapture .sprayRow none s).toCalm hs
        exact estopSafe_of_calm (orderly_rowEdge edge fun hmode => (taken.still hmode).pass).toCalm taken
    | _ => cases hc

theorem orderly_setPending (rest : List Instr) (s : State) : Orderly s (s.setPending rest) := .of_rest rfl

/-- A step runs a command, from the state or from it with the queue's rest, or ticks the clock. -/
theorem step_cases {s t : State} (h : step s = .next t) :
    (∃ c u, Orderly s u ∧ exec c u = .next t) ∨ Orderly s t := by
  cases hq : s.pending with
  | cons c rest => exact .inl ⟨c, s.setPending rest, orderly_setPending .., (step_of_pending hq).symm.trans h⟩
  | nil =>
    rw [step_of_idle hq] at h
    unfold idleStep at h
    split at h
    · next c _ => exact .inl ⟨c, s, .refl s, h⟩
    · cases h
      exact .inr (.of_rest rfl)

theorem tidy_step {s t : State} (h : step s = .next t) : Tidy s t := by
  rcases step_cases h with ⟨c, u, hu, ht⟩ | ht
  · exact hu.toTidy.trans (tidy_exec ht)
  · exact ht.toTidy

/-- Settles O58, by an invariant that every command keeps. -/
theorem everyStepKeepsAStoppedLineStill : Obligations.EveryStepKeepsAStoppedLineStill := by
  intro s t hs h
  rcases step_cases h with ⟨c, u, hu, ht⟩ | ht
  · exact estopSafe_exec (estopSafe_of_calm hu.toCalm hs) ht
  · exact estopSafe_of_calm ht.toCalm hs

/-- Settles O59, by what every command does to the tables. -/
theorem everyStepKeepsTheTables : Obligations.EveryStepKeepsTheTables := fun _ _ h =>
  have tidy := tidy_step h
  ⟨bounded_of_tidy tidy, tidy.map, tidy.port, tidy.staging⟩

/-- Settles O57, field by field. -/
theorem resetMeetsTheInvariants : Obligations.ResetMeetsTheInvariants := by
  have safe : EstopSafe State.reset :=
    have safe := estopSafe_resetPart .power State.reset
    ⟨⟨safe.units.pretreat, safe.units.press, safe.units.prints, safe.units.flash⟩, fun h => by cases h⟩
  exact ⟨safe, ⟨Nat.zero_le _, Nat.zero_le _, Nat.zero_le _, Nat.zero_le _, Nat.zero_le _, Nat.zero_le _⟩, mapOneToOne_reset,
    fun _ => rfl, rfl⟩

end Sys2Proof.Machine
end

section
/-! PROOFS. The step and the queue, what no command touches, the answers of the commands, and the resets. -/

namespace Sys2Proof.Machine

-- Elaborated all at once, the proofs of this text start more threads than the check's memory limit lets it.
set_option Elab.async false

/-! ## The step -/

/-- Settles O1, by the definition of a step. -/
theorem stepRunsFrontCommand : Obligations.StepRunsFrontCommand := fun _ _ _ => rfl

theorem idleStep_of_own {s : State} {c : Instr} (h : nextOwn s = some c) : idleStep s = exec c s := by rw [idleStep, h]

theorem idleStep_of_none {s : State} (h : nextOwn s = none) : idleStep s = .next { s with clock := s.clock + 1 } := by
  rw [idleStep, h]
  rfl

/-- Settles O2, by the two branches of an idle step. -/
theorem idleStepTakesOwnEventOrTick : Obligations.IdleStepTakesOwnEventOrTick := fun _ hs =>
  ⟨fun _ h => (step_of_idle hs).trans (idleStep_of_own h), fun h => (step_of_idle hs).trans (idleStep_of_none h)⟩

/-! ## The queue and the clock -/

section
variable {α : Type} {φ : State → α} {f : State → State} {s t : State}

/-- What the effect of a command that waits for its event leaves, the command leaves. -/
theorem kept_whenDue {due : Bool} (h : whenDue due f s = .next t) (hf : φ (f s) = φ s := by simp) : φ t = φ s := by
  rw [whenDue_eq_next.mp h]
  split
  · exact hf
  · rfl

theorem kept_readDone {k : AccessKind} {r : ReadResult} (h : readDone k r f s = .next t) (hf : ∀ u, φ (f u) = φ u := by simp)
    (ended : φ (endAccess s) = φ s := by simp) (late : φ (dropLate k s) = φ s := by simp) : φ t = φ s := by
  rcases readDone_cases k r f s with ⟨-, e⟩ | ⟨-, -, e⟩ | ⟨_, -, -, -, -, e⟩ | ⟨_, -, -, -, -, e⟩ | ⟨_, -, -, -, e⟩ <;>
    cases e.symm.trans h
  · exact late
  · rfl
  · exact ended
  · exact (hf _).trans ended

theorem kept_writeDone {k : AccessKind} (h : writeDone k f s = .next t) (hf : ∀ u, φ (f u) = φ u := by simp)
    (ended : φ (endAccess s) = φ s := by simp) (late : φ (dropLate k s) = φ s := by simp) : φ t = φ s := by
  rcases writeDone_cases k f s with ⟨-, e⟩ | ⟨-, -, e⟩ | ⟨_, -, -, -, e⟩ | ⟨_, -, -, -, e⟩ <;> cases e.symm.trans h
  · exact late
  · rfl
  · exact ended
  · exact (hf _).trans ended

theorem kept_takeCapture {i : CaptureInput} {f : Clock → State → State} (h : takeCapture i f s = .next t)
    (hf : ∀ edge u, φ (f edge u) = φ u := by simp) (taken : φ (putCapture i none s) = φ s := by simp) : φ t = φ s := by
  rcases takeCapture_cases i f s with ⟨-, e⟩ | ⟨_, -, e⟩ <;> cases e.symm.trans h
  · rfl
  · exact (hf ..).trans taken

theorem kept_lookOutcome {f : Fin 128 → Bool → List Byte → State → State}
    (hf : ∀ slot ofSweep bytes u, φ (f slot ofSweep bytes u) = φ u := by simp)
    (failed : ∀ slot ofSweep, φ (lookError slot ofSweep s) = φ s := by simp) (r : ReadResult) : φ (lookOutcome r f s) = φ s := by
  unfold lookOutcome
  split
  · split
    · exact failed ..
    · exact hf ..
  all_goals rfl

/-- A command that is answered at once. -/
theorem kept_next {u : State} (h : Host.Outcome.next u = (.next t : Host.Outcome State Fault Refusal))
    (hu : φ u = φ s := by simp) : φ t = φ s := by
  cases h
  exact hu

end

/-- The queue of waiting commands, and the line clock. -/
def queueAndClock (s : State) : List Instr × Clock := (s.pending, s.clock)

theorem queueAndClock_eq {s t : State} (pending : t.pending = s.pending := by simp) (clock : t.clock = s.clock := by simp) :
    queueAndClock t = queueAndClock s := by rw [queueAndClock, pending, clock, ← queueAndClock]

/-- No command but a reset touches the queue or the clock. -/
theorem queueAndClock_exec {c : Instr} {s t : State} (hc : ¬(c = .powerReset ∨ c = .pinReset ∨ c = .softReset))
    (h : exec c s = .next t) : queueAndClock t = queueAndClock s := by
  cases c with
  | powerReset => exact (hc (.inl rfl)).elim
  | pinReset => exact (hc (.inr (.inl rfl))).elim
  | softReset => exact (hc (.inr (.inr rfl))).elim
  | interruptEnable | memClear | runRequest | holdRequest | idleRequest | seqAckWrite | attentionLineChange | tryAccept
  | tryDecline | trySilence => exact kept_next h queueAndClock_eq
  | exchBaseHiWrite | postWrite | registerWrite | estopAssertion | estopDeassertion | buttonInputChange | captureEdge =>
    refine kept_next h (queueAndClock_eq ?_ ?_) <;> (repeat' split) <;> simp
  | indexHomeEdge | sprayRowEdge | beltEntryEdge | beltExitEdge =>
    exact kept_takeCapture h (fun _ _ => queueAndClock_eq) queueAndClock_eq
  | descriptorReadDone | dataBurstDone | snapshotReadDone | attachReadDone | catalogReadDone | refillReadDone =>
    exact kept_readDone h (fun _ => queueAndClock_eq) queueAndClock_eq queueAndClock_eq
  | handCountReadDone | postingReadDone | recoveryReadDone =>
    exact kept_readDone h (fun _ => kept_lookOutcome (fun _ _ _ _ => queueAndClock_eq) (fun _ _ => queueAndClock_eq) _)
      queueAndClock_eq queueAndClock_eq
  | attachHeaderWriteDone | reportWriteDone =>
    exact kept_writeDone h (fun _ => queueAndClock_eq) queueAndClock_eq queueAndClock_eq
  | valveCloseTime valve => exact kept_whenDue (f := fun u => finishPass (closeOnTime valve u)) h queueAndClock_eq
  | _ => exact kept_whenDue h queueAndClock_eq

theorem softResets_time (s : State) : (softResets s).pending = s.pending ∧ (softResets s).clock = 0 := by
  unfold softResets
  split <;> simp [resetPart] <;> rfl

/-- Settles O3, by what each command leaves, and by the reset state's clock. -/
theorem commandsLeaveQueueAndClock : Obligations.CommandsLeaveQueueAndClock := by
  intro c s t h
  split
  · next hreset =>
    rcases hreset with rfl | rfl | rfl <;> cases h
    · exact ⟨rfl, rfl⟩
    · exact ⟨rfl, rfl⟩
    · exact softResets_time s
  · next hc =>
    exact Prod.mk.inj (queueAndClock_exec hc h)

/-! ## The answers -/

/-- The completion of a read is answered, or it faults with bytes that do not number what the access in progress asked for. -/
theorem readDone_answered (k : AccessKind) (r : ReadResult) (f : State → State) (s : State) :
    (∃ t, readDone k r f s = .next t) ∨
    (readDone k r f s = .fault .readLength ∧
      ∃ (a : Access) (bytes : List Byte), s.port.current = some a ∧ bytes.length ≠ a.length ∧ r = .data bytes) := by
  rcases readDone_cases k r f s with ⟨-, e⟩ | ⟨-, -, e⟩ | ⟨_, -, -, -, -, e⟩ | ⟨_, -, -, -, -, e⟩ | ⟨a, -, ha, hfits, e⟩
  · exact .inl ⟨_, e⟩
  · exact .inl ⟨_, e⟩
  · exact .inl ⟨_, e⟩
  · exact .inl ⟨_, e⟩
  · refine .inr ⟨e, a, ?_⟩
    cases r with
    | error => cases hfits
    | data bytes =>
      exact ⟨bytes, (inProgress_eq_some.mp ha).1, fun hlen => by simp [readFits, hlen] at hfits, rfl⟩

theorem writeDone_answered (k : AccessKind) (f : State → State) (s : State) : ∃ t, writeDone k f s = .next t := by
  rcases writeDone_cases k f s with ⟨-, e⟩ | ⟨-, -, e⟩ | ⟨_, -, -, -, e⟩ | ⟨_, -, -, -, e⟩ <;> exact ⟨_, e⟩

theorem takeCapture_answered (i : CaptureInput) (f : Clock → State → State) (s : State) : ∃ t, takeCapture i f s = .next t := by
  rcases takeCapture_cases i f s with ⟨-, e⟩ | ⟨_, -, e⟩ <;> exact ⟨_, e⟩

/-- Settles O4, by the form of each command's answer. -/
theorem everyCommandIsAnswered : Obligations.EveryCommandIsAnswered := by
  intro c s
  cases c with
  | descriptorReadDone r | dataBurstDone r | snapshotReadDone r | attachReadDone r | handCountReadDone r | postingReadDone r
  | catalogReadDone r | recoveryReadDone r | refillReadDone r =>
    refine (readDone_answered _ r _ s).imp_right fun ⟨hfault, a, bytes, ha, hlen, hr⟩ => ⟨hfault, a, bytes, ha, hlen, ?_⟩
    simp [hr]
  | attachHeaderWriteDone | reportWriteDone => exact .inl (writeDone_answered ..)
  | indexHomeEdge | sprayRowEdge | beltEntryEdge | beltExitEdge => exact .inl (takeCapture_answered ..)
  | _ => exact .inl ⟨_, rfl⟩

/-! ## Resets -/

theorem freed_eq_portAfterReset (s : State) : s.port.freed = Claims.portAfterReset s := by
  rw [Port.freed_eq, Claims.portAfterReset]
  cases s.port.current with
  | none => simp
  | some a => rfl

/-- The state a reset of a kind leaves, but for what the kinds treat differently. -/
theorem resetPart_eq (cause : ResetCause) (s : State) :
    resetPart cause s = { Claims.resetOf s with exch := { Exch.reset with cause := cause } } := by
  rw [resetPart, freed_eq_portAfterReset]
  cases h : s.pins.estop <;> simp only [Claims.resetOf, resetCtl, h] <;> rfl

theorem pinResets_eq (s : State) :
    pinResets s = { Claims.resetOf s with exch := { Exch.reset with cause := .pin }, staging := s.staging } := by
  rw [pinResets, resetPart_eq]
  rfl

/-- A soft reset before it attaches again. -/
theorem softKept_eq (s : State) :
    ((resetPart .soft s).setStaging s.staging).setExch (keptExch s.exch) =
      { Claims.resetOf s with exch := keptExch s.exch, staging := s.staging } := by
  rw [resetPart_eq]
  rfl

theorem softResets_of_unattached {s : State} (h : s.exch.base = none) :
    softResets s = { Claims.resetOf s with exch := keptExch s.exch, staging := s.staging } := by
  rw [softResets, softKept_eq, h]
  rfl

theorem softResets_of_base {s : State} {base : Addr} (h : s.exch.base = some base) :
    softResets s =
      { Claims.resetOf s with
        exch := { keptExch s.exch with attach := .reading }
        port :=
          { Claims.portAfterReset s with
            current := some { kind := .attach, discard := false, addr := base + 0x40, length := 960, writes := [] } }
        staging := s.staging } := by
  rw [softResets, softKept_eq, if_pos (Option.isSome_iff_exists.mpr ⟨base, h⟩)]
  simp only [askAttach, baseAddr, setAttach, setExch_exch, keptExch, h]
  rfl

theorem eachResetReturnsEveryBlock : Claims.EachResetReturnsEveryBlock := by
  refine fun s => ⟨congrArg _ (resetPart_eq .power s), congrArg _ (pinResets_eq s), fun hbase => ?_, fun base hbase => ?_⟩
  · rw [show exec .softReset s = .next (softResets s) from rfl, softResets_of_unattached hbase, keptExch, hbase]
    rfl
  · rw [show exec .softReset s = .next (softResets s) from rfl, softResets_of_base hbase, keptExch, hbase]

theorem readDone_of_late {k : AccessKind} {s : State} (h : k ∈ s.port.late) (r : ReadResult) (f : State → State) :
    readDone k r f s = .next (dropLate k s) := if_pos h

theorem writeDone_of_late {k : AccessKind} {s : State} (h : k ∈ s.port.late) (f : State → State) :
    writeDone k f s = .next (dropLate k s) := if_pos h

theorem lateOutcomesAreDiscarded : Claims.LateOutcomesAreDiscarded := by
  intro k s hk
  cases k with
  | report => exact fun _ _ => writeDone_of_late hk _
  | headerWrite => exact fun _ _ => writeDone_of_late hk _
  | _ => exact fun r => readDone_of_late hk r _

/-- Settles O5, from what the three resets and the completions of late accesses come to. -/
theorem resetsReturnEveryBlock : Obligations.ResetsReturnEveryBlock := ⟨eachResetReturnsEveryBlock, lateOutcomesAreDiscarded⟩

theorem lineAt_reset (i : Fin 128) : lineAt State.reset i = LineEntry.blank := Tbl.at_all ..

/-- Settles O6, field by field of the reset state. -/
theorem resetLeavesTheManualsValues : Obligations.ResetLeavesTheManualsValues := by
  have platens : ∀ p : Fin 12, platenAt State.reset p = p ∧
      platenOf State.reset p = { garment := none, enabled := true, pending := none } := by decide
  have banks : ∀ b : Fin 8, (bankAt State.reset b).state = .free := by decide
  have marks : ∀ i : Fin 128, Tbl.at State.reset.exch.recovery i = true ∧ Tbl.at State.reset.exch.faults i = false := fun i =>
    ⟨Tbl.at_all .., Tbl.at_all ..⟩
  exact ⟨rfl, rfl, rfl, rfl, rfl, rfl, rfl, rfl, rfl, fun i => by rw [lineAt_reset]; exact ⟨rfl, rfl⟩, fun g => Tbl.at_all ..,
    platens, rfl, rfl, banks, rfl, rfl, rfl, rfl, rfl, rfl, rfl, marks, rfl, rfl, rfl⟩

end Sys2Proof.Machine
end

section
/-! PROOFS. The register window, and the capture and attention inputs. -/

namespace Sys2Proof.Machine

-- Elaborated all at once, the proofs of this text start more threads than the check's memory limit lets it.
set_option Elab.async false

/-! ## LINE_CTRL -/

theorem low_bits_eq_iff (v : Word) (n : BitVec 2) : v.extractLsb' 0 2 = n ↔ v.toNat % 4 = n.toNat := by
  rw [← BitVec.toNat_inj, BitVec.extractLsb'_toNat, Nat.shiftRight_zero]

theorem lineCtrlWriteActsInOrder : Claims.LineCtrlWriteActsInOrder := by
  intro v
  simp only [registerWriteCommands, lineCtrlCommands, low_bits_eq_iff]
  rfl

/-! ## Plain register writes -/

theorem toNat_and_page (v : Word) : (v &&& 0xFFFFF000#32).toNat = v.toNat - v.toNat % 4096 := by
  have clear : v &&& 0xFFFFF000#32 = (v >>> 12) <<< 12 := by
    apply BitVec.eq_of_getLsbD_eq
    intro i hi
    have mask : (0xFFFFF000#32).getLsbD i = decide (12 ≤ i) := by
      revert i
      decide
    simp only [BitVec.getLsbD_and, mask, BitVec.getLsbD_shiftLeft, BitVec.getLsbD_ushiftRight, hi]
    by_cases h12 : 12 ≤ i <;> simp [h12]
  rw [clear]
  have := v.isLt
  simp only [BitVec.toNat_shiftLeft, BitVec.toNat_ushiftRight, Nat.shiftRight_eq_div_pow, Nat.shiftLeft_eq]
  omega

theorem plainRegisterWrites : Claims.PlainRegisterWrites :=
  ⟨fun _ => rfl, fun v s => ⟨_, rfl, rfl, toNat_and_page v⟩, fun _ _ _ h => congrArg _ (if_neg h)⟩

/-! ## LINE_STATUS -/

theorem modeCode_lt (m : Mode) : modeCode m < 8 := by cases m <;> decide

theorem attachCode_lt (a : AttachState) : attachCode a < 4 := by cases a <;> decide

theorem resetCauseCode_lt (c : ResetCause) : resetCauseCode c < 4 := by cases c <;> decide

theorem causesCode_lt (c : Causes) : causesCode c < 32 := by
  have := c.host.toNat_lt
  have := c.indexFault.toNat_lt
  have := c.moduleLost.toNat_lt
  have := c.warmupTimeout.toNat_lt
  have := c.config.toNat_lt
  unfold causesCode
  omega

theorem getLsbD_eq (v : Word) (i : Nat) : v.getLsbD i = decide (v.toNat / 2 ^ i % 2 = 1) := by
  rw [BitVec.getLsbD, Nat.testBit_eq_decide_div_mod_eq]

theorem lineStatusFields : Claims.LineStatusFields := by
  intro s
  have mode := modeCode_lt s.ctl.mode
  have causes := causesCode_lt s.ctl.causes
  have refused := s.ctl.refused.toNat_lt
  have attach := attachCode_lt s.exch.attach
  have cause := resetCauseCode_lt s.exch.cause
  have estop := s.pins.estop.toNat_lt
  have mem := s.exch.mem.toNat_lt
  have status : (readRegister s 0x04#32).toNat =
      modeCode s.ctl.mode + 8 * causesCode s.ctl.causes + 256 * s.ctl.refused.toNat + 512 * attachCode s.exch.attach
        + 2048 * resetCauseCode s.exch.cause + 8192 * s.pins.estop.toNat + 16384 * s.exch.mem.toNat
        + 65536 * (s.reports.chipSeq.toNat % 65536) :=
    (BitVec.toNat_ofNat ..).trans (Nat.mod_eq_of_lt (by omega))
  have bit (i : Nat) (b : Bool) (h : (readRegister s 0x04#32).toNat / 2 ^ i % 2 = b.toNat) :
      (readRegister s 0x04#32).getLsbD i = b := by
    rw [getLsbD_eq, h]
    cases b <;> rfl
  refine ⟨?_, ?_, bit 8 _ ?_, ?_, ?_, bit 13 _ ?_, bit 14 _ ?_, bit 15 false ?_, ?_⟩ <;>
    simp only [status, Nat.reducePow, Bool.toNat_false] <;> omega

/-- Settles O8, by the decoding of a LINE_CTRL write, the two register commands, and the fields of LINE_STATUS one by one. -/
theorem registerWindow : Obligations.RegisterWindow := ⟨lineCtrlWriteActsInOrder, plainRegisterWrites, lineStatusFields⟩

/-! ## Capture and attention inputs -/

/-- The level of a capture input's pin after an edge. -/
def edgeShown (i : CaptureInput) (e : Edge) (s : State) : State :=
  s.setPins { s.pins with captures := Tbl.put s.pins.captures (captureNum i) (edgeLevel e) }

theorem edgeLevel_eq (e : Edge) : edgeLevel e = (e == .rising) := by cases e <;> rfl

theorem exec_captureEdge (i : CaptureInput) (e : Edge) (s : State) :
    exec (.captureEdge i e) s =
      .next (if Tbl.at s.config.edges (captureNum i) = e then capture i (edgeShown i e s) else edgeShown i e s) := rfl

theorem capture_of_empty {i : CaptureInput} {s : State} (h : captureAt s i = none) : capture i s = putCapture i (some s.clock) s := by
  rw [capture, h]

theorem capture_of_held {i : CaptureInput} {s : State} {c : Clock} (h : captureAt s i = some c) :
    capture i s = raise { incident .captureLost with detail := (captureNum i).val, value := s.clock.toNat } s := by
  rw [capture, h]

theorem edgeShown_pins (i : CaptureInput) (e : Edge) (s : State) :
    (edgeShown i e s).pins = { s.pins with captures := (edgeShown i e s).pins.captures } ∧
    Tbl.at (edgeShown i e s).pins.captures (captureNum i) = (e == .rising) ∧
    ∀ j : CaptureInput, j ≠ i → Tbl.at (edgeShown i e s).pins.captures (captureNum j) = Tbl.at s.pins.captures (captureNum j) := by
  refine ⟨rfl, ?_, fun j hj => ?_⟩
  · rw [← edgeLevel_eq]
    exact Tbl.at_put_self ..
  · exact Tbl.at_put_ne _ _ fun h => hj (captureNum_inj.mp h).symm

theorem captureEdgeRecordsClock : Claims.CaptureEdgeRecordsClock := by
  intro i e s
  obtain ⟨hpins, hlevel, hothers⟩ := edgeShown_pins i e s
  rw [exec_captureEdge]
  by_cases hedge : Tbl.at s.config.edges (captureNum i) = e
  · rw [if_pos hedge]
    cases hheld : captureAt s i with
    | none =>
      rw [capture_of_empty (s := edgeShown i e s) hheld]
      exact ⟨_, rfl, rfl, hpins, hlevel, fun j hj => ⟨captureAt_putCapture_ne _ _ hj.symm, hothers j hj⟩,
        fun h => (h hedge).elim, fun _ => ⟨fun _ => ⟨captureAt_putCapture_self .., rfl⟩, fun _ h => by cases h⟩⟩
    | some c =>
      rw [capture_of_held (s := edgeShown i e s) hheld]
      exact ⟨_, rfl, rfl, hpins, hlevel, fun j hj => ⟨rfl, hothers j hj⟩, fun h => (h hedge).elim,
        fun _ => ⟨fun h => (by cases h), fun _ h => ⟨hheld.trans h, rfl⟩⟩⟩
  · rw [if_neg hedge]
    exact ⟨_, rfl, rfl, hpins, hlevel, fun j hj => ⟨rfl, hothers j hj⟩, fun _ => ⟨rfl, rfl⟩, fun h => (hedge h).elim⟩

theorem attentionLineFollowsItsInput : Claims.AttentionLineFollowsItsInput := fun _ _ _ =>
  ⟨_, rfl, rfl, Tbl.at_put_self .., fun _ hb => Tbl.at_put_ne _ _ hb.symm⟩

/-- Settles O20, by the direction of the edge and what the unit holds. -/
theorem captureAndAttentionInputs : Obligations.CaptureAndAttentionInputs :=
  ⟨captureEdgeRecordsClock, attentionLineFollowsItsInput⟩

end Sys2Proof.Machine
end

section
/-! PROOFS. A stopped line at rest stays so: no command but the end of the release time and the resets leads out of STOPPED. -/

namespace Sys2Proof.Machine

-- Elaborated all at once, the proofs of this text start more threads than the check's memory limit lets it.
set_option Elab.async false

/-- A stopped line at rest: no drain, no RUN request, and no index or home in flight. -/
structure Parked (s : State) : Prop where
  mode : s.ctl.mode = .stopped
  drain : s.ctl.drain = false
  request : s.ctl.request = .absent
  op : s.carousel.op = .none

/-- An operation leaves a stopped line at rest. -/
structure Parks (s t : State) : Prop where
  parked : Parked s → Parked t

theorem Parks.refl (s : State) : Parks s s := ⟨id⟩

theorem Parks.trans {s t u : State} (h : Parks s t) (k : Parks t u) : Parks s u := ⟨k.parked ∘ h.parked⟩

theorem Parks.ite {p : Prop} [Decidable p] {s t u : State} (h : p → Parks s t) (k : ¬p → Parks s u) :
    Parks s (if p then t else u) := by
  split
  · next hp => exact h hp
  · next hp => exact k hp

theorem Parks.foldl {α : Type} {f : State → α → State} (h : ∀ s a, Parks s (f s a)) (l : List α) (s : State) :
    Parks s (l.foldl f s) := by
  induction l generalizing s with
  | nil => exact .refl s
  | cons a l ih => exact (h s a).trans (ih _)

/-- An orderly operation starts no index or home on a stopped line, so only the line controller's fields are left to look at. -/
theorem Parks.of_orderly {s t : State} (h : Orderly s t) (mode : t.ctl.mode = s.ctl.mode) (drain : t.ctl.drain = s.ctl.drain)
    (request : t.ctl.request = s.ctl.request) : Parks s t := by
  refine ⟨fun hs => ?_⟩
  have still := h.toCalm.stays (mode.trans hs.mode) (m := .carousel) (by simp [moves, opInFlight, hs.op])
  exact ⟨mode.trans hs.mode, drain.trans hs.drain, request.trans hs.request, by simpa [moves, opInFlight] using still⟩

theorem Parks.of_ctl {s t : State} (h : Orderly s t) (ctl : t.ctl = s.ctl := by simp) : Parks s t :=
  .of_orderly h (by rw [ctl]) (by rw [ctl]) (by rw [ctl])

theorem Parked.opInFlight {s : State} (h : Parked s) : opInFlight s = false := by simp [Machine.opInFlight, h.op]

/-! ## The command list changes nothing else of the line controller -/

theorem serveCommandList_ctl (ts : List Txn) (s : State) :
    (serveCommandList ts s).ctl = { s.ctl with commands := (serveCommandList ts s).ctl.commands } := by
  induction ts generalizing s with
  | nil => rfl
  | cons t ts ih =>
    rw [serveCommandList]
    split
    · rw [ih]
      simp
    · simp

theorem takeOverList_ctl (w : Queued) (ts : List Txn) (s : State) :
    (takeOverList w ts s).ctl = { s.ctl with commands := (takeOverList w ts s).ctl.commands } := by
  induction ts generalizing s with
  | nil => simp [takeOverList]
  | cons t ts ih =>
    rw [takeOverList]
    split
    · rw [ih]
      simp
    · simp

theorem putCommands_ctl (ts : List Txn) (s : State) :
    (putCommands ts s).ctl = { s.ctl with commands := (putCommands ts s).ctl.commands } := by
  unfold putCommands
  split
  · exact serveCommandList_ctl ..
  · split
    · simp
    · exact takeOverList_ctl ..
    · exact takeOverList_ctl ..

theorem serveCommands_ctl (s : State) : (serveCommands s).ctl = { s.ctl with commands := (serveCommands s).ctl.commands } := by
  unfold serveCommands
  split
  · exact serveCommandList_ctl ..
  · rfl

theorem parks_putCommands (ts : List Txn) (s : State) : Parks s (putCommands ts s) :=
  .of_orderly (orderly_putCommands ..) (by rw [putCommands_ctl]) (by rw [putCommands_ctl]) (by rw [putCommands_ctl])

theorem parks_serveCommands (s : State) : Parks s (serveCommands s) :=
  .of_orderly (orderly_serveCommands s) (by rw [serveCommands_ctl]) (by rw [serveCommands_ctl]) (by rw [serveCommands_ctl])

/-! ## The line mode -/

theorem parks_setCauses (c : Causes) (s : State) : Parks s (setLine s.ctl.mode c s) :=
  .of_orderly (orderly_setLine id c) (by rw [setLine_ctl]) (by rw [setLine_ctl]) (by rw [setLine_ctl])

theorem holdWith_of_stopped {s : State} (h : s.ctl.mode = .stopped) (c : Causes) : holdWith c s = setLine s.ctl.mode c s := by
  simp only [holdWith, changeLine, h, heldMode, if_pos]

theorem parks_holdWith (c : Causes) (s : State) : Parks s (holdWith c s) := ⟨fun hs => by
  rw [holdWith_of_stopped hs.mode]
  exact (parks_setCauses c s).parked hs⟩

theorem parks_followModules (s : State) : Parks s (followModules s) :=
  .ite (fun _ => .refl s) fun _ => .ite (fun _ => parks_holdWith ..) fun _ => parks_setCauses ..

theorem parks_refuseRun (detail value : Nat) (config : Bool) (s : State) : Parks s (refuseRun detail value config s) := by
  have told : Parks s (raise { incident .runRefused with detail := detail, value := value }
      (s.setCtl { s.ctl with refused := true, request := .absent })) := ⟨fun hs => ⟨hs.mode, hs.drain, rfl, hs.op⟩⟩
  exact told.trans (.ite (fun _ => parks_holdWith ..) fun _ => .refl _)

theorem parks_setRefused (v : Bool) (s : State) : Parks s (setRefused v s) :=
  ⟨fun hs => ⟨hs.mode, hs.drain, hs.request, hs.op⟩⟩

theorem parks_newRequest (s : State) : Parks s (newRequest s) := by
  refine (parks_setRefused false s).trans ⟨fun hs => ?_⟩
  have kept : newRequest s = setRefused false s := if_neg (by simp [hs.request])
  exact kept.symm ▸ hs

/-! ## Transactions that complete -/

theorem ctl_ifActed {t : Txn} {f : State → State} {s : State} (h : (f s).ctl = s.ctl := by simp) : (ifActed t f s).ctl = s.ctl := by
  unfold ifActed
  split
  · exact h
  · rfl

theorem parks_deliver (q : Requester) (t : Txn) (o : TxnOutcome) (s : State) : Parks s (deliver q t o s) := by
  cases q with
  | carousel =>
    refine ⟨fun hs => ?_⟩
    have unmoved : carouselOutcome o s = s := by
      unfold carouselOutcome
      split
      · rfl
      · rw [hs.opInFlight]
        rfl
    simpa only [deliver, ifActed, unmoved, ite_self] using hs
  | pretreat => exact .of_ctl (orderly_deliver ..) (ctl_ifActed (f := pretreatOutcome o))
  | press => exact .of_ctl (orderly_deliver ..) (ctl_ifActed (f := pressOutcome o))
  | white => exact .of_ctl (orderly_deliver ..) (ctl_ifActed (f := printOutcome .white o))
  | flash => exact .of_ctl (orderly_deliver ..) (ctl_ifActed (f := flashOutcome o))
  | color => exact .of_ctl (orderly_deliver ..) (ctl_ifActed (f := printOutcome .color o))
  | sampler => exact .of_ctl (orderly_deliver ..) (by simp [deliver])
  | load | pack => exact .refl s
  | line =>
    have acted : Parks s (ifActed t (lineOutcome t o) s) :=
      .of_ctl (orderly_ifActed t (orderly_lineOutcome t o) s) ctl_ifActed
    exact acted.trans (parks_serveCommands _)

theorem parks_putPlace (q : Requester) (p : LinkPlace) (s : State) : Parks s (putPlace q p s) := .of_ctl (orderly_putPlace ..)

theorem parks_drainKept (q : Requester) (ts : List Txn) (s : State) : Parks s (drainKept q ts s) := by
  induction ts generalizing s with
  | nil => exact .refl s
  | cons t ts ih =>
    have kept : Parks s (keep q ts s) := parks_putPlace ..
    exact .ite (fun _ => .refl s) fun _ => .ite (fun _ => (kept.trans (parks_deliver ..)).trans (ih _)) fun _ =>
      kept.trans (.of_ctl (orderly_enqueue ..))

theorem parks_complete (q : Requester) (t : Txn) (o : TxnOutcome) (s : State) : Parks s (complete q t o s) :=
  ((parks_putPlace ..).trans (parks_deliver ..)).trans (parks_drainKept ..)

/-! ## Statuses and modules -/

theorem parks_ownerStatus (r : Role) (f : StatusFields) (s : State) : Parks s (ownerStatus r f s) := by
  cases r with
  | indexDrive =>
    refine ⟨fun hs => ?_⟩
    simpa only [ownerStatus, driveStatus, hs.op] using hs
  | loadScanner | packScanner => exact .refl s
  | _ => exact .of_ctl (orderly_ownerStatus ..) (by simp [ownerStatus])

theorem parks_loseAll (p : Txn → Bool) (s : State) : Parks s (loseAll p s) := by
  refine .foldl (fun s q => ?_) ..
  unfold loseQueued
  split
  · exact .refl s
  · split
    · exact .refl s
    · exact .ite (fun _ => parks_complete ..) fun _ => .refl s
    · exact .ite (fun _ => parks_complete ..) fun _ => .refl s

theorem parks_putModule (r : Role) (m : ModuleEntry) (s : State) : Parks s (putModule r m s) := .of_ctl (orderly_putModule ..)

theorem parks_raise (i : Incident) (s : State) : Parks s (raise i s) := .of_ctl (orderly_raise ..)

theorem parks_moduleLost (r : Role) (addr : Byte) (s : State) : Parks s (moduleLost r addr s) :=
  ((((parks_putModule ..).trans (parks_raise ..)).trans (parks_followModules _)).trans
    (.of_ctl (orderly_lostReport ..))).trans (parks_loseAll ..)

theorem parks_silence (r : Role) (addr : Byte) (s : State) : Parks s (silence r addr s) :=
  .ite (fun _ => .refl s) fun _ => .ite (fun _ => parks_moduleLost ..) fun _ => parks_putModule ..

theorem parks_moduleAccept (r : Role) (s : State) : Parks s (moduleAccept r s) := by
  have back (value : Nat) : Parks s (moduleBack r value s) :=
    ((parks_putModule ..).trans (parks_raise ..)).trans (parks_followModules _)
  unfold moduleAccept
  split
  · exact parks_putModule ..
  · exact back _
  · exact back _

/-! ## The end of a try -/

theorem parks_onModule (o : OnLink) {f : State → State} (h : ∀ s, Parks s (f s)) (s : State) : Parks s (onModule o f s) :=
  .ite (fun _ => h s) fun _ => .refl s

theorem parks_freeLink (s : State) : Parks s (freeLink s) := .of_ctl (orderly_freeLink s)

theorem parks_endService (v : Service) (s : State) : Parks s (endService v s) := .of_ctl (orderly_endService ..)

theorem parks_probeLater (r : Role) (s : State) : Parks s (probeLater r s) := .of_ctl (orderly_probeLater ..)

theorem parks_serviceAccepted (v : Service) (w : Word) (s : State) : Parks s (serviceAccepted v w s) := by
  have accepted := orderly_serviceAccepted v w s
  unfold serviceAccepted at accepted ⊢
  split
  · next hscan =>
    rw [if_pos hscan] at accepted
    refine .of_ctl accepted ?_
    split <;> simp
  · exact (parks_endService ..).trans (parks_ownerStatus ..)

theorem parks_tryAccepted (o : OnLink) (word : Word) (s : State) : Parks s (tryAccepted o word s) := by
  have taken := (parks_freeLink s).trans (parks_onModule o (parks_moduleAccept o.role) _)
  unfold tryAccepted
  dsimp only
  split
  · split
    · exact taken
    · exact taken.trans (parks_complete ..)
  · exact taken
  · split
    · exact taken
    · exact taken.trans (parks_serviceAccepted ..)

theorem parks_requesterDeclined (q : Requester) (w : Queued) (c : LinkSettings) (s : State) :
    Parks s (requesterDeclined q w c s) :=
  .ite (fun _ => .ite (fun _ => parks_complete ..) fun _ => parks_putPlace ..) fun _ => parks_complete ..

theorem parks_tryDeclined (o : OnLink) (s : State) : Parks s (tryDeclined o s) := by
  have freed := parks_freeLink s
  unfold tryDeclined
  dsimp only
  split
  · split
    · exact freed
    · exact freed.trans (parks_requesterDeclined ..)
  · exact freed.trans (parks_onModule o (parks_probeLater o.role) _)
  · split
    · exact freed
    · exact freed.trans (.of_ctl .of_frame)

theorem parks_trySilent (o : OnLink) (s : State) : Parks s (trySilent o s) := by
  have ended (s : State) : Parks s (silentEnd o s) := by
    unfold silentEnd
    split
    · split
      · exact .refl s
      · exact parks_complete ..
    · exact parks_onModule o (parks_probeLater o.role) _
    · split
      · exact .refl s
      · exact parks_endService ..
  exact ((parks_freeLink s).trans (ended _)).trans (parks_onModule o (parks_silence o.role o.addr) _)

theorem parks_endTry (frame : List Byte) (wanted : TryEnd → Bool) (s : State) : Parks s (endTry frame wanted s) := by
  unfold endTry
  split
  · exact .refl s
  · refine .ite (fun _ => ?_) fun _ => .refl s
    split
    · exact parks_tryAccepted ..
    · exact parks_tryDeclined ..
    · exact parks_trySilent ..

/-! ## The attach -/

theorem parks_attachSettings (new : LinkSettings) (s : State) : Parks s (attachSettings new s) :=
  (Parks.of_ctl (orderly_setLink ..)).trans (parks_followModules _)

theorem parks_attachBlocks (hdr : List Byte) (s : State) : Parks s (attachBlocks hdr s) := by
  have settled := (parks_attachSettings s.config.link s).trans
    (Parks.of_ctl (orderly_takeRefill (parseRefill (hdr.drop 4)) _))
  exact .ite (fun _ => settled.trans (parks_putCommands ..)) fun _ => settled

theorem parks_attachEnds (r : ReadResult) (s : State) : Parks s (attachEnds r s) := by
  cases r with
  | error => exact .of_ctl (orderly_attachEnds ..) (by simp [attachEnds])
  | data hdr =>
    have taken : Parks s ((setAttach .attached s).setConfig (parseConfig hdr)) :=
      .of_ctl ((orderly_setAttach ..).trans (orderly_setConfig ..))
    have written : Parks (attachBlocks hdr ((setAttach .attached s).setConfig (parseConfig hdr))) (attachDone hdr s) :=
      .of_ctl ((orderly_writeHeader _).trans (orderly_startSweep _)) (by simp [attachDone])
    exact .ite (fun _ => (taken.trans (parks_attachBlocks ..)).trans written) fun _ => .of_ctl (orderly_setAttach ..)

/-! ## The commands -/

/-- What is due on a stopped line at rest is no index, home, drain or warm-up. -/
theorem parks_whenDue {due : Bool} {f : State → State} {s t : State} (h : whenDue due f s = .next t)
    (hf : due = true → Parks s (f s)) : Parks s t := by
  rw [whenDue_eq_next.mp h]
  exact .ite hf fun _ => .refl s

theorem parks_of_not_due {due : Bool} {f : State → State} {s t : State} (h : whenDue due f s = .next t)
    (hdue : Parked s → due = false) : Parks s t := ⟨fun hs => by
  rw [hdue hs, whenDue_of_not_due rfl] at h
  cases h
  exact hs⟩

theorem parks_readDone {k : AccessKind} {r : ReadResult} {f : State → State} {s t : State} (h : readDone k r f s = .next t)
    (hf : ∀ s, Parks s (f s)) : Parks s t := by
  have ended : Parks s (endAccess s) := .of_ctl (orderly_endAccess s)
  rcases readDone_cases k r f s with ⟨-, e⟩ | ⟨-, -, e⟩ | ⟨_, -, -, -, -, e⟩ | ⟨_, -, -, -, -, e⟩ | ⟨_, -, -, -, e⟩ <;>
    cases e.symm.trans h
  · exact .of_ctl (orderly_dropLate ..)
  · exact .refl s
  · exact ended
  · exact ended.trans (hf _)

theorem parks_snapshotOutcome (r : ReadResult) (s : State) : Parks s (snapshotOutcome r s) := by
  have ends (dropped : Bool) (r : ReadResult) : Parks s (snapshotEnds dropped r s) := by
    have freed : Parks s (putActivity none s) := .of_ctl (orderly_putActivity ..)
    refine .ite (fun _ => freed) fun _ => freed.trans ⟨fun hs => ?_⟩
    have unread : judgeRun r (putActivity none s) = putActivity none s := if_neg (by rw [hs.request]; decide)
    exact unread.symm ▸ hs
  unfold snapshotOutcome
  split
  · cases r with
    | error => exact ends ..
    | data bytes =>
      exact .ite (fun _ => .of_ctl ((orderly_putActivity ..).trans (orderly_askPort ..))) fun _ => ends ..
  all_goals exact .refl s

theorem parks_tickReadiness (s : State) : Parks s (tickReadiness s) := ⟨fun hs => by
  rw [tickReadiness, if_neg (by simp [hs.mode])]
  exact hs⟩

theorem parks_tickBelt (period : Nat) (s : State) :
    Parks s (askReads tickReads (testOverdue (advance period (stepBelt period s)))) :=
  .of_ctl ((((orderly_stepBelt ..).trans (orderly_advance ..)).trans (orderly_testOverdue _)).trans (orderly_askReads ..))

theorem parks_dryerTick (s : State) : Parks s (dryerTick s) := by
  have zones : Parks s (allZones.foldl tickZone (setNextTick s)) :=
    .of_ctl ((orderly_setNextTick s).trans (.foldl orderly_tickZone allZones _))
  exact (zones.trans (parks_tickReadiness _)).trans (parks_tickBelt ..)

theorem parks_exec {c : Instr} {s t : State} (h : exec c s = .next t) (hrelease : c ≠ .estopReleaseTimePasses)
    (hpower : c ≠ .powerReset) (hpin : c ≠ .pinReset) (hsoft : c ≠ .softReset) : Parks s t := by
  cases c with
  | estopReleaseTimePasses => exact (hrelease rfl).elim
  | powerReset => exact (hpower rfl).elim
  | pinReset => exact (hpin rfl).elim
  | softReset => exact (hsoft rfl).elim
  | runRequest =>
    cases h
    refine (parks_newRequest s).trans ⟨fun hs => ?_⟩
    simp only [runByMode, hs.mode]
    exact (parks_refuseRun ..).parked hs
  | holdRequest =>
    cases h
    refine (parks_newRequest s).trans ⟨fun hs => ?_⟩
    simp only [holdByMode, hs.mode]
    exact (parks_setRefused ..).parked hs
  | idleRequest =>
    cases h
    refine (parks_newRequest s).trans ⟨fun hs => ?_⟩
    simp only [idleByMode, hs.mode]
    exact (parks_setRefused ..).parked hs
  | exchBaseHiWrite value =>
    cases h
    refine ⟨fun hs => ?_⟩
    rw [if_neg (by simp [hs.mode])]
    exact ⟨hs.mode, hs.drain, hs.request, hs.op⟩
  | estopAssertion =>
    cases h
    refine ⟨fun hs => ?_⟩
    rw [if_pos hs.mode]
    exact ⟨hs.mode, hs.drain, hs.request, hs.op⟩
  | estopDeassertion =>
    cases h
    exact .ite (fun _ => ⟨fun hs => ⟨hs.mode, hs.drain, hs.request, hs.op⟩⟩) fun _ => ⟨fun hs => ⟨hs.mode, hs.drain, hs.request, hs.op⟩⟩
  | sprayRowEdge =>
    rcases takeCapture_cases .sprayRow rowEdge s with ⟨-, e⟩ | ⟨_, -, e⟩ <;> cases e.symm.trans h
    · exact .refl s
    · refine ⟨fun hs => ?_⟩
      exact ⟨by simp [hs.mode], by simp [hs.drain], by simp [hs.request], by simp [hs.op]⟩
  | tryAccept frame | tryDecline frame | trySilence frame => cases h; exact parks_endTry ..
  | indexStart => exact parks_of_not_due h fun hs => by simp [indexDue, mayWork, hs.mode]
  | homeStart => exact parks_of_not_due h fun hs => by simp [homeDue, hs.mode]
  | indexTimerExpiry => exact parks_of_not_due h fun hs => by simp [indexTimerDue, hs.opInFlight]
  | drainEnd => exact parks_of_not_due h fun hs => by simp [drainDue, hs.drain]
  | warmupTimerExpiry => exact parks_of_not_due h fun hs => by simp [warmupDue, hs.mode]
  | dryerPeriodTick => exact parks_whenDue h fun _ => parks_dryerTick s
  | snapshotReadDone r => exact parks_readDone h (parks_snapshotOutcome r)
  | attachReadDone r => exact parks_readDone h (parks_attachEnds r)
  | interruptEnable | memClear | seqAckWrite | attentionLineChange =>
    exact .of_ctl (orderly_exec rfl h) (kept_next h)
  | postWrite | registerWrite | buttonInputChange | captureEdge =>
    refine .of_ctl (orderly_exec rfl h) (kept_next h ?_)
    (repeat' split) <;> simp
  | indexHomeEdge | beltEntryEdge | beltExitEdge => exact .of_ctl (orderly_exec rfl h) (kept_takeCapture h)
  | descriptorReadDone | dataBurstDone | catalogReadDone | refillReadDone =>
    exact .of_ctl (orderly_exec rfl h) (kept_readDone h)
  | handCountReadDone | postingReadDone | recoveryReadDone =>
    exact .of_ctl (orderly_exec rfl h) (kept_readDone h fun _ => kept_lookOutcome (r := _))
  | attachHeaderWriteDone | reportWriteDone => exact .of_ctl (orderly_exec rfl h) (kept_writeDone h)
  | valveCloseTime valve =>
    exact .of_ctl (orderly_exec rfl h) (kept_whenDue (f := fun u => finishPass (closeOnTime valve u)) h)
  | _ => exact .of_ctl (orderly_exec rfl h) (kept_whenDue h)

/-- Settles O60, by what each command leaves of a stopped line at rest. -/
theorem onlyReleaseLeavesStopped : Obligations.OnlyReleaseLeavesStopped := by
  intro c s t hmode hdrain hrequest hop h hrelease hpower hpin hsoft
  obtain ⟨mode, drain, request, op⟩ := (parks_exec h hrelease hpower hpin hsoft).parked ⟨hmode, hdrain, hrequest, hop⟩
  exact ⟨mode, drain, request, op⟩

end Sys2Proof.Machine
end

section
/-! PROOFS. The mode requests of the host. -/

namespace Sys2Proof.Machine

-- Elaborated all at once, the proofs of this text start more threads than the check's memory limit lets it.
set_option Elab.async false

/-! ## Changes of the mode and the hold-cause set -/

theorem setLine_of_same {m : Mode} {c : Causes} {s : State} (hm : s.ctl.mode = m) (hc : s.ctl.causes = c) : setLine m c s = s :=
  if_pos ⟨hm, hc⟩

theorem setLine_of_change {m : Mode} {c : Causes} {s : State} (h : ¬(s.ctl.mode = m ∧ s.ctl.causes = c)) :
    setLine m c s =
      { s with ctl := { s.ctl with mode := m, causes := c }, reports := Claims.lineModeRaised m c s } := if_neg h

/-- A change of the hold-cause set alone. -/
theorem setLine_causes (c : Causes) (s : State) :
    setLine s.ctl.mode c s =
      { s with
        ctl := { s.ctl with causes := c }
        reports := if s.ctl.causes = c then s.reports else Claims.lineModeRaised s.ctl.mode c s } := by
  by_cases h : s.ctl.causes = c
  · rw [setLine_of_same rfl h, if_pos h, ← h]
  · rw [setLine_of_change fun hs => h hs.2, if_neg h]

theorem causes_eq_with_host_iff (c : Causes) : c = { c with host := true } ↔ c.host = true := by
  cases c
  simp

theorem causes_eq_with_config_iff (c : Causes) : c = { c with config := true } ↔ c.config = true := by
  cases c
  simp

theorem heldMode_self {m : Mode} (h : m ≠ .run ∧ m ≠ .warming) : heldMode m = m := by
  cases m with
  | run => exact (h.1 rfl).elim
  | warming => exact (h.2 rfl).elim
  | idle | hold | stopped => rfl

/-- A cause is added to a line that is neither in RUN nor in WARMING. -/
theorem holdWith_of_quiet {s : State} (h : s.ctl.mode ≠ .run ∧ s.ctl.mode ≠ .warming) (c : Causes) :
    holdWith c s = setLine s.ctl.mode c s := by
  rw [holdWith, heldMode_self h, changeLine, if_pos rfl]

/-- A cause is added to a line in RUN or WARMING: it goes to HOLD. -/
theorem holdWith_of_running {s : State} (h : s.ctl.mode = .run ∨ s.ctl.mode = .warming) (c : Causes) :
    holdWith c s = enterHold (setLine .hold c s) := by
  rcases h with h | h <;> simp [holdWith, changeLine, h, heldMode, enterMode]

theorem enterHold_of_ticking {s : State} (h : s.dryer.ticking = true) : enterHold s = stopWarmup s := by
  simp [enterHold, ensureTicking, h]

/-! ## A new request -/

theorem newRequest_of_ne {s : State} (h : s.ctl.request ≠ .reading) : newRequest s = setRefused false s := if_neg h

theorem newRequest_of_reading {s : State} (h : s.ctl.request = .reading) :
    newRequest s =
      { s with
        ctl := { s.ctl with refused := false, request := .absent }
        exch := { s.exch with snapWanted := false, activity := s.exch.activity.map droppedSnapshot } } := if_pos h

theorem exec_runRequest (s : State) : exec .runRequest s = .next (runByMode (newRequest s)) := rfl

theorem exec_holdRequest (s : State) : exec .holdRequest s = .next (holdByMode (newRequest s)) := rfl

theorem exec_idleRequest (s : State) : exec .idleRequest s = .next (idleByMode (newRequest s)) := rfl

/-! ## RUN requests -/

/-- The refusal of a request that adds no cause. -/
theorem refuseRun_plain (detail value : Nat) (s : State) :
    refuseRun detail value false s =
      { s with
        ctl := { s.ctl with refused := true, request := .absent }
        reports := Claims.raised { incident .runRefused with detail := detail, value := value } s } := rfl

theorem addConfig_of_quiet {s : State} (h : s.ctl.mode ≠ .run ∧ s.ctl.mode ≠ .warming) :
    addConfig s =
      { s with
        ctl := { s.ctl with causes := { s.ctl.causes with config := true } }
        reports :=
          if s.ctl.causes.config then s.reports
          else Claims.lineModeRaised s.ctl.mode { s.ctl.causes with config := true } s } := by
  rw [addConfig, holdWith_of_quiet h, setLine_causes]
  simp only [causes_eq_with_config_iff]

/-- The refusal of a request that adds CONFIG, on a line neither in RUN nor in WARMING. -/
theorem refuseRun_config {s : State} (h : s.ctl.mode ≠ .run ∧ s.ctl.mode ≠ .warming) (detail value : Nat) :
    refuseRun detail value true s =
      { s with
        ctl := { s.ctl with refused := true, request := .absent, causes := { s.ctl.causes with config := true } }
        reports := Claims.refusedWithConfig detail value s } := by
  have added : refuseRun detail value true s = addConfig (refuseRun detail value false s) := rfl
  rw [added, addConfig_of_quiet (s := refuseRun detail value false s) h, refuseRun_plain]
  rfl

theorem runByMode_of_asking {s : State} (h : s.ctl.mode = .idle ∨ s.ctl.mode = .hold) : runByMode s = askRun s := by
  rcases h with h | h <;> rw [runByMode, h]

theorem askRun_of_pending {s : State} (h : s.ctl.request = .pendingHome) : askRun s = s := if_pos h

theorem askRun_of_attached {s : State} (h : s.ctl.request ≠ .pendingHome) (ha : attached s = true) :
    askRun s = { s with ctl := { s.ctl with request := .reading }, exch := { s.exch with snapWanted := true } } := by
  rw [askRun, if_neg h, if_pos ha]
  rfl

theorem askRun_of_unattached {s : State} (h : s.ctl.request ≠ .pendingHome) (ha : attached s = false) :
    askRun s = refuseRun 0 0 true s := by
  rw [askRun, if_neg h, ha]
  rfl

/-- A snapshot read in progress is marked, and another activity stays. -/
theorem droppedSnapshot_of_snapshot {a : Option Activity} {got : List Byte} {dropped : Bool} (h : a = some (.snapshot got dropped)) :
    a.map droppedSnapshot = some (.snapshot got true) := by
  rw [h]
  rfl

theorem droppedSnapshot_of_other {a : Option Activity} (h : ∀ got dropped, a ≠ some (.snapshot got dropped)) :
    a.map droppedSnapshot = a := by
  cases a with
  | none => rfl
  | some act =>
    cases act with
    | snapshot got dropped => exact (h got dropped rfl).elim
    | look | refill => rfl

/-- Settles O9, by the mode and the request in progress. -/
theorem runRequestByMode : Obligations.RunRequestByMode := by
  intro s
  rw [exec_runRequest]
  refine ⟨fun hmode hreq => ?_, fun hmode hreq => ?_, fun hmode => ?_⟩
  · rw [newRequest_of_ne (by simp [hreq])]
    have stopped : runByMode (setRefused false s) = refuseRun 5 0 false (setRefused false s) := by
      rw [runByMode, show (setRefused false s).ctl.mode = .stopped from hmode]
    rw [stopped, refuseRun_plain, ← hreq]
    rfl
  · rw [newRequest_of_ne hreq]
    rcases hmode with h | h <;> rw [runByMode, show (setRefused false s).ctl.mode = _ from h] <;> rfl
  · refine ⟨fun hreq => ?_, fun hreq ha => ?_, fun hreq ha => ?_, fun hreq ha => ?_⟩
    · rw [newRequest_of_ne (by simp [hreq]), runByMode_of_asking (by exact hmode), askRun_of_pending (by exact hreq)]
      rfl
    · rw [newRequest_of_ne (by simp [hreq]), runByMode_of_asking (by exact hmode),
        askRun_of_attached (by simp [setRefused, hreq]) (by exact ha)]
      rfl
    · rw [newRequest_of_ne (by simp [hreq]), runByMode_of_asking (by exact hmode),
        askRun_of_unattached (by simp [setRefused, hreq]) (by exact ha),
        refuseRun_config (by rcases hmode with h | h <;> simp [setRefused, h]), ← hreq]
      rfl
    · rw [newRequest_of_reading hreq, runByMode_of_asking (by exact hmode), askRun_of_attached (fun h => by cases h) (by exact ha)]
      exact ⟨_, rfl, by rw [← hreq], rfl, fun _ _ => droppedSnapshot_of_snapshot, droppedSnapshot_of_other⟩

/-! ## HOLD and IDLE requests -/

theorem addHost_of_running {s : State} (h : s.ctl.mode = .run ∨ s.ctl.mode = .warming) (ht : s.dryer.ticking = true) :
    addHost s =
      { s with
        ctl := { s.ctl with mode := .hold, causes := { s.ctl.causes with host := true }, warmup := none }
        reports := Claims.lineModeRaised .hold { s.ctl.causes with host := true } s } := by
  have change : ¬(s.ctl.mode = .hold ∧ s.ctl.causes = { s.ctl.causes with host := true }) := fun hs => by
    rcases h with h | h <;> cases h.symm.trans hs.1
  rw [addHost, holdWith_of_running h, setLine_of_change change, enterHold_of_ticking (by exact ht)]
  rfl

theorem addHost_of_hold {s : State} (h : s.ctl.mode = .hold) :
    addHost s =
      { s with
        ctl := { s.ctl with causes := { s.ctl.causes with host := true } }
        reports :=
          if s.ctl.causes.host then s.reports else Claims.lineModeRaised .hold { s.ctl.causes with host := true } s } := by
  rw [addHost, holdWith_of_quiet (by simp [h]), setLine_causes, h]
  simp only [causes_eq_with_host_iff]

theorem dropPendingRun_of_ne_reading {s : State} (h : s.ctl.request ≠ .reading) :
    dropPendingRun s = { s with ctl := { s.ctl with request := .absent } } := by
  unfold dropPendingRun
  split
  · rfl
  · next hpending =>
    cases hreq : s.ctl.request with
    | absent => rw [← hreq]
    | pendingHome => exact (hpending hreq).elim
    | reading => exact (h hreq).elim

theorem holdRequestByMode : Claims.HoldRequestByMode := by
  intro s hreq
  rw [exec_holdRequest, newRequest_of_ne hreq]
  refine ⟨fun hmode ht => ?_, fun hmode => ?_, fun hmode => ?_⟩
  · have held : holdByMode (setRefused false s) = addHost (setRefused false s) := by
      rcases hmode with h | h <;> rw [holdByMode, show (setRefused false s).ctl.mode = _ from h]
    rw [held, addHost_of_running (by exact hmode) (by exact ht)]
    rfl
  · have held : holdByMode (setRefused false s) = dropPendingRun (addHost (setRefused false s)) := by
      rw [holdByMode, show (setRefused false s).ctl.mode = _ from hmode]
    rw [held, addHost_of_hold (by exact hmode), dropPendingRun_of_ne_reading (by exact hreq)]
    rfl
  · rcases hmode with h | h <;> rw [holdByMode, show (setRefused false s).ctl.mode = _ from h] <;> rfl

theorem setDrain_eq (s : State) : setDrain s = { s with ctl := { s.ctl with drain := true } } := rfl

theorem toIdle_eq {s : State} (h : s.ctl.mode ≠ .idle) :
    toIdle s = enterIdle { s with
      ctl := { s.ctl with mode := .idle, causes := Causes.empty }
      reports := Claims.lineModeRaised .idle Causes.empty s } := by
  rw [toIdle, changeLine, if_neg h, setLine_of_change fun hs => h hs.1]
  rfl

/-- What the entry to IDLE leaves in the line controller. -/
theorem enterIdle_ctl (s : State) :
    (enterIdle s).ctl =
      { s.ctl with
        warm := false, drain := false, warmup := none, request := requestInIdle s.ctl.request
        commands := (enterIdle s).ctl.commands } := by
  simp only [enterIdle, stopTicking_frame]
  rw [putCommands_ctl]
  rfl

theorem enterIdle_ticking (s : State) : (enterIdle s).dryer.ticking = false := rfl

/-- The entry to IDLE changes the carousel in no home being asked for. -/
theorem enterIdle_carousel (s : State) : (enterIdle s).carousel = { s.carousel with homeAsked := false } := by
  simp [enterIdle, dropHome]

theorem idleRequestByMode : Claims.IdleRequestByMode := by
  intro s hreq
  rw [exec_idleRequest, newRequest_of_ne hreq]
  refine ⟨fun hmode hnone => ?_, fun hmode ht => ?_, fun hmode => ?_, fun hmode => ?_, fun hmode => ?_⟩
  · have idle : idleByMode (setRefused false s) = toIdle (setRefused false s) := by
      rw [idleByMode, show (setRefused false s).ctl.mode = _ from hmode]
      exact if_pos hnone
    rw [idle, toIdle_eq (by simp [setRefused, hmode])]
    refine ⟨_, rfl, ?_⟩
    rw [enterIdle_ctl, enterIdle_carousel]
    exact ⟨rfl, rfl, rfl, rfl, rfl, rfl, enterIdle_ticking _, rfl, rfl, by simp [setRefused], by simp [setRefused]⟩
  · have drains : idleByMode (setRefused false s) = setDrain (addHost (setRefused false s)) := by
      rcases hmode with h | ⟨h, hlive⟩
      · rw [idleByMode, show (setRefused false s).ctl.mode = _ from h]
      · rw [idleByMode, show (setRefused false s).ctl.mode = _ from h]
        exact if_neg (by rw [show noGarment (setRefused false s) = noGarment s from rfl, hlive]; decide)
    rw [drains, addHost_of_running (s := setRefused false s) (hmode.imp_right And.left) ht]
    rfl
  · have drains : idleByMode (setRefused false s) = dropPendingRun (setDrain (addHost (setRefused false s))) := by
      rw [idleByMode, show (setRefused false s).ctl.mode = _ from hmode]
    rw [drains, addHost_of_hold (by exact hmode), setDrain_eq, dropPendingRun_of_ne_reading (by exact hreq)]
    rfl
  · rw [idleByMode, show (setRefused false s).ctl.mode = _ from hmode]
    rfl
  · rw [idleByMode, show (setRefused false s).ctl.mode = _ from hmode]
    rfl

/-- Settles O10, by the mode of the line. -/
theorem holdAndIdleRequestsByMode : Obligations.HoldAndIdleRequestsByMode := ⟨holdRequestByMode, idleRequestByMode⟩

end Sys2Proof.Machine
end

section
/-! PROOFS. ESTOP deasserted, the buttons, and POST. -/

namespace Sys2Proof.Machine

-- Elaborated all at once, the proofs of this text start more threads than the check's memory limit lets it.
set_option Elab.async false

/-! ## Timers -/

theorem expired_iff (s : State) (t : Timer) : expired s t = true ↔ t.limit ≤ (s.clock - t.start).toNat := decide_eq_true_iff

theorem expired_of_le {s : State} {t : Timer} (h : t.limit ≤ (s.clock - t.start).toNat) : expired s t = true :=
  (expired_iff s t).mpr h

theorem expired_of_lt {s : State} {t : Timer} (h : (s.clock - t.start).toNat < t.limit) : expired s t = false :=
  decide_eq_false (Nat.not_le.mpr h)

/-! ## The ESTOP monitor -/

theorem exec_estopDeassertion (s : State) :
    exec .estopDeassertion s =
      .next
        (if s.ctl.monitor = .asserted then
          setMonitor (.releasing (timerFrom s (s.config.debounce * Config.ticksPerMs))) (setEstopPin false s)
        else setEstopPin false s) := rfl

theorem estopDeassertionStartsRelease : Claims.EstopDeassertionStartsRelease := by
  intro s
  rw [exec_estopDeassertion]
  exact ⟨fun h => by rw [if_pos h]; rfl, fun h => by rw [if_neg h]; rfl⟩

/-- MODULE_LOST follows the modules of a line that it does not take to HOLD. -/
theorem followModules_of_quiet {s : State} (hidle : s.ctl.mode ≠ .idle) (h : s.ctl.mode ≠ .run ∧ s.ctl.mode ≠ .warming) :
    followModules s = setLine s.ctl.mode (Claims.followed s.ctl.causes s) s := by
  rw [followModules, if_neg hidle, Claims.followed]
  cases hlost : requiredLost s with
  | true => rw [if_pos rfl, holdWith_of_quiet h]
  | false => rw [if_neg (by decide)]

/-- The line goes to HOLD from STOPPED while it ticks. -/
theorem moveLine_hold_of_stopped {s : State} (hmode : s.ctl.mode = .stopped) (ht : s.dryer.ticking = true) (c : Causes) :
    moveLine .hold c s =
      { s with
        ctl := { s.ctl with mode := .hold, causes := Claims.followed c s, warmup := none }
        reports := (moveLine .hold c s).reports } := by
  have entered : changeLine .hold c s = stopWarmup (setLine .hold c s) := by
    rw [changeLine, if_neg (by rw [hmode]; decide), ← enterHold_of_ticking (by simpa using ht)]
    rfl
  have line : setLine .hold c s =
      { s with ctl := { s.ctl with mode := .hold, causes := c }, reports := Claims.lineModeRaised .hold c s } :=
    setLine_of_change fun hs => by cases hmode.symm.trans hs.1
  rw [moveLine, entered, line, followModules_of_quiet (fun h => by cases h) ⟨(fun h => by cases h), (fun h => by cases h)⟩, setLine_causes]
  rfl

theorem releaseDue_of_releasing {s : State} {t : Timer} (h : s.ctl.monitor = .releasing t) : releaseDue s = expired s t := by
  rw [releaseDue, h]

theorem exec_estopReleaseTimePasses (s : State) :
    exec .estopReleaseTimePasses s = .next (if releaseDue s then leaveStopped s else s) := rfl

theorem estopReleaseEntersHold : Claims.EstopReleaseEntersHold := by
  intro s tm hmonitor
  rw [exec_estopReleaseTimePasses, releaseDue_of_releasing hmonitor]
  refine ⟨fun hbefore => by rw [expired_of_lt hbefore]; rfl, fun hpast hmode ht => ?_⟩
  rw [expired_of_le hpast, if_pos rfl, leaveStopped, moveLine_hold_of_stopped (by exact hmode) (by exact ht)]
  exact ⟨_, rfl, rfl, rfl, rfl, rfl⟩

/-- Settles O13, by the state of the monitor and its release time. -/
theorem estopReleaseByMonitor : Obligations.EstopReleaseByMonitor := ⟨estopDeassertionStartsRelease, estopReleaseEntersHold⟩

/-! ## Buttons -/

/-- A button's input shows a level. -/
def buttonShown (b : Button) (level : Bool) (s : State) : State :=
  s.setPins { s.pins with buttons := Tbl.put s.pins.buttons (buttonNum b) level }

theorem exec_buttonInputChange (b : Button) (level : Bool) (s : State) :
    exec (.buttonInputChange b level) s =
      .next (if buttonLevel s b = level then s else putButton b (changedUnit s b) (buttonShown b level s)) := rfl

theorem buttonLevel_buttonShown (b o : Button) (level : Bool) (s : State) :
    buttonLevel (buttonShown b level s) o = if b = o then level else buttonLevel s o := by
  simp [buttonLevel, buttonShown, Tbl.at_put, buttonNum_inj]

theorem changedUnit_eq (s : State) (b : Button) :
    changedUnit s b =
      match (buttonAt s b).state with
      | .settled =>
        { state := .checking, level := (buttonAt s b).level
          timer := { start := s.clock, limit := s.config.debounce * 100 } }
      | .checking => { buttonAt s b with state := .settled }
      | .lockout => buttonAt s b := by
  unfold changedUnit
  cases (buttonAt s b).state <;> rfl

theorem buttonChangeByState : Claims.ButtonChangeByState := by
  intro b level s
  rw [exec_buttonInputChange]
  refine ⟨fun h => by rw [if_pos h], fun h => ?_⟩
  rw [if_neg h]
  refine ⟨_, rfl, rfl, rfl, ?_, fun o ho => ⟨?_, ?_⟩, ?_⟩
  · exact (buttonLevel_buttonShown ..).trans (if_pos rfl)
  · exact (buttonLevel_buttonShown ..).trans (if_neg ho.symm)
  · exact buttonAt_putButton_ne _ _ ho.symm
  · exact (buttonAt_putButton_self ..).trans (changedUnit_eq ..)

/-- The debounce time of a button has passed, before a press is handed on. -/
def debouncedState (b : Button) (s : State) : State := putButton b (Claims.debounced s b) s

/-- A check has found the button pressed. -/
def pressAccepted (b : Button) (s : State) : Prop :=
  (buttonAt s b).state = .checking ∧ buttonLevel s b = true ∧ (buttonAt s b).level = false

theorem endDebounce_of_press {b : Button} {s : State} (h : pressAccepted b s) :
    endDebounce b s = pressed b (debouncedState b s) := by
  obtain ⟨hstate, hlevel, hsettled⟩ := h
  simp only [endDebounce, endCheck, acceptEdge, debouncedState, Claims.debounced, hstate, hlevel, hsettled]
  rfl

theorem endDebounce_of_none {b : Button} {s : State} (h : ¬pressAccepted b s) (hs : (buttonAt s b).state ≠ .settled) :
    endDebounce b s = debouncedState b s := by
  cases hstate : (buttonAt s b).state with
  | settled => exact (hs hstate).elim
  | checking =>
    simp only [endDebounce, endCheck, acceptEdge, debouncedState, Claims.debounced, hstate]
    split
    · rfl
    · next hne =>
      rw [if_neg fun hlevel => h ⟨hstate, hlevel, by simpa [hlevel] using hne⟩]
      rfl
  | lockout =>
    simp only [endDebounce, endLockout, debouncedState, Claims.debounced, hstate]
    split <;> rfl

theorem exec_buttonDebounceTimePasses (b : Button) (s : State) :
    exec (.buttonDebounceTimePasses b) s = .next (if debounceDue s b then endDebounce b s else s) := rfl

/-- An accepted LOAD_GO press. -/
theorem loadGo_eq (s : State) :
    loadGo s = if scanMode s.ctl.mode ∧ opInFlight s = false ∧ released s .load = false then setReleased .load s else s := rfl

theorem released_setReleased (st o : Station) (s : State) :
    released (setReleased st s) o = if st = o then true else released s o := by
  cases st <;> cases o <;> simp [released, setReleased, stationNum, Tbl.at_put]

theorem debounceAcceptsPresses : Claims.DebounceAcceptsPresses := by
  intro b s
  rw [exec_buttonDebounceTimePasses]
  refine ⟨fun h => ?_, fun hstate hpast => ?_⟩
  · have early : debounceDue s b = false := by
      rcases h with h | h
      · simp [debounceDue, h]
      · simp [debounceDue, expired_of_lt h]
    rw [early]
    rfl
  · have due : debounceDue s b = true := by simp [debounceDue, hstate, expired_of_le hpast]
    rw [if_pos due]
    have unit : buttonAt (debouncedState b s) b = Claims.debounced s b := buttonAt_putButton_self ..
    have others (o : Button) (ho : o ≠ b) : buttonAt (debouncedState b s) o = buttonAt s o := buttonAt_putButton_ne _ _ ho.symm
    by_cases hpress : pressAccepted b s
    · rw [endDebounce_of_press hpress]
      have kept (o : Button) : buttonAt (pressed b (debouncedState b s)) o = buttonAt (debouncedState b s) o := by
        simp [buttonAt]
      refine ⟨_, rfl, (kept b).trans unit, fun o ho => (kept o).trans (others o ho), fun h => (h hpress).elim, ?_⟩
      rintro - - - rfl
      rw [pressed, loadGo_eq]
      have load : released (debouncedState .loadGo s) .load = released s .load := rfl
      have op : opInFlight (debouncedState .loadGo s) = opInFlight s := rfl
      have mode : (debouncedState .loadGo s).ctl.mode = s.ctl.mode := rfl
      rw [load, op, mode]
      split
      · next h =>
        obtain ⟨hscan, hop, -⟩ := h
        refine ⟨rfl, fun st hst => ?_, ?_⟩
        · exact (released_setReleased ..).trans (if_neg hst.symm)
        · rw [released_setReleased, if_pos rfl, hscan, hop]
          simp
      · next h =>
        refine ⟨rfl, fun st _ => rfl, ?_⟩
        rw [load]
        cases hreleased : released s .load <;> simp_all
    · rw [endDebounce_of_none hpress hstate]
      exact ⟨_, rfl, unit, others, fun _ => rfl, fun h1 h2 h3 => (hpress ⟨h1, h2, h3⟩).elim⟩

/-- Settles O14, by the state of the button's unit. -/
theorem buttonsAreDebounced : Obligations.ButtonsAreDebounced := ⟨buttonChangeByState, debounceAcceptsPresses⟩

end Sys2Proof.Machine
end

section
/-! PROOFS. The record of a garment that is deleted, and an accepted UNLOAD_GO. -/

namespace Sys2Proof.Machine

-- Elaborated all at once, the proofs of this text start more threads than the check's memory limit lets it.
set_option Elab.async false

/-! ## A deleted garment -/

theorem garmentAt_congr {s t : State} (h : t.garments = s.garments) (g : Fin 32) : garmentAt t g = garmentAt s g := by
  rw [garmentAt, h, ← garmentAt]

theorem platenOf_congr {s t : State} (h : t.carousel = s.carousel) (p : Fin 12) : platenOf t p = platenOf s p := by
  rw [platenOf, h, ← platenOf]

/-- Ink goes to a line, or nowhere. -/
theorem ifCurrent_addInk_frame (r : Garment) (s : State) :
    (ifCurrent r (addInk r.ink) s).garments = s.garments ∧ (ifCurrent r (addInk r.ink) s).carousel = s.carousel := by
  unfold ifCurrent
  split <;> simp

theorem deleteGarment_of_none {g : Fin 32} {s : State} (h : garmentAt s g = none) : deleteGarment g s = s := by
  rw [deleteGarment, h]

theorem garmentAt_deleteGarment (g h : Fin 32) (s : State) :
    garmentAt (deleteGarment g s) h = if g = h then none else garmentAt s h := by
  cases hg : garmentAt s g with
  | none =>
    rw [deleteGarment_of_none hg]
    split
    · next hgh => rw [← hgh, hg]
    · rfl
  | some r =>
    have freed : garmentAt (clearGarment g (ifCurrent r (addInk r.ink) s)) h = if g = h then none else garmentAt s h := by
      rw [garmentAt_clearGarment, garmentAt_congr (ifCurrent_addInk_frame r s).1]
    rw [← freed, deleteGarment, hg]
    dsimp only
    split
    · rfl
    · exact garmentAt_congr (by simp) h

/-- The platen of an emptied one takes its pending enable value. -/
def emptied (e : Platen) : Platen := { garment := none, enabled := e.pending.getD e.enabled, pending := none }

theorem emptyPlaten_eq (p : Fin 12) (s : State) : emptyPlaten p s = putPlaten p (emptied (platenOf s p)) s := rfl

theorem putPlaten_garments (p : Fin 12) (e : Platen) (s : State) : (putPlaten p e s).garments = s.garments := rfl

theorem platenOf_emptyPlaten (p q : Fin 12) (s : State) :
    platenOf (emptyPlaten p s) q = if p = q then emptied (platenOf s p) else platenOf s q := platenOf_putPlaten ..

/-- A garment on a platen leaves it empty, and nothing else of the carousel changes. -/
theorem deleteGarment_carousel_of_platen {g : Fin 32} {p : Fin 12} {r : Garment} {s : State} (hg : garmentAt s g = some r)
    (hp : r.platen = some p) : (deleteGarment g s).carousel = (emptyPlaten p s).carousel := by
  have freed : (clearGarment g (ifCurrent r (addInk r.ink) s)).carousel = s.carousel := by
    simp [(ifCurrent_addInk_frame r s).2]
  have deleted : deleteGarment g s = emptyPlaten p (clearGarment g (ifCurrent r (addInk r.ink) s)) := by
    rw [deleteGarment, hg]
    simp only [hp]
  rw [deleted, emptyPlaten_eq, emptyPlaten_eq, platenOf_congr freed]
  simp only [putPlaten, setCarousel_carousel, freed]

/-! ## An accepted UNLOAD_GO -/

theorem exec_buttonDebounceTimePasses_of_unload {s : State} (h : Claims.acceptsUnload s) :
    exec (.buttonDebounceTimePasses .unloadGo) s = .next (unloadGo (debouncedState .unloadGo s)) := by
  obtain ⟨hstate, hlevel, hsettled, hpast, -, -, -⟩ := h
  have due : debounceDue s .unloadGo = true := by simp [debounceDue, hstate, expired_of_le hpast]
  rw [exec_buttonDebounceTimePasses, if_pos due, endDebounce_of_press ⟨hstate, hlevel, hsettled⟩]
  rfl

theorem unloadGo_of_garment {s : State} {g : Fin 32} {r : Garment} {d : Destination} (hscan : scanMode s.ctl.mode = true)
    (hop : opInFlight s = false) (hreleased : released s .unload = false) (hpos : garmentAtPos s 9 = some g)
    (hg : garmentAt s g = some r) (hd : r.dest = some d) : unloadGo s = unloadTo g d s := by
  rw [unloadGo, if_pos ⟨hscan, hop, hreleased⟩]
  simp only [show garmentAtPos s (stationPos .unload) = some g from hpos, hg, Option.bind_some, hd]

theorem transferRoom_iff (s : State) : transferRoom s = true ↔ s.dryer.transfer.length < 4 := decide_eq_true_iff

theorem appendTransfer_of_room {s : State} (h : s.dryer.transfer.length < 4) (g : Fin 32) :
    appendTransfer g s =
      changeGarment g (fun r => { r with place := .inTransfer })
        (s.setDryer { s.dryer with transfer := s.dryer.transfer ++ [{ garment := g, entry := s.clock }] }) :=
  if_pos ((transferRoom_iff s).mpr h)

/-- A garment goes from its platen to the transfer list. -/
def enteredDryer (g : Fin 32) (s : State) : State :=
  emptyPlaten (platenAt s 9)
    (changeGarment g (fun r => { r with platen := none })
      (changeGarment g (fun r => { r with place := .inTransfer })
        (s.setDryer { s.dryer with transfer := s.dryer.transfer ++ [{ garment := g, entry := s.clock }] })))

theorem unloadTo_dryer_of_room {s : State} (hmode : s.ctl.mode ≠ .warming) (hlen : s.dryer.transfer.length < 4) (g : Fin 32) :
    unloadTo g .dryer s = releaseUnload (enteredDryer g s) := by
  rw [unloadTo, if_pos ⟨hmode, (transferRoom_iff s).mpr hlen⟩, unloadToDryer, appendTransfer_of_room hlen]
  rfl

theorem garmentAt_enteredDryer (g h : Fin 32) (s : State) :
    garmentAt (enteredDryer g s) h =
      if g = h then (garmentAt s g).map fun r => { r with place := .inTransfer, platen := none } else garmentAt s h := by
  rw [enteredDryer, emptyPlaten_eq, garmentAt_congr (putPlaten_garments ..), garmentAt_changeGarment, garmentAt_changeGarment,
    garmentAt_changeGarment, if_pos rfl]
  split
  · exact Option.map_map ..
  · rfl

theorem unloadTo_deleted {d : Destination} (h : d ≠ .dryer) (g : Fin 32) (s : State) :
    unloadTo g d s = releaseUnload (deleteGarment g s) := by
  unfold unloadTo
  split
  · exact (h rfl).elim
  · rfl
  · rfl

/-- UNLOAD after its garment has left: released, its lamps off, its platen empty and every other as it was. -/
theorem carousel_of_unloaded {s t : State} (h : t.carousel = (releaseUnload (emptyPlaten (platenAt s 9) s)).carousel) :
    released t .unload = true ∧ t.carousel.lamp = none ∧ platenOf t (platenAt s 9) = emptied (platenOf s (platenAt s 9)) ∧
    t.carousel.map = s.carousel.map ∧ ∀ p : Fin 12, p ≠ platenAt s 9 → platenOf t p = platenOf s p := by
  have platens (p : Fin 12) : platenOf t p = platenOf (emptyPlaten (platenAt s 9) s) p := by
    rw [platenOf, h]
    rfl
  refine ⟨?_, by rw [h]; rfl, ?_, by rw [h]; rfl, fun p hp => ?_⟩
  · rw [released, h]
    exact Tbl.at_put_self ..
  · rw [platens, platenOf_emptyPlaten, if_pos rfl]
  · rw [platens, platenOf_emptyPlaten, if_neg hp.symm]

theorem garmentAt_releaseUnload (h : Fin 32) (s : State) : garmentAt (releaseUnload s) h = garmentAt s h := rfl

/-- A garment that leaves UNLOAD: what it is for the carousel, and that it joins the transfer list or is deleted. -/
theorem unloadTo_result {g : Fin 32} {d : Destination} {r : Garment} {s : State} (hg : garmentAt s g = some r)
    (hplaten : r.platen = some (platenAt s 9)) (hroom : d = .dryer → s.ctl.mode ≠ .warming ∧ s.dryer.transfer.length < 4) :
    (unloadTo g d s).carousel = (releaseUnload (emptyPlaten (platenAt s 9) s)).carousel ∧
    (∀ h : Fin 32, h ≠ g → garmentAt (unloadTo g d s) h = garmentAt s h) ∧
    (d = .dryer →
      (unloadTo g d s).dryer.transfer = s.dryer.transfer ++ [{ garment := g, entry := s.clock }] ∧
      garmentAt (unloadTo g d s) g = some { r with place := .inTransfer, platen := none } ∧ (unloadTo g d s).lines = s.lines) ∧
    (d ≠ .dryer → (unloadTo g d s).dryer = s.dryer ∧ garmentAt (unloadTo g d s) g = none) := by
  by_cases hdryer : d = .dryer
  · obtain ⟨hmode, hlen⟩ := hroom hdryer
    subst hdryer
    rw [unloadTo_dryer_of_room hmode hlen]
    have garments (h : Fin 32) := (garmentAt_releaseUnload h (enteredDryer g s)).trans (garmentAt_enteredDryer g h s)
    refine ⟨?_, fun h hne => (garments h).trans (if_neg hne.symm), fun _ => ⟨?_, ?_, ?_⟩, fun h => (h rfl).elim⟩
    · simp [releaseUnload, setReleased, enteredDryer, emptyPlaten_eq, putPlaten, platenOf]
    · simp [releaseUnload, enteredDryer]
    · rw [garments, if_pos rfl, hg]
      rfl
    · simp [releaseUnload, enteredDryer]
  · rw [unloadTo_deleted hdryer]
    have garments (h : Fin 32) := (garmentAt_releaseUnload h (deleteGarment g s)).trans (garmentAt_deleteGarment g h s)
    refine ⟨?_, fun h hne => (garments h).trans (if_neg hne.symm), fun h => (hdryer h).elim, fun _ => ⟨?_, ?_⟩⟩
    · simp only [releaseUnload, setReleased, setCarousel_carousel, deleteGarment_carousel_of_platen hg hplaten]
    · simp [releaseUnload]
    · exact (garments g).trans (if_pos rfl)

/-- Settles O15, by the destination of the garment. -/
theorem unloadGoActsOnDestination : Obligations.UnloadGoActsOnDestination := by
  intro s g r d haccepts hpos hg hd hplaten
  obtain ⟨-, -, -, -, hscan, hop, hreleased⟩ := id haccepts
  rw [exec_buttonDebounceTimePasses_of_unload haccepts,
    unloadGo_of_garment (s := debouncedState .unloadGo s) hscan hop hreleased hpos hg hd]
  refine ⟨fun hdryer hfull => ⟨_, rfl, ?_⟩, fun hroom => ⟨_, rfl, ?_⟩⟩
  · have ignored : ¬((debouncedState .unloadGo s).ctl.mode ≠ .warming ∧ transferRoom (debouncedState .unloadGo s)) := by
      rintro ⟨hmode, htransfer⟩
      rcases hfull with h | h
      · exact hmode h
      · exact absurd ((transferRoom_iff _).mp htransfer) (Nat.not_lt.mpr h)
    rw [hdryer, unloadTo, if_neg ignored]
    rfl
  · obtain ⟨carousel, others, dryer, deleted⟩ := unloadTo_result (s := debouncedState .unloadGo s) hg hplaten hroom
    obtain ⟨hset, hlamp, hempty, hmap, hplatens⟩ := carousel_of_unloaded carousel
    exact ⟨hset, hlamp, hempty, hmap, hplatens, others, dryer, deleted⟩

end Sys2Proof.Machine
end

section
/-! PROOFS. A SPRAY_ROW edge (R50, R52). -/

namespace Sys2Proof.Machine

-- Elaborated all at once, the proofs of this text start more threads than the check's memory limit lets it.
set_option Elab.async false

/-! ## What the closing and the arming of channels leave of the unit -/

/-- Two pretreat units that differ in their channels and their tank alone. -/
def SameButChannels (p q : Pretreat) : Prop := q = { p with valves := q.valves, tank := q.tank }

theorem SameButChannels.trans {p q r : Pretreat} (h : SameButChannels p q) (k : SameButChannels q r) : SameButChannels p r := by
  rw [SameButChannels] at h k ⊢
  rw [k, h]

theorem closeValve_sameButChannels (s : State) (z : Fin 8) : SameButChannels s.pretreat (closeValve s z).pretreat := by
  unfold closeValve
  split
  · rfl
  · rfl
  · rw [useFluid_pretreat]
    rfl

theorem closeValves_sameButChannels (s : State) : SameButChannels s.pretreat (closeValves s).pretreat := by
  unfold closeValves
  generalize allValves = l
  induction l generalizing s with
  | nil => rfl
  | cons z l ih => exact (closeValve_sameButChannels s z).trans (ih _)

/-- With every channel CLOSED nothing is left to close. -/
theorem closeValves_of_closed {s : State} (h : anyValve s = false) : closeValves s = s := by
  have closed (z : Fin 8) : closeValve s z = s := by
    have rest := (anyValve_eq_false_iff s).mp h z
    unfold closeValve
    split
    · rfl
    · next hv => rw [hv] at rest; cases rest
    · next hv => rw [hv] at rest; cases rest
  unfold closeValves
  generalize allValves = l
  induction l with
  | nil => rfl
  | cons z l ih => rw [List.foldl_cons, closed, ih]

/-- The arming of a row changes the channels alone. -/
theorem foldl_armZone_eq (edge : Clock) (row : Nat) (l : List (Fin 8)) (s : State) :
    l.foldl (armZone edge row) s =
      { s with pretreat := { s.pretreat with valves := (l.foldl (armZone edge row) s).pretreat.valves } } := by
  induction l generalizing s with
  | nil => rfl
  | cons z l ih =>
    rw [List.foldl_cons, ih, armZone_eq]
    split <;> rfl

/-- A row's edge changes, of the pretreat unit, the row counter beside the channels and the tank. -/
theorem nextRow_sameButChannels (edge : Clock) (s : State) :
    SameButChannels { s.pretreat with row := s.pretreat.row + 1 } (nextRow edge s).pretreat := by
  have closed : SameButChannels s.pretreat (closeValves (noteOverlap s)).pretreat := by
    have := closeValves_sameButChannels (noteOverlap s)
    rwa [(by simp : (noteOverlap s).pretreat = s.pretreat)] at this
  rw [nextRow_eq, foldl_armZone_eq]
  simp only [SameButChannels, countRow, setPretreat_pretreat]
  rw [closed]

theorem noteOverlap_of_closed {s : State} (h : anyValve s = false) : noteOverlap s = s := by
  unfold noteOverlap
  split
  · rfl
  · rw [h]
    rfl

theorem nextRow_of_closed {s : State} (h : anyValve s = false) (edge : Clock) :
    ∃ valves : Tbl 8 Valve,
      nextRow edge s = { s with pretreat := { s.pretreat with row := s.pretreat.row + 1, valves := valves } } := by
  rw [nextRow_eq, noteOverlap_of_closed h, closeValves_of_closed h, foldl_armZone_eq]
  exact ⟨_, rfl⟩

theorem noteOverlap_of_busy {s : State} {j : Job} (hj : s.pretreat.job = some j) (h : anyValve s = true) :
    noteOverlap s = changeGarment j.garment (fun r => { r with rowOverlap := true }) s := by
  simp only [noteOverlap, hj, h, if_pos]

theorem garmentAt_nextRow (edge : Clock) (s : State) (g : Fin 32) : garmentAt (nextRow edge s) g = garmentAt (noteOverlap s) g := by
  rw [nextRow_eq, foldl_armZone_eq]
  exact garmentAt_congr (by simp [countRow]) g

/-! ## The edge -/

theorem exec_sprayRowEdge_of_other {s : State} {edge : Clock} (hedge : captureAt s .sprayRow = some edge)
    (h : ¬(s.pretreat.state = .spraying ∧ s.pretreat.row < 16)) :
    exec .sprayRowEdge s = .next (putCapture .sprayRow none s) :=
  (takeCapture_of_captured hedge rowEdge).trans (congrArg _ (if_neg h))

/-- Settles O17, by the channels after a row's edge, and by what else it leaves. -/
theorem sprayRowArmsTheRow : Obligations.SprayRowArmsTheRow := by
  intro s edge hedge
  refine ⟨fun h => ⟨_, exec_sprayRowEdge_of_other hedge h, rfl, captureAt_putCapture_self ..⟩, fun hstate hrow j hj =>
    ⟨_, exec_sprayRowEdge_of_row hedge hstate hrow, ?_⟩⟩
  have unit := nextRow_sameButChannels edge (putCapture .sprayRow none s)
  have taken : captureAt (nextRow edge (putCapture .sprayRow none s)) .sprayRow = none := by
    rw [captureAt, (by simp : (nextRow edge (putCapture .sprayRow none s)).captures = (putCapture .sprayRow none s).captures)]
    exact captureAt_putCapture_self ..
  refine ⟨taken, by rw [unit]; rfl, by rw [unit]; exact hstate, by rw [unit]; rfl, by rw [unit]; rfl, fun z => ?_,
    fun hclosed => ?_, fun hbusy r hr => ?_⟩
  · have keeps := sameSpray_putCapture .sprayRow none s
    have channel := valveAt_nextRow edge (putCapture .sprayRow none s) z
    rw [keeps.zonePulse_eq, keeps.armedFor_eq] at channel
    exact channel
  · obtain ⟨valves, row⟩ := nextRow_of_closed (s := putCapture .sprayRow none s) hclosed edge
    rw [row]
    exact ⟨rfl, rfl⟩
  · rw [garmentAt_nextRow, noteOverlap_of_busy (s := putCapture .sprayRow none s) hj hbusy, garmentAt_changeGarment, if_pos rfl]
    exact congrArg (Option.map _) hr

end Sys2Proof.Machine
end

section
/-! PROOFS. The fail operation (R18): the reports it adds, the garment record, and the counts of the line. -/

namespace Sys2Proof.Machine

-- Elaborated all at once, the proofs of this text start more threads than the check's memory limit lets it.
set_option Elab.async false

/-! ## What operations add to the reports -/

/-- Incidents join the FIFO's tail, no more than `n` of them, and no dirty slot is cleaned. -/
structure Tells (n : Nat) (s t : State) : Prop where
  fifo : s.reports.fifo <+: t.reports.fifo
  length : t.reports.fifo.length ≤ s.reports.fifo.length + n
  dirty : ∀ i, Tbl.at s.reports.dirty i = true → Tbl.at t.reports.dirty i = true

theorem Tells.refl (s : State) : Tells 0 s s := ⟨List.prefix_refl _, Nat.le_refl _, fun _ => id⟩

theorem Tells.trans {n m : Nat} {s t u : State} (h : Tells n s t) (k : Tells m t u) : Tells (n + m) s u :=
  ⟨h.fifo.trans k.fifo, by have := h.length; have := k.length; omega, fun i => k.dirty i ∘ h.dirty i⟩

theorem Tells.mono {n m : Nat} {s t : State} (h : Tells n s t) (hn : n ≤ m) : Tells m s t :=
  ⟨h.fifo, by have := h.length; omega, h.dirty⟩

theorem Tells.of_reports {s t : State} (h : t.reports = s.reports := by simp) : Tells 0 s t := by
  exact ⟨by rw [h], by rw [h]; exact Nat.le_refl _, by rw [h]; exact fun _ => id⟩

theorem Tells.ite {n : Nat} {p : Prop} [Decidable p] {s t u : State} (h : p → Tells n s t) (k : ¬p → Tells n s u) :
    Tells n s (if p then t else u) := by
  split
  · next hp => exact h hp
  · next hp => exact k hp

theorem Tells.mem {n : Nat} {s t : State} (h : Tells n s t) {i : Incident} (hi : i ∈ s.reports.fifo) : i ∈ t.reports.fifo :=
  h.fifo.subset hi

theorem tells_raise (i : Incident) (s : State) : Tells 1 s (raise i s) := by
  rw [raise_eq]
  rcases pushIncident_cases s.reports { i with time := s.clock } with ⟨-, h⟩ | ⟨-, h⟩ <;> rw [h]
  · exact ⟨List.prefix_append .., by simp, fun _ => id⟩
  · exact ⟨List.prefix_refl _, Nat.le_succ _, fun _ => id⟩

theorem raise_mem {s : State} (h : s.reports.fifo.length < 16) (i : Incident) :
    { i with time := s.clock } ∈ (raise i s).reports.fifo := by
  rcases pushIncident_cases s.reports { i with time := s.clock } with ⟨-, e⟩ | ⟨hfull, -⟩
  · rw [raise_eq, e]
    simp
  · exact absurd h (Nat.not_lt.mpr hfull)

theorem dirty_markDirty (i j : Fin 128) (s : State) :
    Tbl.at (markDirty i s).reports.dirty j = if i = j then true else Tbl.at s.reports.dirty j := Tbl.at_put ..

theorem tells_markDirty (i : Fin 128) (s : State) : Tells 0 s (markDirty i s) :=
  ⟨List.prefix_refl _, Nat.le_refl _, fun j h => by rw [dirty_markDirty, h, ite_self]⟩

theorem tells_reportLine (i : Fin 128) (l : LineEntry) (s : State) : Tells 0 s (reportLine i l s) :=
  (Tells.of_reports (t := putLine i l s)).trans (tells_markDirty ..)

theorem dirty_reportLine (i : Fin 128) (l : LineEntry) (s : State) : Tbl.at (reportLine i l s).reports.dirty i = true :=
  (dirty_markDirty ..).trans (if_pos rfl)

theorem tells_judgeOrder (o : Order) (s : State) : Tells 1 s (judgeOrder o s) := by
  unfold judgeOrder
  split
  · split
    · exact (Tells.of_reports (t := putOrder { o with ready := true } s)).trans (tells_raise ..)
    · exact (tells_raise (orderIncident .orderFailed o.key) s).trans .of_reports
  · split
    · refine (tells_raise { orderIncident .orderFailed o.key with detail := 1, value := o.items.length } s).trans .of_reports
    · exact (Tells.refl s).mono (Nat.zero_le _)

theorem tells_finalOrder (i : Fin 128) (take : Byte) (key : Word) (s : State) : Tells 1 s (finalOrder i take key s) := by
  unfold finalOrder
  split
  · exact (Tells.refl s).mono (Nat.zero_le _)
  · next o _ =>
    exact .ite (fun _ => (Tells.of_reports (t := putOrder (finalItem i take o) s)).trans (tells_judgeOrder ..)) fun _ =>
      (Tells.refl s).mono (Nat.zero_le _)

theorem tells_finishLine (i : Fin 128) (st : LineState) (r : Reason) (s : State) : Tells 1 s (finishLine i st r s) :=
  ((Tells.of_reports (t := s.setAccepted (s.accepted.filter fun j => j != i))).trans (tells_reportLine ..)).trans
    (tells_finalOrder ..)

theorem tells_settleCounts (i : Fin 128) (s : State) : Tells 1 s (settleCounts i s) :=
  .ite (fun _ => tells_finishLine ..) fun _ => .ite (fun _ => tells_finishLine ..) fun _ => (Tells.refl s).mono (Nat.zero_le _)

theorem tells_countFailed (i : Fin 128) (s : State) : Tells 1 s (countFailed i s) :=
  (tells_reportLine ..).trans (tells_settleCounts ..)

theorem tells_ifCurrent {n : Nat} {r : Garment} {f : Fin 128 → State → State} {s : State} (h : Tells n s (f r.slot s)) :
    Tells n s (ifCurrent r f s) := .ite (fun _ => h) fun _ => (Tells.refl s).mono (Nat.zero_le _)

/-! ## The counts of a line -/

theorem lineAt_congr {s t : State} (h : t.lines = s.lines) (i : Fin 128) : lineAt t i = lineAt s i := by
  rw [lineAt, h, ← lineAt]

theorem lineAt_reportLine (i j : Fin 128) (l : LineEntry) (s : State) :
    lineAt (reportLine i l s) j = if i = j then l else lineAt s j := lineAt_putLine ..

theorem lineAt_finishLine (i j : Fin 128) (st : LineState) (r : Reason) (s : State) :
    lineAt (finishLine i st r s) j = if i = j then { lineAt s i with state := st, reason := r } else lineAt s j := by
  rw [finishLine, lineAt_congr (finalOrder_frame ..).2.2.2.2.2.2.2.2.1, lineAt_reportLine]
  rfl

theorem lineAt_settleCounts (i j : Fin 128) (s : State) :
    lineAt (settleCounts i s) j = if i = j then Claims.countsSettled (lineAt s i) else lineAt s j := by
  unfold settleCounts Claims.countsSettled
  dsimp only
  split
  · exact lineAt_finishLine ..
  · split
    · rw [lineAt_finishLine]
      cases (lineAt s i).reason <;> rfl
    · split
      · next h => rw [h]
      · rfl

theorem limitFailures_eq (l : LineEntry) :
    limitFailures { l with bound := l.bound - 1, failed := satAdd Config.count8 l.failed 1 } = Claims.failureCounted l := by
  unfold limitFailures Claims.failureCounted failLimitOf
  cases l.snap <;> rfl

theorem lineAt_countFailed (i j : Fin 128) (s : State) :
    lineAt (countFailed i s) j = if i = j then Claims.countsSettled (Claims.failureCounted (lineAt s i)) else lineAt s j := by
  unfold countFailed
  dsimp only
  rw [lineAt_settleCounts, lineAt_reportLine, if_pos rfl, lineAt_reportLine, limitFailures_eq]
  split <;> rfl

theorem dirty_countFailed (i : Fin 128) (s : State) : Tbl.at (countFailed i s).reports.dirty i = true :=
  (tells_settleCounts ..).dirty i (dirty_reportLine ..)

theorem failureCounted_snap (l : LineEntry) : (Claims.failureCounted l).snap = l.snap := by
  unfold Claims.failureCounted
  dsimp only
  rw [apply_ite LineEntry.snap, ite_self]

theorem countsSettled_snap (l : LineEntry) : (Claims.countsSettled l).snap = l.snap := by
  unfold Claims.countsSettled
  split
  · rfl
  · split <;> rfl

theorem snap_countFailed (i j : Fin 128) (s : State) : (lineAt (countFailed i s) j).snap = (lineAt s j).snap := by
  rw [lineAt_countFailed]
  split
  · next h => rw [countsSettled_snap, failureCounted_snap, h]
  · rfl

theorem keyOf_countFailed (i j : Fin 128) (s : State) : keyOf (countFailed i s) j = keyOf s j := by
  simp only [keyOf, snap_countFailed]

/-! ## The garment records that a notice changes -/

/-- What a notice changes of its garment's record: marks of its prints and its exposure become CUT, and its destination is decided. -/
structure Noticed (r r' : Garment) : Prop where
  rest : r' = { r with white := r'.white, flash := r'.flash, color := r'.color, dest := r'.dest }
  white : r'.white = r.white ∨ r'.white = .cut
  flash : r'.flash = r.flash ∨ r'.flash = .cut
  color : r'.color = r.color ∨ r'.color = .cut

theorem Noticed.refl (r : Garment) : Noticed r r := ⟨rfl, .inl rfl, .inl rfl, .inl rfl⟩

theorem Noticed.trans {a b c : Garment} (h : Noticed a b) (k : Noticed b c) : Noticed a c := by
  refine ⟨?_, k.white.elim (fun e => e ▸ h.white) .inr, k.flash.elim (fun e => e ▸ h.flash) .inr,
    k.color.elim (fun e => e ▸ h.color) .inr⟩
  rw [k.rest, h.rest]

/-- An operation changes the record of garment `g` alone, and that as a notice does. -/
structure NoticesOnly (g : Fin 32) (s t : State) : Prop where
  others : ∀ h, h ≠ g → garmentAt t h = garmentAt s h
  none : garmentAt s g = none → garmentAt t g = none
  own : ∀ r, garmentAt s g = some r → ∃ r', garmentAt t g = some r' ∧ Noticed r r'

theorem NoticesOnly.of_garments {g : Fin 32} {s t : State} (h : t.garments = s.garments := by simp) : NoticesOnly g s t :=
  ⟨fun x _ => garmentAt_congr h x, fun e => (garmentAt_congr h g).trans e, fun r e => ⟨r, (garmentAt_congr h g).trans e, .refl r⟩⟩

theorem NoticesOnly.refl (g : Fin 32) (s : State) : NoticesOnly g s s := .of_garments rfl

theorem NoticesOnly.trans {g : Fin 32} {s t u : State} (h : NoticesOnly g s t) (k : NoticesOnly g t u) : NoticesOnly g s u := by
  refine ⟨fun x hx => (k.others x hx).trans (h.others x hx), k.none ∘ h.none, fun r hr => ?_⟩
  obtain ⟨r', hr', hn⟩ := h.own r hr
  obtain ⟨r'', hr'', hm⟩ := k.own r' hr'
  exact ⟨r'', hr'', hn.trans hm⟩

theorem NoticesOnly.ite {g : Fin 32} {p : Prop} [Decidable p] {s t u : State} (h : p → NoticesOnly g s t)
    (k : ¬p → NoticesOnly g s u) : NoticesOnly g s (if p then t else u) := by
  split
  · next hp => exact h hp
  · next hp => exact k hp

theorem noticesOnly_changeGarment {g : Fin 32} {f : Garment → Garment} (hf : ∀ r, Noticed r (f r)) (s : State) :
    NoticesOnly g s (changeGarment g f s) := by
  refine ⟨fun h hh => ?_, fun hn => ?_, fun r hr => ⟨f r, ?_, hf r⟩⟩
  · rw [garmentAt_changeGarment, if_neg hh.symm]
  · rw [garmentAt_changeGarment, if_pos rfl, hn]
    rfl
  · rw [garmentAt_changeGarment, if_pos rfl, hr]
    rfl

theorem noticed_withPrintMark (u : Printer) (r : Garment) : Noticed r (withPrintMark u .cut r) := by
  cases u
  · exact ⟨rfl, .inr rfl, .inl rfl, .inl rfl⟩
  · exact ⟨rfl, .inl rfl, .inl rfl, .inr rfl⟩

theorem noticesOnly_quietCut (u : Printer) (j : PrintJob) (s : State) : NoticesOnly j.garment.index s (quietCut u j s) := by
  have marked : NoticesOnly j.garment.index s (changeGarment j.garment.index (withPrintMark u .cut) (stopLanes u s)) :=
    (NoticesOnly.of_garments (t := stopLanes u s)).trans (noticesOnly_changeGarment (noticed_withPrintMark u) _)
  refine marked.trans (.of_garments ?_)
  simp only [quietCut, leaveUnit_frame]
  split <;> simp

theorem noticesOnly_noticeCurrent (u : Printer) (j : PrintJob) (n : Notice) (s : State) :
    NoticesOnly j.garment.index s (noticeCurrent u j n s) := by
  unfold noticeCurrent
  split
  · exact .refl ..
  · exact .ite (fun _ => .refl ..) fun _ => .of_garments
  · exact .ite (fun _ => noticesOnly_quietCut ..) fun _ => .of_garments
  all_goals
    exact .ite (fun _ => noticesOnly_quietCut ..) fun _ => .ite (fun _ => .of_garments) fun _ => .refl ..

theorem noticesOnly_noticePrint (u : Printer) (g : GarmentId) (n : Notice) (s : State) :
    NoticesOnly g.index s (noticePrint u g n s) := by
  have tallied : NoticesOnly g.index s (noticeTallied u g n s) := .of_garments
  unfold noticePrint
  dsimp only
  split
  · exact tallied
  · refine .ite (fun hj => ?_) fun _ => tallied
    rw [← hj] at tallied ⊢
    exact tallied.trans (noticesOnly_noticeCurrent ..)

theorem noticesOnly_noticeExposure (g : Fin 32) (n : Notice) (s : State) : NoticesOnly g s (noticeExposure g n s) := by
  cases n with
  | voidPrinted => exact .of_garments (by simp [noticeExposure])
  | failed =>
    exact (noticesOnly_changeGarment (f := fun r => { r with flash := .cut }) (fun r => ⟨rfl, .inl rfl, .inr rfl, .inl rfl⟩) s).trans (.of_garments (by simp [noticeExposure]))
  | stripped | chainFault => exact .refl ..

theorem noticesOnly_noticeFlash (g : GarmentId) (n : Notice) (s : State) : NoticesOnly g.index s (noticeFlash g n s) := by
  unfold noticeFlash
  split
  · exact .refl ..
  · refine .ite (fun _ => ?_) fun _ => .refl ..
    split
    · exact .of_garments
    · exact noticesOnly_noticeExposure ..
    · exact noticesOnly_noticeExposure ..
    · exact .refl ..
    · exact .refl ..

theorem noticesOnly_noticeUnload (g : Fin 32) (s : State) : NoticesOnly g s (noticeUnload g s) := by
  refine .ite (fun hpos => ?_) fun _ => .refl ..
  unfold decideUnload
  rw [hpos]
  dsimp only
  split
  · exact .of_garments
  · next r hr =>
    have decided := noticesOnly_changeGarment (g := g) (f := fun r => { r with dest := some (unloadDestination r) })
      (fun r => ⟨rfl, .inl rfl, .inl rfl, .inl rfl⟩) s
    rw [changeGarment, hr] at decided
    exact decided.trans .of_garments

theorem noticesOnly_noticeAll (g : Fin 32) (r : Garment) (n : Notice) (s : State) : NoticesOnly g s (noticeAll g r n s) := by
  have stations : NoticesOnly g s (noticePress g (noticePretreat g (noticeFetch (garmentId g r) n s))) := .of_garments
  exact (((stations.trans (noticesOnly_noticePrint .white (garmentId g r) n _)).trans
    (noticesOnly_noticeFlash (garmentId g r) n _)).trans (noticesOnly_noticePrint .color (garmentId g r) n _)).trans
      (noticesOnly_noticeUnload g _)

end Sys2Proof.Machine
end

section
/-! PROOFS. What the fail operation does to the garment, to its line and to the reports (R18, R19). -/

namespace Sys2Proof.Machine

-- Elaborated all at once, the proofs of this text start more threads than the check's memory limit lets it.
set_option Elab.async false

/-! ## The fail operation by condition -/

theorem counted_iff {c : Condition} : counted c = true ↔ c = .good ∨ c = .voidPrinted := by cases c <;> decide

theorem not_counted_iff {c : Condition} : counted c = false ↔ c = .failed ∨ c = .stripped := by cases c <;> decide

theorem failOp_of_counted {s : State} {g : Fin 32} {r : Garment} (hr : garmentAt s g = some r) (hc : counted r.cond = true)
    (code : FaultCode) : failOp g code s = failCounted g r code s := by
  simp only [failOp, hr, hc, if_pos]

theorem failOp_of_not_counted {s : State} {g : Fin 32} {r : Garment} (hr : garmentAt s g = some r) (hc : counted r.cond = false)
    (code : FaultCode) : failOp g code s = s := by
  simp only [failOp, hr, hc]
  rfl

/-! ## A counted garment -/

/-- The garment's record and the counts of its line once it has failed, before the incident and the notices. -/
def failedState (g : Fin 32) (r : Garment) (code : FaultCode) (s : State) : State :=
  ifCurrent r countFailed (putGarment g { r with cond := .failed, fault := some code } s)

theorem failCounted_eq (g : Fin 32) (r : Garment) (code : FaultCode) (s : State) :
    failCounted g r code s =
      noticeAll g r .failed
        (raise { garmentIncident .garmentFailed g r (failedState g r code s) with detail := faultCode code }
          (failedState g r code s)) := rfl

theorem stampMatches_iff {s : State} {r : Garment} : stampMatches s r = true ↔ (lineAt s r.slot).take = r.stamp := beq_iff_eq

theorem failedState_of_current {s : State} {r : Garment} (h : (lineAt s r.slot).take = r.stamp) (g : Fin 32) (code : FaultCode) :
    failedState g r code s = countFailed r.slot (putGarment g { r with cond := .failed, fault := some code } s) :=
  if_pos (stampMatches_iff.mpr h)

theorem failedState_of_replaced {s : State} {r : Garment} (h : (lineAt s r.slot).take ≠ r.stamp) (g : Fin 32) (code : FaultCode) :
    failedState g r code s = putGarment g { r with cond := .failed, fault := some code } s :=
  if_neg (h ∘ stampMatches_iff.mp)

theorem garments_failedState (g : Fin 32) (r : Garment) (code : FaultCode) (s : State) :
    (failedState g r code s).garments = Tbl.put s.garments g (some { r with cond := .failed, fault := some code }) := by
  unfold failedState ifCurrent
  split <;> simp [putGarment]

theorem clock_failedState (g : Fin 32) (r : Garment) (code : FaultCode) (s : State) :
    (failedState g r code s).clock = s.clock := by
  unfold failedState ifCurrent
  split <;> simp

theorem tells_failedState (g : Fin 32) (r : Garment) (code : FaultCode) (s : State) : Tells 1 s (failedState g r code s) :=
  (Tells.of_reports (t := putGarment g { r with cond := .failed, fault := some code } s)).trans
    (tells_ifCurrent (tells_countFailed ..))

theorem keyOf_failedState (g : Fin 32) (r : Garment) (code : FaultCode) (s : State) (i : Fin 128) :
    keyOf (failedState g r code s) i = keyOf s i := by
  unfold failedState ifCurrent
  split
  · exact keyOf_countFailed ..
  · rfl

theorem lines_failCounted (g : Fin 32) (r : Garment) (code : FaultCode) (s : State) :
    (failCounted g r code s).lines = (failedState g r code s).lines := by
  rw [failCounted_eq]
  simp

theorem reports_failCounted (g : Fin 32) (r : Garment) (code : FaultCode) (s : State) :
    (failCounted g r code s).reports =
      (raise { garmentIncident .garmentFailed g r (failedState g r code s) with detail := faultCode code }
        (failedState g r code s)).reports := by
  rw [failCounted_eq]
  simp

theorem tells_failCounted (g : Fin 32) (r : Garment) (code : FaultCode) (s : State) : Tells 2 s (failCounted g r code s) :=
  ((tells_failedState g r code s).trans (tells_raise ..)).trans (.of_reports (reports_failCounted ..))

/-- GARMENT_FAILED joins the incidents when the FIFO has a place for it and for what the counts lead to. -/
theorem garmentFailed_mem {s : State} (room : s.reports.fifo.length + 1 < 16) (g : Fin 32) (r : Garment) (code : FaultCode) :
    { incident .garmentFailed with
      slot := some r.slot, garment := some g, serial := r.serial, key := keyOf s r.slot, detail := faultCode code
      time := s.clock } ∈ (failCounted g r code s).reports.fifo := by
  have room' := Nat.lt_of_le_of_lt (tells_failedState g r code s).length room
  have mem := raise_mem room' { garmentIncident .garmentFailed g r (failedState g r code s) with detail := faultCode code }
  rw [clock_failedState] at mem
  rw [reports_failCounted]
  simpa only [garmentIncident, shirtIncident, keyOf_failedState, incident] using mem

theorem lineAt_failCounted_of_current {s : State} {r : Garment} (h : (lineAt s r.slot).take = r.stamp) (g : Fin 32)
    (code : FaultCode) (i : Fin 128) :
    lineAt (failCounted g r code s) i =
      if r.slot = i then Claims.countsSettled (Claims.failureCounted (lineAt s r.slot)) else lineAt s i := by
  rw [lineAt_congr (lines_failCounted ..), failedState_of_current h, lineAt_countFailed]
  rfl

theorem lineAt_failCounted_of_replaced {s : State} {r : Garment} (h : (lineAt s r.slot).take ≠ r.stamp) (g : Fin 32)
    (code : FaultCode) (i : Fin 128) : lineAt (failCounted g r code s) i = lineAt s i := by
  rw [lineAt_congr (lines_failCounted ..), failedState_of_replaced h]
  rfl

theorem dirty_failCounted_of_current {s : State} {r : Garment} (h : (lineAt s r.slot).take = r.stamp) (g : Fin 32)
    (code : FaultCode) : Tbl.at (failCounted g r code s).reports.dirty r.slot = true := by
  rw [reports_failCounted, failedState_of_current h]
  exact (tells_raise ..).dirty _ (dirty_countFailed ..)

theorem garmentAt_failedState (g : Fin 32) (r : Garment) (code : FaultCode) (s : State) (h : Fin 32) :
    garmentAt (failedState g r code s) h =
      if g = h then some { r with cond := .failed, fault := some code } else garmentAt s h := by
  rw [garmentAt, garments_failedState, Tbl.at_put]
  rfl

/-- The incident of a failure, raised when the counts are settled. -/
def failureRaised (g : Fin 32) (r : Garment) (code : FaultCode) (s : State) : State :=
  raise { garmentIncident .garmentFailed g r (failedState g r code s) with detail := faultCode code } (failedState g r code s)

theorem garmentAt_failureRaised (g : Fin 32) (r : Garment) (code : FaultCode) (s : State) (h : Fin 32) :
    garmentAt (failureRaised g r code s) h =
      if g = h then some { r with cond := .failed, fault := some code } else garmentAt s h :=
  (garmentAt_congr (by simp [failureRaised]) h).trans (garmentAt_failedState ..)

theorem noticesOnly_failureRaised (g : Fin 32) (r : Garment) (code : FaultCode) (s : State) :
    NoticesOnly g (failureRaised g r code s) (failCounted g r code s) := noticesOnly_noticeAll ..

/-- What the notices leave of a failed garment's record. -/
theorem garmentAt_failCounted_self (g : Fin 32) (r : Garment) (code : FaultCode) (s : State) :
    ∃ r', garmentAt (failCounted g r code s) g = some r' ∧ Noticed { r with cond := .failed, fault := some code } r' :=
  (noticesOnly_failureRaised g r code s).own _ ((garmentAt_failureRaised ..).trans (if_pos rfl))

theorem garmentAt_failCounted_ne {g h : Fin 32} (hne : h ≠ g) (r : Garment) (code : FaultCode) (s : State) :
    garmentAt (failCounted g r code s) h = garmentAt s h :=
  ((noticesOnly_failureRaised g r code s).others h hne).trans ((garmentAt_failureRaised ..).trans (if_neg hne.symm))

theorem garmentAt_failOp_ne {g h : Fin 32} (hne : h ≠ g) (code : FaultCode) (s : State) :
    garmentAt (failOp g code s) h = garmentAt s h := by
  unfold failOp
  split
  · rfl
  · split
    · exact garmentAt_failCounted_ne hne ..
    · rfl

theorem tells_failOp (g : Fin 32) (code : FaultCode) (s : State) : Tells 2 s (failOp g code s) := by
  unfold failOp
  split
  · exact (Tells.refl s).mono (Nat.zero_le _)
  · exact .ite (fun _ => tells_failCounted ..) fun _ => (Tells.refl s).mono (Nat.zero_le _)

/-! ## The claim on a failure, from the state before the fail operation -/

/-- The garment as the fail operation finds it: what its failure leaves of the record it had before the unit's own changes. -/
structure SameForFailure (r r' : Garment) : Prop where
  cond : r'.cond = r.cond
  fault : r'.fault = r.fault
  slot : r'.slot = r.slot
  stamp : r'.stamp = r.stamp
  serial : r'.serial = r.serial

theorem failsGarment_of_failOp {s a t : State} {g : Fin 32} {r ra : Garment} {code : FaultCode} (lines : a.lines = s.lines)
    (clock : a.clock = s.clock) (before : Tells 1 s a) (hra : garmentAt a g = some ra) (same : SameForFailure r ra)
    (garments : t.garments = (failOp g code a).garments) (linesAfter : t.lines = (failOp g code a).lines) {n : Nat}
    (after : Tells n (failOp g code a) t) : Claims.failsGarment s t g r code (faultCode code) := by
  obtain ⟨cond, fault, slot, stamp, serial⟩ := same
  have lineAfter (i : Fin 128) : lineAt t i = lineAt (failOp g code a) i := lineAt_congr linesAfter i
  have lineBefore (i : Fin 128) : lineAt a i = lineAt s i := lineAt_congr lines i
  have garmentAfter : garmentAt t g = garmentAt (failOp g code a) g := garmentAt_congr garments g
  have keyBefore : keyOf a ra.slot = keyOf s r.slot := by simp only [keyOf, lineBefore, slot]
  cases hc : counted ra.cond with
  | true =>
    rw [failOp_of_counted hra hc] at lineAfter garmentAfter after
    refine ⟨fun o ho => ?_, fun _ => ⟨?_, fun hcur => ?_, fun hrep => ?_, fun room => ?_⟩, fun settled => ?_⟩
    · rw [lineAfter, ← lineBefore]
      by_cases hcur : (lineAt a ra.slot).take = ra.stamp
      · rw [lineAt_failCounted_of_current hcur, if_neg (slot ▸ ho.symm)]
      · exact lineAt_failCounted_of_replaced hcur ..
    · obtain ⟨r', hr', noticed⟩ := garmentAt_failCounted_self g ra code a
      exact ⟨r', garmentAfter.trans hr', by rw [noticed.rest], by rw [noticed.rest]⟩
    · rw [← slot, ← stamp, ← lineBefore] at hcur
      rw [← slot, lineAfter, ← lineBefore]
      exact ⟨(lineAt_failCounted_of_current hcur ..).trans (if_pos rfl), after.dirty _ (dirty_failCounted_of_current hcur ..)⟩
    · rw [← slot, ← stamp, ← lineBefore] at hrep
      rw [← slot, lineAfter, ← lineBefore]
      exact lineAt_failCounted_of_replaced hrep ..
    · have mem := garmentFailed_mem (s := a) (by have := before.length; omega) g ra code
      rw [keyBefore, slot, serial, clock] at mem
      exact after.mem mem
    · rw [← cond] at settled
      exact absurd (not_counted_iff.mpr settled) (by rw [hc]; decide)
  | false =>
    rw [failOp_of_not_counted hra hc] at lineAfter garmentAfter
    refine ⟨fun o _ => (lineAfter o).trans (lineBefore o), fun live => ?_, fun _ => ⟨(lineAfter _).trans (lineBefore _), ra, ?_, cond, fault⟩⟩
    · rw [← cond] at live
      exact absurd (counted_iff.mpr live) (by rw [hc]; decide)
    · exact garmentAfter.trans hra

end Sys2Proof.Machine
end

section
/-! PROOFS. The requester places that an operation may change, and what a failure leaves of the units at rest. -/

namespace Sys2Proof.Machine

-- Elaborated all at once, the proofs of this text start more threads than the check's memory limit lets it.
set_option Elab.async false

/-! ## Requester places -/

/-- Of the station link only the places of requesters with `A` change. -/
structure Hands (A : Requester → Prop) (s t : State) : Prop where
  link : t.link = { s.link with places := t.link.places }
  places : ∀ q, ¬A q → placeAt t q = placeAt s q

theorem Hands.of_link {A : Requester → Prop} {s t : State} (h : t.link = s.link := by simp) : Hands A s t :=
  ⟨by rw [h], fun q _ => by rw [placeAt, h, ← placeAt]⟩

theorem Hands.refl {A : Requester → Prop} (s : State) : Hands A s s := .of_link rfl

theorem Hands.trans {A : Requester → Prop} {s t u : State} (h : Hands A s t) (k : Hands A t u) : Hands A s u := by
  refine ⟨?_, fun q hq => (k.places q hq).trans (h.places q hq)⟩
  rw [k.link, h.link]

theorem Hands.ite {A : Requester → Prop} {p : Prop} [Decidable p] {s t u : State} (h : p → Hands A s t) (k : ¬p → Hands A s u) :
    Hands A s (if p then t else u) := by
  split
  · next hp => exact h hp
  · next hp => exact k hp

theorem hands_putPlace {A : Requester → Prop} {q : Requester} (hq : A q) (p : LinkPlace) (s : State) : Hands A s (putPlace q p s) :=
  ⟨rfl, fun _ ho => placeAt_putPlace_ne _ _ fun e => ho (e ▸ hq)⟩

theorem hands_handIn {A : Requester → Prop} {q : Requester} (hq : A q) (x : Txn) (s : State) : Hands A s (handIn q x s) := by
  unfold handIn
  split
  · exact .ite (fun _ => .refl s) fun _ => hands_putPlace hq ..
  · exact hands_putPlace hq ..

theorem hands_replaceTxn {A : Requester → Prop} {q : Requester} (hq : A q) (x : Txn) (s : State) : Hands A s (replaceTxn q x s) := by
  unfold replaceTxn
  split
  · exact hands_handIn hq ..
  · split <;> exact hands_putPlace hq ..

theorem hands_withdrawTxn {A : Requester → Prop} {q : Requester} (hq : A q) (s : State) : Hands A s (withdrawTxn q s) := by
  unfold withdrawTxn
  split
  · exact hands_putPlace hq ..
  · split <;> exact hands_putPlace hq ..

theorem Hands.unreachable {A : Requester → Prop} {s t : State} (h : Hands A s t) (exch : t.exch = s.exch) (r : Role) :
    unreachable t r = unreachable s r := by
  unfold Machine.unreachable attached roleAddr moduleAt
  rw [h.link, exch]

/-- A transaction handed in to an empty place for a module within reach. -/
theorem placeAt_handIn {q : Requester} {x : Txn} {s : State} (hp : (placeAt s q).now = none) (hr : unreachable s x.role = false) :
    (placeAt (handIn q x s) q).now = some (queuedNow x s) := by
  rw [handIn_of_empty hp hr, placeAt_putPlace_self]
  rfl

theorem replaceTxn_of_empty {q : Requester} {s : State} (hp : (placeAt s q).now = none) (x : Txn) : replaceTxn q x s = handIn q x s := by
  rw [replaceTxn, hp]

theorem lostAtOnce_of_reachable {q : Requester} {r : Role} {s : State} (h : Machine.unreachable s r = false) :
    lostAtOnce q r s = false := by
  rw [lostAtOnce, h, Bool.and_false]

/-! ## The places of a garment's failure -/

/-- The requesters of the print units. -/
def ofPrints (q : Requester) : Prop := q = .white ∨ q = .color

theorem ofPrints_printRequester (u : Printer) : ofPrints (printRequester u) := by
  cases u
  · exact .inl rfl
  · exact .inr rfl

theorem hands_stopCarriage (u : Printer) (s : State) : Hands ofPrints s (stopCarriage u s) :=
  hands_replaceTxn (ofPrints_printRequester u) ..

theorem hands_quietCut (u : Printer) (j : PrintJob) (s : State) : Hands ofPrints s (quietCut u j s) := by
  unfold quietCut
  dsimp only
  split
  · exact (Hands.of_link (t := abruptCancel u j.garment (changeGarment j.garment.index (withPrintMark u .cut) (stopLanes u s)))).trans
      ((hands_stopCarriage u _).trans .of_link)
  · exact .of_link

theorem hands_noticeCurrent (u : Printer) (j : PrintJob) (n : Notice) (s : State) : Hands ofPrints s (noticeCurrent u j n s) := by
  unfold noticeCurrent
  split
  · exact .refl s
  · exact .ite (fun _ => .refl s) fun _ => .of_link
  · exact .ite (fun _ => hands_quietCut ..) fun _ => .of_link
  all_goals exact .ite (fun _ => hands_quietCut ..) fun _ => .ite (fun _ => .of_link) fun _ => .refl s

theorem hands_noticePrint (u : Printer) (g : GarmentId) (n : Notice) (s : State) : Hands ofPrints s (noticePrint u g n s) := by
  unfold noticePrint
  dsimp only
  split
  · exact .of_link
  · exact .ite (fun _ => (Hands.of_link (t := noticeTallied u g n s)).trans (hands_noticeCurrent ..)) fun _ => .of_link

/-! ## Units that a notice finds at rest -/

/-- The flash unit waits for no garment and exposes none. -/
def flashAtRest (s : State) : Prop := s.flash.state = .idle ∨ s.flash.state = .ending

theorem noticeFlash_of_rest {s : State} (h : flashAtRest s) (g : GarmentId) (n : Notice) : noticeFlash g n s = s := by
  unfold noticeFlash
  split
  · rfl
  · rcases h with h | h <;> rw [h] <;> exact ite_self s

theorem noticePretreat_of_idle {s : State} (h : s.pretreat.state = .idle) (g : Fin 32) : noticePretreat g s = s := by
  rw [noticePretreat, h]

/-- The blocks that a notice reaches before FLASH. -/
def noticedBefore (g : Fin 32) (r : Garment) (n : Notice) (s : State) : State :=
  noticePrint .white (garmentId g r) n (noticePress g (noticePretreat g (noticeFetch (garmentId g r) n s)))

theorem noticeAll_eq (g : Fin 32) (r : Garment) (n : Notice) (s : State) :
    noticeAll g r n s =
      noticeUnload g (noticePrint .color (garmentId g r) n (noticeFlash (garmentId g r) n (noticedBefore g r n s))) := rfl

theorem noticeAll_of_flashAtRest {s : State} (h : flashAtRest s) (g : Fin 32) (r : Garment) (n : Notice) :
    noticeAll g r n s = noticeUnload g (noticePrint .color (garmentId g r) n (noticedBefore g r n s)) := by
  have before : flashAtRest (noticedBefore g r n s) := by
    rwa [flashAtRest, show (noticedBefore g r n s).flash = s.flash by simp [noticedBefore]]
  rw [noticeAll_eq, noticeFlash_of_rest before]

theorem hands_noticeAll {s : State} (h : flashAtRest s) (g : Fin 32) (r : Garment) (n : Notice) :
    Hands ofPrints s (noticeAll g r n s) := by
  have stations : Hands ofPrints s (noticePress g (noticePretreat g (noticeFetch (garmentId g r) n s))) := .of_link
  have before : Hands ofPrints s (noticedBefore g r n s) := stations.trans (hands_noticePrint ..)
  rw [noticeAll_of_flashAtRest h]
  exact (before.trans (hands_noticePrint .color (garmentId g r) n _)).trans .of_link

theorem noticeAll_flash {s : State} (h : flashAtRest s) (g : Fin 32) (r : Garment) (n : Notice) :
    (noticeAll g r n s).flash = s.flash := by
  rw [noticeAll_of_flashAtRest h]
  simp [noticedBefore]

theorem noticeAll_pretreat {s : State} (h : s.pretreat.state = .idle) (g : Fin 32) (r : Garment) (n : Notice) :
    (noticeAll g r n s).pretreat = s.pretreat := by
  have fetched : (noticeFetch (garmentId g r) n s).pretreat = s.pretreat := by simp
  rw [noticeAll_eq, noticedBefore, noticePretreat_of_idle (by rwa [fetched])]
  simp

/-! ## What a failure leaves unchanged -/

theorem failureRaised_unchanged (g : Fin 32) (r : Garment) (code : FaultCode) (s : State) :
    (failureRaised g r code s).flash = s.flash ∧ (failureRaised g r code s).pretreat = s.pretreat ∧
      (failureRaised g r code s).link = s.link := by
  unfold failureRaised failedState ifCurrent
  split <;> simp

theorem failCounted_noticed (g : Fin 32) (r : Garment) (code : FaultCode) (s : State) :
    failCounted g r code s = noticeAll g r .failed (failureRaised g r code s) := rfl

theorem failOp_flash {s : State} (h : flashAtRest s) (g : Fin 32) (code : FaultCode) : (failOp g code s).flash = s.flash := by
  unfold failOp
  split
  · rfl
  · next r _ =>
    obtain ⟨flash, -, -⟩ := failureRaised_unchanged g r code s
    split
    · rw [failCounted_noticed, noticeAll_flash (by rwa [flashAtRest, flash]), flash]
    · rfl

theorem failOp_pretreat {s : State} (h : s.pretreat.state = .idle) (g : Fin 32) (code : FaultCode) :
    (failOp g code s).pretreat = s.pretreat := by
  unfold failOp
  split
  · rfl
  · next r _ =>
    obtain ⟨-, pretreat, -⟩ := failureRaised_unchanged g r code s
    split
    · rw [failCounted_noticed, noticeAll_pretreat (by rwa [pretreat]), pretreat]
    · rfl

theorem hands_failOp {s : State} (h : flashAtRest s) (g : Fin 32) (code : FaultCode) : Hands ofPrints s (failOp g code s) := by
  unfold failOp
  split
  · exact .refl s
  · next r _ =>
    obtain ⟨flash, -, link⟩ := failureRaised_unchanged g r code s
    refine .ite (fun _ => ?_) fun _ => .refl s
    exact (Hands.of_link link).trans (hands_noticeAll (by rwa [flashAtRest, flash]) ..)

end Sys2Proof.Machine
end

section
/-! PROOFS. The guards of the pretreat and press units and the flash limit: what they cut, and how a failure counts for its line. -/

namespace Sys2Proof.Machine

-- Elaborated all at once, the proofs of this text start more threads than the check's memory limit lets it.
set_option Elab.async false

/-! ## States field by field -/

/-- Two states are the same when each of their fields is. -/
theorem state_eq_iff {s t : State} :
    s = t ↔
      s.pending = t.pending ∧ s.clock = t.clock ∧ s.pins = t.pins ∧ s.captures = t.captures ∧ s.buttons = t.buttons ∧
      s.ctl = t.ctl ∧ s.config = t.config ∧ s.catalog = t.catalog ∧ s.lines = t.lines ∧ s.accepted = t.accepted ∧
      s.garments = t.garments ∧ s.carousel = t.carousel ∧ s.pretreat = t.pretreat ∧ s.press = t.press ∧ s.engine = t.engine ∧
      s.staging = t.staging ∧ s.port = t.port ∧ s.prints = t.prints ∧ s.lanes = t.lanes ∧ s.flash = t.flash ∧
      s.dryer = t.dryer ∧ s.pack = t.pack ∧ s.link = t.link ∧ s.exch = t.exch ∧ s.reports = t.reports := by
  cases s
  cases t
  simp only [State.mk.injEq]

/-! ## The pass guard -/

theorem passGuardDue_iff {s : State} {tm : Timer} (hs : s.pretreat.state = .spraying ∨ s.pretreat.state = .finishing)
    (hg : s.pretreat.guard = some tm) : passGuardDue s = true ↔ tm.limit ≤ (s.clock - tm.start).toNat := by
  have hflight : passInFlight s = true := by
    unfold passInFlight
    rcases hs with h | h <;> rw [h]
  rw [passGuardDue, hflight, hg]
  exact expired_iff ..

/-- A pass is cut up to its fail request: the valves closed, the unit IDLE and the mark CUT. -/
def passStopped (g : Fin 32) (s : State) : State := markPretreat g .cut (idlePretreat (closeValves s))

theorem passCut_of_job {s : State} {j : Job} (hj : s.pretreat.job = some j) (detail : Nat) :
    passCut detail s =
      stopSpray (releaseStation .pretreat j.platen
        (raisePassCut detail s.pretreat.row (failOp j.garment .pretreatCut (passStopped j.garment s)))) := by
  rw [passCut, hj]
  rfl

theorem anyValve_closeValves (s : State) : anyValve (closeValves s) = false :=
  (anyValve_eq_false_iff _).mpr fun z => by
    rw [valveAt_closeValves]
    rfl

theorem anyValve_idlePretreat (s : State) : anyValve (idlePretreat s) = anyValve s := rfl

theorem passStopped_idle (g : Fin 32) (s : State) :
    (passStopped g s).pretreat.state = .idle ∧ (passStopped g s).pretreat.job = none ∧ (passStopped g s).pretreat.guard = none ∧
      anyValve (passStopped g s) = false := by
  have idled : (passStopped g s).pretreat = (idlePretreat (closeValves s)).pretreat := by simp [passStopped, markPretreat]
  have closed : anyValve (idlePretreat (closeValves s)) = false := (anyValve_idlePretreat _).trans (anyValve_closeValves s)
  rw [anyValve] at closed ⊢
  rw [idled]
  exact ⟨rfl, rfl, rfl, closed⟩

theorem garmentAt_passStopped {g : Fin 32} {r : Garment} {s : State} (hr : garmentAt s g = some r) :
    garmentAt (passStopped g s) g = some { r with pretreat := .cut } := by
  have idled : garmentAt (idlePretreat (closeValves s)) g = some r := (garmentAt_congr (by simp) g).trans hr
  rw [passStopped, markPretreat, garmentAt_changeGarment, if_pos rfl, idled]
  rfl

theorem passGuardFails {s : State} {tm : Timer} {j : Job} {r : Garment}
    (hs : s.pretreat.state = .spraying ∨ s.pretreat.state = .finishing) (hg : s.pretreat.guard = some tm)
    (due : tm.limit ≤ (s.clock - tm.start).toNat) (closed : anyValve s = false) (hj : s.pretreat.job = some j)
    (hr : garmentAt s j.garment = some r) :
    ∃ t, exec .passGuardExpiry s = .next t ∧ Claims.failsGarment s t j.garment r .pretreatCut 1 := by
  refine ⟨_, whenDue_of_due ((passGuardDue_iff hs hg).mpr due), ?_⟩
  rw [passCut_of_job hj]
  refine failsGarment_of_failOp (a := passStopped j.garment s) (ra := { r with pretreat := .cut }) (n := 1)
    (by simp [passStopped, markPretreat]) (by simp [passStopped, markPretreat]) ?_ (garmentAt_passStopped hr)
    ⟨rfl, rfl, rfl, rfl, rfl⟩ (by simp) (by simp) ?_
  · rw [passStopped, closeValves_of_closed closed]
    exact (Tells.of_reports (by simp [markPretreat])).mono (Nat.zero_le 1)
  · exact (tells_raise { incident .passCut with detail := 0, value := s.pretreat.row } _).trans (.of_reports (by simp [raisePassCut]))

theorem passGuardCutsThePass : Claims.PassGuardCutsThePass := by
  intro s tm j r hs hg hj hr good
  have exact_due := passGuardDue_iff hs hg
  refine ⟨fun early => whenDue_of_not_due (Bool.eq_false_iff.mpr fun d => Nat.not_le.mpr early (exact_due.mp d)), fun due => ?_⟩
  obtain ⟨idle, nojob, noguard, closed⟩ := passStopped_idle j.garment s
  have hstopped := garmentAt_passStopped (g := j.garment) hr
  obtain ⟨r', hr', noticed⟩ := garmentAt_failCounted_self j.garment { r with pretreat := .cut } .pretreatCut (passStopped j.garment s)
  rw [← failOp_of_counted hstopped (counted_iff.mpr (.inl good))] at hr'
  have pretreat : (passCut 0 s).pretreat = (passStopped j.garment s).pretreat := by
    rw [passCut_of_job hj, ← failOp_pretreat idle j.garment .pretreatCut]
    simp [stopSpray, raisePassCut]
  have garments : (passCut 0 s).garments = (failOp j.garment .pretreatCut (passStopped j.garment s)).garments := by
    rw [passCut_of_job hj]
    simp
  refine ⟨passCut 0 s, r', whenDue_of_due (exact_due.mpr due), by rw [pretreat, idle], by rw [pretreat, nojob],
    by rw [pretreat, noguard], by rw [anyValve, pretreat]; exact closed, (garmentAt_congr garments _).trans hr', ?_⟩
  refine ⟨by rw [noticed.rest], by rw [noticed.rest], by rw [noticed.rest], ?_⟩
  simp

/-! ## The press guard -/

theorem pressGuardDue_iff {s : State} {tm : Timer} (hs : s.press.state = .setpoint ∨ s.press.state = .command ∨ s.press.state = .pressing)
    (hg : s.press.guard = some tm) : pressGuardDue s = true ↔ tm.limit ≤ (s.clock - tm.start).toNat := by
  have hflight : cycleInFlight s = true := by
    unfold cycleInFlight
    rcases hs with h | h | h <;> rw [h]
  rw [pressGuardDue, hflight, hg]
  exact expired_iff ..

theorem raisePressSkipped_of_garment {s : State} {g : Fin 32} {r : Garment} (hr : garmentAt s g = some r) (detail : Nat) :
    raisePressSkipped g detail s = raise { shirtIncident .pressSkipped g r with detail := detail } s := by
  rw [raisePressSkipped, hr]

theorem pressCut_of_guard {s : State} {j : Job} (hj : s.press.job = some j) :
    pressCut 5 s = replaceTxn .press (putQuiet .press .stop) (skipPress j 5 s) := by
  rw [pressCut, hj]
  exact if_pos (.inr rfl)

theorem releaseStation_carousel (st : Station) (p : Fin 12) (s : State) :
    (releaseStation st p s).carousel = { s.carousel with released := (releaseStation st p s).carousel.released } := by
  unfold releaseStation
  split <;> rfl

theorem released_releaseStation {st : Station} {p : Fin 12} {s : State} (hp : platenAt s (stationPos st) = p)
    (rest : s.carousel.op = .none) : released (releaseStation st p s) st = true := by
  have free : opInFlight s = false := by rw [opInFlight, rest]; rfl
  rw [releaseStation, if_pos ⟨hp, free⟩, released_setReleased, if_pos rfl]

/-- A press cycle is cut up to its incident: the mark CUT and the unit IDLE. -/
def cycleStopped (g : Fin 32) (s : State) : State := idlePress (changeGarment g (fun r => { r with press := .cut }) s)

theorem skipPress_eq (j : Job) (detail : Nat) (s : State) :
    skipPress j detail s = releaseStation .press j.platen (raisePressSkipped j.garment detail (cycleStopped j.garment s)) := rfl

theorem garmentAt_cycleStopped {g h : Fin 32} {s : State} :
    garmentAt (cycleStopped g s) h =
      if g = h then (garmentAt s g).map fun r => { r with press := .cut } else garmentAt s h :=
  garmentAt_changeGarment ..

theorem pressGuardCutsTheCycle : Claims.PressGuardCutsTheCycle := by
  intro s tm j r hs hg hj hr
  have exact_due := pressGuardDue_iff hs hg
  refine ⟨fun early => whenDue_of_not_due (Bool.eq_false_iff.mpr fun d => Nat.not_le.mpr early (exact_due.mp d)), fun due => ?_⟩
  refine ⟨pressCut 5 s, whenDue_of_due (exact_due.mpr due), ?_⟩
  have own : garmentAt (cycleStopped j.garment s) j.garment = some { r with press := .cut } := by
    rw [garmentAt_cycleStopped, if_pos rfl, hr]
    rfl
  have cut : pressCut 5 s =
      replaceTxn .press (putQuiet .press .stop)
        (releaseStation .press j.platen
          (raise { shirtIncident .pressSkipped j.garment { r with press := .cut } with detail := 5 } (cycleStopped j.garment s))) := by
    rw [pressCut_of_guard hj, skipPress_eq, raisePressSkipped_of_garment own]
  have hands : Hands (· = .press) s (pressCut 5 s) := by
    rw [pressCut_of_guard hj]
    exact (Hands.of_link (t := skipPress j 5 s)).trans (hands_replaceTxn (A := (· = .press)) rfl ..)
  have garments : (pressCut 5 s).garments = (cycleStopped j.garment s).garments := by
    rw [cut]
    simp
  have carousel : (pressCut 5 s).carousel =
      (releaseStation .press j.platen
        (raise { shirtIncident .pressSkipped j.garment { r with press := .cut } with detail := 5 } (cycleStopped j.garment s))).carousel := by
    rw [cut]
    simp
  refine ⟨?_, ?_, (garmentAt_congr garments _).trans own, fun h hne => ?_, ?_, ?_, fun hp rest => ?_, hands.link, hands.places⟩
  · rw [cut]
    refine state_eq_iff.mpr ?_
    simp [cycleStopped]
  · rw [cut]
    simp [cycleStopped, idlePress, Press.reset]
  · rw [garmentAt_congr garments, garmentAt_cycleStopped, if_neg hne.symm]
  · rw [cut]
    simp only [replaceTxn_frame, releaseStation_frame]
    rw [raise_eq]
    simp [Claims.raised, cycleStopped, shirtIncident]
  · rw [carousel, releaseStation_carousel]
    simp [cycleStopped]
  · rw [released, carousel, ← released]
    refine released_releaseStation ?_ ?_
    · rw [← hp]
      simp [platenAt, cycleStopped, stationPos]
    · simpa [cycleStopped] using rest

/-- Settles O29, by the unit whose guard has run out. -/
theorem stationGuardsCutTheWork : Obligations.StationGuardsCutTheWork := ⟨passGuardCutsThePass, pressGuardCutsTheCycle⟩

/-! ## The flash limit -/

theorem flashLimitDue_iff {s : State} {tm : Timer} (hs : s.flash.state = .heating ∨ s.flash.state = .exposing)
    (hl : s.flash.limit = some tm) : flashLimitDue s = true ↔ tm.limit ≤ (s.clock - tm.start).toNat := by
  have hlimited : limitedState s.flash.state = true := by rcases hs with h | h <;> rw [h] <;> rfl
  rw [flashLimitDue, hlimited, hl]
  exact expired_iff ..

/-- An exposure is cut up to its fail request: ENDING, the mark CUT and FLASH_CUT raised. -/
def flashStopped (g : Fin 32) (cause : Nat) (s : State) : State := raiseFlashCut g cause (markFlash g .cut (enterEnding s))

theorem flashCut_of_job {s : State} {j : PrintJob} (hj : s.flash.job = some j) (cause : Nat) :
    flashCut cause s = heatOff (failOp j.garment.index .gelShort (flashStopped j.garment.index cause s)) := by
  rw [flashCut, hj]
  rfl

theorem garmentAt_flashStopped {g : Fin 32} {r : Garment} {s : State} (hr : garmentAt s g = some r) (cause : Nat) :
    garmentAt (flashStopped g cause s) g = some { r with flash := .cut } := by
  have ending : garmentAt (enterEnding s) g = some r := (garmentAt_congr (by simp) g).trans hr
  rw [flashStopped, garmentAt_congr (s := markFlash g .cut (enterEnding s)) (by simp), markFlash,
    garmentAt_changeGarment, if_pos rfl, ending]
  rfl

theorem flashStopped_flash (g : Fin 32) (cause : Nat) (s : State) :
    (flashStopped g cause s).flash = { s.flash with state := .ending, limit := none } := by
  simp [flashStopped, markFlash, enterEnding]

theorem flashStopped_atRest (g : Fin 32) (cause : Nat) (s : State) : flashAtRest (flashStopped g cause s) :=
  .inr (by rw [flashStopped_flash])

theorem tells_raiseFlashCut (g : Fin 32) (cause : Nat) (s : State) : Tells 1 s (raiseFlashCut g cause s) := by
  unfold raiseFlashCut
  split
  · exact (Tells.refl s).mono (Nat.zero_le _)
  · exact tells_raise ..

theorem tells_flashStopped (g : Fin 32) (cause : Nat) (s : State) : Tells 1 s (flashStopped g cause s) :=
  (Tells.of_reports (by simp [markFlash])).trans (tells_raiseFlashCut g cause (markFlash g .cut (enterEnding s)))

theorem flashLimitFails {s : State} {tm : Timer} {j : PrintJob} {r : Garment}
    (hs : s.flash.state = .heating ∨ s.flash.state = .exposing) (hl : s.flash.limit = some tm)
    (due : tm.limit ≤ (s.clock - tm.start).toNat) (hj : s.flash.job = some j) (hr : garmentAt s j.garment.index = some r) :
    ∃ t, exec .flashLimitExpiry s = .next t ∧ Claims.failsGarment s t j.garment.index r .gelShort 5 := by
  refine ⟨_, whenDue_of_due ((flashLimitDue_iff hs hl).mpr due), ?_⟩
  rw [flashCut_of_job hj]
  exact failsGarment_of_failOp (a := flashStopped j.garment.index 0 s) (ra := { r with flash := .cut }) (n := 0)
    (by simp [flashStopped, markFlash]) (by simp [flashStopped, markFlash]) (tells_flashStopped ..) (garmentAt_flashStopped hr 0)
    ⟨rfl, rfl, rfl, rfl, rfl⟩ (by simp) (by simp) (.of_reports (by simp))

/-- Settles O49, by the fail operation's rule for each of its callers. -/
theorem failureCountsForItsLine : Obligations.FailureCountsForItsLine :=
  ⟨fun _ _ _ _ hs hg due closed hj hr => passGuardFails hs hg due closed hj hr,
    fun _ _ _ _ hs hl due hj hr => flashLimitFails hs hl due hj hr⟩

end Sys2Proof.Machine
end

section
/-! PROOFS. How station work starts: behind the gate of section 2.3, with a command in the requester's empty place. The flash limit's cut of a GOOD
garment. -/

namespace Sys2Proof.Machine

-- Elaborated all at once, the proofs of this text start more threads than the check's memory limit lets it.
set_option Elab.async false

/-! ## A transaction in an empty place -/

theorem not_lostAtOnce {q : Requester} {r : Role} {s : State} (h : unreachable s r = false) : ¬lostAtOnce q r s = true := by
  rw [lostAtOnce_of_reachable h]
  decide

/-- A requester's empty place takes a transaction, and nothing else changes. -/
structure HandedIn (q : Requester) (x : Txn) (s t : State) : Prop where
  frame : t = { s with link := { s.link with places := t.link.places } }
  now : (placeAt t q).now = some (queuedNow x s)
  others : ∀ p, p ≠ q → placeAt t p = placeAt s p

theorem handedIn_of_empty {q : Requester} {x : Txn} {s : State} (hp : (placeAt s q).now = none) (hr : unreachable s x.role = false) :
    HandedIn q x s (handIn q x s) := by
  refine ⟨?_, placeAt_handIn hp hr, (hands_handIn (A := (· = q)) rfl x s).places⟩
  rw [handIn_of_empty hp hr]
  rfl

/-! ## The gate of station work -/

theorem mayWork_iff (s : State) : mayWork s = true ↔ s.ctl.mode = .run ∧ s.carousel.homed = true ∧ s.carousel.op = .none := by
  simp [mayWork, opInFlight, and_assoc]

theorem mayWork_of {s : State} (run : s.ctl.mode = .run) (homed : s.carousel.homed = true) (rest : s.carousel.op = .none) :
    mayWork s = true := (mayWork_iff s).mpr ⟨run, homed, rest⟩

/-! ## Exposures -/

theorem exec_exposureStart (s : State) : exec .exposureStart s = whenDue (exposureDue s) startExposure s := rfl

theorem exposureDue_eq {s : State} (h : s.flash.state = .waiting) : exposureDue s = mayWork s := by simp [exposureDue, h]

theorem startExposure_of_reachable {s : State} (hr : unreachable s .flash = false) :
    startExposure s = handIn .flash (putCmd .flash .heatOn 0) (s.setFlash (heatingUnit s)) :=
  if_neg (not_lostAtOnce (by exact hr))

theorem exposureStartSendsHeatOn : Claims.ExposureStartSendsHeatOn := by
  intro s hw
  rw [exec_exposureStart, exposureDue_eq hw]
  refine ⟨whenDue_of_not_due, fun run homed rest hp hr => ⟨_, whenDue_of_due (mayWork_of run homed rest), ?_⟩⟩
  rw [startExposure_of_reachable hr]
  have handed := handedIn_of_empty (x := putCmd .flash .heatOn 0) (s := s.setFlash (heatingUnit s)) hp hr
  refine ⟨?_, ?_, handed.now, handed.others⟩
  · rw [handed.frame]
    rfl
  · rw [handed.frame]
    rfl

theorem exposureFault_of_reachable {s : State} {j : PrintJob} (hj : s.flash.job = some j) (hp : (placeAt s .flash).now = none)
    (hr : unreachable s .flash = false) (cause : Nat) :
    (flashCut cause s).flash = { s.flash with state := .ending, limit := none } ∧
      (placeAt (flashCut cause s) .flash).now = some (queuedNow (putCmd .flash .heatOff 0) s) := by
  have cut := flashCut_of_job hj cause
  have atRest := flashStopped_atRest j.garment.index cause s
  have hands : Hands ofPrints s (failOp j.garment.index .gelShort (flashStopped j.garment.index cause s)) :=
    (Hands.of_link (by simp [flashStopped, markFlash])).trans (hands_failOp atRest ..)
  have flash := (failOp_flash atRest j.garment.index .gelShort).trans (flashStopped_flash ..)
  have exch : (failOp j.garment.index .gelShort (flashStopped j.garment.index cause s)).exch = s.exch := by
    simp [flashStopped, markFlash]
  have clock : (failOp j.garment.index .gelShort (flashStopped j.garment.index cause s)).clock = s.clock := by
    simp [flashStopped, markFlash]
  have place := hands.places .flash (by unfold ofPrints; decide)
  have reach := hands.unreachable exch .flash
  generalize failOp j.garment.index .gelShort (flashStopped j.garment.index cause s) = a at cut flash clock place reach
  rw [hr] at reach
  rw [← place] at hp
  have handed := handedIn_of_empty (x := putCmd .flash .heatOff 0) hp reach
  rw [cut, heatOff, if_neg (not_lostAtOnce reach), replaceTxn_of_empty hp]
  refine ⟨?_, ?_⟩
  · rw [handed.frame]
    exact flash
  · rw [handed.now, queuedNow, clock]
    rfl

theorem flashLimitCutsTheExposure : Claims.FlashLimitCutsTheExposure := by
  intro s tm j r hs hl hj hr good
  have exact_due := flashLimitDue_iff hs hl
  refine ⟨fun early => whenDue_of_not_due (Bool.eq_false_iff.mpr fun d => Nat.not_le.mpr early (exact_due.mp d)), fun due hp hreach => ?_⟩
  have hstopped := garmentAt_flashStopped hr 0
  obtain ⟨r', hr', noticed⟩ :=
    garmentAt_failCounted_self j.garment.index { r with flash := .cut } .gelShort (flashStopped j.garment.index 0 s)
  rw [← failOp_of_counted hstopped (counted_iff.mpr (.inl good))] at hr'
  have garments : (flashCut 0 s).garments = (failOp j.garment.index .gelShort (flashStopped j.garment.index 0 s)).garments := by
    rw [flashCut_of_job hj]
    simp
  obtain ⟨unit, place⟩ := exposureFault_of_reachable hj hp hreach 0
  refine ⟨flashCut 0 s, r', whenDue_of_due (exact_due.mpr due), unit, place, (garmentAt_congr garments _).trans hr',
    by rw [noticed.rest], by rw [noticed.rest], noticed.flash.elim id id, ?_⟩
  simp

/-- Settles O38, by the start and the limit of an exposure. -/
theorem exposureStartAndLimit : Obligations.ExposureStartAndLimit := ⟨exposureStartSendsHeatOn, flashLimitCutsTheExposure⟩

/-! ## Spray passes and press cycles -/

theorem exec_passStart (s : State) : exec .passStart s = whenDue (passDue s) startPass s := rfl

theorem passDue_iff {s : State} (h : s.pretreat.state = .waiting) :
    passDue s = true ↔ mayWork s = true ∧ s.pretreat.tank.state ≠ .empty := by
  simp [passDue, h]

theorem startPass_of_reachable {s : State} (hr : unreachable s .sprayCarriage = false) :
    startPass s = handIn .pretreat (putCmd .sprayCarriage .pass 16) (s.setPretreat (sprayingUnit s)) :=
  if_neg (not_lostAtOnce (by exact hr))

theorem passStartLatchesAndCommands : Claims.PassStartLatchesAndCommands := by
  intro s hw
  rw [exec_passStart]
  refine ⟨fun h => whenDue_of_not_due (Bool.eq_false_iff.mpr fun d => h ((passDue_iff hw).mp d)),
    fun run homed rest tank hp hr => ⟨_, whenDue_of_due ((passDue_iff hw).mpr ⟨mayWork_of run homed rest, tank⟩), ?_⟩⟩
  rw [startPass_of_reachable hr]
  have handed := handedIn_of_empty (x := putCmd .sprayCarriage .pass 16) (s := s.setPretreat (sprayingUnit s)) hp hr
  refine ⟨?_, ?_, fun z => ?_, handed.now, handed.others⟩
  · rw [handed.frame]
    rfl
  · rw [handed.frame]
    rfl
  · rw [handed.frame]
    exact Tbl.at_all ..

theorem exec_pressCycleStart (s : State) : exec .pressCycleStart s = whenDue (cycleDue s) startCycle s := rfl

theorem cycleDue_eq {s : State} (h : s.press.state = .waiting) : cycleDue s = mayWork s := by simp [cycleDue, h]

/-- The press unit as a cycle starts for a blank. -/
def setpointUnit (s : State) (r : Garment) : Press :=
  { s.press with state := .setpoint, guard := some (pressTimer s (catalogAt s r.blank).dwell) }

theorem startCycle_of_reachable {s : State} {j : Job} {r : Garment} (hj : s.press.job = some j) (hg : garmentAt s j.garment = some r)
    (hr : unreachable s .press = false) :
    startCycle s = handIn .press (putData .press (catalogAt s r.blank).pressTemp) (s.setPress (setpointUnit s r)) := by
  rw [startCycle, hj]
  simp only [Option.bind_some, hg]
  exact if_neg (not_lostAtOnce (by exact hr))

theorem pressCycleStartSendsSetpoint : Claims.PressCycleStartSendsSetpoint := by
  intro s hw
  rw [exec_pressCycleStart, cycleDue_eq hw]
  refine ⟨whenDue_of_not_due, fun j r run homed rest hj hg hp hr temp => ⟨_, whenDue_of_due (mayWork_of run homed rest), ?_⟩⟩
  rw [startCycle_of_reachable hj hg hr]
  have handed := handedIn_of_empty (x := putData .press (catalogAt s r.blank).pressTemp) (s := s.setPress (setpointUnit s r)) hp hr
  refine ⟨?_, ?_, ?_, handed.others⟩
  · rw [handed.frame]
    rfl
  · rw [handed.frame]
    simp only [setpointUnit, hj]
    rfl
  · rw [handed.now, queuedNow, putData, Nat.mod_eq_of_lt (by omega)]
    rfl

/-- Settles O28, by the start of each unit's work. -/
theorem passAndPressStart : Obligations.PassAndPressStart := ⟨passStartLatchesAndCommands, pressCycleStartSendsSetpoint⟩

end Sys2Proof.Machine
end

section
/-! PROOFS. Valve channels on time, the fluid they hand the tank, and the last of them to close. -/

namespace Sys2Proof.Machine

-- Elaborated all at once, the proofs of this text start more threads than the check's memory limit lets it.
set_option Elab.async false

/-! ## The tank -/

theorem useFluid_eq (fluid : Nat) (s : State) :
    useFluid fluid s = { s with pretreat := (useFluid fluid s).pretreat, reports := (useFluid fluid s).reports } := by
  refine state_eq_iff.mpr ?_
  simp

/-- What a drawn tank holds: the fluid is gone, stopping at 0, and the state follows the level. -/
theorem drawTank_holds (fluid : Nat) (v : Tank) :
    (drawTank fluid v).level * 1000 + (drawTank fluid v).rest = v.level * 1000 + v.rest - fluid ∧ (drawTank fluid v).rest < 1000 ∧
      (drawTank fluid v).state = tankStateOf (drawTank fluid v).level v.lowMark v.reserve := by
  refine ⟨?_, Nat.mod_lt _ (by decide), rfl⟩
  simp only [drawTank]
  omega

/-! ## Valve times -/

theorem exec_valveOpenTime (z : Fin 8) (s : State) : exec (.valveOpenTime z) s = whenDue (openDue s z) (openValve z) s := rfl

theorem exec_valveCloseTime (z : Fin 8) (s : State) :
    exec (.valveCloseTime z) s = whenDue (closeDue s z) (fun u => finishPass (closeOnTime z u)) s := rfl

theorem openDue_of_armed {s : State} {z : Fin 8} {opens closes : Clock} {pulse : Nat} (h : valveAt s z = .armed opens closes pulse) :
    openDue s z = reached s opens := by
  rw [openDue, h]

theorem openValve_of_armed {s : State} {z : Fin 8} {opens closes : Clock} {pulse : Nat} (h : valveAt s z = .armed opens closes pulse) :
    openValve z s = putValve z (.opened s.clock closes pulse) s := by
  rw [openValve, h]

theorem closeDue_of_opened {s : State} {z : Fin 8} {since closes : Clock} {pulse : Nat}
    (h : valveAt s z = .opened since closes pulse) : closeDue s z = reached s closes := by
  rw [closeDue, h]

theorem closeOnTime_of_opened {s : State} {z : Fin 8} {since closes : Clock} {pulse : Nat}
    (h : valveAt s z = .opened since closes pulse) :
    closeOnTime z s = useFluid (pulse * s.pretreat.latched.flow) (putValve z .closed s) := by
  rw [closeOnTime, h]

theorem finishPass_of_spraying {s : State} (h : s.pretreat.state = .spraying) : finishPass s = s :=
  if_neg fun k => by simp [h] at k

theorem valveOutput_of_opened {s : State} {z : Fin 8} {since closes : Clock} {pulse : Nat}
    (h : valveAt s z = .opened since closes pulse) : valveOutput s z = true := by
  rw [valveOutput, h]

theorem valveOutput_of_closed {s : State} {z : Fin 8} (h : valveAt s z = .closed) : valveOutput s z = false := by
  rw [valveOutput, h]

theorem valvesOpenAndCloseOnTime : Claims.ValvesOpenAndCloseOnTime := by
  intro s z
  refine ⟨fun opens closes pulse h => ?_, fun since closes pulse h => ?_⟩
  · rw [exec_valveOpenTime, openDue_of_armed h]
    refine ⟨whenDue_of_not_due, fun due => ⟨_, whenDue_of_due due, ?_⟩⟩
    rw [openValve_of_armed h]
    have opened : valveAt (putValve z (.opened s.clock closes pulse) s) z = .opened s.clock closes pulse := valveAt_putValve_self ..
    exact ⟨rfl, opened, valveOutput_of_opened opened, fun y hy => valveAt_putValve_ne _ _ hy.symm⟩
  · rw [exec_valveCloseTime, closeDue_of_opened h]
    refine ⟨whenDue_of_not_due, fun due spraying _ => ⟨_, whenDue_of_due due, ?_⟩⟩
    have unit : (closeOnTime z s).pretreat =
        { (putValve z .closed s).pretreat with tank := drawTank (pulse * s.pretreat.latched.flow) s.pretreat.tank } := by
      rw [closeOnTime_of_opened h, useFluid_pretreat]
      rfl
    have valves (y : Fin 8) : valveAt (closeOnTime z s) y = if z = y then .closed else valveAt s y := by
      rw [closeOnTime_of_opened h, valveAt_useFluid, valveAt_putValve]
    have closed : valveAt (closeOnTime z s) z = .closed := (valves z).trans (if_pos rfl)
    obtain ⟨fluid, rest, level⟩ := drawTank_holds (pulse * s.pretreat.latched.flow) s.pretreat.tank
    dsimp only
    rw [finishPass_of_spraying (s := closeOnTime z s) (by rw [unit]; exact spraying)]
    refine ⟨?_, ?_, closed, valveOutput_of_closed closed, fun y hy => (valves y).trans (if_neg hy.symm), ?_⟩
    · rw [closeOnTime_of_opened h]
      exact useFluid_eq ..
    · rw [unit]
      rfl
    · rw [unit]
      exact ⟨fluid, rest, level⟩

/-! ## The last valve of a pass -/

theorem passComplete_of_sixteen {s : State} {j : Job} (hj : s.pretreat.job = some j) (hrow : s.pretreat.row = 16) :
    passComplete s = releaseStation .pretreat j.platen (markPretreat j.garment .done (idlePretreat s)) := by
  rw [passComplete, hj]
  exact if_pos hrow

/-- A pass that completes after 16 rows: the mark is DONE, the unit IDLE and the platen released. -/
structure PassCompleted (j : Job) (s t : State) : Prop where
  unit : t.pretreat = { s.pretreat with state := .idle, job := none, factor := 0, row := 0, guard := none }
  own : ∀ r, garmentAt s j.garment = some r → garmentAt t j.garment = some { r with pretreat := .done }
  others : ∀ h, h ≠ j.garment → garmentAt t h = garmentAt s h
  releases : platenAt s 1 = j.platen → s.carousel.op = .none → released t .pretreat = true
  flags : ∀ st, st ≠ .pretreat → released t st = released s st
  lines : t.lines = s.lines
  link : t.link = s.link

theorem released_releaseStation_ne {st o : Station} (h : o ≠ st) (p : Fin 12) (s : State) :
    released (releaseStation st p s) o = released s o := by
  unfold releaseStation
  split
  · exact (released_setReleased ..).trans (if_neg h.symm)
  · rfl

theorem passCompleted {s : State} {j : Job} (hj : s.pretreat.job = some j) (hrow : s.pretreat.row = 16) :
    PassCompleted j s (passComplete s) := by
  rw [passComplete_of_sixteen hj hrow]
  have marked (h : Fin 32) : garmentAt (markPretreat j.garment .done (idlePretreat s)) h =
      if j.garment = h then (garmentAt s j.garment).map fun r => { r with pretreat := .done } else garmentAt s h :=
    garmentAt_changeGarment ..
  have after : (releaseStation .pretreat j.platen (markPretreat j.garment .done (idlePretreat s))).garments =
      (markPretreat j.garment .done (idlePretreat s)).garments := by simp
  refine ⟨by simp [markPretreat, idlePretreat], fun r hr => ?_, fun h hne => ?_, fun hp rest => ?_, fun st hst => ?_,
    by simp [markPretreat], by simp [markPretreat]⟩
  · rw [garmentAt_congr after, marked, if_pos rfl, hr]
    rfl
  · rw [garmentAt_congr after, marked, if_neg hne.symm]
  · refine released_releaseStation ?_ (by simpa [markPretreat] using rest)
    rw [← hp]
    simp [platenAt, markPretreat, stationPos]
  · rw [released_releaseStation_ne hst]
    simp [released, markPretreat]

theorem lastValveCompletesThePass : Claims.LastValveCompletesThePass := by
  intro s z since closes pulse j r hstate hj hrow hr h due others hp rest
  refine ⟨_, ((exec_valveCloseTime z s).trans (whenDue_of_due ((closeDue_of_opened h).trans due))), ?_⟩
  have unit : (closeOnTime z s).pretreat =
      { (putValve z .closed s).pretreat with tank := drawTank (pulse * s.pretreat.latched.flow) s.pretreat.tank } := by
    rw [closeOnTime_of_opened h, useFluid_pretreat]
    rfl
  have closed : anyValve (closeOnTime z s) = false := (anyValve_eq_false_iff _).mpr fun y => by
    rw [closeOnTime_of_opened h, valveAt_useFluid, valveAt_putValve]
    split
    · rfl
    · next hy => rw [others y (Ne.symm hy)]; rfl
  have unchanged : (closeOnTime z s).garments = s.garments ∧ (closeOnTime z s).carousel = s.carousel ∧
      (closeOnTime z s).lines = s.lines ∧ (closeOnTime z s).link = s.link := by simp
  obtain ⟨garments, carousel, lines, link⟩ := unchanged
  have done : finishPass (closeOnTime z s) = passComplete (closeOnTime z s) :=
    if_pos ⟨by rw [unit]; exact hstate, closed⟩
  have completed := passCompleted (s := closeOnTime z s) (j := j) (by rw [unit]; exact hj) (by rw [unit]; exact hrow)
  rw [done]
  refine ⟨by rw [completed.unit], by rw [completed.unit], by rw [completed.unit], ?_,
    completed.own r ((garmentAt_congr garments _).trans hr), fun o ho => (completed.others o ho).trans (garmentAt_congr garments o),
    completed.releases (by rw [platenAt, carousel]; exact hp) (by rw [carousel]; exact rest), fun st hst => ?_,
    completed.lines.trans lines, completed.link.trans link⟩
  · rw [anyValve, completed.unit]
    exact closed
  · rw [completed.flags st hst, released, carousel, ← released]

/-- Settles O27, by the valve's time and by the last valve of a pass. -/
theorem valvesRunThePass : Obligations.ValvesRunThePass := ⟨valvesOpenAndCloseOnTime, lastValveCompletesThePass⟩

end Sys2Proof.Machine
end

section
/-! PROOFS. The times of the station link, and the choice of the next fetch. -/

namespace Sys2Proof.Machine

-- Elaborated all at once, the proofs of this text start more threads than the check's memory limit lets it.
set_option Elab.async false

/-! ## Times of the station link -/

theorem exec_retryTimeDue (p : RetryPlace) (s : State) : exec (.retryTimeDue p) s = whenDue (retryDue s p) (endRetry p) s := rfl

theorem exec_probeDue (r : Role) (s : State) : exec (.probeDue r) s = whenDue (probePassed s r) (readyProbe r) s := rfl

theorem exec_declineHoldPasses (a : Fin 8) (s : State) :
    exec (.declineHoldPasses a) s = whenDue (holdDue s a) (endHold a) s := rfl

theorem retryDue_of_gap {s : State} {q : Requester} {w : Queued} {due : Clock} (hw : (placeAt s q).now = some w)
    (hgap : w.state = .retryGap due) : retryDue s (.requester q) = reached s due := by
  simp only [retryDue, hw, Option.bind_some, retryAt, hgap, timeDue]

theorem retryDue_of_pair {s : State} {v : Service} {due : Clock} (hv : s.link.service = some v) (hdue : v.retryAt = some due) :
    retryDue s .pair = reached s due := by
  simp only [retryDue, hv, Option.bind_some, hdue, timeDue]

theorem endRetry_of_gap {s : State} {q : Requester} {w : Queued} (hw : (placeAt s q).now = some w) :
    endRetry (.requester q) s = putPlace q { placeAt s q with now := some { w with state := .queued } } s := by
  rw [endRetry, endGap, hw]

theorem endRetry_of_pair {s : State} {v : Service} (hv : s.link.service = some v) :
    endRetry .pair s = secondTransfer v (putService { v with retryAt := none } s) := by
  rw [endRetry, retryPair, hv]

/-- Settles O24, time by time. -/
theorem linkTimesMakeWorkReady : Obligations.LinkTimesMakeWorkReady := by
  intro s
  refine ⟨fun q w due hw hgap => ?_, fun v due hv hdue => ?_, fun r due hattached haddr hprobe hready => ?_, fun a due hhold => ?_⟩
  · rw [exec_retryTimeDue, retryDue_of_gap hw hgap]
    refine ⟨whenDue_of_not_due, fun h => ⟨_, whenDue_of_due h, ?_⟩⟩
    rw [endRetry_of_gap hw]
    exact ⟨rfl, placeAt_putPlace_self .., fun p hp => placeAt_putPlace_ne _ _ hp.symm⟩
  · rw [exec_retryTimeDue, retryDue_of_pair hv hdue]
    refine ⟨whenDue_of_not_due, fun h => ?_⟩
    rw [whenDue_of_due h, endRetry_of_pair hv]
    rfl
  · have passed : probePassed s r = reached s due := by simp [probePassed, hattached, haddr, hready, hprobe, timeDue]
    rw [exec_probeDue, passed]
    exact ⟨whenDue_of_not_due, fun h => ⟨_, whenDue_of_due h, rfl, moduleAt_putModule_self .., fun p hp => moduleAt_putModule_ne _ _ hp.symm⟩⟩
  · have held : holdDue s a = reached s due := by rw [holdDue, hhold, timeDue]
    rw [exec_declineHoldPasses, held]
    exact ⟨whenDue_of_not_due, fun h => ⟨_, whenDue_of_due h, rfl, attnAt_putAttn_self .., fun b hb => attnAt_putAttn_ne _ _ hb.symm⟩⟩

/-! ## The channel of the next fetch -/

/-- A choice made among the channels seen: none of them is eligible, or the choice is an eligible one that holds the fewest, the lowest of
those. -/
def BestOf (s : State) (seen : List (Fin 6)) (best : Option (Fin 6)) : Prop :=
  match best with
  | none => ∀ d ∈ seen, eligible s d = false
  | some c =>
    c ∈ seen ∧ eligible s c = true ∧
      ∀ d ∈ seen, eligible s d = true → heldBy s c < heldBy s d ∨ (heldBy s c = heldBy s d ∧ c ≤ d)

theorem bestOf_betterChannel {s : State} {seen : List (Fin 6)} {best : Option (Fin 6)} (h : BestOf s seen best) {x : Fin 6}
    (above : ∀ d ∈ seen, d < x) : BestOf s (seen ++ [x]) (betterChannel s best x) := by
  unfold betterChannel
  cases hx : eligible s x with
  | false =>
    cases best with
    | none => exact fun d hd => (List.mem_append.mp hd).elim (h d) fun hd => by rw [List.mem_singleton.mp hd, hx]
    | some c =>
      obtain ⟨mem, el, least⟩ := h
      refine ⟨List.mem_append_left _ mem, el, fun d hd hel => (List.mem_append.mp hd).elim (least d · hel) fun hd => ?_⟩
      rw [List.mem_singleton.mp hd, hx] at hel
      cases hel
  | true =>
    cases best with
    | none =>
      refine ⟨by simp, hx, fun d hd hel => (List.mem_append.mp hd).elim (fun hd => ?_) fun hd => ?_⟩
      · rw [h d hd] at hel
        cases hel
      · rw [List.mem_singleton.mp hd]
        exact .inr ⟨rfl, le_refl _⟩
    | some c =>
      obtain ⟨mem, el, least⟩ := h
      dsimp only
      rw [if_pos rfl]
      split
      · next hless =>
        refine ⟨by simp, hx, fun d hd hel => (List.mem_append.mp hd).elim (fun hd => ?_) fun hd => ?_⟩
        · exact .inl ((least d hd hel).elim hless.trans fun e => e.1 ▸ hless)
        · rw [List.mem_singleton.mp hd]
          exact .inr ⟨rfl, le_refl _⟩
      · next hmore =>
        refine ⟨List.mem_append_left _ mem, el, fun d hd hel => (List.mem_append.mp hd).elim (least d · hel) fun hd => ?_⟩
        rw [List.mem_singleton.mp hd]
        have := above c mem
        omega

theorem bestOf_foldl {s : State} (l seen : List (Fin 6)) {best : Option (Fin 6)} (h : BestOf s seen best)
    (sorted : (seen ++ l).Pairwise (· < ·)) : BestOf s (seen ++ l) (l.foldl (betterChannel s) best) := by
  induction l generalizing seen best with
  | nil => simpa using h
  | cons x l ih =>
    have above : ∀ d ∈ seen, d < x := fun d hd => (List.pairwise_append.mp sorted).2.2 d hd x List.mem_cons_self
    have := ih (seen ++ [x]) (bestOf_betterChannel h above) (by simpa using sorted)
    simpa using this

theorem bestOf_chooseChannel (s : State) : BestOf s allChannels (chooseChannel s) :=
  bestOf_foldl (best := none) allChannels [] (fun _ h => by cases h) (by decide)

theorem mem_allChannels (c : Fin 6) : c ∈ allChannels := by
  revert c
  decide

theorem channelChoiceIsFewestHeld : Claims.ChannelChoiceIsFewestHeld := by
  intro s
  have best := bestOf_chooseChannel s
  cases hc : chooseChannel s with
  | none =>
    rw [hc] at best
    exact ⟨fun c h => (by cases h), fun _ d => best d (mem_allChannels d), fun _ => rfl⟩
  | some c =>
    rw [hc] at best
    obtain ⟨-, el, least⟩ := best
    refine ⟨fun c' h => ?_, ⟨fun h => ?_, fun none => ?_⟩⟩
    · cases h
      exact ⟨el, fun d hd => least d (mem_allChannels d) hd⟩
    · cases h
    · rw [none c] at el
      cases el

/-! ## The bank of the next fetch -/

theorem mem_allBanks (b : Fin 8) : b ∈ allBanks := by
  revert b
  decide

theorem lowestFree_eq {s : State} {b : Fin 8} (free : (bankAt s b).state = .free) (lower : ∀ x < b, (bankAt s x).state ≠ .free) :
    lowestFree s = some b := by
  obtain ⟨before, after, split⟩ := List.append_of_mem (mem_allBanks b)
  have sorted : (before ++ b :: after).Pairwise (· < ·) := by
    rw [← split]
    decide
  refine List.find?_eq_some_iff_append.mpr ⟨by simp [free], before, after, split, fun x hx => ?_⟩
  simpa using lower x ((List.pairwise_append.mp sorted).2.2 x hx b List.mem_cons_self)

theorem exec_fetchStart (s : State) : exec .fetchStart s = whenDue (fetchDue s) startFetch s := rfl

theorem startFetch_of_choice {s : State} {c : Fin 6} {b : Fin 8} (hc : chooseChannel s = some c) (hb : lowestFree s = some b) :
    startFetch s = beginFetch c b s := by
  rw [startFetch, hc, hb]

theorem askPort_of_free {s : State} (h : s.port.current = none) (a : Access) :
    askPort a s = s.setPort { s.port with current := some a } := by
  rw [askPort, h]

theorem askPort_eq (a : Access) (s : State) : askPort a s = { s with port := (askPort a s).port } := by
  unfold askPort
  split <;> rfl

theorem fetchStartTakesLowestFreeBank : Claims.FetchStartTakesLowestFreeBank := by
  intro s hattached
  rw [exec_fetchStart]
  refine ⟨fun busy => whenDue_of_not_due ?_, fun c b hfetch hc free lower => ?_⟩
  · obtain ⟨f, hf⟩ := Option.ne_none_iff_exists'.mp busy
    simp [fetchDue, hf]
  · have hb := lowestFree_eq free lower
    have due : fetchDue s = true := by simp [fetchDue, hattached, hfetch, hb, hc]
    refine ⟨_, whenDue_of_due due, ?_⟩
    rw [startFetch_of_choice hc hb, beginFetch, askPort_eq]
    refine ⟨rfl, rfl, bankAt_putBank_self .., fun x hx => bankAt_putBank_ne _ _ hx.symm, fun hport => ?_⟩
    rw [askPort_of_free (by exact hport)]
    rfl

/-- Settles O30, by the choice of the channel and of the bank. -/
theorem fetchServesChosenChannel : Obligations.FetchServesChosenChannel := ⟨channelChoiceIsFewestHeld, fetchStartTakesLowestFreeBank⟩

end Sys2Proof.Machine
end

section
/-! PROOFS. Completions of host memory accesses, and a fetch: an accepted descriptor, the data bursts, and the last of them. -/

namespace Sys2Proof.Machine

-- Elaborated all at once, the proofs of this text start more threads than the check's memory limit lets it.
set_option Elab.async false

/-! ## Completions of accesses -/

theorem inProgress_of_current {k : AccessKind} {a : Access} {s : State} (h : s.port.current = some a) (hk : a.kind = k) :
    inProgress k s = some a := by
  simp [inProgress, h, hk]

theorem readDone_of_current {k : AccessKind} {a : Access} {s : State} (h : s.port.current = some a) (hk : a.kind = k)
    (hd : a.discard = false) (hl : k ∉ s.port.late) {r : ReadResult} (hr : readFits a r = true) (f : State → State) :
    readDone k r f s = .next (f (endAccess s)) := by
  rw [readDone, if_neg hl, inProgress_of_current h hk]
  simp [hr, hd]

theorem writeDone_of_current {k : AccessKind} {a : Access} {s : State} (h : s.port.current = some a) (hk : a.kind = k)
    (hd : a.discard = false) (hl : k ∉ s.port.late) (f : State → State) : writeDone k f s = .next (f (endAccess s)) := by
  rw [writeDone, if_neg hl, inProgress_of_current h hk]
  simp [hd]

/-- The state with the host memory port free. -/
def withPortFree (s : State) : State := s.setPort (Claims.portFree s)

theorem endAccess_of_alone {s : State} (h : s.port.waiting = []) : endAccess s = withPortFree s := by
  rw [endAccess, h]
  rfl

theorem readDone_of_only {k : AccessKind} {a : Access} {s : State} (h : Claims.onlyAccess s k a) {r : ReadResult}
    (hr : readFits a r = true) (f : State → State) : readDone k r f s = .next (f (withPortFree s)) := by
  obtain ⟨hcur, alone, hk, hd, hl⟩ := h
  rw [readDone_of_current hcur hk hd hl hr, endAccess_of_alone alone]

theorem readFits_data {a : Access} {bytes : List Byte} (h : bytes.length = a.length) : readFits a (.data bytes) = true :=
  beq_iff_eq.mpr h

/-! ## An accepted descriptor -/

theorem exec_descriptorReadDone (r : ReadResult) (s : State) :
    exec (.descriptorReadDone r) s = readDone .descriptor r (fetchDescriptor r) s := rfl

theorem tallyEnd_eq (c : Fin 6) (g : GarmentId) (d : Descriptor) (n : Nat) (s : State) :
    tallyEnd c g d n s = { s with engine := { s.engine with tallies := (tallyEnd c g d n s).engine.tallies } } := by
  unfold tallyEnd
  split <;> rfl

theorem fetchDescriptor_of_accepted {s : State} {f : Fetch} {ps : PlaneStart} {d : Descriptor} {bytes : List Byte}
    (hf : s.engine.fetch = some f) (going : f.stopping = false) (hw : (walkerAt s f.channel).work = some ps)
    (hd : parseDescriptor bytes = d) (ok : checkDescriptor s f.channel ps.garment d = none) :
    fetchDescriptor (.data bytes) s = acceptDescriptor f ps.garment d s := by
  simp only [fetchDescriptor, hf, descriptorRead, going, Bool.false_eq_true, if_false, hd, judgeDescriptor, hw, ok]

theorem walkerAccepts_eq (d : Descriptor) (w : Walker) :
    walkerAccepts d w =
      { w with
        read := w.read + 1
        bands := w.bands + 1
        swaths := w.swaths + (if d.swathEnd || d.chainEnd then 1 else 0) } := by
  unfold walkerAccepts closesSwath
  split <;> rfl

theorem askBurst_port {s : State} (h : s.port.current = none) (d : Descriptor) (i : Nat) :
    (askBurst d i s).port =
      Claims.portReads .burst (d.dataAddr + BitVec.ofNat 64 (256 * (i - 1))) (min 256 (d.length - 256 * (i - 1))) s := by
  rw [askBurst, askPort_of_free h]
  rfl

/-- The state as a descriptor is accepted, before the first burst is asked for. -/
def acceptedFetch (f : Fetch) (g : GarmentId) (d : Descriptor) (s : State) : State :=
  let w := walkerAt s f.channel
  let tallied := tallyEnd f.channel g d (w.swaths + 1) (putWalker f.channel (walkerAccepts d w) s)
  putFetch (some { f with phase := .data d 1 })
    (putBank f.bank { bankAt tallied f.bank with band := some (bandRecord g w d) } tallied)

theorem acceptDescriptor_eq (f : Fetch) (g : GarmentId) (d : Descriptor) (s : State) :
    acceptDescriptor f g d s = askBurst d 1 (acceptedFetch f g d s) := rfl

theorem acceptedFetch_frame (f : Fetch) (g : GarmentId) (d : Descriptor) (s : State) :
    acceptedFetch f g d s =
      { s with
        engine :=
          { s.engine with
            fetch := some { f with phase := .data d 1 }
            walkers := Tbl.put s.engine.walkers f.channel (walkerAccepts d (walkerAt s f.channel))
            banks := Tbl.put s.engine.banks f.bank { bankAt s f.bank with band := some (bandRecord g (walkerAt s f.channel) d) }
            tallies := (acceptedFetch f g d s).engine.tallies } } := by
  unfold acceptedFetch
  dsimp only
  rw [tallyEnd_eq]
  rfl

/-- Settles O31, by the state a descriptor is accepted in. -/
theorem acceptedDescriptorFillsTheBand : Obligations.AcceptedDescriptorFillsTheBand := by
  intro s a f ps bytes d only hlen hf going hw hd ok
  refine ⟨_, (exec_descriptorReadDone ..).trans (readDone_of_only only (readFits_data hlen) _), ?_⟩
  rw [fetchDescriptor_of_accepted (s := withPortFree s) hf going hw hd ok, acceptDescriptor_eq, acceptedFetch_frame]
  refine ⟨rfl, rfl, rfl, ?_, fun c hc => Tbl.at_put_ne _ _ hc.symm, ?_, fun b hb => Tbl.at_put_ne _ _ hb.symm, ?_⟩
  · exact (Tbl.at_put_self ..).trans (walkerAccepts_eq ..)
  · exact Tbl.at_put_self ..
  · refine (askBurst_port rfl d 1).trans ?_
    rw [Nat.sub_self, Nat.mul_zero, BitVec.add_zero]
    rfl

/-! ## A data burst -/

theorem exec_dataBurstDone (r : ReadResult) (s : State) : exec (.dataBurstDone r) s = readDone .burst r (fetchBurst r) s := rfl

theorem fetchBurst_of_data {s : State} {f : Fetch} {d : Descriptor} {i : Nat} (hf : s.engine.fetch = some f) (hp : f.phase = .data d i)
    (going : f.stopping = false) (bytes : List Byte) : fetchBurst (.data bytes) s = burstStored f d i bytes s := by
  simp only [fetchBurst, hf, hp, burstRead, going, Bool.false_eq_true, if_false]

theorem burstCount_le_iff (length i : Nat) : burstCount length ≤ i ↔ length ≤ 256 * i := by
  unfold burstCount
  simp only [Config.burstBytes]
  omega

theorem burstStored_of_more {d : Descriptor} {i : Nat} (h : 256 * i < d.length) (f : Fetch) (bytes : List Byte) (s : State) :
    burstStored f d i bytes s =
      askBurst d (i + 1) (putFetch (some { f with phase := .data d (i + 1) }) (storeBurst f.bank i bytes s)) :=
  if_neg (by rw [burstCount_le_iff]; omega)

theorem burstStored_of_last {d : Descriptor} {i : Nat} (h : d.length ≤ 256 * i) (f : Fetch) (bytes : List Byte) (s : State) :
    burstStored f d i bytes s = stageBand f d (storeBurst f.bank i bytes s) :=
  if_pos ((burstCount_le_iff ..).mpr h)

/-- Of the whole state only one channel's walker changes. -/
structure WalkerOnly (c : Fin 6) (s t : State) : Prop where
  frame : t = { s with engine := { s.engine with walkers := t.engine.walkers } }
  others : ∀ d, d ≠ c → walkerAt t d = walkerAt s d

theorem WalkerOnly.refl (c : Fin 6) (s : State) : WalkerOnly c s s := ⟨rfl, fun _ _ => rfl⟩

theorem walkerOnly_putWalker (c : Fin 6) (w : Walker) (s : State) : WalkerOnly c s (putWalker c w s) :=
  ⟨rfl, fun _ h => walkerAt_putWalker_ne _ _ h.symm⟩

theorem WalkerOnly.trans {c : Fin 6} {s t u : State} (h : WalkerOnly c s t) (k : WalkerOnly c t u) : WalkerOnly c s u := by
  refine ⟨?_, fun d hd => (k.others d hd).trans (h.others d hd)⟩
  rw [k.frame, h.frame]

theorem walkerOnly_idleWalker (c : Fin 6) (s : State) : WalkerOnly c s (idleWalker c s) := by
  unfold idleWalker
  dsimp only
  split
  · exact walkerOnly_putWalker ..
  · exact (walkerOnly_putWalker ..).trans (walkerOnly_putWalker ..)

theorem walkerOnly_walkOn (c : Fin 6) (d : Descriptor) (s : State) : WalkerOnly c s (walkOn c d s) := by
  unfold walkOn
  dsimp only
  split
  · exact walkerOnly_idleWalker ..
  · split
    · split
      · exact walkerOnly_idleWalker ..
      · exact walkerOnly_putWalker ..
    · exact walkerOnly_putWalker ..

theorem stageBank_of_wanted {b : Fin 8} {s : State} (h : (bankAt s b).freeAsked = false) (c : Fin 6) :
    stageBank c b s = putStaged c (stagedAt s c ++ [b]) (putBank b { bankAt s b with state := .staged } s) :=
  if_neg (by rw [h]; decide)

/-- A band joins the tail of its channel's staged queue and the fetch is over. -/
structure StagedBand (f : Fetch) (s t : State) : Prop where
  frame : t = { s with engine := t.engine }
  fetch : t.engine.fetch = none
  bank : bankAt t f.bank = { bankAt s f.bank with state := .staged }
  tail : stagedAt t f.channel = stagedAt s f.channel ++ [f.bank]
  others : ∀ c, c ≠ f.channel → stagedAt t c = stagedAt s c ∧ walkerAt t c = walkerAt s c
  tallies : t.engine.tallies = s.engine.tallies

theorem stagedBand_of_walkerOnly {f : Fetch} {s t u : State} (h : StagedBand f s t) (k : WalkerOnly f.channel t u) :
    StagedBand f s u := by
  have bank (b : Fin 8) : bankAt u b = bankAt t b := by rw [bankAt, k.frame]; rfl
  have staged (c : Fin 6) : stagedAt u c = stagedAt t c := by rw [stagedAt, k.frame]; rfl
  refine ⟨?_, by rw [k.frame]; exact h.fetch, (bank _).trans h.bank, (staged _).trans h.tail,
    fun c hc => ⟨(staged c).trans (h.others c hc).1, (k.others c hc).trans (h.others c hc).2⟩, by rw [k.frame]; exact h.tallies⟩
  rw [k.frame, h.frame]

theorem stagedBand {f : Fetch} {s : State} (wanted : (bankAt s f.bank).freeAsked = false) (d : Descriptor) :
    StagedBand f s (stageBand f d s) := by
  refine stagedBand_of_walkerOnly ?_ (walkerOnly_walkOn f.channel d (stageBank f.channel f.bank (putFetch none s)))
  rw [stageBank_of_wanted (s := putFetch none s) wanted]
  exact ⟨rfl, rfl, bankAt_putBank_self .., stagedAt_putStaged_self .., fun c hc => ⟨stagedAt_putStaged_ne _ _ hc.symm, rfl⟩, rfl⟩

theorem staging_burstStored (f : Fetch) (d : Descriptor) (i : Nat) (bytes : List Byte) (s : State) :
    (burstStored f d i bytes s).staging = Memory.writeAll (bankAddr f.bank (256 * (i - 1))) bytes s.staging := by
  unfold burstStored
  dsimp only
  split <;> simp [storeBurst, Config.burstBytes]

/-- Settles O33, by whether bursts are left. -/
theorem burstsFillTheBank : Obligations.BurstsFillTheBank := by
  intro s a f d i bytes only hlen hf hp going hi wf
  refine ⟨_, (exec_dataBurstDone ..).trans (readDone_of_only only (readFits_data hlen) _), ?_⟩
  rw [fetchBurst_of_data (s := withPortFree s) hf hp going]
  have staging := staging_burstStored f d i bytes (withPortFree s)
  refine ⟨fun x => ?_, ?_, fun more => ?_, fun last wanted => ?_⟩
  · rw [staging]
    exact Memory.read_writeAll _ _ _ _ wf
  · rw [staging]
    exact Memory.wf_writeAll _ _ _ wf
  · rw [burstStored_of_more more]
    refine ⟨rfl, rfl, ?_⟩
    exact askBurst_port rfl d (i + 1)
  · rw [burstStored_of_last last]
    obtain ⟨frame, fetch, bank, tail, others, tallies⟩ := stagedBand (s := storeBurst f.bank i bytes (withPortFree s)) wanted d
    exact ⟨by rw [frame]; rfl, fetch, by rw [frame]; rfl, bank, tail, others, tallies⟩

end Sys2Proof.Machine
end

section
/-! PROOFS. The print units' lanes and places in the tally, and the cut of a print (R95) with what starts it. -/

namespace Sys2Proof.Machine

-- Elaborated all at once, the proofs of this text start more threads than the check's memory limit lets it.
set_option Elab.async false

/-! ## Lanes -/

theorem mem_unitChannels (u : Printer) (c : Fin 6) : c ∈ unitChannels u ↔ channelUnit c = u := by
  cases u <;> revert c <;> decide

theorem laneAt_congr {s t : State} (h : t.lanes = s.lanes) (c : Fin 6) : laneAt t c = laneAt s c := by
  rw [laneAt, h, ← laneAt]

theorem unitAt_congr {s t : State} (h : t.prints = s.prints) (u : Printer) : unitAt t u = unitAt s u := by
  rw [unitAt, h, ← unitAt]

theorem tallyFor_congr {s t : State} (h : t.engine = s.engine) (u : Printer) (g : GarmentId) : tallyFor t u g = tallyFor s u g := by
  rw [tallyFor, tallyAt, h, ← tallyAt, ← tallyFor]

theorem laneAt_stopLane (s : State) (c d : Fin 6) : laneAt (stopLane s c) d = if c = d then Lane.off else laneAt s d := by
  unfold stopLane
  split
  · exact laneAt_putLane ..
  · rw [laneAt_putLane, laneAt_congr (endEmission_frame ..).2.2.2.2.2.2.2.2.2.2.2.2.2.2.2.2.2.1]

/-- Each of a unit's lanes replaced in turn by an OFF one, whatever else the step does. -/
theorem laneAt_foldl_off {f : State → Fin 6 → State} (hf : ∀ s c d, laneAt (f s c) d = if c = d then Lane.off else laneAt s d)
    (l : List (Fin 6)) (s : State) (d : Fin 6) : laneAt (l.foldl f s) d = if d ∈ l then Lane.off else laneAt s d := by
  induction l generalizing s with
  | nil => simp
  | cons c l ih =>
    rw [List.foldl_cons, ih, hf]
    by_cases hcd : c = d
    · simp [hcd]
    · simp [hcd, Ne.symm hcd]

theorem laneAt_stopLanes (u : Printer) (s : State) (c : Fin 6) :
    laneAt (stopLanes u s) c = if channelUnit c = u then Lane.off else laneAt s c := by
  rw [stopLanes, laneAt_foldl_off laneAt_stopLane]
  simp only [mem_unitChannels]

theorem laneAt_lanesOff (u : Printer) (s : State) (c : Fin 6) :
    laneAt (lanesOff u s) c = if channelUnit c = u then Lane.off else laneAt s c := by
  rw [lanesOff, laneAt_foldl_off fun s c d => laneAt_putLane ..]
  simp only [mem_unitChannels]

theorem lanesOff_eq (u : Printer) (s : State) : lanesOff u s = { s with lanes := (lanesOff u s).lanes } := by
  refine state_eq_iff.mpr ?_
  simp

/-! ## A unit with no print -/

/-- The unit is IDLE with all its lanes OFF. -/
structure PrintAtRest (u : Printer) (s : State) : Prop where
  unit : unitAt s u = PrintUnit.reset
  lanes : ∀ c, channelUnit c = u → laneAt s c = Lane.off

theorem PrintAtRest.of_frame {u : Printer} {s t : State} (h : PrintAtRest u s) (prints : t.prints = s.prints := by simp)
    (lanes : t.lanes = s.lanes := by simp) : PrintAtRest u t :=
  ⟨(unitAt_congr prints u).trans h.unit, fun c hc => (laneAt_congr lanes c).trans (h.lanes c hc)⟩

theorem printAtRest_stopLanes {u : Printer} {s : State} (h : PrintAtRest u s) (v : Printer) : PrintAtRest u (stopLanes v s) :=
  ⟨(unitAt_congr (by simp) u).trans h.unit, fun c hc => by rw [laneAt_stopLanes, h.lanes c hc, ite_self]⟩

theorem printAtRest_putUnit {u v : Printer} {s : State} (h : PrintAtRest u s) (hv : v ≠ u) (p : PrintUnit) :
    PrintAtRest u (putUnit v p s) := ⟨(unitAt_putUnit_ne p s hv).trans h.unit, h.lanes⟩

theorem printAtRest_leaveUnit {u v : Printer} {s : State} (h : PrintAtRest u s) (hv : v ≠ u) (j : PrintJob) :
    PrintAtRest u (leaveUnit v j s) :=
  printAtRest_putUnit (h.of_frame (t := releaseStation (printStation v) j.platen s)) hv _

theorem printAtRest_quietCut {u v : Printer} {s : State} (h : PrintAtRest u s) (hv : v ≠ u) (j : PrintJob) :
    PrintAtRest u (quietCut v j s) := by
  have dropped : PrintAtRest u
      (abruptCancel v j.garment (changeGarment j.garment.index (withPrintMark v .cut) (stopLanes v s))) :=
    (printAtRest_stopLanes h v).of_frame
  refine printAtRest_leaveUnit ?_ hv j
  split
  · exact dropped.of_frame
  · exact dropped

theorem printAtRest_noticeCurrent {u v : Printer} {s : State} (h : PrintAtRest u s) (hv : v ≠ u) {n : Notice}
    (hn : abruptNotice n = true) (j : PrintJob) : PrintAtRest u (noticeCurrent v j n s) := by
  unfold noticeCurrent
  split
  · exact h
  · split
    · exact h
    · exact printAtRest_leaveUnit h hv j
  all_goals
    rw [if_pos hn]
    exact printAtRest_quietCut h hv j

theorem noticeTallied_of_abrupt {n : Notice} (hn : abruptNotice n = true) (u : Printer) (g : GarmentId) (s : State) :
    noticeTallied u g n s = s :=
  if_neg fun h => by
    rw [h.1] at hn
    cases hn

theorem printAtRest_noticePrint {u : Printer} {s : State} (h : PrintAtRest u s) {n : Notice} (hn : abruptNotice n = true)
    (v : Printer) (g : GarmentId) : PrintAtRest u (noticePrint v g n s) := by
  unfold noticePrint
  dsimp only
  rw [noticeTallied_of_abrupt hn]
  split
  · exact h
  · next j hj =>
    split
    · refine printAtRest_noticeCurrent h (fun e => ?_) hn j
      rw [e, h.unit] at hj
      cases hj
    · exact h

theorem printAtRest_noticeAll {u : Printer} {s : State} (h : PrintAtRest u s) {n : Notice} (hn : abruptNotice n = true)
    (g : Fin 32) (r : Garment) : PrintAtRest u (noticeAll g r n s) := by
  have stations : PrintAtRest u (noticePress g (noticePretreat g (noticeFetch (garmentId g r) n s))) := h.of_frame
  have white : PrintAtRest u (noticedBefore g r n s) := printAtRest_noticePrint stations hn ..
  have flash : PrintAtRest u (noticeFlash (garmentId g r) n (noticedBefore g r n s)) := white.of_frame
  rw [noticeAll_eq]
  exact (printAtRest_noticePrint flash hn .color (garmentId g r)).of_frame

theorem failureRaised_printing (g : Fin 32) (r : Garment) (code : FaultCode) (s : State) :
    (failureRaised g r code s).prints = s.prints ∧ (failureRaised g r code s).lanes = s.lanes ∧
      (failureRaised g r code s).engine = s.engine := by
  unfold failureRaised failedState ifCurrent
  split <;> simp

theorem printAtRest_failOp {u : Printer} {s : State} (h : PrintAtRest u s) (g : Fin 32) (code : FaultCode) :
    PrintAtRest u (failOp g code s) := by
  unfold failOp
  split
  · exact h
  · next r _ =>
    obtain ⟨prints, lanes, -⟩ := failureRaised_printing g r code s
    split
    · rw [failCounted_noticed]
      exact printAtRest_noticeAll (h.of_frame prints lanes) rfl g r
    · exact h

/-! ## The cut of a print -/

/-- A print halted for a cut, its PRINT_CUT raised: the unit as the fail request finds it. -/
def printHalted (u : Printer) (j : PrintJob) (cause : Nat) (s : State) : State :=
  raisePrintCut u j.garment.index cause (unitAt s u).swath (haltPrint u j s)

theorem printAtRest_printHalted (u : Printer) (j : PrintJob) (cause : Nat) (s : State) : PrintAtRest u (printHalted u j cause s) := by
  have halted : PrintAtRest u (haltPrint u j s) := by
    refine ⟨unitAt_putUnit_self .., fun c hc => ?_⟩
    rw [laneAt_congr (s := stopLanes u s) (by simp [haltPrint]), laneAt_stopLanes, if_pos hc]
  exact halted.of_frame (by simp [printHalted]) (by simp [printHalted])

theorem garmentAt_printHalted {u : Printer} {j : PrintJob} {r : Garment} {s : State} (hr : garmentAt s j.garment.index = some r)
    (cause : Nat) : garmentAt (printHalted u j cause s) j.garment.index = some (withPrintMark u .cut r) := by
  have lanes : garmentAt (stopLanes u s) j.garment.index = some r := (garmentAt_congr (by simp) _).trans hr
  have marked : garmentAt (haltPrint u j s) j.garment.index = some (withPrintMark u .cut r) := by
    rw [haltPrint, garmentAt_congr (idleUnit_frame ..).2.2.2.2.2.2.2.2.2.2.1, garmentAt_changeGarment, if_pos rfl, lanes]
    rfl
  exact (garmentAt_congr (by simp [printHalted]) _).trans marked

theorem printCut_of_job {u : Printer} {s : State} {j : PrintJob} (hj : (unitAt s u).job = some j) (cause : Nat) :
    printCut u cause s =
      releaseStation (printStation u) j.platen
        (if cutStops cause then stopCarriage u (dropPrint u j (printFault cause) (printHalted u j cause s))
          else dropPrint u j (printFault cause) (printHalted u j cause s)) := by
  rw [printCut, hj]
  rfl

theorem tallyFor_dropTally (u : Printer) (g : GarmentId) (s : State) : tallyFor (dropTally u g s) u g = none := by
  rw [tallyFor, dropTally, tallyAt_putTally_self]
  refine List.find?_eq_none.mpr fun p hp => ?_
  have := (List.mem_filter.mp hp).2
  simpa using this

theorem tallyFor_abruptCancel (u : Printer) (g : GarmentId) (s : State) : tallyFor (abruptCancel u g s) u g = none :=
  tallyFor_dropTally ..

/-- After the fail request, a print cut still cancels at the unit, releases the platen, and may stop the carriage. -/
theorem printCut_afterFail {u : Printer} {s : State} {j : PrintJob} (hj : (unitAt s u).job = some j) (cause : Nat) :
    (printCut u cause s).prints = (failOp j.garment.index (printFault cause) (printHalted u j cause s)).prints ∧
      (printCut u cause s).lanes = (failOp j.garment.index (printFault cause) (printHalted u j cause s)).lanes ∧
      (printCut u cause s).garments = (failOp j.garment.index (printFault cause) (printHalted u j cause s)).garments ∧
      (printCut u cause s).engine = (dropPrint u j (printFault cause) (printHalted u j cause s)).engine := by
  rw [printCut_of_job hj]
  simp only [releaseStation_frame]
  split <;> simp [dropPrint]

theorem Noticed.printMark_cut {u : Printer} {r r' : Garment} (h : Noticed r r') (cut : printMark u r = .cut) :
    printMark u r' = .cut := by
  cases u
  · exact h.white.elim (·.trans cut) id
  · exact h.color.elim (·.trans cut) id

theorem cond_withPrintMark (u : Printer) (m : Mark) (r : Garment) : (withPrintMark u m r).cond = r.cond := by cases u <;> rfl

theorem withPrintMark_failed (u : Printer) (m : Mark) (r : Garment) (code : FaultCode) :
    printMark u { withPrintMark u m r with cond := .failed, fault := some code } = m := by
  cases u <;> rfl

/-- A print cut of a live GOOD garment: the unit IDLE, its lanes OFF, no tally place, and the garment FAILED with the mark CUT. -/
theorem printCut_cuts {u : Printer} {s : State} {j : PrintJob} {r : Garment} (hj : (unitAt s u).job = some j)
    (hr : garmentAt s j.garment.index = some r) (good : r.cond = .good) (cause : Nat) :
    Claims.printIsCut u j (printFault cause) (printCut u cause s) := by
  obtain ⟨prints, lanes, garments, engine⟩ := printCut_afterFail hj cause
  have rest := (printAtRest_failOp (printAtRest_printHalted u j cause s) j.garment.index (printFault cause)).of_frame prints lanes
  have halted := garmentAt_printHalted (u := u) hr cause
  obtain ⟨r', hr', noticed⟩ :=
    garmentAt_failCounted_self j.garment.index (withPrintMark u .cut r) (printFault cause) (printHalted u j cause s)
  rw [← failOp_of_counted halted (counted_iff.mpr (.inl ((cond_withPrintMark ..).trans good)))] at hr'
  refine ⟨rest.unit, fun c hc => by rw [rest.lanes c hc]; exact ⟨rfl, rfl⟩, ?_, r', (garmentAt_congr garments _).trans hr',
    by rw [noticed.rest], by rw [noticed.rest], noticed.printMark_cut (withPrintMark_failed ..)⟩
  rw [tallyFor_congr engine]
  exact tallyFor_abruptCancel ..

/-! ## What cuts a print -/

theorem exec_starveTimerExpiry (u : Printer) (s : State) : exec (.starveTimerExpiry u) s = whenDue (starveDue s u) (printCut u 0) s :=
  rfl

theorem exec_swathGuardExpiry (u : Printer) (s : State) :
    exec (.swathGuardExpiry u) s = whenDue (swathGuardDue s u) (printCut u 6) s := rfl

theorem channelsReady_iff {s : State} {u : Printer} {j : PrintJob} (hj : (unitAt s u).job = some j) :
    channelsReady s u = true ↔ ∀ c ∈ (unitAt s u).active, channelReady s j.garment (unitAt s u).swath c = true := by
  rw [channelsReady, hj]
  exact List.all_eq_true

theorem channelsReady_eq_false_iff {s : State} {u : Printer} {j : PrintJob} (hj : (unitAt s u).job = some j) :
    channelsReady s u = false ↔ ∃ c ∈ (unitAt s u).active, channelReady s j.garment (unitAt s u).swath c = false := by
  rw [channelsReady, hj]
  exact List.all_eq_false.trans (by simp)

theorem starveDue_iff {s : State} {u : Printer} {tm : Timer} (hw : (unitAt s u).state = .waiting)
    (ht : (unitAt s u).starve = some tm) :
    starveDue s u = true ↔ tm.limit ≤ (s.clock - tm.start).toNat ∧ channelsReady s u = false := by
  simp [starveDue, hw, ht, ranOut, expired_iff]

theorem swathGuardDue_iff {s : State} {u : Printer} {tm : Timer}
    (hs : (unitAt s u).state = .command ∨ (unitAt s u).state = .printing) (ht : (unitAt s u).guard = some tm) :
    swathGuardDue s u = true ↔ tm.limit ≤ (s.clock - tm.start).toNat := by
  have hflight : swathInFlight (unitAt s u) = true := by
    unfold swathInFlight
    rcases hs with h | h <;> rw [h]
  rw [swathGuardDue, hflight, ht]
  exact expired_iff ..

/-- Settles O36, by the timer. -/
theorem printTimersCutThePrint : Obligations.PrintTimersCutThePrint := by
  intro s u tm j r hj hr good
  refine ⟨fun hw ht => ?_, fun hs ht => ?_⟩
  · have due := starveDue_iff hw ht
    rw [exec_starveTimerExpiry]
    refine ⟨fun early => whenDue_of_not_due (Bool.eq_false_iff.mpr fun d => Nat.not_le.mpr early (due.mp d).1),
      fun ready => whenDue_of_not_due (Bool.eq_false_iff.mpr fun d => ?_), fun late lacks =>
      ⟨_, whenDue_of_due (due.mpr ⟨late, (channelsReady_eq_false_iff hj).mpr lacks⟩), printCut_cuts hj hr good 0, by simp⟩⟩
    rw [(channelsReady_iff hj).mpr ready] at due
    cases (due.mp d).2
  · have due := swathGuardDue_iff hs ht
    rw [exec_swathGuardExpiry]
    exact ⟨fun early => whenDue_of_not_due (Bool.eq_false_iff.mpr fun d => Nat.not_le.mpr early (due.mp d)),
      fun late => ⟨_, whenDue_of_due (due.mpr late), printCut_cuts hj hr good 6, by simp⟩⟩

theorem exec_printBegin (u : Printer) (s : State) : exec (.printBegin u) s = whenDue (beginDue s u) (beginPrint u) s := rfl

theorem beginDue_eq {s : State} {u : Printer} (h : (unitAt s u).state = .arrived) : beginDue s u = mayWork s := by
  simp [beginDue, h]

theorem beginPrint_of_tally {s : State} {u : Printer} {j : PrintJob} {place : TallyPlace} (hj : (unitAt s u).job = some j)
    (ht : tallyFor s u j.garment = some place) :
    beginPrint u s = lanesOff u (putUnit u (begunUnit s (unitAt s u) place) s) := by
  simp only [beginPrint, hj, ht]

theorem beginPrint_of_none {s : State} {u : Printer} {j : PrintJob} (hj : (unitAt s u).job = some j)
    (ht : tallyFor s u j.garment = none) : beginPrint u s = printCut u 8 s := by
  simp only [beginPrint, hj, ht]

/-- Settles O34, by the tally place. -/
theorem printBeginsFromItsTallyPlace : Obligations.PrintBeginsFromItsTallyPlace := by
  intro s u j hs hj
  rw [exec_printBegin, beginDue_eq hs]
  refine ⟨whenDue_of_not_due, fun place work ht => ⟨_, whenDue_of_due work, ?_⟩, fun r work ht hr good => ?_⟩
  · rw [beginPrint_of_tally hj ht]
    have units (v : Printer) : unitAt (lanesOff u (putUnit u (begunUnit s (unitAt s u) place) s)) v =
        unitAt (putUnit u (begunUnit s (unitAt s u) place) s) v := unitAt_congr (by simp) v
    refine ⟨?_, ?_, fun v hv => ?_, fun c hc => ?_, fun c hc => ?_⟩
    · rw [lanesOff_eq]
      rfl
    · rw [units, unitAt_putUnit_self, begunUnit, hj]
      rfl
    · rw [units, unitAt_putUnit_ne _ _ hv.symm]
    · rw [laneAt_lanesOff, if_pos hc]
      rfl
    · rw [laneAt_lanesOff, if_neg hc]
      rfl
  · obtain ⟨unit, -, -, r', hr', failed, fault, mark⟩ := printCut_cuts hj hr good 8
    refine ⟨_, r', whenDue_of_due work, ?_⟩
    rw [beginPrint_of_none hj ht]
    exact ⟨by rw [unit], hr', failed, fault, mark⟩

end Sys2Proof.Machine
end

section
/-! PROOFS. The start of a swath (R88), and the end of a band's emission (R91, R92). -/

namespace Sys2Proof.Machine

-- Elaborated all at once, the proofs of this text start more threads than the check's memory limit lets it.
set_option Elab.async false

/-! ## The passes of a swath -/

theorem foldl_max_ge {α : Type} (f : α → Nat) (l : List α) (m : Nat) :
    m ≤ l.foldl (fun n c => max n (f c)) m ∧ ∀ c ∈ l, f c ≤ l.foldl (fun n c => max n (f c)) m := by
  induction l generalizing m with
  | nil => simp
  | cons x l ih =>
    obtain ⟨start, each⟩ := ih (max m (f x))
    refine ⟨(Nat.le_max_left ..).trans start, fun c hc => ?_⟩
    rcases List.mem_cons.mp hc with rfl | hc
    · exact (Nat.le_max_right ..).trans start
    · exact each c hc

theorem foldl_max_attained {α : Type} (f : α → Nat) (l : List α) (m : Nat) :
    l.foldl (fun n c => max n (f c)) m = m ∨ ∃ c ∈ l, f c = l.foldl (fun n c => max n (f c)) m := by
  induction l generalizing m with
  | nil => exact .inl rfl
  | cons x l ih =>
    rw [List.foldl_cons]
    rcases ih (max m (f x)) with h | ⟨c, hc, h⟩
    · rw [h]
      rcases Nat.le_total m (f x) with hle | hle
      · exact .inr ⟨x, List.mem_cons_self, (Nat.max_eq_right hle).symm⟩
      · exact .inl (Nat.max_eq_left hle)
    · exact .inr ⟨c, List.mem_cons_of_mem _ hc, h⟩

theorem foldl_max_le {α : Type} (f : α → Nat) {l : List α} {m n : Nat} (hm : m ≤ n) (h : ∀ c ∈ l, f c ≤ n) :
    l.foldl (fun n c => max n (f c)) m ≤ n := by
  rcases foldl_max_attained f l m with e | ⟨c, hc, e⟩
  · rwa [e]
  · rw [← e]
    exact h c hc

/-! ## A swath starts -/

theorem exec_swathStart (u : Printer) (s : State) : exec (.swathStart u) s = whenDue (swathDue s u) (startSwath u) s := rfl

theorem swathDue_eq {s : State} {u : Printer} (h : (unitAt s u).state = .waiting) : swathDue s u = channelsReady s u := by
  simp [swathDue, h]

theorem readyLanes_eq (g : GarmentId) (k : Nat) (l : List (Fin 6)) (s : State) :
    l.foldl (readyLane g k) s = { s with lanes := (l.foldl (readyLane g k) s).lanes } := by
  induction l generalizing s with
  | nil => rfl
  | cons c l ih =>
    rw [List.foldl_cons, ih]
    rfl

theorem sum_readyLanes (g : GarmentId) (k : Nat) (l : List (Fin 6)) (s : State) {c : Fin 6} (h : c ∈ l ∨ (laneAt s c).sum = 0) :
    (laneAt (l.foldl (readyLane g k) s) c).sum = 0 := by
  induction l generalizing s with
  | nil => exact h.resolve_left List.not_mem_nil
  | cons x l ih =>
    refine ih _ ?_
    rw [readyLane, laneAt_putLane]
    by_cases hx : x = c
    · exact .inr (by rw [if_pos hx])
    · rw [if_neg hx]
      exact h.imp_left fun hc => (List.mem_cons.mp hc).resolve_left (Ne.symm hx)

/-- The state as a swath is commanded, before its PASS is handed in. -/
def commanded (u : Printer) (g : GarmentId) (s : State) : State :=
  putUnit u (commandUnit s (swathPasses s g (unitAt s u)) (unitAt s u))
    ((unitAt s u).active.foldl (readyLane g (unitAt s u).swath) s)

theorem commanded_eq (u : Printer) (g : GarmentId) (s : State) :
    commanded u g s = { s with prints := (commanded u g s).prints, lanes := (commanded u g s).lanes } := by
  rw [commanded, readyLanes_eq]
  rfl

theorem startSwath_of_reachable {u : Printer} {s : State} {j : PrintJob} (hj : (unitAt s u).job = some j)
    (hr : unreachable s (printRole u) = false) :
    startSwath u s =
      handIn (printRequester u)
        (putCmd (printRole u) .pass (passArgument (swathPasses s j.garment (unitAt s u)) (unitAt s u).swath))
        (commanded u j.garment s) := by
  simp only [startSwath, hj]
  refine if_neg (not_lostAtOnce (s := commanded u j.garment s) ?_)
  rw [commanded_eq]
  exact hr

theorem commandWord_pass {arg : Nat} (h : arg ≤ 16777215) : commandWord .pass arg = BitVec.ofNat 32 (4 + 256 * arg) := by
  rw [commandWord, Nat.min_eq_right h]
  rfl

/-- Settles O35, by whether every channel may start. -/
theorem swathStartCommandsTheCarriage : Obligations.SwathStartCommandsTheCarriage := by
  intro s u j hw hj
  rw [exec_swathStart, swathDue_eq hw]
  refine ⟨fun lacks => whenDue_of_not_due ((channelsReady_eq_false_iff hj).mpr lacks), fun ready hp hr most swaths => ?_⟩
  obtain ⟨least, each⟩ :=
    foldl_max_ge (channelPasses s j.garment (unitAt s u).swath) (unitAt s u).active 1
  have atMost : swathPasses s j.garment (unitAt s u) ≤ 4 := foldl_max_le _ (by decide) most
  refine ⟨_, swathPasses s j.garment (unitAt s u), whenDue_of_due ((channelsReady_iff hj).mpr ready), ?_⟩
  rw [startSwath_of_reachable hj hr]
  have commandedLink : (commanded u j.garment s).link = s.link := by rw [commanded_eq]
  have handed := handedIn_of_empty
    (x := putCmd (printRole u) .pass (passArgument (swathPasses s j.garment (unitAt s u)) (unitAt s u).swath))
    (s := commanded u j.garment s) (q := printRequester u) (by rw [placeAt, commandedLink]; exact hp)
    (by rw [commanded_eq]; exact hr)
  have units (v : Printer) : unitAt (commanded u j.garment s) v =
      if u = v then commandUnit s (swathPasses s j.garment (unitAt s u)) (unitAt s u) else unitAt s v := by
    rw [commanded, unitAt_putUnit, readyLanes_eq]
    rfl
  have printsAfter (v : Printer) :
      unitAt (handIn (printRequester u)
        (putCmd (printRole u) .pass (passArgument (swathPasses s j.garment (unitAt s u)) (unitAt s u).swath))
        (commanded u j.garment s)) v = unitAt (commanded u j.garment s) v := unitAt_congr (by simp) v
  refine ⟨?_, least, each, foldl_max_attained .., ?_, fun v hv => ?_, fun c hc => ?_, ?_⟩
  · rw [handed.frame, commanded_eq]
  · rw [printsAfter, units, if_pos rfl]
    rfl
  · rw [printsAfter, units, if_neg hv.symm]
  · rw [laneAt_congr (s := commanded u j.garment s) (handIn_frame ..).2.2.2.2.2.2.2.2.2.2.2.2.2.2.2.2.2.2.1]
    exact sum_readyLanes _ _ _ s (.inl hc)
  · rw [handed.now, queuedNow, putCmd, commandWord_pass (by simp only [passArgument]; omega),
      show (commanded u j.garment s).clock = s.clock by rw [commanded_eq]]
    rfl

/-! ## What an emission changes -/

/-- Of the whole state only banks, staged queues, lanes and print units change. -/
def BandMoves (s t : State) : Prop :=
  t = { s with engine := { s.engine with banks := t.engine.banks, staged := t.engine.staged }, lanes := t.lanes, prints := t.prints }

theorem BandMoves.trans {s t u : State} (h : BandMoves s t) (k : BandMoves t u) : BandMoves s u := by
  unfold BandMoves at h k ⊢
  rw [k, h]

theorem bandMoves_freeBank (b : Fin 8) (s : State) : BandMoves s (freeBank b s) := by
  unfold freeBank
  split <;> rfl

theorem bandMoves_endEmission (b : Fin 8) (s : State) : BandMoves s (endEmission b s) := by
  unfold endEmission
  split
  · exact bandMoves_freeBank ..
  · rfl

theorem bandMoves_settleBank (last : Bool) (b : Fin 8) (s : State) : BandMoves s (settleBank last b s) := by
  unfold settleBank
  split
  · exact bandMoves_freeBank ..
  · exact bandMoves_endEmission ..

/-- Lanes of channels with `A` begin bands or stop: drop sums stay, and a bank that holds no band stays as it is. -/
structure Emits (A : Fin 6 → Prop) (s t : State) : Prop where
  moves : BandMoves s t
  sums : ∀ c, (laneAt t c).sum = (laneAt s c).sum
  lanes : ∀ c, ¬A c → laneAt t c = laneAt s c
  bands : ∀ b, (bankAt t b).band = (bankAt s b).band
  banks : ∀ b, (bankAt s b).band = none → bankAt t b = bankAt s b

theorem Emits.refl (A : Fin 6 → Prop) (s : State) : Emits A s s := ⟨rfl, fun _ => rfl, fun _ _ => rfl, fun _ => rfl, fun _ _ => rfl⟩

theorem Emits.trans {A : Fin 6 → Prop} {s t u : State} (h : Emits A s t) (k : Emits A t u) : Emits A s u :=
  ⟨h.moves.trans k.moves, fun c => (k.sums c).trans (h.sums c), fun c hc => (k.lanes c hc).trans (h.lanes c hc),
    fun b => (k.bands b).trans (h.bands b), fun b hb => (k.banks b ((h.bands b).trans hb)).trans (h.banks b hb)⟩

theorem emits_emitOrStop {A : Fin 6 → Prop} {c : Fin 6} (hc : A c) {x : Option (Fin 8)} {s : State}
    (hx : ∀ b, x = some b → (bankAt s b).band ≠ none) : Emits A s (emitOrStop c x s) := by
  have other {d : Fin 6} (hd : ¬A d) : c ≠ d := fun e => hd (e ▸ hc)
  cases x with
  | none =>
    refine ⟨rfl, fun d => ?_, fun d hd => laneAt_putLane_ne _ _ (other hd), fun _ => rfl, fun _ _ => rfl⟩
    rw [emitOrStop, laneAt_putLane]
    split
    · next h => rw [h]
    · rfl
  | some b =>
    have bank (y : Fin 8) : bankAt (emitOrStop c (some b) s) y = if b = y then { bankAt s b with state := .emitting } else bankAt s y :=
      bankAt_putBank ..
    refine ⟨rfl, fun d => ?_, fun d hd => laneAt_putLane_ne _ _ (other hd), fun y => ?_, fun y hy => ?_⟩
    · rw [emitOrStop, emitBank, laneAt_putLane]
      split
      · next h => rw [h]
      · rfl
    · rw [bank]
      split
      · next h => rw [h]
      · rfl
    · rw [bank, if_neg fun e : b = y => hx b rfl (e ▸ hy)]

theorem band_of_bandOfSwath {s : State} {g : GarmentId} {k : Nat} {p : Band → Bool} {b : Fin 8} (h : bandOfSwath s g k p b = true) :
    (bankAt s b).band ≠ none := fun e => by
  rw [bandOfSwath, e] at h
  cases h

theorem emits_beginPass {A : Fin 6 → Prop} (g : GarmentId) (k : Nat) (s : State) {c : Fin 6} (hc : A c) :
    Emits A s (beginPass g k s c) :=
  emits_emitOrStop hc fun _ hb => band_of_bandOfSwath (List.mem_filter.mp (List.mem_of_mem_head? hb)).2

theorem emits_beginPasses {A : Fin 6 → Prop} (g : GarmentId) (k : Nat) (l : List (Fin 6)) (hl : ∀ c ∈ l, A c) (s : State) :
    Emits A s (l.foldl (beginPass g k) s) := by
  induction l generalizing s with
  | nil => exact .refl A s
  | cons c l ih =>
    exact (emits_beginPass g k s (hl c List.mem_cons_self)).trans (ih (fun d hd => hl d (List.mem_cons_of_mem _ hd)) _)

theorem emits_stepPass (u : Printer) (g : GarmentId) (s : State) :
    Emits (fun c => (laneAt s c).state = .passEnded) s (stepPass u g s) := by
  unfold stepPass
  dsimp only
  split
  · have unit : Emits (fun c => (laneAt s c).state = .passEnded) s (putUnit u { unitAt s u with pass := (unitAt s u).pass + 1 } s) :=
      ⟨rfl, fun _ => rfl, fun _ _ => rfl, fun _ => rfl, fun _ _ => rfl⟩
    exact unit.trans (emits_beginPasses _ _ _ (fun c hc => by simpa using (List.mem_filter.mp hc).2) _)
  · exact .refl _ s

theorem emits_laneGoesOn (c : Fin 6) (g : GarmentId) (r : Band) (last : Bool) (s : State) :
    Emits (· = c) s (laneGoesOn c g r last s) := by
  unfold laneGoesOn
  split
  · refine ⟨rfl, fun d => ?_, fun d hd => laneAt_putLane_ne _ _ (Ne.symm hd), fun _ => rfl, fun _ _ => rfl⟩
    rw [laneAt_putLane]
    split
    · next h => rw [h]; rfl
    · rfl
  · exact emits_emitOrStop (A := (· = c)) rfl fun b hb => band_of_bandOfSwath (List.find?_some hb)

/-! ## The end of a band's emission -/

theorem exec_bandEmissionDone (c : Fin 6) (s : State) : exec (.bandEmissionDone c) s = whenDue (emitting s c) (endBand c) s := rfl

theorem endBand_of_band {s : State} {c : Fin 6} {j : PrintJob} {b : Fin 8} {r : Band} (hj : (unitAt s (channelUnit c)).job = some j)
    (hb : (laneAt s c).bank = some b) (hr : (bankAt s b).band = some r) :
    endBand c s = emitted (channelUnit c) j.garment c b r s := by
  simp only [endBand, hj, hb, hr]

/-- The channel's drop sum with the band's drops added. -/
def summedLane (c : Fin 6) (r : Band) (s : State) : State :=
  putLane c { laneAt s c with sum := satAdd Config.count32 (laneAt s c).sum r.drops } s

/-- The band has left the lane in the channel's last pass or before it. -/
def lastOf (u : Printer) (c : Fin 6) (s : State) : Bool := (laneAt s c).lastPass ≤ (unitAt s u).pass

theorem emitted_eq (u : Printer) (g : GarmentId) (c : Fin 6) (b : Fin 8) (r : Band) (s : State) :
    emitted u g c b r s =
      stepPass u g (laneGoesOn c g r (lastOf u c s) (settleBank (lastOf u c s) b (summedLane c r s))) := rfl

theorem lanes_settleBank (last : Bool) (b : Fin 8) (s : State) : (settleBank last b s).lanes = s.lanes := by
  unfold settleBank
  split <;> simp

/-- The lane and its bank as the channel's last pass leaves them. -/
theorem freeBank_of_owner {s : State} {b : Fin 8} {c : Fin 6} (h : (bankAt s b).owner = some c) :
    freeBank b s = putStaged c ((stagedAt s c).filter fun x => x != b) (putBank b Bank.freed s) := by
  rw [freeBank, h]

theorem bankAt_freeBank (b x : Fin 8) (s : State) : bankAt (freeBank b s) x = if b = x then Bank.freed else bankAt s x := by
  unfold freeBank
  split <;> exact bankAt_putBank ..

theorem nextBank_freed {s : State} {b : Fin 8} {c : Fin 6} (h : (bankAt s b).owner = some c) {g : GarmentId} {k n : Nat}
    (lacks : ∀ x ∈ stagedAt s c, x ≠ b → bandOfSwath s g k (fun y => y.band == n + 1) x = false) :
    nextBank (freeBank b s) c g k n = none := by
  have bank (x : Fin 8) := bankAt_freeBank b x s
  rw [freeBank_of_owner h] at bank ⊢
  refine List.find?_eq_none.mpr fun x hx => ?_
  rw [stagedAt_putStaged_self] at hx
  obtain ⟨mem, hne⟩ := List.mem_filter.mp hx
  have hne : x ≠ b := by simpa using hne
  have same := lacks x mem hne
  rw [bandOfSwath, bank, if_neg hne.symm, ← bandOfSwath, same]
  decide

/-- Settles O37, by the channel's last pass. -/
theorem bandEmissionSumsDrops : Obligations.BandEmissionSumsDrops := by
  intro s c j b r hs hl hj hb hr ho
  have due : emitting s c = true := by simp [emitting, hs, hl]
  refine ⟨_, (exec_bandEmissionDone ..).trans (whenDue_of_due due), ?_⟩
  rw [endBand_of_band hj hb hr, emitted_eq]
  generalize hlast : lastOf (channelUnit c) c s = last
  have settled : BandMoves s (settleBank last b (summedLane c r s)) :=
    BandMoves.trans (t := summedLane c r s) rfl (bandMoves_settleBank ..)
  have goes := emits_laneGoesOn c j.garment r last (settleBank last b (summedLane c r s))
  have steps := emits_stepPass (channelUnit c) j.garment (laneGoesOn c j.garment r last (settleBank last b (summedLane c r s)))
  have moved := (settled.trans goes.moves).trans steps.moves
  have lane : laneAt (settleBank last b (summedLane c r s)) c =
      { laneAt s c with sum := satAdd Config.count32 (laneAt s c).sum r.drops } :=
    (laneAt_congr (lanes_settleBank ..) c).trans (laneAt_putLane_self ..)
  refine ⟨?_, ?_, ?_, ?_, ?_, fun lastPass => ?_⟩
  · rw [moved]
  · rw [steps.sums, goes.sums, lane]
    rfl
  · rw [moved]
  · rw [moved]
  · rw [moved]
  · have isLast : last = true := by rw [← hlast]; exact decide_eq_true lastPass
    subst isLast
    have freed : bankAt (settleBank true b (summedLane c r s)) b = Bank.freed := (bankAt_freeBank ..).trans (if_pos rfl)
    have noBand : (bankAt (settleBank true b (summedLane c r s)) b).band = none := by rw [freed]; rfl
    have bank := (steps.banks b ((goes.bands b).trans noBand)).trans ((goes.banks b noBand).trans freed)
    refine ⟨fun closes => ?_, fun more lacks => ?_⟩
    · have closed : laneAt (laneGoesOn c j.garment r true (settleBank true b (summedLane c r s))) c =
          closedLane true { laneAt s c with sum := satAdd Config.count32 (laneAt s c).sum r.drops } := by
        rw [laneGoesOn, if_pos closes, laneAt_putLane_self, lane]
      rw [steps.lanes c (by rw [closed]; exact fun h => by cases h), closed, bank]
      exact ⟨rfl, rfl, rfl⟩
    · have noNext : nextBank (settleBank true b (summedLane c r s)) c j.garment r.swath r.band = none :=
        nextBank_freed (s := summedLane c r s) ho lacks
      have stopped : laneAt (laneGoesOn c j.garment r true (settleBank true b (summedLane c r s))) c =
          { laneAt s c with sum := satAdd Config.count32 (laneAt s c).sum r.drops, state := .stopped, bank := none } := by
        rw [laneGoesOn, if_neg (by rw [more]; decide), noNext, emitOrStop, laneAt_putLane_self, lane]
      rw [steps.lanes c (by rw [stopped]; exact fun h => by cases h), stopped, bank]
      exact ⟨rfl, rfl, rfl⟩

end Sys2Proof.Machine
end

section
/-! PROOFS. The checks on a descriptor (R68, R69), and what a chain fault does (R70). -/

namespace Sys2Proof.Machine

-- Elaborated all at once, the proofs of this text start more threads than the check's memory limit lets it.
set_option Elab.async false

/-! ## The checks -/

theorem descriptorChecksInOrder : Claims.DescriptorChecksInOrder := by
  intro s c g d misaligned badLength noEnd bands swaths
  have first : (!aligned8 d.dataAddr || (!d.chainEnd && !aligned8 d.nextAddr)) = true ↔ misaligned := by
    simp [misaligned, aligned8]
  have third : (!d.chainEnd && d.nextAddr == 0) = true ↔ noEnd := by simp [noEnd]
  have fourth : (!d.chainEnd && (walkerAt s c).read + 1 == Config.chainMax) = true ↔ bands := by simp [bands, Config.chainMax]
  have fifth : (!d.chainEnd && d.swathEnd && (walkerAt s c).swaths + 1 == Config.swathMax) = true ↔ swaths := by
    simp [swaths, Config.swathMax, and_assoc]
  simp only [checkDescriptor, first, third, fourth, fifth]
  refine ⟨fun h => if_pos h, fun h1 h => ?_, fun h1 h2 h => ?_, fun h1 h2 h3 h => ?_, fun h1 h2 h3 h4 h => ?_, fun h1 h2 h3 h4 h5 => ?_⟩
  · exact (if_neg h1).trans (if_pos h)
  · exact (if_neg h1).trans ((if_neg h2).trans (if_pos h))
  · exact (if_neg h1).trans ((if_neg h2).trans ((if_neg h3).trans (if_pos h)))
  · exact (if_neg h1).trans ((if_neg h2).trans ((if_neg h3).trans ((if_neg h4).trans (if_pos h))))
  · have passed : ∀ x : Option ChainFault,
        (if misaligned then some .misaligned else if badLength then some .badLength else if noEnd then some .noChainEnd
          else if bands then some .tooManyBands else if swaths then some .tooManySwaths else x) = x := fun x => by
      rw [if_neg h1, if_neg h2, if_neg h3, if_neg h4, if_neg h5]
    refine ⟨fun h => (passed _).trans (if_pos h), fun h k => (passed _).trans ?_, fun h k => (passed _).trans ?_⟩
    · rw [h, k]
      rfl
    · rw [h, k]
      rfl

/-! ## What stays of a fetch that is over -/

/-- No fetch is in flight, and the bank is FREE with no lane emitting from it. -/
structure FetchOver (b : Fin 8) (s : State) : Prop where
  fetch : s.engine.fetch = none
  bank : (bankAt s b).state = .free
  lanes : ∀ c, (laneAt s c).bank ≠ some b

theorem FetchOver.of_frame {b : Fin 8} {s t : State} (h : FetchOver b s) (engine : t.engine = s.engine := by simp)
    (lanes : t.lanes = s.lanes := by simp) : FetchOver b t :=
  ⟨by rw [engine]; exact h.fetch, by rw [bankAt, engine, ← bankAt]; exact h.bank, fun c => by
    rw [laneAt_congr lanes]
    exact h.lanes c⟩

theorem FetchOver.ite {b : Fin 8} {p : Prop} [Decidable p] {s t : State} (h : p → FetchOver b s) (k : ¬p → FetchOver b t) :
    FetchOver b (if p then s else t) := by
  split
  · next hp => exact h hp
  · next hp => exact k hp

theorem FetchOver.foldl {α : Type} {b : Fin 8} {f : State → α → State} (hf : ∀ s a, FetchOver b s → FetchOver b (f s a)) (l : List α)
    {s : State} (h : FetchOver b s) : FetchOver b (l.foldl f s) := by
  induction l generalizing s with
  | nil => exact h
  | cons a l ih => exact ih (hf s a h)

theorem FetchOver.putBank {b : Fin 8} {s : State} (h : FetchOver b s) {x : Fin 8} (hx : x ≠ b) (k : Bank) :
    FetchOver b (putBank x k s) := ⟨h.fetch, by rw [bankAt_putBank_ne _ _ hx]; exact h.bank, h.lanes⟩

theorem FetchOver.freeBank {b : Fin 8} {s : State} (h : FetchOver b s) (x : Fin 8) : FetchOver b (freeBank x s) := by
  refine ⟨?_, ?_, fun c => ?_⟩
  · rw [bandMoves_freeBank]
    exact h.fetch
  · rw [bankAt_freeBank]
    split
    · rfl
    · exact h.bank
  · rw [laneAt_congr (freeBank_frame ..).2.2.2.2.2.2.2.2.2.2.2.2.2.2.2.2.2.1]
    exact h.lanes c

theorem FetchOver.requestFree {b : Fin 8} {s : State} (h : FetchOver b s) (x : Fin 8) : FetchOver b (requestFree x s) := by
  have other (hstate : (bankAt s x).state ≠ .free) : x ≠ b := fun e => hstate (e ▸ h.bank)
  unfold Machine.requestFree
  split
  · exact h
  · exact h.freeBank x
  · next hs => exact h.putBank (other (by rw [hs]; decide)) _
  · next hs => exact h.putBank (other (by rw [hs]; decide)) _

theorem FetchOver.of_walkerOnly {b : Fin 8} {c : Fin 6} {s t : State} (h : FetchOver b s) (k : WalkerOnly c s t) : FetchOver b t :=
  ⟨by rw [k.frame]; exact h.fetch, by rw [k.frame]; exact h.bank, by rw [k.frame]; exact h.lanes⟩

theorem walkerOnly_dropPending (c : Fin 6) (g : GarmentId) (s : State) : WalkerOnly c s (dropPending c g s) := by
  unfold dropPending
  dsimp only
  split
  · exact .refl c s
  · split
    · exact walkerOnly_putWalker ..
    · exact .refl c s

theorem FetchOver.cancelChannel {b : Fin 8} {s : State} (h : FetchOver b s) (g : GarmentId) (c : Fin 6) :
    FetchOver b (cancelChannel g s c) := by
  have dropped : FetchOver b (requestFrees c g (fun _ => true) (dropPending c g s)) :=
    FetchOver.foldl (fun _ x hs => hs.requestFree x) _ (h.of_walkerOnly (walkerOnly_dropPending c g s))
  refine .ite (fun _ => ?_) fun _ => dropped
  rw [stopWalker, dropped.fetch]
  exact dropped.of_walkerOnly (walkerOnly_idleWalker ..)

theorem FetchOver.abruptCancel {b : Fin 8} {s : State} (h : FetchOver b s) (u : Printer) (g : GarmentId) :
    FetchOver b (abruptCancel u g s) := by
  have cancelled := FetchOver.foldl (fun _ c hs => FetchOver.cancelChannel hs g c) (unitChannels u) h
  exact ⟨cancelled.fetch, cancelled.bank, cancelled.lanes⟩

theorem FetchOver.endEmission {b : Fin 8} {s : State} (h : FetchOver b s) {x : Fin 8} (hx : x ≠ b) : FetchOver b (endEmission x s) :=
  .ite (fun _ => h.freeBank x) fun _ => h.putBank hx _

theorem FetchOver.stopLane {b : Fin 8} {s : State} (h : FetchOver b s) (c : Fin 6) : FetchOver b (stopLane s c) := by
  have off {t : State} (ht : FetchOver b t) : FetchOver b (putLane c Lane.off t) := by
    refine ⟨ht.fetch, ht.bank, fun d => ?_⟩
    rw [laneAt_putLane]
    split
    · exact fun e => by cases e
    · exact ht.lanes d
  unfold Machine.stopLane
  split
  · exact off h
  · next x hx => exact off (h.endEmission fun e => h.lanes c (hx.trans (congrArg some e)))

theorem FetchOver.quietCut {b : Fin 8} {s : State} (h : FetchOver b s) (u : Printer) (j : PrintJob) :
    FetchOver b (quietCut u j s) := by
  have stopped : FetchOver b (stopLanes u s) := FetchOver.foldl (fun _ c hs => FetchOver.stopLane hs c) _ h
  have dropped : FetchOver b (Machine.abruptCancel u j.garment (changeGarment j.garment.index (withPrintMark u .cut) (stopLanes u s))) :=
    stopped.of_frame.abruptCancel u j.garment
  unfold Machine.quietCut
  dsimp only
  split
  · exact dropped.of_frame
  · exact dropped.of_frame

theorem FetchOver.noticeCurrent {b : Fin 8} {s : State} (h : FetchOver b s) {n : Notice} (hn : abruptNotice n = true) (u : Printer)
    (j : PrintJob) : FetchOver b (noticeCurrent u j n s) := by
  unfold Machine.noticeCurrent
  split
  · exact h
  · split
    · exact h
    · exact h.of_frame
  all_goals
    rw [if_pos hn]
    exact h.quietCut u j

theorem FetchOver.noticePrint {b : Fin 8} {s : State} (h : FetchOver b s) {n : Notice} (hn : abruptNotice n = true) (u : Printer)
    (g : GarmentId) : FetchOver b (noticePrint u g n s) := by
  unfold Machine.noticePrint
  dsimp only
  rw [noticeTallied_of_abrupt hn]
  split
  · exact h
  · exact .ite (fun _ => h.noticeCurrent hn u _) fun _ => h

theorem FetchOver.noticeEngine {b : Fin 8} {s : State} (h : FetchOver b s) (g : GarmentId) : FetchOver b (noticeEngine g s) :=
  FetchOver.foldl (fun _ u hs => .ite (fun _ => hs.abruptCancel u g) fun _ => hs) _ h

theorem FetchOver.noticeAll {b : Fin 8} {s : State} (h : FetchOver b s) (g : Fin 32) (r : Garment) :
    FetchOver b (noticeAll g r .failed s) := by
  have fetched : FetchOver b (noticeFetch (garmentId g r) .failed s) := h.noticeEngine _
  have stations : FetchOver b (noticePress g (noticePretreat g (noticeFetch (garmentId g r) .failed s))) := fetched.of_frame
  have white : FetchOver b (noticedBefore g r .failed s) := stations.noticePrint rfl ..
  have flash : FetchOver b (noticeFlash (garmentId g r) .failed (noticedBefore g r .failed s)) := white.of_frame
  rw [noticeAll_eq]
  exact (flash.noticePrint (n := .failed) rfl .color (garmentId g r)).of_frame

theorem FetchOver.failOp {b : Fin 8} {s : State} (h : FetchOver b s) (g : Fin 32) (code : FaultCode) : FetchOver b (failOp g code s) := by
  unfold Machine.failOp
  split
  · exact h
  · next r _ =>
    obtain ⟨-, lanes, engine⟩ := failureRaised_printing g r code s
    split
    · rw [failCounted_noticed]
      exact (h.of_frame engine lanes).noticeAll g r
    · exact h

/-! ## A chain fault -/

theorem tallyFor_quietCut (u : Printer) (j : PrintJob) (s : State) : tallyFor (quietCut u j s) u j.garment = none := by
  unfold quietCut
  dsimp only
  rw [tallyFor_congr (s := abruptCancel u j.garment (changeGarment j.garment.index (withPrintMark u .cut) (stopLanes u s)))]
  · exact tallyFor_abruptCancel ..
  · split <;> simp

theorem tallyFor_noticePrint {u : Printer} {g : GarmentId} {s : State} (h : tallyFor s u g = none) :
    tallyFor (noticePrint u g .chainFault s) u g = none := by
  unfold noticePrint
  dsimp only
  rw [noticeTallied_of_abrupt rfl]
  split
  · exact h
  · split
    · next j _ hg =>
      subst hg
      unfold noticeCurrent
      split
      · exact h
      · exact h
      all_goals exact tallyFor_quietCut ..
    · exact h

/-- A chain fault as the fail request finds it: CHAIN_FAULT raised. -/
def chainFaultRaised (c : Fin 6) (x : ChainFault) (tag : Nat) (g : GarmentId) (s : State) : State :=
  failOp g.index .chainFault (raiseChainFault c x tag g.index s)

theorem chainFaulted_eq (c : Fin 6) (x : ChainFault) (tag : Nat) (g : GarmentId) (s : State) :
    chainFaulted c x tag g s =
      noticePrint (channelUnit c) g .chainFault (abruptCancel (channelUnit c) g (chainFaultRaised c x tag g s)) := rfl

theorem FetchOver.chainFaulted {b : Fin 8} {s : State} (h : FetchOver b s) (c : Fin 6) (x : ChainFault) (tag : Nat)
    (g : GarmentId) : FetchOver b (chainFaulted c x tag g s) :=
  ((FetchOver.of_frame (t := raiseChainFault c x tag g.index s) h).failOp g.index .chainFault
    |>.abruptCancel (channelUnit c) g).noticePrint rfl (channelUnit c) g

theorem chainFaulted_fails {s : State} {g : GarmentId} {r : Garment} (hr : garmentAt s g.index = some r) (good : r.cond = .good)
    (c : Fin 6) (x : ChainFault) (tag : Nat) :
    ∃ r', garmentAt (chainFaulted c x tag g s) g.index = some r' ∧ r'.cond = .failed ∧ r'.fault = some .chainFault := by
  have raised : garmentAt (raiseChainFault c x tag g.index s) g.index = some r := (garmentAt_congr (by simp) _).trans hr
  obtain ⟨r', hr', noticed⟩ := garmentAt_failCounted_self g.index r .chainFault (raiseChainFault c x tag g.index s)
  rw [← failOp_of_counted raised (counted_iff.mpr (.inl good))] at hr'
  have cancelled : garmentAt (abruptCancel (channelUnit c) g (chainFaultRaised c x tag g s)) g.index = some r' :=
    (garmentAt_congr (by simp [chainFaultRaised]) _).trans hr'
  obtain ⟨r'', hr'', noticed'⟩ := (noticesOnly_noticePrint (channelUnit c) g .chainFault _).own r' cancelled
  have both := noticed.trans noticed'
  exact ⟨r'', hr'', by rw [both.rest], by rw [both.rest]⟩

theorem fetchOver_dropFetch {f : Fetch} {s : State} (h : ∀ c, (laneAt s c).bank ≠ some f.bank) : FetchOver f.bank (dropFetch f s) := by
  refine ⟨?_, ?_, fun c => ?_⟩
  · rw [dropFetch, bandMoves_freeBank]
    rfl
  · rw [dropFetch, bankAt_freeBank, if_pos rfl]
    rfl
  · rw [laneAt_congr (s := s) (by simp)]
    exact h c

theorem fetchDescriptor_of_error {s : State} {f : Fetch} {ps : PlaneStart} (hf : s.engine.fetch = some f) (going : f.stopping = false)
    (hw : (walkerAt s f.channel).work = some ps) :
    fetchDescriptor .error s = chainFaulted f.channel .memError Config.noUserTag ps.garment (dropFetch f s) := by
  simp only [fetchDescriptor, hf, descriptorRead, going, Bool.false_eq_true, if_false, faultFetch, hw]

theorem descriptorErrorFailsTheGarment : Claims.DescriptorErrorFailsTheGarment := by
  intro s a f ps r hcur hk hd hl hf going hw hr good lanes
  have engine : (endAccess s).engine = s.engine := by simp
  have ended : fetchDescriptor .error (endAccess s) =
      chainFaulted f.channel .memError Config.noUserTag ps.garment (dropFetch f (endAccess s)) :=
    fetchDescriptor_of_error (by rw [engine]; exact hf) going (by rw [walkerAt, engine]; exact hw)
  have rest : FetchOver f.bank (dropFetch f (endAccess s)) :=
    fetchOver_dropFetch fun c => by rw [laneAt_congr (s := s) (by simp)]; exact lanes c
  have live : garmentAt (dropFetch f (endAccess s)) ps.garment.index = some r := (garmentAt_congr (by simp) _).trans hr
  obtain ⟨r', hr', failed, fault⟩ := chainFaulted_fails live good f.channel .memError Config.noUserTag
  have after := rest.chainFaulted f.channel .memError Config.noUserTag ps.garment
  refine ⟨_, r', (exec_descriptorReadDone ..).trans (readDone_of_current hcur hk hd hl rfl _), ?_⟩
  rw [ended]
  refine ⟨after.fetch, after.bank, hr', failed, fault, ?_, by simp⟩
  rw [chainFaulted_eq]
  exact tallyFor_noticePrint (tallyFor_abruptCancel ..)

/-- Settles O32, by the checks and the read error. -/
theorem descriptorFaults : Obligations.DescriptorFaults := ⟨descriptorErrorFailsTheGarment, descriptorChecksInOrder⟩

end Sys2Proof.Machine
end

section
/-! PROOFS. The sampler's read list, a flash period tick (R112, R113), and the timeouts of the transfer list and the pack queue (R121, R141). -/

namespace Sys2Proof.Machine

-- Elaborated all at once, the proofs of this text start more threads than the check's memory limit lets it.
set_option Elab.async false

/-! ## The sampler's read list -/

/-- Of the whole state only the read list, the SAMPLER place and FLASH's sample flag change. -/
structure Samples (s t : State) : Prop where
  frame :
    t = { s with flash := t.flash, dryer := { s.dryer with reads := t.dryer.reads }, link := { s.link with places := t.link.places } }
  flash : t.flash = { s.flash with sampling := t.flash.sampling }
  places : ∀ q, q ≠ .sampler → placeAt t q = placeAt s q

theorem Samples.refl (s : State) : Samples s s := ⟨rfl, rfl, fun _ _ => rfl⟩

theorem Samples.trans {s t u : State} (h : Samples s t) (k : Samples t u) : Samples s u := by
  refine ⟨?_, ?_, fun q hq => (k.places q hq).trans (h.places q hq)⟩
  · rw [k.frame, h.frame]
  · rw [k.flash, h.flash]

theorem samples_readLost (r : Role) (s : State) : Samples s (readLost r s) := by
  unfold readLost
  split
  · exact ⟨rfl, rfl, fun _ _ => rfl⟩
  · exact .refl s

theorem samples_setReads (l : List Role) (s : State) : Samples s (s.setDryer { s.dryer with reads := l }) := ⟨rfl, rfl, fun _ _ => rfl⟩

theorem samples_enqueue (x : Txn) (s : State) : Samples s (enqueue .sampler x s) :=
  ⟨rfl, rfl, fun _ hq => placeAt_putPlace_ne _ _ hq.symm⟩

theorem samples_serveReadList (l : List Role) (s : State) : Samples s (serveReadList l s) := by
  induction l generalizing s with
  | nil => exact samples_setReads ..
  | cons r l ih =>
    unfold serveReadList
    split
    · exact (samples_readLost r s).trans (ih _)
    · exact (samples_setReads ..).trans (samples_enqueue ..)

theorem samples_askReads (l : List Role) (s : State) : Samples s (askReads l s) := by
  unfold askReads serveReads
  split
  · exact (samples_setReads ..).trans (samples_serveReadList ..)
  · exact samples_setReads ..

theorem readLost_of_ne {r : Role} (h : r ≠ .flash) (s : State) : readLost r s = s := if_neg h

theorem serveReadList_flash {l : List Role} {s : State} (h : unreachable s .flash = false) : (serveReadList l s).flash = s.flash := by
  induction l generalizing s with
  | nil => rfl
  | cons r l ih =>
    unfold serveReadList
    split
    · next hr =>
      have other : r ≠ .flash := fun e => by rw [e, h] at hr; cases hr
      rw [readLost_of_ne other, ih h]
    · rfl

theorem askReads_flash {l : List Role} {s : State} (h : unreachable s .flash = false) : (askReads l s).flash = s.flash := by
  unfold askReads serveReads
  split
  · exact serveReadList_flash (s := s.setDryer { s.dryer with reads := withReads s.dryer.reads l }) h
  · rfl

theorem samples_askSample (s : State) : Samples s (askSample s) := by
  unfold askSample
  split
  · exact .refl s
  · have flagged : Samples s (s.setFlash { s.flash with sampling := true }) := ⟨rfl, rfl, fun _ _ => rfl⟩
    exact flagged.trans (samples_askReads ..)

theorem askSample_flash {s : State} (h : unreachable s .flash = false) : (askSample s).flash = { s.flash with sampling := true } := by
  unfold askSample
  split
  · next hs => rw [← hs]
  · exact askReads_flash (s := s.setFlash { s.flash with sampling := true }) h

/-! ## Temperature sources -/

theorem yielded_tickSource (hold : Nat) (c : Source) : yielded (tickSource hold c) = Claims.tickTemp hold c := by
  cases hv : c.received with
  | some v =>
    have ticked : tickSource hold c = { received := none, lastGood := some v, age := 0, state := .fresh } := by rw [tickSource, hv]
    have temp : Claims.tickTemp hold c = some v := by rw [Claims.tickTemp, hv]
    rw [ticked, temp, yielded]
  | none =>
    have ticked : tickSource hold c = ageSource hold c := by rw [tickSource, hv]
    have temp : Claims.tickTemp hold c = if c.age + 1 ≤ hold then c.lastGood else none := by rw [Claims.tickTemp, hv]
    rw [ticked, temp, yielded, ageSource]
    cases c.lastGood <;> by_cases hage : c.age + 1 ≤ hold <;> simp [hage]

theorem received_tickSource (hold : Nat) (c : Source) : (tickSource hold c).received = none := by
  unfold tickSource
  split
  · rfl
  · next hv => exact hv

/-! ## A flash period tick -/

theorem exec_flashPeriodTick (s : State) : exec .flashPeriodTick s = whenDue (flashTickDue s) flashTick s := rfl

theorem flashTickDue_eq {s : State} (h : s.flash.state = .exposing) : flashTickDue s = reached s s.flash.nextTick := by
  simp [flashTickDue, h]

/-- The garment's dose after the tick. -/
def flashDoseAfter (s : State) (r : Garment) : Nat :=
  Claims.doseAfter s.config.flashBase s.config.flashCeiling s.flash.periodMs r.flashDose
    (Claims.tickTemp s.config.holdCount s.flash.source)

/-- The tick's dose is on the garment, and the source has taken the tick. -/
def creditedFlash (g : Fin 32) (s : State) : State :=
  changeGarment g (flashCredited (s.setFlash (tickedFlash s)) (yielded (tickedFlash s).source)) (s.setFlash (tickedFlash s))

theorem flashCredited_eq (s : State) (r : Garment) :
    flashCredited (s.setFlash (tickedFlash s)) (yielded (tickedFlash s).source) r = { r with flashDose := flashDoseAfter s r } := by
  rw [show yielded (tickedFlash s).source = Claims.tickTemp s.config.holdCount s.flash.source from yielded_tickSource ..]
  unfold flashCredited flashDoseAfter Claims.doseAfter
  cases Claims.tickTemp s.config.holdCount s.flash.source <;> rfl

theorem garmentAt_creditedFlash {g : Fin 32} {r : Garment} {s : State} (hr : garmentAt s g = some r) (h : Fin 32) :
    garmentAt (creditedFlash g s) h = if g = h then some { r with flashDose := flashDoseAfter s r } else garmentAt s h := by
  rw [creditedFlash, garmentAt_changeGarment, show garmentAt (s.setFlash (tickedFlash s)) g = some r from hr, Option.map_some,
    flashCredited_eq]
  rfl

theorem creditedFlash_eq (g : Fin 32) (s : State) :
    creditedFlash g s = { s with flash := tickedFlash s, garments := (creditedFlash g s).garments } := by
  unfold creditedFlash changeGarment
  split <;> rfl

theorem flashMeets_creditedFlash {g : Fin 32} {r : Garment} {s : State} (hr : garmentAt s g = some r) :
    flashMeets (creditedFlash g s) g = true ↔ s.flash.need * 10000 ≤ flashDoseAfter s r := by
  have need : (creditedFlash g s).flash.need = s.flash.need := by rw [creditedFlash_eq]; rfl
  unfold flashMeets
  rw [garmentAt_creditedFlash hr, if_pos rfl]
  exact decide_eq_true_iff.trans (by rw [need]; rfl)

theorem flashTick_of_job {s : State} {j : PrintJob} (hj : s.flash.job = some j) :
    flashTick s =
      if flashMeets (creditedFlash j.garment.index s) j.garment.index then flashDone (creditedFlash j.garment.index s)
      else askSample (creditedFlash j.garment.index s) := by
  rw [flashTick, hj]
  rfl

theorem heatOff_of_reachable {s : State} (h : unreachable s .flash = false) :
    heatOff s = replaceTxn .flash (putCmd .flash .heatOff 0) s := if_neg (not_lostAtOnce h)

theorem flashDone_of_job {s : State} {j : PrintJob} (hj : s.flash.job = some j) (h : unreachable s .flash = false) :
    flashDone s = replaceTxn .flash (putCmd .flash .heatOff 0) (enterEnding (markFlash j.garment.index .done s)) := by
  rw [flashDone, hj]
  refine heatOff_of_reachable ?_
  rw [(Hands.of_link (A := fun _ => False) (by simp [markFlash])).unreachable (s := s) (by simp [markFlash]), h]

theorem replaceTxn_eq (q : Requester) (x : Txn) (s : State) :
    replaceTxn q x s = { s with link := { s.link with places := (replaceTxn q x s).link.places } } := by
  refine state_eq_iff.mpr ?_
  have := (hands_replaceTxn (A := (· = q)) rfl x s).link
  simpa using this

/-- The state as an exposure that met its requirement hands in its HEAT_OFF. -/
def doneFlash (g : Fin 32) (s : State) : State := enterEnding (markFlash g .done (creditedFlash g s))

theorem doneFlash_eq (g : Fin 32) (s : State) :
    doneFlash g s =
      { s with flash := { tickedFlash s with state := .ending, limit := none }, garments := (doneFlash g s).garments } := by
  unfold doneFlash markFlash changeGarment
  rw [creditedFlash_eq]
  split <;> rfl

theorem garmentAt_doneFlash {g : Fin 32} {r : Garment} {s : State} (hr : garmentAt s g = some r) (h : Fin 32) :
    garmentAt (doneFlash g s) h =
      if g = h then some { r with flashDose := flashDoseAfter s r, flash := .done } else garmentAt s h := by
  have marked : garmentAt (doneFlash g s) h = garmentAt (markFlash g .done (creditedFlash g s)) h := rfl
  rw [marked, markFlash, garmentAt_changeGarment, garmentAt_creditedFlash hr, garmentAt_creditedFlash hr, if_pos rfl]
  split <;> rfl

theorem placeAt_replaceTxn {q : Requester} {x : Txn} {s : State} (hp : (placeAt s q).now = none)
    (hr : unreachable s x.role = false) : (placeAt (replaceTxn q x s) q).now = some (queuedNow x s) := by
  rw [replaceTxn_of_empty hp, placeAt_handIn hp hr]

/-- What every due tick leaves. -/
structure FlashTicked (j : PrintJob) (s t : State) : Prop where
  nextTick : t.flash.nextTick = s.flash.nextTick + BitVec.ofNat 32 (s.flash.periodMs * 100)
  received : t.flash.source.received = none
  job : t.flash.job = s.flash.job
  others : ∀ h, h ≠ j.garment.index → garmentAt t h = garmentAt s h
  reports : t.reports = s.reports
  ctl : t.ctl = s.ctl

theorem flashTicked_of_unit {j : PrintJob} {s t : State} {state : FlashState} {limit : Option Timer} {sampling : Bool}
    (unit : t.flash = { tickedFlash s with state := state, limit := limit, sampling := sampling })
    (others : ∀ h, h ≠ j.garment.index → garmentAt t h = garmentAt s h) (reports : t.reports = s.reports) (ctl : t.ctl = s.ctl) :
    FlashTicked j s t := by
  refine ⟨?_, ?_, ?_, others, reports, ctl⟩
  · rw [unit]
    rfl
  · rw [unit]
    exact received_tickSource ..
  · rw [unit]
    rfl

theorem flashTick_of_met {s : State} {j : PrintJob} {r : Garment} (hj : s.flash.job = some j) (hr : garmentAt s j.garment.index = some r)
    (reach : unreachable s .flash = false) (met : s.flash.need * 10000 ≤ flashDoseAfter s r) :
    flashTick s = replaceTxn .flash (putCmd .flash .heatOff 0) (doneFlash j.garment.index s) := by
  have frame := creditedFlash_eq j.garment.index s
  rw [flashTick_of_job hj, if_pos ((flashMeets_creditedFlash hr).mpr met)]
  exact flashDone_of_job (by rw [frame]; exact hj) (by rw [frame]; exact reach)

theorem flashTick_of_unmet {s : State} {j : PrintJob} {r : Garment} (hj : s.flash.job = some j)
    (hr : garmentAt s j.garment.index = some r) (unmet : ¬s.flash.need * 10000 ≤ flashDoseAfter s r) :
    flashTick s = askSample (creditedFlash j.garment.index s) := by
  rw [flashTick_of_job hj, if_neg fun h => unmet ((flashMeets_creditedFlash hr).mp h)]

/-- The state after the HEAT_OFF of an exposure that met its requirement. -/
structure FlashDoneBy (j : PrintJob) (r : Garment) (s t : State) : Prop where
  frame : t = { s with flash := t.flash, garments := t.garments, link := { s.link with places := t.link.places } }
  unit : t.flash = { tickedFlash s with state := .ending, limit := none }
  records : ∀ h, garmentAt t h =
    if j.garment.index = h then some { r with flashDose := flashDoseAfter s r, flash := .done } else garmentAt s h
  place : (placeAt s .flash).now = none → (placeAt t .flash).now = some (queuedNow (putCmd .flash .heatOff 0) s)

theorem flashDoneBy {s : State} {j : PrintJob} {r : Garment} (hr : garmentAt s j.garment.index = some r)
    (reach : unreachable s .flash = false) :
    FlashDoneBy j r s (replaceTxn .flash (putCmd .flash .heatOff 0) (doneFlash j.garment.index s)) := by
  have done := doneFlash_eq j.garment.index s
  have garments := garmentAt_doneFlash hr
  generalize doneFlash j.garment.index s = d at done garments
  have reachable : unreachable d .flash = false := by rw [done]; exact reach
  have clock : d.clock = s.clock := by rw [done]
  refine ⟨?_, ?_, fun h =>
    (garmentAt_congr (s := d) (t := replaceTxn .flash (putCmd .flash .heatOff 0) d) (by rw [replaceTxn_eq]) h).trans (garments h),
    fun hp => ?_⟩
  · rw [replaceTxn_eq, done]
  · rw [replaceTxn_eq, done]
  · have empty : (placeAt d .flash).now = none := by
      rw [done]
      exact hp
    have place := placeAt_replaceTxn (x := putCmd .flash .heatOff 0) empty reachable
    rw [queuedNow, clock] at place
    exact place

/-- The state after a tick whose dose does not meet the requirement: a sample is asked for. -/
structure FlashGoesOn (j : PrintJob) (r : Garment) (s t : State) : Prop where
  frame :
    t = { s with
      flash := t.flash, garments := t.garments, dryer := { s.dryer with reads := t.dryer.reads }
      link := { s.link with places := t.link.places } }
  unit : t.flash = { tickedFlash s with sampling := true }
  records : ∀ h, garmentAt t h =
    if j.garment.index = h then some { r with flashDose := flashDoseAfter s r } else garmentAt s h

theorem flashGoesOn {s : State} {j : PrintJob} {r : Garment} (hr : garmentAt s j.garment.index = some r)
    (reach : unreachable s .flash = false) : FlashGoesOn j r s (askSample (creditedFlash j.garment.index s)) := by
  have frame := creditedFlash_eq j.garment.index s
  have garments := garmentAt_creditedFlash hr
  generalize creditedFlash j.garment.index s = d at frame garments
  have samples := samples_askSample d
  refine ⟨?_, ?_, fun h => (garmentAt_congr (by rw [samples.frame]) h).trans (garments h)⟩
  · rw [samples.frame, frame]
  · rw [askSample_flash (by rw [frame]; exact reach), frame]

/-- Settles O39, by whether the dose meets the requirement. -/
theorem flashTickAddsDose : Obligations.FlashTickAddsDose := by
  intro s j r hs hj hr
  rw [exec_flashPeriodTick, flashTickDue_eq hs]
  refine ⟨whenDue_of_not_due, fun due reach => ⟨_, whenDue_of_due due, ?_⟩⟩
  rw [← flashDoseAfter]
  by_cases met : s.flash.need * 10000 ≤ flashDoseAfter s r
  · rw [flashTick_of_met hj hr reach met]
    obtain ⟨frame, unit, records, place⟩ := flashDoneBy hr reach
    obtain ⟨nextTick, received, job, others, reports, ctl⟩ :=
      flashTicked_of_unit unit (fun h hh => (records h).trans (if_neg hh.symm)) (by rw [frame]) (by rw [frame])
    exact ⟨nextTick, received, job.trans hj, others, reports, ctl, fun less => absurd met (Nat.not_le.mpr less),
      fun _ hp => ⟨frame, by rw [unit], by rw [unit], (records _).trans (if_pos rfl), place hp⟩⟩
  · rw [flashTick_of_unmet hj hr met]
    obtain ⟨frame, unit, records⟩ := flashGoesOn hr reach
    obtain ⟨nextTick, received, job, others, reports, ctl⟩ :=
      flashTicked_of_unit unit (fun h hh => (records h).trans (if_neg hh.symm)) (by rw [frame]) (by rw [frame])
    exact ⟨nextTick, received, job.trans hj, others, reports, ctl,
      fun _ => ⟨frame, by rw [unit]; exact hs, by rw [unit], by rw [unit]; rfl, (records _).trans (if_pos rfl)⟩,
      fun more => absurd more met⟩

/-! ## Timeouts -/

theorem exec_transferTimeout (g : Fin 32) (s : State) : exec (.transferTimeout g) s = whenDue (transferDue s g) (expireTransfer g) s := rfl

theorem exec_packTimeout (g : Fin 32) (s : State) : exec (.packTimeout g) s = whenDue (packDue s g) (packMissing g 0) s := rfl

theorem entryExpired_iff (s : State) (limit : Nat) (e : TimedEntry) :
    entryExpired s limit e = true ↔ limit * 100000 ≤ (s.clock - e.entry).toNat := decide_eq_true_iff

theorem transferDue_iff (s : State) (g : Fin 32) :
    transferDue s g = true ↔ s.ctl.mode ≠ .stopped ∧
      ∃ e ∈ s.dryer.transfer, e.garment = g ∧ s.config.transferTimeout * 100000 ≤ (s.clock - e.entry).toNat := by
  rw [transferDue, Bool.and_eq_true, bne_iff_ne, List.any_eq_true]
  simp only [Bool.and_eq_true, beq_iff_eq, entryExpired_iff]

theorem packDue_iff (s : State) (g : Fin 32) :
    packDue s g = true ↔ s.ctl.mode ≠ .stopped ∧
      ∃ e ∈ s.pack.queue, e.garment = g ∧ s.config.packTimeout * 100000 ≤ (s.clock - e.entry).toNat := by
  rw [packDue, Bool.and_eq_true, bne_iff_ne, List.any_eq_true]
  simp only [Bool.and_eq_true, beq_iff_eq, entryExpired_iff]

/-- What keeps a timeout from coming: STOPPED, or every entry of the garment still within its time. -/
theorem not_expired {p : Prop} {l : List TimedEntry} {g : Fin 32} {n : Nat} {age : TimedEntry → Nat}
    (h : p ∨ ∀ e ∈ l, e.garment = g → age e < n) : ¬(¬p ∧ ∃ e ∈ l, e.garment = g ∧ n ≤ age e) := by
  rintro ⟨hp, e, he, hg, hage⟩
  exact h.elim hp fun k => Nat.not_le.mpr (k e he hg) hage

theorem queue_finalOrder (i : Fin 128) (take : Byte) (key : Word) (s : State) :
    (finalOrder i take key s).pack.queue = s.pack.queue := by
  unfold finalOrder judgeOrder
  split
  · rfl
  · split
    · split
      · split
        · rw [(raise_frame ..).2.2.2.2.2.2.2.2.2.2.2.2.2.2.2.2.2.2.2.2.2.1]; rfl
        · simp [deleteOrder, putOrder]
      · split
        · simp [deleteOrder, putOrder]
        · rfl
    · rfl

theorem queue_settleCounts (i : Fin 128) (s : State) : (settleCounts i s).pack.queue = s.pack.queue := by
  have finished (st : LineState) (r : Reason) : (finishLine i st r s).pack.queue = s.pack.queue := by
    unfold finishLine
    rw [queue_finalOrder]
    simp
  unfold settleCounts
  dsimp only
  split
  · exact finished ..
  · split
    · exact finished ..
    · rfl

theorem queue_failOp (g : Fin 32) (code : FaultCode) (s : State) : (failOp g code s).pack.queue = s.pack.queue := by
  unfold failOp
  split
  · rfl
  · split
    · unfold failCounted ifCurrent countFailed
      dsimp only
      rw [(noticeAll_frame ..).2.2.2.2.2.2.2.2.2.2.2.2.2.1, (raise_frame ..).2.2.2.2.2.2.2.2.2.2.2.2.2.2.2.2.2.2.2.2.2.1]
      split
      · rw [queue_settleCounts]
        simp
      · rfl
    · rfl

/-- Settles O42, by the list the garment stands in. -/
theorem timeoutsDeleteMissingGarments : Obligations.TimeoutsDeleteMissingGarments := by
  intro s g r hr
  rw [exec_transferTimeout, exec_packTimeout]
  refine ⟨fun h => whenDue_of_not_due ?_, fun run h => ⟨_, whenDue_of_due ((transferDue_iff s g).mpr ⟨run, h⟩), ?_⟩,
    fun h => whenDue_of_not_due ?_, fun run h => ⟨_, whenDue_of_due ((packDue_iff s g).mpr ⟨run, h⟩), ?_⟩⟩
  · exact Bool.eq_false_iff.mpr fun d => not_expired h ((transferDue_iff s g).mp d)
  · refine ⟨(garmentAt_deleteGarment ..).trans (if_pos rfl), fun o ho => ?_, by simp [expireTransfer, withoutGarment], ?_, by simp [expireTransfer],
      by simp [expireTransfer]⟩
    · exact (garmentAt_deleteGarment ..).trans ((if_neg ho.symm).trans (garmentAt_failOp_ne ho ..))
    · rw [expireTransfer, (deleteGarment_frame ..).2.2.2.2.2.2.2.2.2.2.2.2.2.2.2.2.2.2.1, queue_failOp]
      rfl
  · exact Bool.eq_false_iff.mpr fun d => not_expired h ((packDue_iff s g).mp d)
  · refine ⟨(garmentAt_deleteGarment ..).trans (if_pos rfl), fun o ho => ?_, ?_, by simp, by simp, by simp⟩
    · refine (garmentAt_deleteGarment ..).trans ((if_neg ho.symm).trans ?_)
      exact (garmentAt_congr (by simp) o).trans (garmentAt_failOp_ne ho .missingAtPack (putQueue (withoutGarment g s.pack.queue) s))
    · rw [packMissing, (deleteGarment_frame ..).2.2.2.2.2.2.2.2.2.2.2.2.2.2.2.2.2.2.1,
        show ∀ u, (raiseMissing g 0 u).pack = u.pack by simp, queue_failOp]
      rfl

end Sys2Proof.Machine
end

section
/-! PROOFS. The line command list as it is put on (R180), the end of the drain and the warm-up timer (R176, R177). -/

namespace Sys2Proof.Machine

-- Elaborated all at once, the proofs of this text start more threads than the check's memory limit lets it.
set_option Elab.async false

/-! ## A command that is LOST at once -/

/-- Of the link only the LINE place changes, and addresses and modules stay. -/
structure ListsOnly (s t : State) : Prop where
  hands : Hands (· = .line) s t
  exch : t.exch = s.exch
  clock : t.clock = s.clock

theorem ListsOnly.refl (s : State) : ListsOnly s s := ⟨.refl s, rfl, rfl⟩

theorem ListsOnly.trans {s t u : State} (h : ListsOnly s t) (k : ListsOnly t u) : ListsOnly s u :=
  ⟨h.hands.trans k.hands, k.exch.trans h.exch, k.clock.trans h.clock⟩

theorem ListsOnly.unreachable {s t : State} (h : ListsOnly s t) (r : Role) : unreachable t r = unreachable s r :=
  h.hands.unreachable h.exch r

theorem ListsOnly.roleAddr {s t : State} (h : ListsOnly s t) (r : Role) : roleAddr t r = roleAddr s r := by
  unfold Machine.roleAddr
  rw [h.hands.link]

theorem listsOnly_commandLost (x : Txn) (s : State) : ListsOnly s (commandLost x s) := ⟨.of_link, by simp, by simp⟩

theorem listsOnly_setCommands (l : List Txn) (s : State) : ListsOnly s (s.setCtl { s.ctl with commands := l }) := ⟨.of_link, rfl, rfl⟩

theorem listsOnly_putPlace (p : LinkPlace) (s : State) : ListsOnly s (putPlace .line p s) := ⟨hands_putPlace (A := (· = .line)) rfl .., rfl, rfl⟩

theorem listsOnly_serveCommandList (l : List Txn) (s : State) : ListsOnly s (serveCommandList l s) := by
  induction l generalizing s with
  | nil => exact listsOnly_setCommands ..
  | cons x l ih =>
    unfold serveCommandList
    split
    · exact (listsOnly_commandLost x s).trans (ih _)
    · exact (listsOnly_setCommands ..).trans (listsOnly_putPlace ..)

theorem listsOnly_takeOverList (w : Queued) (l : List Txn) (s : State) : ListsOnly s (takeOverList w l s) := by
  induction l generalizing s with
  | nil => exact (listsOnly_setCommands ..).trans (listsOnly_putPlace ..)
  | cons x l ih =>
    unfold takeOverList
    split
    · exact (listsOnly_commandLost x s).trans (ih _)
    · exact (listsOnly_setCommands ..).trans (listsOnly_putPlace ..)

theorem listsOnly_putCommands (l : List Txn) (s : State) : ListsOnly s (putCommands l s) := by
  unfold putCommands
  split
  · exact listsOnly_serveCommandList ..
  · split
    · exact (listsOnly_setCommands l s).trans ⟨hands_withdrawTxn (A := (· = .line)) rfl _, by simp, by simp⟩
    all_goals exact listsOnly_takeOverList ..

/-! ## What a list that is put on becomes -/

theorem placeAt_commandLost (x : Txn) (s : State) (q : Requester) : placeAt (commandLost x s) q = placeAt s q := by
  rw [placeAt, (by simp : (commandLost x s).link = s.link), ← placeAt]

/-- The commands before the first one within reach are LOST at once. -/
theorem serveCommandList_skip {lost : List Txn} {s : State} (h : ∀ y ∈ lost, unreachable s y.role = true) (rest : List Txn) :
    ∃ u, serveCommandList (lost ++ rest) s = serveCommandList rest u ∧ ListsOnly s u ∧ placeAt u .line = placeAt s .line := by
  induction lost generalizing s with
  | nil => exact ⟨s, rfl, .refl s, rfl⟩
  | cons y lost ih =>
    have lists := listsOnly_commandLost y s
    obtain ⟨u, hu, only, place⟩ := ih (s := commandLost y s) fun z hz => by
      rw [lists.unreachable]
      exact h z (List.mem_cons_of_mem _ hz)
    refine ⟨u, ?_, lists.trans only, place.trans (placeAt_commandLost ..)⟩
    rw [← hu, List.cons_append, serveCommandList, if_pos (h y List.mem_cons_self)]

theorem takeOverList_skip {lost : List Txn} {s : State} (w : Queued) (h : ∀ y ∈ lost, unreachable s y.role = true) (rest : List Txn) :
    ∃ u, takeOverList w (lost ++ rest) s = takeOverList w rest u ∧ ListsOnly s u := by
  induction lost generalizing s with
  | nil => exact ⟨s, rfl, .refl s⟩
  | cons y lost ih =>
    have lists := listsOnly_commandLost y s
    obtain ⟨u, hu, only⟩ := ih (s := commandLost y s) fun z hz => by
      rw [lists.unreachable]
      exact h z (List.mem_cons_of_mem _ hz)
    refine ⟨u, ?_, lists.trans only⟩
    rw [← hu, List.cons_append, takeOverList, if_pos (h y List.mem_cons_self)]

theorem serveCommandList_of_reachable {lost rest : List Txn} {x : Txn} {s : State} (h : ∀ y ∈ lost, unreachable s y.role = true)
    (hx : unreachable s x.role = false) :
    (serveCommandList (lost ++ x :: rest) s).ctl.commands = rest ∧
      (placeAt (serveCommandList (lost ++ x :: rest) s) .line).now = some (queuedNow x s) := by
  obtain ⟨u, hu, only, -⟩ := serveCommandList_skip h (x :: rest)
  have reach : ¬unreachable u x.role = true := by
    rw [only.unreachable, hx]
    decide
  rw [hu, serveCommandList, if_neg reach]
  refine ⟨rfl, ?_⟩
  rw [enqueue, placeAt_putPlace_self, queuedNow, queuedNow, ← only.clock]
  rfl

theorem takeOverList_of_reachable {lost rest : List Txn} {x : Txn} {s : State} (w : Queued)
    (h : ∀ y ∈ lost, unreachable s y.role = true) (hx : unreachable s x.role = false) :
    (takeOverList w (lost ++ x :: rest) s).ctl.commands = rest ∧
      placeAt (takeOverList w (lost ++ x :: rest) s) .line =
        { now := some { w with txn := x, tries := 0, state := .queued, withdrawn := false }, kept := [] } := by
  obtain ⟨u, hu, only⟩ := takeOverList_skip w h (x :: rest)
  have reach : ¬unreachable u x.role = true := by
    rw [only.unreachable, hx]
    decide
  rw [hu, takeOverList, if_neg reach]
  exact ⟨rfl, placeAt_putPlace_self ..⟩

theorem serveCommandList_of_lost {l : List Txn} {s : State} (h : ∀ y ∈ l, unreachable s y.role = true) :
    (serveCommandList l s).ctl.commands = [] ∧ placeAt (serveCommandList l s) .line = placeAt s .line := by
  obtain ⟨u, hu, -, place⟩ := serveCommandList_skip h []
  rw [List.append_nil] at hu
  rw [hu]
  exact ⟨rfl, place⟩

theorem takeOverList_of_lost {l : List Txn} {s : State} (w : Queued) (h : ∀ y ∈ l, unreachable s y.role = true) :
    (takeOverList w l s).ctl.commands = [] ∧ (placeAt (takeOverList w l s) .line).now = none := by
  obtain ⟨u, hu, -⟩ := takeOverList_skip w h []
  rw [List.append_nil] at hu
  rw [hu]
  exact ⟨rfl, congrArg LinkPlace.now (placeAt_putPlace_self ..)⟩

theorem putCommands_of_empty {s : State} (h : (placeAt s .line).now = none) (l : List Txn) :
    putCommands l s = serveCommandList l s := by
  rw [putCommands, h]

theorem putCommands_of_queued {s : State} {w : Queued} (h : (placeAt s .line).now = some w) (hw : w.state ≠ .onLink)
    (l : List Txn) : putCommands l s = takeOverList w l s := by
  rw [putCommands, h]
  cases hs : w.state with
  | onLink => exact absurd hs hw
  | queued | retryGap _ => simp only [hs]

theorem putCommands_of_onLink {s : State} {w : Queued} (h : (placeAt s .line).now = some w) (hw : w.state = .onLink) (l : List Txn) :
    (putCommands l s).ctl.commands = l ∧
      placeAt (putCommands l s) .line = { now := some { w with txn := quiet w.txn, withdrawn := true }, kept := [] } := by
  have onLink : putCommands l s = withdrawTxn .line (s.setCtl { s.ctl with commands := l }) := by
    rw [putCommands, h]
    simp only [hw]
  have place : (placeAt (s.setCtl { s.ctl with commands := l }) .line).now = some w := h
  refine ⟨by rw [onLink]; simp, ?_⟩
  rw [onLink, withdrawTxn, place]
  simp only [hw]
  exact placeAt_putPlace_self ..

/-- The claim on a list put on, from the state it is put on in, for a list given by its present entries. -/
theorem listPut_of_putCommands {s u t : State} {list : List Txn} (place : placeAt u .line = placeAt s .line) (clock : u.clock = s.clock)
    (commands : t.ctl.commands = (putCommands (presentOnly u list) u).ctl.commands)
    (placeAfter : placeAt t .line = placeAt (putCommands (presentOnly u list) u) .line)
    (addr : ∀ r, roleAddr t r = roleAddr u r) (reach : ∀ r, unreachable t r = unreachable u r) : Claims.listPut s t list := by
  have present : (list.filter fun x => (roleAddr t x.role).isSome) = presentOnly u list := by
    simp only [presentOnly, addr]
  unfold Claims.listPut
  dsimp only
  rw [present, commands, placeAfter, ← place, ← clock]
  simp only [reach]
  refine ⟨fun w hw hon => putCommands_of_onLink hw hon _, fun lost rest x hsplit hlost hx => ?_, fun hlost hqueued => ?_⟩
  · rw [hsplit]
    refine ⟨fun hnone => ?_, fun w hw hq => ?_⟩
    · rw [putCommands_of_empty hnone]
      exact serveCommandList_of_reachable hlost hx
    · rw [putCommands_of_queued hw hq]
      exact takeOverList_of_reachable w hlost hx
  · cases hp : (placeAt u .line).now with
    | none =>
      rw [putCommands_of_empty hp]
      obtain ⟨empty, kept⟩ := serveCommandList_of_lost hlost
      exact ⟨empty, by rw [kept, hp]⟩
    | some w =>
      rw [putCommands_of_queued hp (hqueued w hp)]
      exact takeOverList_of_lost w hlost

/-- A list put on and nothing done after it to the list, the LINE place, the addresses or the modules. -/
theorem listPut_of_after {s u t : State} {list : List Txn} (place : placeAt u .line = placeAt s .line) (clock : u.clock = s.clock)
    (commands : t.ctl.commands = (putCommands (presentOnly u list) u).ctl.commands)
    (after : Hands (· ≠ .line) (putCommands (presentOnly u list) u) t) (exch : t.exch = u.exch) : Claims.listPut s t list := by
  have put := listsOnly_putCommands (presentOnly u list) u
  refine listPut_of_putCommands place clock commands (after.places .line (fun h => h rfl)) (fun r => ?_) fun r => ?_
  · rw [← put.roleAddr]
    unfold roleAddr
    rw [after.link]
  · rw [← put.unreachable]
    exact after.unreachable (exch.trans put.exch.symm) r

theorem standbyList_eq (s : State) : standbyList s = presentOnly s (Claims.standbyCommands s) := rfl

theorem runList_eq (s : State) : runList s = presentOnly s (Claims.runCommands s) := rfl

theorem estopList_eq (s : State) : estopList s = presentOnly s Claims.estopCommands := rfl

/-! ## The end of the drain -/

/-- The line as it enters IDLE, before the standby list is put on. -/
def idleCleared (s : State) : State :=
  dropHome (s.setCtl { s.ctl with warm := false, drain := false, warmup := none, request := requestInIdle s.ctl.request })

theorem enterIdle_eq (s : State) : enterIdle s = stopTicking (putCommands (standbyList (idleCleared s)) (idleCleared s)) := rfl

theorem listPut_enterIdle {s u : State} (place : placeAt u .line = placeAt s .line) (clock : u.clock = s.clock)
    (config : u.config = s.config) : Claims.listPut s (enterIdle u) (Claims.standbyCommands s) := by
  have standby : Claims.standbyCommands s = Claims.standbyCommands (idleCleared u) := by
    unfold Claims.standbyCommands
    rw [← config]
    rfl
  rw [standby]
  refine listPut_of_after (u := idleCleared u) place clock ?_ ?_ ?_
  · rw [enterIdle_eq, standbyList_eq]
    rfl
  · rw [enterIdle_eq, standbyList_eq]
    exact .of_link
  · rw [enterIdle_eq]
    simp [idleCleared]

theorem exec_drainEnd (s : State) : exec .drainEnd s = whenDue (drainDue s) toIdle s := rfl

theorem drainDue_iff (s : State) : drainDue s = true ↔ s.ctl.drain = true ∧ noGarment s = true ∧ s.carousel.op = .none := by
  simp [drainDue, opInFlight, and_assoc]

theorem exec_warmupTimerExpiry (s : State) : exec .warmupTimerExpiry s = whenDue (warmupDue s) warmupEnds s := rfl

theorem warmupDue_iff {s : State} {tm : Timer} (hmode : s.ctl.mode = .warming) (ht : s.ctl.warmup = some tm) :
    warmupDue s = true ↔ tm.limit ≤ (s.clock - tm.start).toNat := by
  rw [warmupDue, hmode, ht]
  exact expired_iff ..

/-- Settles O43, by the drain and the timer. -/
theorem drainAndWarmupEnd : Obligations.DrainAndWarmupEnd := by
  intro s
  rw [exec_drainEnd, exec_warmupTimerExpiry]
  refine ⟨fun h => whenDue_of_not_due (Bool.eq_false_iff.mpr fun d => h ((drainDue_iff s).mp d)), fun drain empty rest hmode =>
    ⟨_, whenDue_of_due ((drainDue_iff s).mpr ⟨drain, empty, rest⟩), ?_⟩, fun tm hmode ht => ⟨fun early => ?_, fun late ticking => ?_⟩⟩
  · rw [toIdle_eq hmode, enterIdle_ctl, enterIdle_carousel]
    refine ⟨rfl, rfl, rfl, rfl, rfl, enterIdle_ticking _, rfl, rfl, rfl, rfl, by simp, by simp, by simp, by simp, ?_⟩
    exact listPut_enterIdle rfl rfl rfl
  · exact whenDue_of_not_due (Bool.eq_false_iff.mpr fun d => Nat.not_le.mpr early ((warmupDue_iff hmode ht).mp d))
  · rw [whenDue_of_due ((warmupDue_iff hmode ht).mpr late), warmupEnds, holdWith_of_running (.inr hmode),
      setLine_of_change fun h => by rw [hmode] at h; cases h.1]
    rw [enterHold_of_ticking (by exact ticking)]
    rfl

end Sys2Proof.Machine
end

section
/-! PROOFS. What the units' own doing leaves of the carousel and of the link, and an ESTOP assertion in full. -/

namespace Sys2Proof.Machine

-- Elaborated all at once, the proofs of this text start more threads than the check's memory limit lets it.
set_option Elab.async false

open Sys2Proof.Safety

/-! ## Units that end their work -/

/-- Of the carousel only the release flags and the lamp change, and of the link only places other than LINE. -/
structure UnitsAct (s t : State) : Prop where
  hands : Hands (· ≠ .line) s t
  carousel : t.carousel = { s.carousel with released := t.carousel.released, lamp := t.carousel.lamp }

theorem UnitsAct.of_frame {s t : State} (link : t.link = s.link := by simp) (carousel : t.carousel = s.carousel := by simp) :
    UnitsAct s t := ⟨.of_link link, by rw [carousel]⟩

theorem UnitsAct.refl (s : State) : UnitsAct s s := .of_frame rfl rfl

theorem UnitsAct.trans {s t u : State} (h : UnitsAct s t) (k : UnitsAct t u) : UnitsAct s u :=
  ⟨h.hands.trans k.hands, by rw [k.carousel, h.carousel]⟩

theorem UnitsAct.ite {p : Prop} [Decidable p] {s t u : State} (h : p → UnitsAct s t) (k : ¬p → UnitsAct s u) :
    UnitsAct s (if p then t else u) := by
  split
  · next hp => exact h hp
  · next hp => exact k hp

theorem unitsAct_releaseStation (st : Station) (p : Fin 12) (s : State) : UnitsAct s (releaseStation st p s) :=
  .ite (fun _ => ⟨.of_link, rfl⟩) fun _ => .refl s

theorem unitsAct_replaceTxn {q : Requester} (hq : q ≠ .line) (x : Txn) (s : State) : UnitsAct s (replaceTxn q x s) :=
  ⟨hands_replaceTxn (A := (· ≠ .line)) hq .., by simp⟩

theorem unitsAct_withdrawTxn {q : Requester} (hq : q ≠ .line) (s : State) : UnitsAct s (withdrawTxn q s) :=
  ⟨hands_withdrawTxn (A := (· ≠ .line)) hq _, by simp⟩

theorem printRequester_ne_line (u : Printer) : printRequester u ≠ .line := by cases u <;> decide

theorem unitsAct_stopCarriage (u : Printer) (s : State) : UnitsAct s (stopCarriage u s) :=
  unitsAct_replaceTxn (printRequester_ne_line u) ..

theorem unitsAct_leaveUnit (u : Printer) (j : PrintJob) (s : State) : UnitsAct s (leaveUnit u j s) :=
  (unitsAct_releaseStation (printStation u) j.platen s).trans (.of_frame (t := idleUnit u (releaseStation (printStation u) j.platen s)))

theorem unitsAct_leaveFlash (j : PrintJob) (s : State) : UnitsAct s (leaveFlash j s) :=
  (unitsAct_releaseStation .flash j.platen s).trans (.of_frame (t := idleFlash (releaseStation .flash j.platen s)))

theorem unitsAct_heatOff (s : State) : UnitsAct s (heatOff s) := by
  refine .ite (fun _ => ?_) fun _ => unitsAct_replaceTxn (by decide) ..
  unfold flashOver
  split
  · exact .of_frame
  · exact unitsAct_leaveFlash ..

theorem unitsAct_quietCut (u : Printer) (j : PrintJob) (s : State) : UnitsAct s (quietCut u j s) := by
  have dropped : UnitsAct s (abruptCancel u j.garment (changeGarment j.garment.index (withPrintMark u .cut) (stopLanes u s))) :=
    .of_frame
  unfold quietCut
  dsimp only
  split
  · exact (dropped.trans (unitsAct_stopCarriage u _)).trans (unitsAct_leaveUnit ..)
  · exact dropped.trans (unitsAct_leaveUnit ..)

theorem unitsAct_printOver (u : Printer) (j : PrintJob) (s : State) : UnitsAct s (printOver u j s) :=
  (UnitsAct.of_frame (t := dropTally u j.garment s)).trans (unitsAct_leaveUnit ..)

theorem unitsAct_noticeCurrent (u : Printer) (j : PrintJob) (n : Notice) (s : State) : UnitsAct s (noticeCurrent u j n s) := by
  have fades : UnitsAct s (fadeOut u j s) :=
    (UnitsAct.of_frame (t := gracefulCancel u j.garment none s)).trans (unitsAct_printOver ..)
  unfold noticeCurrent
  split
  · exact .refl s
  · exact .ite (fun _ => .refl s) fun _ => unitsAct_leaveUnit ..
  · exact .ite (fun _ => unitsAct_quietCut ..) fun _ => fades
  all_goals exact .ite (fun _ => unitsAct_quietCut ..) fun _ => .ite (fun _ => .of_frame) fun _ => .refl s

theorem unitsAct_noticePrint (u : Printer) (g : GarmentId) (n : Notice) (s : State) : UnitsAct s (noticePrint u g n s) := by
  have tallied : UnitsAct s (noticeTallied u g n s) := .of_frame
  unfold noticePrint
  dsimp only
  split
  · exact tallied
  · exact .ite (fun _ => tallied.trans (unitsAct_noticeCurrent ..)) fun _ => tallied

theorem unitsAct_noticeFlash (g : GarmentId) (n : Notice) (s : State) : UnitsAct s (noticeFlash g n s) := by
  have ends (t : State) : UnitsAct t (endExposure t) := (UnitsAct.of_frame (t := enterEnding t)).trans (unitsAct_heatOff _)
  have exposure : UnitsAct s (noticeExposure g.index n s) := by
    unfold noticeExposure
    split
    · exact ends s
    · exact (UnitsAct.of_frame (t := changeGarment g.index (fun r => { r with flash := .cut }) s)).trans (ends _)
    · exact .refl s
    · exact .refl s
  unfold noticeFlash
  split
  · exact .refl s
  · refine .ite (fun _ => ?_) fun _ => .refl s
    split
    · exact unitsAct_leaveFlash ..
    · exact exposure
    · exact exposure
    · exact .refl s
    · exact .refl s

theorem unitsAct_noticePretreat (g : Fin 32) (s : State) : UnitsAct s (noticePretreat g s) := by
  unfold noticePretreat
  split
  · next j _ _ =>
    exact .ite (fun _ => (unitsAct_releaseStation .pretreat j.platen s).trans (.of_frame (t := idlePretreat (releaseStation .pretreat j.platen s))))
      fun _ => .refl s
  all_goals exact .refl s

theorem unitsAct_noticePress (g : Fin 32) (s : State) : UnitsAct s (noticePress g s) := by
  unfold noticePress
  split
  · next j _ _ =>
    exact .ite (fun _ => (unitsAct_releaseStation .press j.platen s).trans (.of_frame (t := idlePress (releaseStation .press j.platen s))))
      fun _ => .refl s
  all_goals exact .refl s

theorem unitsAct_noticeUnload (g : Fin 32) (s : State) : UnitsAct s (noticeUnload g s) := by
  refine .ite (fun _ => ?_) fun _ => .refl s
  unfold decideUnload
  split
  · exact ⟨.of_link, rfl⟩
  · split <;> exact ⟨.of_link, rfl⟩

theorem unitsAct_noticeAll (g : Fin 32) (r : Garment) (n : Notice) (s : State) : UnitsAct s (noticeAll g r n s) := by
  have fetched : UnitsAct s (noticeFetch (garmentId g r) n s) := .of_frame
  have stations := (fetched.trans (unitsAct_noticePretreat g _)).trans (unitsAct_noticePress g _)
  have white := stations.trans (unitsAct_noticePrint .white (garmentId g r) n _)
  have color := (white.trans (unitsAct_noticeFlash (garmentId g r) n _)).trans (unitsAct_noticePrint .color (garmentId g r) n _)
  exact color.trans (unitsAct_noticeUnload g _)

theorem unitsAct_failOp (g : Fin 32) (code : FaultCode) (s : State) : UnitsAct s (failOp g code s) := by
  unfold failOp
  split
  · exact .refl s
  · next r _ =>
    refine .ite (fun _ => ?_) fun _ => .refl s
    have raised : UnitsAct s (failureRaised g r code s) := by
      refine .of_frame (failureRaised_unchanged g r code s).2.2 ?_
      unfold failureRaised failedState ifCurrent
      split <;> simp
    exact raised.trans (unitsAct_noticeAll ..)

/-! ## The units' e-stop -/

theorem unitsAct_estopPretreat (s : State) : UnitsAct s (estopPretreat s) := by
  have passed (t : State) : UnitsAct t (estopPass t) := by
    unfold estopPass
    split
    · exact .refl t
    · next j _ =>
      have idled : UnitsAct t (markPretreat j.garment .cut (idlePretreat t)) := .of_frame (by simp [markPretreat]) (by simp [markPretreat])
      exact .ite (fun _ => (idled.trans (unitsAct_failOp ..)).trans (unitsAct_releaseStation ..)) fun _ => .refl t
  exact ((UnitsAct.of_frame (t := closeValves s)).trans (passed _)).trans (unitsAct_withdrawTxn (by decide) _)

theorem unitsAct_estopPress (s : State) : UnitsAct s (estopPress s) := by
  have cycled : UnitsAct s (estopCycle s) := by
    unfold estopCycle
    split
    · exact .refl s
    · next j _ =>
      exact .ite (fun _ => (UnitsAct.of_frame (t := raisePressSkipped j.garment 6 (cycleStopped j.garment s))
        (by simp [cycleStopped]) (by simp [cycleStopped])).trans (unitsAct_releaseStation ..)) fun _ => .refl s
  exact cycled.trans (unitsAct_withdrawTxn (by decide) _)

theorem unitsAct_estopPrint (u : Printer) (s : State) : UnitsAct s (estopPrint u s) := by
  unfold estopPrint
  dsimp only
  split
  · exact .refl s
  · next j _ =>
    have failed := (UnitsAct.of_frame (s := s) (t := haltPrint u j s)).trans (unitsAct_failOp j.garment.index .cutByStop _)
    have dropped : UnitsAct s (dropPrint u j .cutByStop (haltPrint u j s)) :=
      failed.trans (.of_frame (t := abruptCancel u j.garment (failOp j.garment.index .cutByStop (haltPrint u j s))))
    exact .ite (fun _ => .ite (fun _ => .of_frame) fun _ =>
      (dropped.trans (unitsAct_releaseStation ..)).trans (unitsAct_withdrawTxn (printRequester_ne_line u) _)) fun _ => .refl s

theorem unitsAct_estopFlash (s : State) : UnitsAct s (estopFlash s) := by
  have cut (j : PrintJob) : UnitsAct s (cutExposure j s) := by
    have idled : UnitsAct s (idleFlash (markFlash j.garment.index .cut s)) := .of_frame (by simp [markFlash]) (by simp [markFlash])
    exact ((idled.trans (unitsAct_failOp ..)).trans (unitsAct_releaseStation ..)).trans (unitsAct_withdrawTxn (by decide) _)
  unfold estopFlash
  split
  · exact .refl s
  · next j _ =>
    split
    · exact cut j
    · exact cut j
    · exact unitsAct_leaveFlash ..
    · exact .refl s
    · exact .refl s

/-- The carousel after its own e-stop. -/
def estopped (c : Carousel) : Carousel := if c.op = .none then c else { c with op := .none, timer := none, homed := false }

theorem estopCarousel_carousel (s : State) : (estopCarousel s).carousel = estopped s.carousel := by
  unfold estopCarousel estopped opInFlight
  by_cases h : s.carousel.op = .none
  · simp [h]
  · simp [h, endOp]

theorem hands_estopCarousel (s : State) : Hands (· ≠ .line) s (estopCarousel s) :=
  .ite (fun _ => (Hands.of_link (by simp [endOp])).trans (hands_withdrawTxn (q := .carousel) (by decide) _)) fun _ => .refl s

theorem unitsAct_estopBlocks (s : State) : UnitsAct (estopCarousel s) (estopBlocks s) :=
  ((((unitsAct_estopPretreat _).trans (unitsAct_estopPress _)).trans (unitsAct_estopPrint .white _)).trans
    (unitsAct_estopPrint .color _)).trans (unitsAct_estopFlash _)

theorem hands_estopBlocks (s : State) : Hands (· ≠ .line) s (estopBlocks s) :=
  (hands_estopCarousel s).trans (unitsAct_estopBlocks s).hands

/-! ## The line at e-stop -/

/-- A line that is not STOPPED enters STOPPED, MODULE_LOST following the modules. -/
theorem moveLine_stopped {s : State} (hmode : s.ctl.mode ≠ .stopped) (c : Causes) :
    moveLine .stopped c s =
      { s with
        ctl := { s.ctl with mode := .stopped, causes := Claims.followed c s, warmup := none }
        carousel := { s.carousel with homeAsked := false }
        reports := (moveLine .stopped c s).reports } := by
  have entered : changeLine .stopped c s = enterStopped (setLine .stopped c s) := by
    rw [changeLine, if_neg hmode]
    rfl
  have line : setLine .stopped c s =
      { s with ctl := { s.ctl with mode := .stopped, causes := c }, reports := Claims.lineModeRaised .stopped c s } :=
    setLine_of_change fun hs => hmode hs.1
  rw [moveLine, entered, line, followModules_of_quiet (fun h => by cases h) ⟨(fun h => by cases h), (fun h => by cases h)⟩, setLine_causes]
  rfl

theorem estopRequest_ctl (s : State) :
    (estopRequest s).ctl =
      { s.ctl with request := .absent, refused := s.ctl.refused || s.ctl.request != .absent } := by
  unfold estopRequest
  split
  · next h => simp [← h]
  · next h => simp [setRefused, dropReading, h]
  · next h => simp [setRefused, dropPendingRun, h]

/-- The line entered STOPPED with its flags cleared and its request dropped, before the e-stop list is put on. -/
def estopCleared (s : State) : State :=
  estopRequest ((moveLine .stopped s.ctl.causes s).setCtl
    { (moveLine .stopped s.ctl.causes s).ctl with warm := false, drain := false })

theorem estopLine_eq (s : State) : estopLine s = putCommands (estopList (estopCleared s)) (estopCleared s) := rfl

theorem estopCleared_ctl {s : State} (hmode : s.ctl.mode ≠ .stopped) :
    (estopCleared s).ctl =
      { s.ctl with
        mode := .stopped, causes := Claims.followed s.ctl.causes s, warmup := none, warm := false, drain := false
        request := .absent, refused := s.ctl.refused || s.ctl.request != .absent } := by
  rw [estopCleared, estopRequest_ctl, moveLine_stopped hmode]
  rfl

theorem estopCleared_frame {s : State} (hmode : s.ctl.mode ≠ .stopped) :
    (estopCleared s).carousel = { s.carousel with homeAsked := false } ∧ (estopCleared s).link = s.link ∧
      (estopCleared s).dryer = s.dryer ∧ (estopCleared s).clock = s.clock ∧ (estopCleared s).pins = s.pins ∧
      (estopCleared s).staging = s.staging := by
  unfold estopCleared
  rw [moveLine_stopped hmode]
  simp

theorem exec_estopAssertion (s : State) :
    exec .estopAssertion s =
      .next (if s.ctl.mode = .stopped then setMonitor .asserted (setEstopPin true s)
        else estopBlocks (estopLine (setMonitor .asserted (setEstopPin true s)))) := rfl

/-- The state in which the line acts on the assertion. -/
def asserted (s : State) : State := setMonitor .asserted (setEstopPin true s)

theorem listPut_estop {s : State} (hmode : s.ctl.mode ≠ .stopped) :
    Claims.listPut s (estopBlocks (estopLine (asserted s))) Claims.estopCommands := by
  obtain ⟨-, link, -, clock, -⟩ := estopCleared_frame (s := asserted s) hmode
  refine listPut_of_after (u := estopCleared (asserted s)) (by rw [placeAt, link]; rfl) clock ?_ ?_ (by simp [estopLine_eq])
  · rw [estopLine_eq, estopList_eq]
    simp
  · rw [estopLine_eq, estopList_eq]
    exact hands_estopBlocks _

/-- The line controller after the whole assertion. -/
theorem estopAssertion_ctl {s : State} (hmode : s.ctl.mode ≠ .stopped) :
    (estopBlocks (estopLine (asserted s))).ctl =
      { s.ctl with
        monitor := .asserted, mode := .stopped, causes := Claims.followed s.ctl.causes s, warmup := none, warm := false
        drain := false, request := .absent, refused := s.ctl.refused || s.ctl.request != .absent
        commands := (estopLine (asserted s)).ctl.commands } := by
  rw [(estopBlocks_frame ..).2.2.2.2.2.1, estopLine_eq, putCommands_ctl, estopCleared_ctl (s := asserted s) hmode]
  rfl

/-- The carousel after the whole assertion. -/
theorem estopAssertion_carousel {s : State} (hmode : s.ctl.mode ≠ .stopped) :
    ∃ released lamp, (estopBlocks (estopLine (asserted s))).carousel =
      { estopped { s.carousel with homeAsked := false } with released := released, lamp := lamp } := by
  obtain ⟨carousel, -⟩ := estopCleared_frame (s := asserted s) hmode
  have line : (estopLine (asserted s)).carousel = { s.carousel with homeAsked := false } := by
    rw [estopLine_eq, (putCommands_frame ..).2.2.2.2.2.2.2.2.2.2.1, carousel]
    rfl
  have blocks := (unitsAct_estopBlocks (estopLine (asserted s))).carousel
  rw [estopCarousel_carousel, line] at blocks
  exact ⟨_, _, blocks⟩

/-- The blocks' e-stop and the list leave the rest of what the assertion does not name. -/
theorem estopAssertion_rest {s : State} (hmode : s.ctl.mode ≠ .stopped) :
    (estopBlocks (estopLine (asserted s))).pins = { s.pins with estop := true } ∧
      (estopBlocks (estopLine (asserted s))).dryer = s.dryer ∧ (estopBlocks (estopLine (asserted s))).clock = s.clock ∧
      (estopBlocks (estopLine (asserted s))).staging = s.staging := by
  obtain ⟨-, -, dryer, clock, pins, staging⟩ := estopCleared_frame (s := asserted s) hmode
  rw [estopLine_eq]
  simp only [estopBlocks_frame, putCommands_frame, dryer, clock, pins, staging]
  exact ⟨rfl, rfl, rfl, rfl⟩

/-- Settles O12, by whether the line is STOPPED already. -/
theorem estopAssertionStillsTheLine : Obligations.EstopAssertionStillsTheLine := by
  intro s
  rw [exec_estopAssertion]
  refine ⟨fun h => by rw [if_pos h]; rfl, fun hmode held => ?_⟩
  rw [if_neg hmode, ← asserted]
  have units : UnitsHeld (estopLine (asserted s)) := unitsHeld_estopLine ((orderly_asserted s).units held)
  have ctl := estopAssertion_ctl hmode
  obtain ⟨released, lamp, carousel⟩ := estopAssertion_carousel hmode
  obtain ⟨pins, dryer, clock, staging⟩ := estopAssertion_rest hmode
  refine ⟨_, rfl, by rw [ctl], estopBlocks_still units (by rw [ctl]), (orderly_estopBlocks _).units units, by rw [ctl],
    by rw [ctl], by rw [ctl], by rw [ctl], by rw [ctl], by rw [ctl], by rw [ctl], pins, ?_, ?_, ?_, by rw [dryer], clock, staging,
    listPut_estop hmode⟩
  · rw [carousel, estopped]
    split <;> rfl
  · rw [carousel, estopped, opInFlight]
    split <;> simp_all
  · rw [carousel, estopped, opInFlight]
    split <;> simp_all

end Sys2Proof.Machine
end

section
/-! PROOFS. An index or a home: its gates (R32, R37), the INDEX_HOME edge (R34), and its faults (R36). -/

namespace Sys2Proof.Machine

-- Elaborated all at once, the proofs of this text start more threads than the check's memory limit lets it.
set_option Elab.async false

/-! ## A cause added while the line ticks -/

theorem setLine_eq (m : Mode) (c : Causes) (s : State) :
    setLine m c s = { s with ctl := { s.ctl with mode := m, causes := c }, reports := (setLine m c s).reports } := by
  rcases setLine_cases m c s with ⟨hm, hc, h⟩ | ⟨-, h⟩
  · rw [h, ← hm, ← hc]
  · rw [h]

theorem tells_setLine (m : Mode) (c : Causes) (s : State) : Tells 1 s (setLine m c s) := by
  unfold setLine
  exact .ite (fun _ => (Tells.refl s).mono (Nat.zero_le _)) fun _ =>
    (Tells.of_reports (t := s.setCtl { s.ctl with mode := m, causes := c })).trans (tells_raise ..)

theorem heldMode_run {m : Mode} (h : m = .run ∨ m = .warming) : heldMode m = .hold := by rcases h with rfl | rfl <;> rfl

/-- A cause is added to a line that ticks: RUN and WARMING become HOLD, and only the warm-up timer stops besides. -/
theorem holdWith_of_ticking {s : State} (ht : s.dryer.ticking = true) (c : Causes) :
    ∃ warmup, holdWith c s =
      { s with
        ctl := { s.ctl with mode := heldMode s.ctl.mode, causes := c, warmup := warmup }
        reports := (setLine (heldMode s.ctl.mode) c s).reports } := by
  by_cases h : s.ctl.mode = .run ∨ s.ctl.mode = .warming
  · refine ⟨none, ?_⟩
    rw [holdWith_of_running h, heldMode_run h, setLine_eq, enterHold_of_ticking (by exact ht)]
    rfl
  · refine ⟨s.ctl.warmup, ?_⟩
    obtain ⟨hrun, hwarming⟩ := not_or.mp h
    rw [holdWith_of_quiet ⟨hrun, hwarming⟩, heldMode_self ⟨hrun, hwarming⟩, setLine_eq]

/-! ## The fault of an index or a home -/

/-- The operation is over and the carousel unhomed. -/
def unhomedState (s : State) : State := s.setCarousel { s.carousel with op := .none, timer := none, homed := false }

/-- INDEX_FAULT is in the hold-cause set. -/
def indexHeld (s : State) : State := holdWith { s.ctl.causes with indexFault := true } (unhomedState s)

/-- The INDEX_FAULT incident is raised. -/
def indexTold (cause : Nat) (s : State) : State :=
  raise { incident .indexFault with detail := cause, value := (homing s).toNat } (indexHeld s)

theorem indexFault_eq (cause : Nat) (s : State) :
    indexFault cause s =
      if homing s then settleFaulted (replaceTxn .carousel (putQuiet .indexDrive .stop) (indexTold cause s))
      else replaceTxn .carousel (putQuiet .indexDrive .stop) (indexTold cause s) := rfl

theorem indexTold_eq {s : State} (ht : s.dryer.ticking = true) (cause : Nat) :
    ∃ warmup, indexTold cause s =
      { s with
        carousel := { s.carousel with op := .none, timer := none, homed := false }
        ctl :=
          { s.ctl with mode := heldMode s.ctl.mode, causes := { s.ctl.causes with indexFault := true }, warmup := warmup }
        reports := (indexTold cause s).reports } := by
  obtain ⟨warmup, held⟩ := holdWith_of_ticking (s := unhomedState s) ht { s.ctl.causes with indexFault := true }
  refine ⟨warmup, ?_⟩
  rw [indexTold, raise_eq, indexHeld, held]
  rfl

theorem tells_indexHeld {s : State} (ht : s.dryer.ticking = true) : Tells 1 s (indexHeld s) := by
  obtain ⟨warmup, held⟩ := holdWith_of_ticking (s := unhomedState s) ht { s.ctl.causes with indexFault := true }
  have line := tells_setLine (heldMode s.ctl.mode) { s.ctl.causes with indexFault := true } (unhomedState s)
  have told : Tells 0 (setLine (heldMode s.ctl.mode) { s.ctl.causes with indexFault := true } (unhomedState s)) (indexHeld s) :=
    .of_reports (by rw [indexHeld, held]; rfl)
  exact ((Tells.of_reports (s := s) (t := unhomedState s) rfl).trans line).trans told

/-- INDEX_FAULT joins the incidents when the FIFO has a place for it and for LINE_MODE. -/
theorem indexFault_mem {s : State} (ht : s.dryer.ticking = true) (room : s.reports.fifo.length + 2 ≤ 16) (cause : Nat) :
    { incident .indexFault with detail := cause, value := (homing s).toNat, time := s.clock } ∈ (indexTold cause s).reports.fifo := by
  have roomThen : (indexHeld s).reports.fifo.length < 16 := by
    have := (tells_indexHeld ht).length
    omega
  have mem := raise_mem roomThen { incident .indexFault with detail := cause, value := (homing s).toNat }
  rwa [show (indexHeld s).clock = s.clock by simp [indexHeld, unhomedState]] at mem

/-- A request pending on a home that faulted. -/
def faultSettled (home : Bool) (s : State) : Prop := home = true ∧ s.ctl.request = .pendingHome

/-- What the fault of an index or a home leaves, the line ticking. -/
structure IndexFaulted (cause : Nat) (s t : State) : Prop where
  carousel : t.carousel = { s.carousel with op := .none, timer := none, homed := false }
  causes : t.ctl.causes = { s.ctl.causes with indexFault := true }
  mode : t.ctl.mode = heldMode s.ctl.mode
  garments : t.garments = s.garments
  lines : t.lines = s.lines
  dryer : t.dryer = s.dryer
  told : s.reports.fifo.length + 2 ≤ 16 →
    { incident .indexFault with detail := cause, value := (homing s).toNat, time := s.clock } ∈ t.reports.fifo
  refused : faultSettled (homing s) s → t.ctl.request = .absent ∧ t.ctl.refused = true ∧
    (s.reports.fifo.length + 3 ≤ 16 →
      { incident .runRefused with
        detail := 6, value := causesCode { s.ctl.causes with indexFault := true }, time := s.clock } ∈ t.reports.fifo)
  kept : ¬faultSettled (homing s) s → t.ctl.request = s.ctl.request ∧ t.ctl.refused = s.ctl.refused
  place : (placeAt s .carousel).now = none → unreachable s .indexDrive = true → (placeAt t .carousel).now = none

theorem handIn_of_lost {q : Requester} {x : Txn} {s : State} (hp : (placeAt s q).now = none) (hr : unreachable s x.role = true) :
    handIn q x s = s := by
  rw [handIn, hp]
  exact if_pos hr

/-- The fault with its STOP handed in, before a pending request is refused. -/
theorem indexFaulted_stop {s : State} (ht : s.dryer.ticking = true) (cause : Nat) (unsettled : ¬faultSettled (homing s) s) :
    IndexFaulted cause s (replaceTxn .carousel (putQuiet .indexDrive .stop) (indexTold cause s)) := by
  obtain ⟨warmup, told⟩ := indexTold_eq ht cause
  have link : (indexTold cause s).link = s.link := by rw [told]
  have exch : (indexTold cause s).exch = s.exch := by rw [told]
  refine ⟨by rw [replaceTxn_eq, told], by rw [replaceTxn_eq, told], by rw [replaceTxn_eq, told], by rw [replaceTxn_eq, told],
    by rw [replaceTxn_eq, told], by rw [replaceTxn_eq, told], fun room => ?_, fun h => absurd h unsettled, fun _ => ?_, fun hp hr => ?_⟩
  · rw [replaceTxn_eq]
    exact indexFault_mem ht room cause
  · rw [replaceTxn_eq, told]
    exact ⟨rfl, rfl⟩
  · have place : (placeAt (indexTold cause s) .carousel).now = none := by rw [placeAt, link]; exact hp
    rw [replaceTxn_of_empty place, handIn_of_lost place]
    · exact place
    · rw [(Hands.of_link (A := fun _ => False) link).unreachable exch]
      exact hr

theorem settleFaulted_of_pending {s : State} (h : s.ctl.request = .pendingHome) :
    settleFaulted s =
      { s with
        ctl := { s.ctl with refused := true, request := .absent }
        reports := Claims.raised { incident .runRefused with detail := 6, value := causesCode s.ctl.causes } s } := by
  rw [settleFaulted, if_pos h, refuseRun_plain]

theorem indexFaulted_refused {s : State} (ht : s.dryer.ticking = true) (cause : Nat) (pending : s.ctl.request = .pendingHome)
    (home : homing s = true) :
    IndexFaulted cause s (settleFaulted (replaceTxn .carousel (putQuiet .indexDrive .stop) (indexTold cause s))) := by
  obtain ⟨warmup, told⟩ := indexTold_eq ht cause
  have stopped : ∃ places, replaceTxn .carousel (putQuiet .indexDrive .stop) (indexTold cause s) =
      { indexTold cause s with link := { s.link with places := places } } :=
    ⟨_, (replaceTxn_eq ..).trans (by rw [told])⟩
  have place (hp : (placeAt s .carousel).now = none) (hr : unreachable s .indexDrive = true) :
      (placeAt (replaceTxn .carousel (putQuiet .indexDrive .stop) (indexTold cause s)) .carousel).now = none := by
    have place : (placeAt (indexTold cause s) .carousel).now = none := by rw [told]; exact hp
    rw [replaceTxn_of_empty place, handIn_of_lost place (by rw [told]; exact hr)]
    exact place
  have request : (replaceTxn .carousel (putQuiet .indexDrive .stop) (indexTold cause s)).ctl.request = .pendingHome := by
    rw [replaceTxn_eq, told]
    exact pending
  rw [settleFaulted_of_pending request]
  generalize replaceTxn .carousel (putQuiet .indexDrive .stop) (indexTold cause s) = u at stopped place
  obtain ⟨places, rfl⟩ := stopped
  have raisedMem := indexFault_mem ht (cause := cause)
  have heldTells : Tells 2 s (indexTold cause s) := (tells_indexHeld ht).trans (tells_raise ..)
  generalize indexTold cause s = v at told raisedMem heldTells place
  have clock : v.clock = s.clock := by rw [told]
  have causes : v.ctl.causes = { s.ctl.causes with indexFault := true } := by rw [told]
  refine ⟨by rw [told], causes, by rw [told], by rw [told], by rw [told], by rw [told], fun room => ?_,
    fun _ => ⟨rfl, rfl, fun room => ?_⟩, fun h => absurd ⟨home, pending⟩ h, place⟩
  · exact (tells_raise { incident .runRefused with detail := 6, value := causesCode v.ctl.causes } v).mem (raisedMem room)
  · have := heldTells.length
    have mem := raise_mem (s := v) (by omega) { incident .runRefused with detail := 6, value := causesCode v.ctl.causes }
    have same : { incident .runRefused with
          detail := 6, value := causesCode { s.ctl.causes with indexFault := true }, time := s.clock } =
        { incident .runRefused with detail := 6, value := causesCode v.ctl.causes, time := v.clock } := by rw [clock, causes]
    exact same ▸ mem

theorem indexFaulted {s : State} (ht : s.dryer.ticking = true) (cause : Nat) : IndexFaulted cause s (indexFault cause s) := by
  rw [indexFault_eq]
  cases home : homing s with
  | false => exact indexFaulted_stop ht cause fun h => by rw [home] at h; cases h.1
  | true =>
    by_cases pending : s.ctl.request = .pendingHome
    · exact indexFaulted_refused ht cause pending home
    · have same : settleFaulted (replaceTxn .carousel (putQuiet .indexDrive .stop) (indexTold cause s)) =
          replaceTxn .carousel (putQuiet .indexDrive .stop) (indexTold cause s) := by
        obtain ⟨warmup, told⟩ := indexTold_eq ht cause
        refine if_neg ?_
        rw [replaceTxn_eq, told]
        exact pending
      rw [if_pos rfl, same]
      exact indexFaulted_stop ht cause fun h => pending h.2

/-! ## The INDEX_HOME edge -/

theorem exec_indexHomeEdge (s : State) : exec .indexHomeEdge s = takeCapture .indexHome (fun _ => homeEdge) s := rfl

theorem homeEdge_eq (s : State) :
    homeEdge s =
      s.setCarousel
        { s.carousel with
          op := match s.carousel.op with
            | .none => .none
            | .moving h => .settling h
            | .settling h => .settling h } := by
  unfold homeEdge
  split
  · next h => rw [h]
  · next h => simp only [h]; rw [← h]; rfl
  · next h => simp only [h]; rw [← h]; rfl

theorem homeEdgeSettles : Claims.HomeEdgeSettles := by
  intro s
  rw [exec_indexHomeEdge]
  refine ⟨fun h => by rw [takeCapture, h], fun c h => ⟨homeEdge (putCapture .indexHome none s), by rw [takeCapture, h], ?_⟩⟩
  rw [homeEdge_eq]
  exact ⟨rfl, captureAt_putCapture_self .., fun j hj => captureAt_putCapture_ne _ _ hj.symm, rfl⟩

/-! ## The gates -/

theorem exec_indexStart (s : State) : exec .indexStart s = whenDue (indexDue s) startIndex s := rfl

theorem exec_homeStart (s : State) : exec .homeStart s = whenDue (homeDue s) startHome s := rfl

theorem allReleased_iff (s : State) : allReleased s = true ↔ ∀ st, released s st = true := by
  unfold allReleased released
  rw [List.all_eq_true]
  refine ⟨fun h st => h _ (by simp [Tbl.at]), fun h b hb => ?_⟩
  obtain ⟨i, hi, rfl⟩ := List.mem_iff_getElem.mp hb
  have station : ∃ st, stationNum st = ⟨i, by simpa using hi⟩ := by
    have hi7 : i < 7 := by simpa using hi
    have every : ∀ n : Fin 7, ∃ st, stationNum st = n := fun n => by
      fin_cases n
      exacts [⟨.load, rfl⟩, ⟨.pretreat, rfl⟩, ⟨.press, rfl⟩, ⟨.white, rfl⟩, ⟨.flash, rfl⟩, ⟨.color, rfl⟩, ⟨.unload, rfl⟩]
    exact every ⟨i, hi7⟩
  obtain ⟨st, hst⟩ := station
  have := h st
  rw [hst] at this
  simpa [Tbl.at] using this

theorem indexDue_iff (s : State) :
    indexDue s = true ↔
      s.ctl.mode = .run ∧ s.carousel.homed = true ∧ s.carousel.op = .none ∧ ∀ st, released s st = true := by
  rw [indexDue, Bool.and_eq_true, mayWork_iff, allReleased_iff]
  simp only [and_assoc]

theorem homeDue_iff (s : State) :
    homeDue s = true ↔
      s.carousel.homeAsked = true ∧ s.carousel.homed = false ∧ s.carousel.op = .none ∧ stationWork s = false ∧
        (s.ctl.mode = .run ∨ s.ctl.mode = .hold) := by
  simp [homeDue, opInFlight, and_assoc]

theorem commandDrive_of_reachable {s : State} (h : unreachable s .indexDrive = false) (c : Command) :
    commandDrive c s = handIn .carousel (putCmd .indexDrive c 0) s := if_neg (not_lostAtOnce h)

theorem commandDrive_of_lost {s : State} (hp : (placeAt s .carousel).now = none) (h : unreachable s .indexDrive = true) (c : Command) :
    commandDrive c s = indexFault 3 s := if_pos (by rw [lostAtOnce, hp, h]; rfl)

theorem indexAndHomeStart : Claims.IndexAndHomeStart := by
  intro s
  rw [exec_indexStart, exec_homeStart]
  refine ⟨fun h => whenDue_of_not_due (Bool.eq_false_iff.mpr fun d => h ((indexDue_iff s).mp d)),
    fun h => whenDue_of_not_due (Bool.eq_false_iff.mpr fun d => h ((homeDue_iff s).mp d)),
    fun run homed rest all hp hr => ⟨_, whenDue_of_due ((indexDue_iff s).mpr ⟨run, homed, rest, all⟩), ?_⟩,
    fun asked unhomed rest idle mode hp hr => ⟨_, whenDue_of_due ((homeDue_iff s).mpr ⟨asked, unhomed, rest, idle, mode⟩), ?_⟩⟩
  · rw [startIndex, commandDrive_of_reachable (by exact hr)]
    have handed := handedIn_of_empty (x := putCmd .indexDrive .index 0) (s := enterMoving false s) hp hr
    refine ⟨?_, ?_, ?_, handed.now, handed.others⟩
    · rw [handed.frame]; rfl
    · rw [handed.frame]; rfl
    · rw [handed.frame]; rfl
  · rw [startHome, commandDrive_of_reachable (by exact hr)]
    have handed := handedIn_of_empty (x := putCmd .indexDrive .home 0) (s := enterMoving true (dropHome s)) hp hr
    refine ⟨?_, ?_, ?_, handed.now, handed.others⟩
    · rw [handed.frame]; rfl
    · rw [handed.frame]; rfl
    · rw [handed.frame]; rfl

theorem heldMode_of_running_or_held {m : Mode} (h : m = .run ∨ m = .hold) : heldMode m = .hold := by rcases h with rfl | rfl <;> rfl

theorem unreachableDriveFaults : Claims.UnreachableDriveFaults := by
  intro s home rest hp hr ht hindex hhome
  cases home with
  | false =>
    obtain ⟨run, homed, all⟩ := hindex rfl
    have faulted := indexFaulted (s := enterMoving false s) ht 3
    refine ⟨_, ((exec_indexStart s).trans (whenDue_of_due ((indexDue_iff s).mpr ⟨run, homed, rest, all⟩))), ?_⟩
    rw [startIndex, commandDrive_of_lost (by exact hp) (by exact hr)]
    have unsettled : ¬faultSettled (homing (enterMoving false s)) (enterMoving false s) := fun h => by cases h.1
    refine ⟨?_, faulted.causes, ?_, faulted.place hp hr, faulted.garments, faulted.lines, faulted.dryer, fun room =>
      faulted.told (Nat.le_of_succ_le room), fun h => (by cases h), fun _ => faulted.kept unsettled⟩
    · rw [faulted.carousel]
      simp [enterMoving]
    · rw [faulted.mode]
      exact heldMode_of_running_or_held (.inl run)
  | true =>
    obtain ⟨asked, unhomed, idle, mode⟩ := hhome rfl
    have faulted := indexFaulted (s := enterMoving true (dropHome s)) ht 3
    refine ⟨_, ((exec_homeStart s).trans (whenDue_of_due ((homeDue_iff s).mpr ⟨asked, unhomed, rest, idle, mode⟩))), ?_⟩
    rw [startHome, commandDrive_of_lost (by exact hp) (by exact hr)]
    refine ⟨?_, faulted.causes, ?_, faulted.place hp hr, faulted.garments, faulted.lines, faulted.dryer, fun room =>
      faulted.told (Nat.le_of_succ_le room), fun _ pending => ?_, fun h => faulted.kept fun k => h.elim (fun e => by cases e) fun e => e k.2⟩
    · rw [faulted.carousel]
      simp [enterMoving, dropHome]
    · rw [faulted.mode]
      exact heldMode_of_running_or_held mode
    · obtain ⟨request, refused, -⟩ := faulted.refused ⟨rfl, pending⟩
      exact ⟨request, refused⟩

/-- Settles O25, by the edge, the gates and the unreachable drive. -/
theorem indexAndHomeStartAndSettle : Obligations.IndexAndHomeStartAndSettle :=
  ⟨homeEdgeSettles, indexAndHomeStart, unreachableDriveFaults⟩

end Sys2Proof.Machine
end

section
/-! PROOFS. The sweep timer and what the exchange interface serves next (R193, R194). -/

namespace Sys2Proof.Machine

-- Elaborated all at once, the proofs of this text start more threads than the check's memory limit lets it.
set_option Elab.async false

/-! ## Sweeps -/

theorem startSweep_of_rest {s : State} (h : s.exch.sweep = none) : startSweep s = beginSweep s := by rw [startSweep, h]

theorem startSweep_of_sweep {s : State} (h : s.exch.sweep ≠ none) :
    startSweep s = s.setExch { s.exch with sweepAgain := true } := by
  obtain ⟨k, hk⟩ := Option.ne_none_iff_exists'.mp h
  rw [startSweep, hk]

theorem exec_sweepTimerExpiry (s : State) : exec .sweepTimerExpiry s = whenDue (sweepDue s) sweepTimerEnds s := rfl

theorem sweepDue_iff {s : State} {tm : Timer} (ha : attached s = true) (ht : s.exch.sweepTimer = some tm) :
    sweepDue s = true ↔ tm.limit ≤ (s.clock - tm.start).toNat := by
  simp [sweepDue, ha, ht, ranOut, expired_iff]

theorem sweepTimerStartsSweeps : Claims.SweepTimerStartsSweeps := by
  intro s ha tm ht
  rw [exec_sweepTimerExpiry]
  have due := sweepDue_iff ha ht
  refine ⟨fun early => whenDue_of_not_due (Bool.eq_false_iff.mpr fun d => Nat.not_le.mpr early (due.mp d)), fun late => ?_⟩
  rw [whenDue_of_due (due.mpr late), sweepTimerEnds]
  refine ⟨fun rest => ?_, fun busy => ?_⟩
  · rw [startSweep_of_rest (by exact rest)]
    rfl
  · rw [startSweep_of_sweep (by exact busy)]
    rfl

/-! ## The order of service -/

theorem exec_exchServe (s : State) : exec .exchServe s = whenDue (serveDue s) serveNext s := rfl

/-- The exchange interface serves when it is free, attached, and something is asked of it. -/
theorem serveDue_iff (s : State) :
    serveDue s = true ↔
      attached s = true ∧ s.exch.activity = none ∧ (s.exch.snapWanted = true ∨ s.exch.nudges ≠ [] ∨ s.exch.sweep ≠ none) := by
  simp [serveDue, Option.isSome_iff_ne_none, or_assoc, and_assoc]

theorem serveNext_of_snapshot {s : State} (h : s.exch.snapWanted = true) : serveNext s = serveSnapshot s := if_pos h

theorem serveNext_of_nudge {s : State} (h : s.exch.snapWanted = false) {v : Byte} {rest : List Byte} (hn : s.exch.nudges = v :: rest) :
    serveNext s = serveNudge v (s.setExch { s.exch with nudges := rest }) := by
  rw [serveNext, h, hn]
  rfl

theorem serveNext_of_sweep {s : State} (h : s.exch.snapWanted = false) (hn : s.exch.nudges = []) {k : Nat} (hk : s.exch.sweep = some k) :
    serveNext s = serveSweep k s := by
  rw [serveNext, h, hn, hk]
  rfl

theorem slotOf_val (slot : Fin 128) : slotOf slot.val = some slot := dif_pos slot.isLt

theorem serveNudge_slot {v : Byte} {slot : Fin 128} (h : v.toNat = slot.val) (s : State) : serveNudge v s = beginLook slot false s := by
  rw [serveNudge, h, slotOf_val]

theorem serveNudge_refill (s : State) : serveNudge 0xFE s = beginRefill false s := rfl

theorem serveNudge_sweep (s : State) : serveNudge 0xFF s = startSweep s := rfl

theorem baseAddr_of {s : State} {base : Addr} (h : s.exch.base = some base) : baseAddr s = base := by rw [baseAddr, h]; rfl

/-- The first read of a look, the port being free. -/
theorem beginLook_of_free {s : State} {base : Addr} (hp : s.port.current = none) (hb : s.exch.base = some base) (slot : Fin 128)
    (ofSweep : Bool) :
    beginLook slot ofSweep s =
      { s with
        exch := { s.exch with activity := some (.look slot ofSweep []) }
        port :=
          if Tbl.at s.exch.recovery slot then
            Claims.portReads .recovery (base + BitVec.ofNat 64 (0x1000 + 256 * slot.val)) 240 s
          else Claims.portReads .handCount (base + BitVec.ofNat 64 (0x1000 + 256 * slot.val)) 2 s } := by
  have free : (putActivity (some (.look slot ofSweep [])) s).port.current = none := hp
  rw [beginLook, slotAddr, baseAddr_of hb]
  by_cases hr : Tbl.at s.exch.recovery slot = true
  · rw [if_pos hr, if_pos hr, askPort_of_free free]
    rfl
  · rw [if_neg hr, if_neg hr, askPort_of_free free]
    rfl

theorem beginRefill_of_free {s : State} {base : Addr} (hp : s.port.current = none) (hb : s.exch.base = some base) (ofSweep : Bool) :
    beginRefill ofSweep s =
      { s with
        exch := { s.exch with activity := some (.refill ofSweep) }
        port := Claims.portReads .refill (base + 0x44) 16 s } := by
  have free : (putActivity (some (.refill ofSweep)) s).port.current = none := hp
  rw [beginRefill, baseAddr_of hb, askPort_of_free free]
  rfl

theorem serveSnapshot_of_free {s : State} {base : Addr} (hp : s.port.current = none) (hb : s.exch.base = some base) :
    serveSnapshot s =
      { s with
        exch := { s.exch with activity := some (.snapshot [] false), snapWanted := false }
        port := Claims.portReads .snapshot (base + 0x40) 960 s } := by
  have free : (putActivity (some (.snapshot [] false)) (s.setExch { s.exch with snapWanted := false })).port.current = none := hp
  rw [serveSnapshot, snapshotAddr, baseAddr_of hb, askPort_of_free free]
  rfl

theorem serviceInItsOrder : Claims.ServiceInItsOrder := by
  intro s ha
  rw [exec_exchServe]
  refine ⟨fun busy => whenDue_of_not_due (Bool.eq_false_iff.mpr fun d => busy ((serveDue_iff s).mp d).2.1),
    fun hw hn hs => whenDue_of_not_due (Bool.eq_false_iff.mpr fun d => ?_), fun base free hp hb => ?_⟩
  · obtain ⟨-, -, work⟩ := (serveDue_iff s).mp d
    rcases work with h | h | h
    · exact absurd (hw.symm.trans h) Bool.false_ne_true
    · exact h hn
    · exact h hs
  have due (work : s.exch.snapWanted = true ∨ s.exch.nudges ≠ [] ∨ s.exch.sweep ≠ none) :
      whenDue (serveDue s) serveNext s = .next (serveNext s) := whenDue_of_due ((serveDue_iff s).mpr ⟨ha, free, work⟩)
  have nudged {v : Byte} {rest : List Byte} (hn : s.exch.nudges = v :: rest) := due (.inr (.inl (by rw [hn]; exact List.cons_ne_nil v rest)))
  have swept {k : Nat} (hk : s.exch.sweep = some k) := due (.inr (.inr (by rw [hk]; exact Option.some_ne_none k)))
  refine ⟨fun hw => ?_, fun v rest slot hw hn hv => ?_, fun v rest hw hn hv => ?_, fun v rest hw hn hv => ?_, fun hw hn hk => ?_,
    fun slot hw hn hk => ?_⟩
  · rw [due (.inl hw), serveNext_of_snapshot hw, serveSnapshot_of_free hp hb]
  · rw [nudged hn, serveNext_of_nudge hw hn, serveNudge_slot hv, beginLook_of_free (by exact hp) (by exact hb)]
    rfl
  · rw [nudged hn, serveNext_of_nudge hw hn, hv, serveNudge_refill, beginRefill_of_free (by exact hp) (by exact hb)]
    rfl
  · rw [nudged hn, serveNext_of_nudge hw hn, hv, serveNudge_sweep]
    by_cases rest' : s.exch.sweep = none
    · rw [startSweep_of_rest (by exact rest'), if_pos rest']
      rfl
    · rw [startSweep_of_sweep (by exact rest'), if_neg rest']
      rfl
  · rw [swept hk, serveNext_of_sweep hw hn hk, serveSweep, beginRefill_of_free hp hb]
  · rw [swept hk, serveNext_of_sweep hw hn hk, serveSweep, slotOf_val]
    exact congrArg _ (beginLook_of_free hp hb slot true)

/-- Settles O46, by the sweep timer and the order of service. -/
theorem sweepAndNudgesAreServed : Obligations.SweepAndNudgesAreServed := ⟨sweepTimerStartsSweeps, serviceInItsOrder⟩

end Sys2Proof.Machine
end

section
/-! PROOFS. The reads of a look: void or post, taken or dropped, and the eight checks (R1, R2, R3, R192). -/

namespace Sys2Proof.Machine

-- Elaborated all at once, the proofs of this text start more threads than the check's memory limit lets it.
set_option Elab.async false

/-! ## The end of a look -/

/-- A look's end concerns the exchange interface alone. -/
theorem endActivity_eq (ofSweep : Bool) (s : State) :
    endActivity ofSweep s = { s with exch := Claims.lookEnded ofSweep s s.exch } := by
  cases ofSweep with
  | false => rfl
  | true =>
    rw [endActivity, if_pos rfl, advanceSweep, Claims.lookEnded, if_neg Bool.false_ne_true.symm]
    unfold putActivity State.setExch
    dsimp only
    cases s.exch.sweep with
    | none => rfl
    | some k =>
      dsimp only
      by_cases hk : k < 128
      · rw [if_pos hk, if_pos hk]
      · rw [if_neg hk, if_neg hk, endSweep]
        by_cases ha : s.exch.sweepAgain = true
        · rw [if_pos ha, if_pos ha]
          rfl
        · rw [if_neg ha, if_neg ha]
          rfl

theorem lookEnded_congr {s t : State} (clock : t.clock = s.clock) (config : t.config = s.config) (ofSweep : Bool) (x : Exch) :
    Claims.lookEnded ofSweep t x = Claims.lookEnded ofSweep s x := by
  rw [Claims.lookEnded, clock, config, ← Claims.lookEnded]

theorem lookOutcome_of_look {s : State} {slot : Fin 128} {ofSweep : Bool} {p : List Byte}
    (h : s.exch.activity = some (.look slot ofSweep p)) (bytes : List Byte) (f : Fin 128 → Bool → List Byte → State → State) :
    lookOutcome (.data bytes) f s = f slot ofSweep bytes s := by
  rw [lookOutcome, h]

theorem lookOutcome_error {s : State} {slot : Fin 128} {ofSweep : Bool} {p : List Byte}
    (h : s.exch.activity = some (.look slot ofSweep p)) (f : Fin 128 → Bool → List Byte → State → State) :
    lookOutcome .error f s = lookError slot ofSweep s := by
  rw [lookOutcome, h]

/-- A failed read of a look marks the slot and reports the fault once. -/
theorem slotReadError_eq (slot : Fin 128) (s : State) :
    slotReadError slot s =
      { s with
        exch := { s.exch with faults := Tbl.put s.exch.faults slot true }, reports := Claims.slotFault slot s } := by
  unfold slotReadError Claims.slotFault
  split
  · next h =>
    have same : Tbl.put s.exch.faults slot true = s.exch.faults := by
      refine Vector.ext fun i hi => ?_
      have := Tbl.at_put s.exch.faults slot ⟨i, hi⟩ true
      by_cases hs : slot = ⟨i, hi⟩
      · subst hs
        rw [if_pos rfl] at this
        exact this.trans h.symm
      · rw [if_neg hs] at this
        exact this
    rw [same]
  · rw [raise_eq]
    rfl

theorem lookError_withPortFree (slot : Fin 128) (ofSweep : Bool) (s : State) :
    lookError slot ofSweep (withPortFree s) =
      { s with
        port := Claims.portFree s
        exch := Claims.lookEnded ofSweep s { s.exch with faults := Tbl.put s.exch.faults slot true }
        reports := Claims.slotFault slot s } := by
  rw [lookError, slotReadError_eq, endActivity_eq]
  rfl

/-! ## The first read -/

theorem lookRead_of_void {s : State} {slot : Fin 128} {bytes : List Byte} (h : bytes.getD 0 0 = (lineAt s slot).take) (ofSweep : Bool) :
    lookRead slot ofSweep bytes s = foundNoPost slot ofSweep bytes (putFaultMark slot false s) := if_pos h

theorem lookRead_of_post {s : State} {slot : Fin 128} {bytes : List Byte} (h : bytes.getD 0 0 ≠ (lineAt s slot).take) (ofSweep : Bool) :
    lookRead slot ofSweep bytes s =
      askPort (readAccess .posting (slotAddr (baseAddr s) slot) postingBytes) (putFaultMark slot false s) := if_neg h

theorem foundNoPost_of_quiet {bytes : List Byte} (h : bytes.getD 1 0 = 0) (slot : Fin 128) (ofSweep : Bool) (s : State) :
    foundNoPost slot ofSweep bytes s = endActivity ofSweep s := by
  have quiet : slotVoid bytes = false := by rw [slotVoid, byteAt, h]; rfl
  rw [foundNoPost, quiet]
  rfl

theorem firstReadOfALook : Claims.FirstReadOfALook := by
  rintro s a slot ofSweep base posting ⟨only, look⟩ hb
  have read (r : ReadResult) (hr : readFits a r = true) :
      exec (.handCountReadDone r) s = .next (lookOutcome r lookRead (withPortFree s)) := readDone_of_only only hr _
  refine ⟨?_, fun bytes hlen => ⟨fun hhand hvoid => ?_, fun hhand => ?_⟩⟩
  · rw [read .error rfl, lookOutcome_error (by exact look), lookError_withPortFree]
  · rw [read _ (readFits_data hlen), lookOutcome_of_look (by exact look), lookRead_of_void (by exact hhand), foundNoPost_of_quiet hvoid,
      endActivity_eq]
    rfl
  · rw [read _ (readFits_data hlen), lookOutcome_of_look (by exact look), lookRead_of_post (by exact hhand), slotAddr,
      baseAddr_of (by exact hb), askPort_of_free (by rfl)]
    rfl

/-! ## A post taken -/

theorem writeItemBin_pack (b : OrderBin) (s : State) (i : OrderItem) : (writeItemBin b s i).pack = s.pack := by simp

/-- The bin written for an item changes its slot's bin field alone. -/
theorem lineAt_writeItemBin (b : OrderBin) (s : State) (i : OrderItem) (j : Fin 128) :
    lineAt (writeItemBin b s i) j =
      if i.slot = j ∧ (lineAt s i.slot).take = i.take then { lineAt s j with bin := binField b } else lineAt s j := by
  unfold writeItemBin
  by_cases ht : (lineAt s i.slot).take = i.take
  · rw [if_pos ht, lineAt_reportLine]
    by_cases hj : i.slot = j
    · rw [if_pos hj, if_pos ⟨hj, ht⟩, hj]
    · rw [if_neg hj, if_neg fun h => hj h.1]
  · rw [if_neg ht, if_neg fun h => ht h.2]

theorem tells_writeItemBin (b : OrderBin) (s : State) (i : OrderItem) : Tells 0 s (writeItemBin b s i) :=
  .ite (fun _ => tells_reportLine ..) fun _ => .refl s

theorem orderAt_congr {s t : State} (h : t.pack = s.pack) (key : Word) : orderAt t key = orderAt s key := by
  rw [orderAt, h, ← orderAt]

theorem key_of_orderAt {s : State} {key : Word} {o : Order} (h : orderAt s key = some o) : o.key = key :=
  eq_of_beq (List.find?_some (p := fun x : Order => x.key == key) h)

/-- A list in which the entry of `o`'s key is replaced finds `o` under it. -/
theorem find?_replace {l : List Order} {key : Word} {old o : Order} (h : l.find? (fun x => x.key == key) = some old) (ho : o.key = key) :
    (l.map fun x => if x.key = o.key then o else x).find? (fun x => x.key == key) = some o := by
  induction l with
  | nil => cases h
  | cons x xs ih =>
    rw [List.map_cons, List.find?_cons]
    by_cases hx : x.key = key
    · rw [if_pos (hx.trans ho.symm), ho, beq_self_eq_true]
    · rw [List.find?_cons, beq_eq_false_iff_ne.mpr hx] at h
      rw [if_neg (ho ▸ hx), beq_eq_false_iff_ne.mpr hx]
      exact ih h

theorem orderAt_putOrder_self {s : State} {old o : Order} (h : orderAt s o.key = some old) : orderAt (putOrder o s) o.key = some o :=
  find?_replace h rfl

/-- What an accepted post does at the pack unit: its order, OPEN, holds its item, and the lines change in the item's bin field alone. -/
structure JoinsOrder (key : Word) (item : OrderItem) (s t : State) : Prop where
  tells : Tells 1 s t
  accepted : t.accepted = s.accepted
  exch : t.exch = s.exch
  port : t.port = s.port
  clock : t.clock = s.clock
  config : t.config = s.config
  line : ∀ j, ∃ bin, lineAt t j = { lineAt s j with bin := bin }
  others : ∀ j, j ≠ item.slot → lineAt t j = lineAt s j
  order : ∃ o, orderAt t key = some o ∧ o.ready = false ∧ item ∈ o.items

theorem joinsOrder_writeItemBin {n : Nat} {key : Word} {item : OrderItem} {b : OrderBin} {s u : State} {o : Order} (tells : Tells n s u)
    (hn : n ≤ 1) (accepted : u.accepted = s.accepted) (exch : u.exch = s.exch) (port : u.port = s.port) (clock : u.clock = s.clock)
    (config : u.config = s.config) (lines : u.lines = s.lines) (order : orderAt u key = some o) (ready : o.ready = false)
    (mem : item ∈ o.items) : JoinsOrder key item s (writeItemBin b u item) := by
  have line := lineAt_writeItemBin b u item
  refine ⟨(tells.trans (tells_writeItemBin ..)).mono hn, by simp [accepted], by simp [exch], by simp [port], by simp [clock],
    by simp [config], fun j => ?_, fun j hj => ?_, o, ?_, ready, mem⟩
  · rw [line, lineAt_congr lines j]
    split
    · exact ⟨_, rfl⟩
    · exact ⟨(lineAt s j).bin, rfl⟩
  · rw [line, if_neg fun h => hj h.1.symm, lineAt_congr lines]
  · rw [orderAt_congr (writeItemBin_pack ..), order]

theorem joinsOrder_acceptOrder (key : Word) (expected : Nat) (item : OrderItem) (s : State) :
    JoinsOrder key item s (acceptOrder key expected item s) := by
  unfold acceptOrder
  split
  · next h =>
    refine joinsOrder_writeItemBin (.of_reports (t := s.setPack _) rfl) (Nat.zero_le _) rfl rfl rfl rfl rfl rfl
      (o := newOrder key expected item) ?_ rfl (List.mem_singleton_self _)
    rw [orderAt, State.setPack, List.find?_append, show List.find? _ s.pack.orders = none from h]
    simp [newOrder]
  · next o h =>
    have joined : orderAt (putOrder { joinItem item o with ready := false } s) key = some { joinItem item o with ready := false } :=
      find?_replace h (key_of_orderAt (o := o) h)
    have mem : item ∈ (joinItem item o).items := List.mem_append_right _ (List.mem_singleton_self _)
    dsimp only
    split
    · refine joinsOrder_writeItemBin (o := { joinItem item o with ready := false })
        ((Tells.of_reports (s := s) (t := putOrder { joinItem item o with ready := false } s) rfl).trans (tells_raise ..)) (Nat.le_refl _)
        (by rw [raise_eq]; rfl) (by rw [raise_eq]; rfl) (by rw [raise_eq]; rfl) (by rw [raise_eq]; rfl) (by rw [raise_eq]; rfl)
        (by rw [raise_eq]; rfl) ?_ rfl mem
      exact (orderAt_congr (s := putOrder { joinItem item o with ready := false } s) (by rw [raise_eq]) key).trans joined
    · exact joinsOrder_writeItemBin (o := { joinItem item o with ready := false })
        (Tells.of_reports (t := putOrder { joinItem item o with ready := false } s) rfl) (Nat.zero_le _) rfl rfl rfl rfl rfl rfl joined rfl
        mem

/-- The slot's own entry and its report mark after a post is taken. -/
theorem takePost_of_refused {s : State} {slot : Fin 128} {bytes : List Byte} {entry : Option CatalogEntry} {r : Reason}
    (hopen : openState (lineAt s slot).state = false) (h : validate s slot entry (parsePosting bytes) = some r) :
    takePost slot bytes entry s = reportLine slot (takenEntry .refused r (slotHand bytes) (parsePosting bytes)) s := by
  rw [takePost, hopen, h]
  rfl

theorem takePost_of_valid {s : State} {slot : Fin 128} {bytes : List Byte} {entry : Option CatalogEntry}
    (hopen : openState (lineAt s slot).state = false) (h : validate s slot entry (parsePosting bytes) = none) :
    takePost slot bytes entry s = acceptPost slot (slotHand bytes) (parsePosting bytes) s := by
  rw [takePost, hopen, h]
  rfl

theorem takePost_of_open {s : State} {slot : Fin 128} (h : openState (lineAt s slot).state = true) (bytes : List Byte)
    (entry : Option CatalogEntry) : takePost slot bytes entry s = dropPost slot (slotHand bytes) s := if_pos h

/-- The state the look reads from, and the state in which its post is taken: the port is free and the slot's own entry may differ. -/
structure LooksAs (slot : Fin 128) (s u : State) : Prop where
  exch : u.exch = s.exch
  port : u.port = Claims.portFree s
  clock : u.clock = s.clock
  config : u.config = s.config
  accepted : u.accepted = s.accepted
  pack : u.pack = s.pack
  others : ∀ o, o ≠ slot → lineAt u o = lineAt s o

theorem postTaken_of_valid {s u : State} {slot : Fin 128} {bytes : List Byte} {entry : Option CatalogEntry} (looks : LooksAs slot s u)
    (hopen : openState (lineAt u slot).state = false) (ofSweep : Bool) (check : validate u slot entry (parsePosting bytes) = none) :
    Claims.postTaken s (endActivity ofSweep (takePost slot bytes entry u)) slot ofSweep bytes none := by
  rw [takePost_of_valid hopen check, acceptPost]
  generalize hq : reportLine slot (takenEntry .queued .none (slotHand bytes) (parsePosting bytes)) u = q
  have line (j : Fin 128) :
      lineAt (q.setAccepted (q.accepted ++ [slot])) j =
        if slot = j then takenEntry .queued .none (slotHand bytes) (parsePosting bytes) else lineAt u j := by
    rw [lineAt_congr (s := q) (t := q.setAccepted (q.accepted ++ [slot])) rfl, ← hq, lineAt_reportLine]
  have dirty : Tbl.at q.reports.dirty slot = true := by rw [← hq]; exact dirty_reportLine ..
  have exch : q.exch = s.exch := by rw [← hq]; exact looks.exch
  have port : q.port = Claims.portFree s := by rw [← hq]; exact looks.port
  have clock : q.clock = s.clock := by rw [← hq]; exact looks.clock
  have config : q.config = s.config := by rw [← hq]; exact looks.config
  have accepted : q.accepted = s.accepted := by rw [← hq]; exact looks.accepted
  have joins := joinsOrder_acceptOrder (parsePosting bytes).key (parsePosting bytes).linesIn
    (itemOf slot (slotHand bytes) (parsePosting bytes)) (q.setAccepted (q.accepted ++ [slot]))
  generalize acceptOrder (parsePosting bytes).key (parsePosting bytes).linesIn (itemOf slot (slotHand bytes) (parsePosting bytes))
    (q.setAccepted (q.accepted ++ [slot])) = v at joins
  obtain ⟨bin, own⟩ := joins.line slot
  rw [line, if_pos rfl] at own
  rw [endActivity_eq]
  have entryOf : lineAt { v with exch := Claims.lookEnded ofSweep v v.exch } slot =
      { takenEntry .queued .none (slotHand bytes) (parsePosting bytes) with bin := bin } := own
  refine ⟨?_, joins.port.trans port, joins.tells.dirty slot dirty, fun o ho => ?_, ?_, ?_, ?_, ?_, ?_, fun _ => ⟨?_, ?_, ?_, joins.order⟩,
    fun r h => by cases h⟩
  · exact (lookEnded_congr (joins.clock.trans clock) (joins.config.trans config) ..).trans (by rw [joins.exch]; exact congrArg _ exch)
  · exact (joins.others o ho).trans ((line o).trans ((if_neg (Ne.symm ho)).trans (looks.others o ho)))
  · rw [entryOf]; rfl
  · rw [entryOf]; rfl
  · rw [entryOf]; rfl
  · rw [entryOf]; rfl
  · rw [entryOf]; rfl
  · rw [entryOf]; rfl
  · rw [entryOf]; rfl
  · exact joins.accepted.trans (by rw [State.setAccepted, accepted])

theorem postTaken_of_refused {s u : State} {slot : Fin 128} {bytes : List Byte} {entry : Option CatalogEntry} (looks : LooksAs slot s u)
    (hopen : openState (lineAt u slot).state = false) (ofSweep : Bool) {r : Reason}
    (check : validate u slot entry (parsePosting bytes) = some r) :
    Claims.postTaken s (endActivity ofSweep (takePost slot bytes entry u)) slot ofSweep bytes (some r) := by
  rw [takePost_of_refused hopen check, endActivity_eq]
  have line (j : Fin 128) :
      lineAt (reportLine slot (takenEntry .refused r (slotHand bytes) (parsePosting bytes)) u) j =
        if slot = j then takenEntry .refused r (slotHand bytes) (parsePosting bytes) else lineAt u j := lineAt_reportLine ..
  have dirty := dirty_reportLine slot (takenEntry .refused r (slotHand bytes) (parsePosting bytes)) u
  have own := line slot
  rw [if_pos rfl] at own
  refine ⟨?_, looks.port, dirty, fun o ho => ?_, ?_, ?_, ?_, ?_, ?_, fun h => (by cases h), fun r' h => ?_⟩
  · exact (lookEnded_congr looks.clock looks.config ..).trans (congrArg _ looks.exch)
  · exact (line o).trans ((if_neg (Ne.symm ho)).trans (looks.others o ho))
  · exact congrArg LineEntry.take own
  · exact congrArg LineEntry.snap own
  · exact congrArg LineEntry.bound own
  · exact congrArg LineEntry.finished own
  · exact congrArg LineEntry.failed own
  · cases h
    exact ⟨congrArg LineEntry.state own, congrArg LineEntry.reason own, looks.accepted, looks.pack⟩

theorem postTaken_endActivity {s u : State} {slot : Fin 128} (looks : LooksAs slot s u) (hopen : openState (lineAt u slot).state = false)
    (ofSweep : Bool) (bytes : List Byte) (entry : Option CatalogEntry) :
    Claims.postTaken s (endActivity ofSweep (takePost slot bytes entry u)) slot ofSweep bytes
      (validate u slot entry (parsePosting bytes)) := by
  cases check : validate u slot entry (parsePosting bytes) with
  | none => exact postTaken_of_valid looks hopen ofSweep check
  | some r => exact postTaken_of_refused looks hopen ofSweep check

theorem looksAs_withPortFree (slot : Fin 128) (s : State) : LooksAs slot s (withPortFree s) :=
  ⟨rfl, rfl, rfl, rfl, rfl, rfl, fun _ _ => rfl⟩

/-! ## The posting read and the catalog read -/

theorem exec_postingReadDone (r : ReadResult) (s : State) :
    exec (.postingReadDone r) s = readDone .posting r (lookOutcome r postRead) s := rfl

theorem exec_catalogReadDone (r : ReadResult) (s : State) : exec (.catalogReadDone r) s = readDone .catalog r (catalogRead r) s := rfl

theorem needsCatalog_iff (s : State) (slot : Fin 128) (bytes : List Byte) :
    needsCatalog s slot bytes = true ↔
      s.catalog = none ∧ (parsePosting bytes).blank < 64 ∧ openState (lineAt s slot).state = false := by
  simp [needsCatalog, and_assoc]

theorem foundPost_of_known {s : State} {slot : Fin 128} {bytes : List Byte}
    (h : ¬(s.catalog = none ∧ (parsePosting bytes).blank < 64 ∧ openState (lineAt s slot).state = false)) (ofSweep : Bool) :
    foundPost slot ofSweep bytes s = endActivity ofSweep (takePost slot bytes none s) := if_neg fun d => h ((needsCatalog_iff ..).mp d)

theorem postRead_of_post {s : State} {slot : Fin 128} {bytes : List Byte} (h : bytes.getD 0 0 ≠ (lineAt s slot).take) (ofSweep : Bool) :
    postRead slot ofSweep bytes s = foundPost slot ofSweep bytes s := if_neg h

theorem postIsTakenOrDropped : Claims.PostIsTakenOrDropped := by
  refine ⟨?_, ?_⟩
  · rintro s a slot ofSweep posting bytes ⟨only, look⟩ hlen hpost
    have read : exec (.postingReadDone (.data bytes)) s = .next (foundPost slot ofSweep bytes (withPortFree s)) := by
      rw [exec_postingReadDone, readDone_of_only only (readFits_data hlen), lookOutcome_of_look (by exact look),
        postRead_of_post (by exact hpost)]
    refine ⟨fun hopen => ?_, fun hclosed hcat => ⟨_, read, ?_⟩, fun base hb hclosed hcat hblank => ?_⟩
    · rw [read, foundPost_of_known (s := withPortFree s) fun h => absurd (h.2.2.symm.trans hopen) Bool.false_ne_true, takePost_of_open (by exact hopen), dropPost,
        raise_eq, endActivity_eq]
      rfl
    · rw [foundPost_of_known (s := withPortFree s) fun h => hcat h.1]
      exact postTaken_endActivity (looksAs_withPortFree slot s) hclosed ofSweep bytes none
    · rw [read, foundPost, if_pos ((needsCatalog_iff (withPortFree s) ..).mpr ⟨hcat, hblank, hclosed⟩), catalogAddr, baseAddr_of (by exact hb),
        askPort_of_free (by rfl)]
      rfl
  · rintro s a slot ofSweep posting bytes ⟨only, look⟩ hlen hclosed
    refine ⟨endActivity ofSweep (takePost slot posting (some (parseCatalogEntry bytes)) (withPortFree s)), ?_,
      postTaken_endActivity (looksAs_withPortFree slot s) hclosed ofSweep posting _⟩
    rw [exec_catalogReadDone, readDone_of_only only (readFits_data hlen), catalogRead,
      show (withPortFree s).exch.activity = _ from look]

/-! ## The eight checks -/

theorem badLine_iff (p : Snapshot) :
    badLine p = true ↔ p.lineNo < 1 ∨ 15 < p.lineNo ∨ p.linesIn < 1 ∨ 15 < p.linesIn ∨ p.linesIn < p.lineNo := by
  simp [badLine, or_assoc]

theorem badBlank_iff (s : State) (entry : Option CatalogEntry) (p : Snapshot) :
    badBlank s entry p = true ↔
      ¬(p.blank < 64 ∧ ∃ x, (match s.catalog with | none => entry | some _ => some (catalogAt s p.blank)) = some x ∧ x.inUse = true) := by
  unfold badBlank
  by_cases hb : p.blank < 64
  · rw [if_neg (Nat.not_le.mpr hb)]
    cases s.catalog with
    | some c => simp [hb]
    | none => cases entry with
      | none => simp
      | some e => simp [hb]
  · rw [if_pos (Nat.not_lt.mp hb)]
    simp [hb]

theorem badChain_iff (p : Snapshot) :
    badChain p = true ↔ ∃ (c : Fin 6) (x : Addr), Tbl.at p.chains c = some x ∧ x.toNat % 8 ≠ 0 := by
  unfold badChain
  rw [List.any_eq_true]
  constructor
  · rintro ⟨a, ha, hx⟩
    obtain ⟨i, hi, rfl⟩ := List.mem_iff_getElem.mp ha
    have hi6 : i < 6 := by simpa using hi
    cases e : p.chains.toList[i] with
    | none => rw [e] at hx; cases hx
    | some x =>
      rw [e] at hx
      exact ⟨⟨i, hi6⟩, x, by simpa [Tbl.at] using e, by simpa [aligned8] using hx⟩
  · rintro ⟨c, x, hc, hx⟩
    refine ⟨some x, ?_, by simpa [aligned8] using hx⟩
    rw [← hc]
    simp [Tbl.at]

theorem noPlanes_iff (p : Snapshot) : noPlanes p = true ↔ ∀ c : Fin 6, Tbl.at p.chains c = none := by
  unfold noPlanes
  rw [List.all_eq_true]
  constructor
  · intro h c
    have := h (Tbl.at p.chains c) (by simp [Tbl.at])
    simpa using this
  · intro h a ha
    obtain ⟨i, hi, rfl⟩ := List.mem_iff_getElem.mp ha
    have hi6 : i < 6 := by simpa using hi
    have := h ⟨i, hi6⟩
    simpa [Tbl.at] using this

theorem orderDiffers_iff (s : State) (p : Snapshot) :
    orderDiffers s p = true ↔ ∃ o, orderAt s p.key = some o ∧ o.expected ≠ p.linesIn := by
  unfold orderDiffers
  split
  · next h => simp [h]
  · next o h => simp [h]

theorem holdsLine_iff (s : State) (p : Snapshot) (j : Fin 128) :
    holdsLine s p j = true ↔
      openState (lineAt s j).state = true ∧ ∃ q, (lineAt s j).snap = some q ∧ q.key = p.key ∧ q.lineNo = p.lineNo := by
  unfold holdsLine
  split
  · next h => simp [h]
  · next q h => simp [h]

theorem duplicateLine_iff (s : State) (slot : Fin 128) (p : Snapshot) :
    duplicateLine s slot p = true ↔
      ∃ (j : Fin 128) (q : Snapshot),
        j ≠ slot ∧ openState (lineAt s j).state = true ∧ (lineAt s j).snap = some q ∧ q.key = p.key ∧ q.lineNo = p.lineNo := by
  have every (j : Fin 128) : j ∈ allSlots := List.mem_ofFn.mpr ⟨j, rfl⟩
  rw [duplicateLine, List.any_eq_true]
  simp only [Bool.and_eq_true, bne_iff_ne, holdsLine_iff, every, true_and]
  exact ⟨fun ⟨j, hj, ho, q, rest⟩ => ⟨j, q, hj, ho, rest⟩, fun ⟨j, q, hj, ho, rest⟩ => ⟨j, hj, ho, q, rest⟩⟩

theorem ordersFull_iff (s : State) (p : Snapshot) : ordersFull s p = true ↔ orderAt s p.key = none ∧ 24 ≤ s.pack.orders.length := by
  rw [ordersFull, Bool.and_eq_true, Option.isNone_iff_eq_none, decide_eq_true_iff, Config.orderPlaces]

theorem badQuantity_iff (p : Snapshot) : (p.quantity < 1 || 50 < p.quantity) = true ↔ p.quantity < 1 ∨ 50 < p.quantity := by simp

theorem postChecksInOrder : Claims.PostChecksInOrder := by
  intro s slot entry p line consulted blank quantity chain planes mismatch twice full
  have hline : line ↔ badLine p = true := (badLine_iff p).symm
  have hblank : blank ↔ badBlank s entry p = true := (badBlank_iff s entry p).symm
  have hquantity : quantity ↔ (p.quantity < 1 || 50 < p.quantity) = true := (badQuantity_iff p).symm
  have hchain : chain ↔ badChain p = true := (badChain_iff p).symm
  have hplanes : planes ↔ noPlanes p = true := (noPlanes_iff p).symm
  have hmismatch : mismatch ↔ orderDiffers s p = true := (orderDiffers_iff s p).symm
  have htwice : twice ↔ duplicateLine s slot p = true := (duplicateLine_iff s slot p).symm
  have hfull : full ↔ ordersFull s p = true := (ordersFull_iff s p).symm
  clear_value full twice mismatch planes chain quantity blank line
  rw [hline, hblank, hquantity, hchain, hplanes, hmismatch, htwice, hfull, validate]
  refine ⟨fun h => if_pos h, fun h => ?_⟩
  rw [if_neg h]
  refine ⟨fun h => if_pos h, fun h => ?_⟩
  rw [if_neg h]
  refine ⟨fun h => if_pos h, fun h => ?_⟩
  rw [if_neg h]
  refine ⟨fun h => if_pos h, fun h => ?_⟩
  rw [if_neg h]
  refine ⟨fun h => if_pos h, fun h => ?_⟩
  rw [if_neg h]
  refine ⟨fun h => if_pos h, fun h => ?_⟩
  rw [if_neg h]
  refine ⟨fun h => if_pos h, fun h => ?_⟩
  rw [if_neg h]
  exact ⟨fun h => if_pos h, fun h => if_neg h⟩

/-- Settles O47, by the first read, the posting and catalog reads, and the eight checks. -/
theorem lookReadsTakeThePost : Obligations.LookReadsTakeThePost := ⟨firstReadOfALook, postIsTakenOrDropped, postChecksInOrder⟩

end Sys2Proof.Machine
end

section
/-! PROOFS. The recovery read of a slot (R195) and the refill read (R59, R193). -/

namespace Sys2Proof.Machine

-- Elaborated all at once, the proofs of this text start more threads than the check's memory limit lets it.
set_option Elab.async false

/-! ## The recovery read -/

theorem exec_recoveryReadDone (r : ReadResult) (s : State) :
    exec (.recoveryReadDone r) s = readDone .recovery r (lookOutcome r recoveryRead) s := rfl

/-- The exchange interface once the slot has been read: neither marked for recovery nor faulty. -/
def seenExch (slot : Fin 128) (s : State) : Exch :=
  { s.exch with faults := Tbl.put s.exch.faults slot false, recovery := Tbl.put s.exch.recovery slot false }

/-- The port is free and the slot's marks are clear. -/
def seenState (slot : Fin 128) (s : State) : State := { s with port := Claims.portFree s, exch := seenExch slot s }

theorem slotShowsOpen_iff (bytes : List Byte) :
    slotShowsOpen bytes = true ↔ 2 ≤ (bytes.getD 0xC9 0).toNat ∧ (bytes.getD 0xC9 0).toNat ≤ 4 := by
  rw [slotShowsOpen, Bool.and_eq_true, decide_eq_true_iff, decide_eq_true_iff, byteAt]

theorem recoveryRead_of_open {bytes : List Byte} (h : slotShowsOpen bytes = true) (slot : Fin 128) (ofSweep : Bool) (s : State) :
    recoveryRead slot ofSweep bytes (withPortFree s) =
      endActivity ofSweep (reportLine slot (lostEntry bytes) (seenState slot s)) := if_pos h

theorem recoveryRead_of_void {bytes : List Byte} (h : slotShowsOpen bytes = false) (hand : bytes.getD 0 0 = bytes.getD 0xC8 0)
    (slot : Fin 128) (ofSweep : Bool) (s : State) :
    recoveryRead slot ofSweep bytes (withPortFree s) =
      foundNoPost slot ofSweep bytes (setTake slot (slotTake bytes) (seenState slot s)) :=
  (if_neg (Bool.eq_false_iff.mp h)).trans (if_pos hand)

theorem recoveryRead_of_post {bytes : List Byte} (h : slotShowsOpen bytes = false) (hand : bytes.getD 0 0 ≠ bytes.getD 0xC8 0)
    (slot : Fin 128) (ofSweep : Bool) (s : State) :
    recoveryRead slot ofSweep bytes (withPortFree s) =
      foundPost slot ofSweep bytes (setTake slot (slotTake bytes) (seenState slot s)) :=
  (if_neg (Bool.eq_false_iff.mp h)).trans (if_neg hand)

/-- A read take count changes no check of the slot's own post. -/
theorem validate_setTake (slot : Fin 128) (take : Byte) (entry : Option CatalogEntry) (p : Snapshot) (s : State) :
    validate (setTake slot take s) slot entry p = validate s slot entry p := by
  have duplicate : duplicateLine (setTake slot take s) slot p = duplicateLine s slot p := by
    refine Bool.eq_iff_iff.mpr ?_
    rw [duplicateLine_iff, duplicateLine_iff]
    have other {j : Fin 128} (hj : j ≠ slot) : lineAt (setTake slot take s) j = lineAt s j := lineAt_putLine_ne _ _ hj.symm
    exact ⟨fun ⟨j, q, hj, h⟩ => ⟨j, q, hj, other hj ▸ h⟩, fun ⟨j, q, hj, h⟩ => ⟨j, q, hj, (other hj).symm ▸ h⟩⟩
  unfold validate
  rw [duplicate]
  rfl

theorem looksAs_setTake (slot : Fin 128) (take : Byte) (s : State) :
    LooksAs slot { s with exch := seenExch slot s } (setTake slot take (seenState slot s)) :=
  ⟨rfl, rfl, rfl, rfl, rfl, rfl, fun _ ho => lineAt_putLine_ne _ _ ho.symm⟩

theorem recoveryReadEnds {s : State} {a : Access} {slot : Fin 128} {ofSweep : Bool} {p bytes : List Byte}
    (reads : Claims.lookReads s .recovery a slot ofSweep p) (hlen : bytes.length = a.length) :
    exec (.recoveryReadDone (.data bytes)) s = .next (recoveryRead slot ofSweep bytes (withPortFree s)) := by
  obtain ⟨only, look⟩ := reads
  rw [exec_recoveryReadDone, readDone_of_only only (readFits_data hlen), lookOutcome_of_look (by exact look)]

theorem recoveryReadFails {s : State} {a : Access} {slot : Fin 128} {ofSweep : Bool} {p : List Byte}
    (reads : Claims.lookReads s .recovery a slot ofSweep p) :
    exec (.recoveryReadDone .error) s =
      .next
        { s with
          port := Claims.portFree s
          exch := Claims.lookEnded ofSweep s { s.exch with faults := Tbl.put s.exch.faults slot true }
          reports := Claims.slotFault slot s } := by
  obtain ⟨only, look⟩ := reads
  rw [exec_recoveryReadDone, readDone_of_only only (by rfl), lookOutcome_error (by exact look), lookError_withPortFree]

theorem slotClosed {bytes : List Byte} (h : (bytes.getD 0xC9 0).toNat < 2 ∨ 4 < (bytes.getD 0xC9 0).toNat) :
    slotShowsOpen bytes = false := by
  refine Bool.eq_false_iff.mpr fun d => ?_
  obtain ⟨low, high⟩ := (slotShowsOpen_iff bytes).mp d
  omega

/-! ## The refill read -/

theorem exec_refillReadDone (r : ReadResult) (s : State) : exec (.refillReadDone r) s = readDone .refill r (refillEnds r) s := rfl

theorem refillEnds_of_nudge {s : State} (h : s.exch.activity = some (.refill false)) (r : ReadResult) :
    refillEnds r s = putActivity none (refillOutcome r s) := by
  rw [refillEnds, h]
  rfl

theorem refillError_eq (s : State) :
    refillError s =
      { s with
        exch := { s.exch with headerFault := true }
        reports := if s.exch.headerFault then s.reports else Claims.raised { incident .memFault with detail := 1 } s } := by
  unfold refillError
  by_cases h : s.exch.headerFault = true
  · rw [if_pos h, if_pos h, ← h]
  · rw [if_neg h, if_neg h, raise_eq]
    rfl

/-- The fall of the tank's state adds incidents and nothing else. -/
theorem tankFall_eq (old : TankState) (t : Tank) (s : State) :
    tankFall old t s = { s with reports := (tankFall old t s).reports } := by
  unfold tankFall
  split
  case h_1 => rw [tankIncident, raise_eq]
  case h_2 => rw [tankIncident, tankIncident, raise_eq, raise_eq]
  case h_3 => rw [tankIncident, raise_eq]
  all_goals rfl

theorem takeRefill_of_new {r : RefillGroup} {s : State} (h : s.pretreat.tank.generation ≠ some r.generation) :
    takeRefill r s =
      { s with pretreat := { s.pretreat with tank := refilledTank r }, reports := (takeRefill r s).reports } := by
  rw [takeRefill, if_neg h, raise_eq, tankFall_eq]
  rfl

theorem parseRefill_level (bytes : List Byte) : (parseRefill bytes).level = min 10000000 (word bytes 4) := by
  simp [parseRefill, clampNat, Config.tankMax, Nat.min_comm]

/-- The state before the refill read is taken. -/
def refillSeen (s : State) : State := { s with port := Claims.portFree s, exch := { s.exch with headerFault := false } }

theorem refillEnded {s : State} {a : Access} (only : Claims.onlyAccess s .refill a) (refill : s.exch.activity = some (.refill false))
    {bytes : List Byte} (hlen : bytes.length = a.length) :
    exec (.refillReadDone (.data bytes)) s = .next (putActivity none (takeRefill (parseRefill bytes) (refillSeen s))) := by
  rw [exec_refillReadDone, readDone_of_only only (readFits_data hlen), refillEnds_of_nudge (by exact refill)]
  rfl

theorem refillFails {s : State} {a : Access} (only : Claims.onlyAccess s .refill a) (refill : s.exch.activity = some (.refill false)) :
    exec (.refillReadDone .error) s =
      .next
        { s with
          port := Claims.portFree s
          exch := { s.exch with activity := none, headerFault := true }
          reports :=
            if s.exch.headerFault then s.reports else Claims.raised { incident .memFault with detail := 1 } s } := by
  rw [exec_refillReadDone, readDone_of_only only (by rfl), refillEnds_of_nudge (by exact refill), refillOutcome, refillError_eq]
  rfl

/-- Settles O50, by the recovery read and the refill read. -/
theorem recoveryAndRefillReads : Obligations.RecoveryAndRefillReads := by
  intro s a
  refine ⟨fun slot ofSweep p bytes reads hlen => ?_, fun only refill => ⟨refillFails only refill, fun bytes hlen => ?_⟩⟩
  · have read := recoveryReadEnds reads hlen
    refine ⟨recoveryReadFails reads, fun low high => ?_, fun shut hand hvoid => ?_, fun shut hand hclosed hcat => ⟨_, read, ?_⟩⟩
    · rw [read, recoveryRead_of_open ((slotShowsOpen_iff bytes).mpr ⟨low, high⟩), endActivity_eq]
      rfl
    · rw [read, recoveryRead_of_void (slotClosed shut) hand, foundNoPost_of_quiet hvoid, endActivity_eq]
      rfl
    · have closed : openState (lineAt (setTake slot (slotTake bytes) (seenState slot s)) slot).state = false := by
        rw [setTake, lineAt_putLine_self]
        exact hclosed
      have taken := postTaken_endActivity (looksAs_setTake slot (slotTake bytes) s) closed ofSweep bytes none
      rw [validate_setTake] at taken
      rw [recoveryRead_of_post (slotClosed shut) hand, foundPost_of_known (s := setTake slot (slotTake bytes) (seenState slot s)) fun h => hcat h.1]
      exact taken
  · rw [refillEnded only refill hlen]
    refine ⟨fun old => ?_, fun fresh => ⟨_, rfl, ?_, ?_⟩⟩
    · rw [takeRefill, if_pos (by exact old)]
      rfl
    · rw [takeRefill_of_new (by exact fresh)]
      rfl
    · rw [takeRefill_of_new (by exact fresh)]
      refine ⟨parseRefill_level bytes, rfl, rfl, ?_⟩
      have low : (parseRefill bytes).lowMark = min 10000000 (word bytes 8) := by
        simp [parseRefill, clampNat, Config.tankMax, Nat.min_comm]
      have reserve : (parseRefill bytes).reserve = min 10000000 (word bytes 12) := by
        simp [parseRefill, clampNat, Config.tankMax, Nat.min_comm]
      rw [← parseRefill_level, ← low, ← reserve]
      rfl

end Sys2Proof.Machine
end

section
/-! PROOFS. The report writer: which report goes out, its bytes, and how it ends (R196, R197, section 11.7). -/

namespace Sys2Proof.Machine

-- Elaborated all at once, the proofs of this text start more threads than the check's memory limit lets it.
set_option Elab.async false

/-! ## The bytes of a report -/

/-- A byte takes the remainder by 256 of its number. -/
theorem leBytes_eq (n v : Nat) : leBytes n v = Claims.le n v := by
  induction n generalizing v with
  | zero => rfl
  | succ n ih =>
    rw [leBytes, ih, Claims.le, Claims.le, List.ofFn_succ]
    refine congrArg₂ List.cons (by simp) (congrArg List.ofFn (funext fun k => ?_))
    rw [Nat.div_div_eq_div_mul, Fin.val_succ, pow_succ']

theorem leBytes_zero (n : Nat) : leBytes n 0 = List.replicate n 0 := by
  induction n with
  | zero => rfl
  | succ n ih => rw [leBytes, Nat.zero_div, ih]; rfl

theorem headerWrite_eq (base : Addr) (seq : Word) (next : Nat) : headerWrite base seq next = Claims.headerFields base seq next := by
  rw [headerWrite, leBytes_eq, leBytes_eq]
  rfl

theorem incidentBytes_eq (i : Incident) (n : Word) (dropBefore : Bool) : incidentBytes i n dropBefore = Claims.incidentRecord i n dropBefore := by
  unfold incidentBytes Claims.incidentRecord
  rw [leBytes_zero, leBytes_zero]
  simp only [leBytes_eq]
  cases dropBefore <;> rfl

theorem reportBytes_eq (l : LineEntry) (n : Word) : reportBytes l ++ leBytes 4 n.toNat = Claims.slotRecord l n := by
  unfold reportBytes Claims.slotRecord
  rw [leBytes_zero, leBytes_zero, List.flatMap_def, show leBytes 4 = Claims.le 4 from funext (leBytes_eq 4)]
  simp only [leBytes_eq]
  rfl

/-! ## The next report -/

/-- How far round a slot is from the slot written last. -/
def roundFrom (last o : Fin 128) : Nat := (o.val + 127 - last.val) % 128

theorem find?_allSlots {p : Fin 128 → Bool} {slot : Fin 128} (h : p slot = true) (first : ∀ o, o.val < slot.val → p o = false) :
    allSlots.find? p = some slot := by
  have length : allSlots.length = 128 := List.length_ofFn
  have get (j : Nat) (hj : j < allSlots.length) : allSlots[j].val = j := congrArg Fin.val (List.getElem_ofFn hj)
  refine List.find?_eq_some_iff_getElem.mpr ⟨h, slot.val, by omega, Fin.ext (get ..), fun j hj => ?_⟩
  rw [Bool.not_eq_true']
  exact first _ (by rw [get]; exact hj)

theorem nextDirty_of_nearest {r : Reports} {slot : Fin 128} (h : Tbl.at r.dirty slot = true)
    (nearest : ∀ o, Tbl.at r.dirty o = true → o ≠ slot → roundFrom r.last slot < roundFrom r.last o) : nextDirty r = some slot := by
  have near (o : Fin 128) (ho : roundFrom r.last o ≤ roundFrom r.last slot) (hne : o ≠ slot) : Tbl.at r.dirty o = false :=
    Bool.eq_false_iff.mpr fun d => Nat.not_le.mpr (nearest o d hne) ho
  have ne_of_lt {o : Fin 128} (ho : o.val < slot.val) : o ≠ slot := fun e => Nat.ne_of_lt ho (congrArg Fin.val e)
  unfold nextDirty
  by_cases above : r.last.val < slot.val
  · rw [find?_allSlots (slot := slot) (by simp [above, h]), Option.some_or]
    intro o ho
    by_cases hl : r.last.val < o.val
    · rw [near o (by unfold roundFrom; omega) (ne_of_lt ho), Bool.and_false]
    · simp [hl]
  · have no : allSlots.find? (fun i => decide (r.last.val < i.val) && Tbl.at r.dirty i) = none := by
      refine List.find?_eq_none.mpr fun o _ => ?_
      by_cases hl : r.last.val < o.val
      · rw [near o (by unfold roundFrom; omega) fun e => above (e ▸ hl), Bool.and_false]
        exact Bool.false_ne_true
      · simp [hl]
    rw [no, Option.none_or]
    exact find?_allSlots h fun o ho => near o (by unfold roundFrom; omega) (ne_of_lt ho)

theorem nextDirty_of_clean {r : Reports} (h : ∀ o, Tbl.at r.dirty o = false) : nextDirty r = none := by
  unfold nextDirty
  simp [h]

/-! ## The writer -/

theorem exec_reportStart (s : State) : exec .reportStart s = whenDue (reportDue s) startReport s := rfl

theorem reportDue_iff (s : State) :
    reportDue s = true ↔
      attached s = true ∧ s.reports.job = none ∧ s.reports.headerWriting = false ∧
        (s.reports.fifo ≠ [] ∨ (nextDirty s.reports).isSome = true) := by
  simp [reportDue, and_assoc]

theorem startReport_of_incident {s : State} {i : Incident} {rest : List Incident} (h : s.reports.fifo = i :: rest) :
    startReport s = writeIncident i rest s := by rw [startReport, h]

theorem startReport_of_slot {s : State} {slot : Fin 128} (h : s.reports.fifo = []) (hd : nextDirty s.reports = some slot) :
    startReport s = writeSlot slot s := by rw [startReport, h, hd]

theorem writeIncident_of_free {s : State} {base : Addr} (hp : s.port.current = none) (hb : s.exch.base = some base) (i : Incident)
    (rest : List Incident) :
    writeIncident i rest s =
      { s with
        reports := { s.reports with fifo := rest, job := some .incident }
        port :=
          Claims.portWrites
            [{ addr := base + BitVec.ofNat 64 (0x800 + 32 * s.reports.next)
               bytes := Claims.incidentRecord i (s.reports.chipSeq + 1) s.reports.drop },
              Claims.headerFields base (s.reports.chipSeq + 1) ((s.reports.next + 1) % 64)] s } := by
  rw [writeIncident, baseAddr_of hb, askPort_of_free (by exact hp), incidentWrites, incidentBytes_eq, headerWrite_eq]
  rfl

theorem writeSlot_of_free {s : State} {base : Addr} (hp : s.port.current = none) (hb : s.exch.base = some base) (slot : Fin 128) :
    writeSlot slot s =
      { s with
        reports :=
          { s.reports with dirty := Tbl.put s.reports.dirty slot false, last := slot, job := some (.slot slot) }
        port :=
          Claims.portWrites
            [{ addr := base + BitVec.ofNat 64 (0x1000 + 256 * slot.val) + 0xC8
               bytes := Claims.slotRecord (lineAt s slot) (s.reports.chipSeq + 1) },
              Claims.headerFields base (s.reports.chipSeq + 1) s.reports.next] s } := by
  rw [writeSlot, baseAddr_of hb, askPort_of_free (by exact hp), slotWrites, reportBytes_eq, headerWrite_eq]
  rfl

theorem reportsStartInOrder : Claims.ReportsStartInOrder := by
  intro s base ha hjob hheader hp hb
  rw [exec_reportStart]
  refine ⟨fun i rest h => ?_, fun slot hf hd nearest => ?_, fun hf clean => ?_⟩
  · have due : reportDue s = true := (reportDue_iff s).mpr ⟨ha, hjob, hheader, .inl (by rw [h]; exact List.cons_ne_nil i rest)⟩
    rw [whenDue_of_due due, startReport_of_incident h, writeIncident_of_free hp hb]
  · have next := nextDirty_of_nearest hd nearest
    have due : reportDue s = true := (reportDue_iff s).mpr ⟨ha, hjob, hheader, .inr (by rw [next]; rfl)⟩
    rw [whenDue_of_due due, startReport_of_slot hf next, writeSlot_of_free hp hb]
  · refine whenDue_of_not_due (Bool.eq_false_iff.mpr fun d => ?_)
    obtain ⟨-, -, -, h | h⟩ := (reportDue_iff s).mp d
    · exact h hf
    · rw [nextDirty_of_clean clean] at h
      cases h

/-! ## The end of a report -/

theorem exec_reportWriteDone (r : WriteResult) (s : State) : exec (.reportWriteDone r) s = writeDone .report (endReport r) s := rfl

theorem writeDone_of_only {k : AccessKind} {a : Access} {s : State} (h : Claims.onlyAccess s k a) (f : State → State) :
    writeDone k f s = .next (f (withPortFree s)) := by
  obtain ⟨hcur, alone, hk, hd, hl⟩ := h
  rw [writeDone_of_current hcur hk hd hl, endAccess_of_alone alone]

theorem endReport_of_job {s : State} {j : ReportJob} (h : s.reports.job = some j) :
    endReport .ok s = s.setReports (reportOk j s.reports) ∧
      endReport .error s = setMem (s.setReports (reportFailed j s.reports)) := by
  constructor <;> rw [endReport, h]

theorem reportsEnd : Claims.ReportsEnd := by
  intro s a only
  rw [exec_reportWriteDone, exec_reportWriteDone, writeDone_of_only only, writeDone_of_only only]
  refine ⟨fun hjob => ?_, fun slot hjob => ?_⟩
  · obtain ⟨ok, error⟩ := endReport_of_job (s := withPortFree s) hjob
    rw [ok, error]
    exact ⟨rfl, rfl⟩
  · obtain ⟨ok, error⟩ := endReport_of_job (s := withPortFree s) hjob
    rw [ok, error]
    exact ⟨rfl, rfl⟩

theorem reportCodes : Claims.ReportCodes := by
  unfold Claims.ReportCodes
  decide

/-- Settles O51, by the start and the end of a report and its codes. -/
theorem reportsGoOutInOrder : Obligations.ReportsGoOutInOrder := ⟨reportsStartInOrder, reportsEnd, reportCodes⟩

end Sys2Proof.Machine
end

section
/-! PROOFS. The attach read and the header write (R190, R191). -/

namespace Sys2Proof.Machine

-- Elaborated all at once, the proofs of this text start more threads than the check's memory limit lets it.
set_option Elab.async false

/-! ## The module table of new link settings -/

theorem requiredLost_eq_false {s : State} (h : ∀ r, (moduleAt s r).state ≠ .lost) : requiredLost s = false := by
  unfold requiredLost
  refine List.any_eq_false.mpr fun r _ => ?_
  simp [h r]

/-- With no module LOST, MODULE_LOST leaves the set and nothing else changes. -/
theorem followModules_of_reachable {s : State} (h : ∀ r, (moduleAt s r).state ≠ .lost) :
    followModules s =
      { s with
        ctl :=
          { s.ctl with causes := if s.ctl.mode = .idle then s.ctl.causes else { s.ctl.causes with moduleLost := false } }
        reports := (followModules s).reports } := by
  unfold followModules
  by_cases hidle : s.ctl.mode = .idle
  · rw [if_pos hidle, if_pos hidle]
  · rw [if_neg hidle, if_neg hidle, requiredLost_eq_false h, if_neg Bool.false_ne_true]
    exact setLine_eq ..

/-- The link settings of an attach before MODULE_LOST follows them. -/
def freshLink (new : LinkSettings) (s : State) : State :=
  s.setLink
    { s.link with
      settings := some new
      modules := Vector.ofFn fun r : Fin 13 => freshModule (Tbl.at new.roles r).isSome s }

theorem moduleAt_freshLink (new : LinkSettings) (s : State) (r : Role) :
    moduleAt (freshLink new s) r = freshModule (Tbl.at new.roles (roleNum r)).isSome s := by
  simp [moduleAt, freshLink, State.setLink, Tbl.at]

/-- The settings of an attach: the link is fresh, and besides MODULE_LOST alone may leave the set. -/
theorem attachSettings_eq (new : LinkSettings) (s : State) :
    ∃ causes reports, attachSettings new s =
      { freshLink new s with ctl := { s.ctl with causes := causes }, reports := reports } :=
  ⟨_, _, followModules_of_reachable (s := freshLink new s) fun r => by
    rw [moduleAt_freshLink]
    exact ModuleState.noConfusion⟩

/-! ## The steps of an attach -/

/-- The state in which the steps of an attach act: ATTACHED, with the config snapshot taken and the port free. -/
def attachedState (bytes : List Byte) (s : State) : State :=
  { s with port := Claims.portFree s, exch := { s.exch with attach := .attached }, config := parseConfig bytes }

/-- The state before the standby list: link settings and refill group taken. -/
structure SettledBy (bytes : List Byte) (s u : State) : Prop where
  link : u.link = (freshLink (parseSettings bytes) s).link
  exch : u.exch = { s.exch with attach := .attached }
  port : u.port = Claims.portFree s
  clock : u.clock = s.clock
  config : u.config = parseConfig bytes
  mode : u.ctl.mode = s.ctl.mode
  lines : u.lines = s.lines
  garments : u.garments = s.garments

theorem takeRefill_eq (r : RefillGroup) (s : State) :
    takeRefill r s = { s with pretreat := (takeRefill r s).pretreat, reports := (takeRefill r s).reports } := by
  by_cases h : s.pretreat.tank.generation = some r.generation
  · rw [takeRefill, if_pos h]
  · rw [takeRefill_of_new h]

/-- Link settings and refill group of an attach. -/
def attachSettled (bytes : List Byte) (s : State) : State :=
  takeRefill (parseRefill (bytes.drop 4)) (attachSettings (parseSettings bytes) (attachedState bytes s))

theorem settledBy (bytes : List Byte) (s : State) : SettledBy bytes s (attachSettled bytes s) := by
  obtain ⟨causes, reports, h⟩ := attachSettings_eq (parseSettings bytes) (attachedState bytes s)
  rw [attachSettled, takeRefill_eq, h]
  exact ⟨rfl, rfl, rfl, rfl, rfl, rfl, rfl, rfl⟩

/-- What the header's write and the sweep add once the blocks are set. -/
theorem attachDone_eq (bytes : List Byte) (s : State) :
    attachDone bytes (withPortFree s) =
      startSweep (writeHeader
        (if (attachSettled bytes s).ctl.mode = .idle then putCommands (standbyList (attachSettled bytes s)) (attachSettled bytes s)
          else attachSettled bytes s)) := rfl

/-- The state after the standby list, which changes the link's LINE place, the list of commands and the incidents alone. -/
structure ListedBy (u v : State) : Prop where
  lists : ListsOnly u v
  port : v.port = u.port
  config : v.config = u.config
  lines : v.lines = u.lines
  garments : v.garments = u.garments

theorem listedBy_putCommands (l : List Txn) (u : State) : ListedBy u (putCommands l u) :=
  ⟨listsOnly_putCommands .., by simp, by simp, by simp, by simp⟩

theorem writeHeader_of_free {s : State} (h : s.port.current = none) :
    writeHeader s =
      { s with
        reports := { s.reports with headerWriting := true }
        port :=
          { s.port with
            current := some (writeAccess .headerWrite [headerWrite (baseAddr s) s.reports.chipSeq s.reports.next]) } } := by
  rw [writeHeader, askPort_of_free (by exact h)]
  rfl

/-- The claim on the right format word, from the state after the standby list. -/
structure AttachedBy (bytes : List Byte) (s v t : State) : Prop where
  config : t.config = parseConfig bytes
  link : t.link = v.link
  ctl : t.ctl = v.ctl
  exch :
    t.exch =
      { s.exch with
        attach := .attached, sweep := some 0
        sweepTimer := some { start := s.clock, limit := (parseConfig bytes).sweepPeriod * 100 } }
  header : t.reports.headerWriting = true
  current : (t.port.current.map fun x => (x.kind, x.discard)) = some (.headerWrite, false)
  waiting : t.port.waiting = s.port.waiting
  lines : t.lines = s.lines
  garments : t.garments = s.garments

theorem attachedBy {bytes : List Byte} {s u v : State} (settled : SettledBy bytes s u) (listed : ListedBy u v) (rest : s.exch.sweep = none) :
    AttachedBy bytes s v (startSweep (writeHeader v)) := by
  have port : v.port = Claims.portFree s := listed.port.trans settled.port
  have exch : v.exch = { s.exch with attach := .attached } := listed.lists.exch.trans settled.exch
  have clock : v.clock = s.clock := listed.lists.clock.trans settled.clock
  have config : v.config = parseConfig bytes := listed.config.trans settled.config
  rw [writeHeader_of_free (by rw [port]; rfl), startSweep_of_rest (by simp only [exch]; exact rest), beginSweep, timerFrom]
  refine ⟨config, rfl, rfl, ?_, rfl, rfl, ?_, listed.lines.trans settled.lines, listed.garments.trans settled.garments⟩
  · simp only [State.setExch, exch, clock, config]
    rfl
  · simp only [State.setExch, port]
    rfl

theorem listPut_of_attached {bytes : List Byte} {s u t : State} (settled : SettledBy bytes s u)
    (attachedBy : AttachedBy bytes s (putCommands (standbyList u) u) t) : Claims.listPut s t (Claims.standbyCommands t) := by
  have standby : Claims.standbyCommands t = Claims.standbyCommands u := by
    unfold Claims.standbyCommands
    rw [attachedBy.config, settled.config]
  rw [standbyList_eq] at attachedBy
  have lists := listsOnly_putCommands (presentOnly u (Claims.standbyCommands u)) u
  have attach : t.exch.attach = u.exch.attach := by rw [attachedBy.exch, settled.exch]
  have addr (r : Role) : roleAddr t r = roleAddr u r := by
    rw [← lists.roleAddr]
    unfold roleAddr
    rw [attachedBy.link]
  rw [standby]
  refine listPut_of_putCommands (u := u) ?_ settled.clock (by rw [attachedBy.ctl]) (by rw [placeAt, attachedBy.link, ← placeAt]) addr
    fun r => ?_
  · rw [placeAt, settled.link, freshLink]
    rfl
  · have moduleSame : moduleAt t r = moduleAt u r := by
      unfold moduleAt
      rw [attachedBy.link, lists.hands.link]
    unfold unreachable attached
    rw [attach, moduleSame, addr]

/-! ## The attach read -/

theorem exec_attachReadDone (r : ReadResult) (s : State) : exec (.attachReadDone r) s = readDone .attach r (attachEnds r) s := rfl

theorem exec_attachHeaderWriteDone (r : WriteResult) (s : State) :
    exec (.attachHeaderWriteDone r) s = writeDone .headerWrite (headerWritten r) s := rfl

theorem attachEnds_of_other {bytes : List Byte} (h : headerFormat bytes ≠ 0x00010720#32) (s : State) :
    attachEnds (.data bytes) s = setAttach .badFormat s := if_neg h

theorem attachEnds_of_format {bytes : List Byte} (h : headerFormat bytes = 0x00010720#32) (s : State) :
    attachEnds (.data bytes) s = attachDone bytes s := if_pos h

theorem attachCompletes {bytes : List Byte} {s : State} (rest : s.exch.sweep = none) :
    (attachDone bytes (withPortFree s)).link.settings = some (parseSettings bytes) ∧
      (∀ r : Role, (moduleAt (attachDone bytes (withPortFree s)) r).state = .unknown ∧
        (moduleAt (attachDone bytes (withPortFree s)) r).silences = 0) ∧
      (∃ v, AttachedBy bytes s v (attachDone bytes (withPortFree s))) ∧
      (s.ctl.mode = .idle →
        Claims.listPut s (attachDone bytes (withPortFree s)) (Claims.standbyCommands (attachDone bytes (withPortFree s)))) := by
  rw [attachDone_eq]
  have settled := settledBy bytes s
  generalize attachSettled bytes s = u at settled
  have listed : ListedBy u (if u.ctl.mode = .idle then putCommands (standbyList u) u else u) := by
    split
    · exact listedBy_putCommands ..
    · exact ⟨.refl u, rfl, rfl, rfl, rfl⟩
  have ended := attachedBy settled listed rest
  have link : (startSweep (writeHeader (if u.ctl.mode = .idle then putCommands (standbyList u) u else u))).link =
      { (freshLink (parseSettings bytes) s).link with
        places := (if u.ctl.mode = .idle then putCommands (standbyList u) u else u).link.places } := by
    rw [ended.link, ← settled.link]
    exact listed.lists.hands.link
  refine ⟨by rw [link]; rfl, fun r => ?_, ⟨_, ended⟩, fun hidle => ?_⟩
  · have fresh : moduleAt (startSweep (writeHeader (if u.ctl.mode = .idle then putCommands (standbyList u) u else u))) r =
        freshModule (Tbl.at (parseSettings bytes).roles (roleNum r)).isSome s := by
      rw [← moduleAt_freshLink, moduleAt, moduleAt, link]
    rw [fresh]
    exact ⟨rfl, rfl⟩
  · rw [if_pos (settled.mode.trans hidle)] at ended ⊢
    exact listPut_of_attached settled ended

/-- Settles O45, by the three ends of the attach read and the header write. -/
theorem attachReadAndHeaderWrite : Obligations.AttachReadAndHeaderWrite := by
  refine ⟨fun s a only => ⟨?_, fun bytes hlen => ⟨fun other => ?_, fun format rest => ?_⟩⟩, fun s a only => ?_⟩
  · rw [exec_attachReadDone, readDone_of_only only (by rfl)]
    rfl
  · rw [exec_attachReadDone, readDone_of_only only (readFits_data hlen), attachEnds_of_other other]
    rfl
  · obtain ⟨settings, modules, ⟨v, ended⟩, standby⟩ := attachCompletes (bytes := bytes) rest
    refine ⟨attachDone bytes (withPortFree s), ?_, ended.config, settings, modules, ended.exch, ended.header, ended.current,
      ended.waiting.trans only.2.1, standby, ended.lines, ended.garments⟩
    rw [exec_attachReadDone, readDone_of_only only (readFits_data hlen), attachEnds_of_format format]
  · rw [exec_attachHeaderWriteDone, exec_attachHeaderWriteDone, writeDone_of_only only, writeDone_of_only only]
    exact ⟨rfl, rfl⟩

end Sys2Proof.Machine
end

section
/-! PROOFS. The snapshot read of a RUN request, its checks, and the request's acceptance in IDLE and HOLD (R174, R175, R177). -/

namespace Sys2Proof.Machine

-- Elaborated all at once, the proofs of this text start more threads than the check's memory limit lets it.
set_option Elab.async false

/-! ## Entry to a mode -/

/-- What an entry to WARMING, RUN or HOLD can change: the line controller but for its list, whether a home is asked for, the ticking, and the sampler's reads. -/
structure Enters (s t : State) : Prop where
  frame :
    t = { s with
      ctl := t.ctl, carousel := { s.carousel with homeAsked := t.carousel.homeAsked }, dryer := t.dryer, flash := t.flash
      link := { s.link with places := t.link.places }, reports := t.reports }
  places : ∀ q, q ≠ .sampler → placeAt t q = placeAt s q
  commands : t.ctl.commands = s.ctl.commands

theorem Enters.refl (s : State) : Enters s s := ⟨rfl, fun _ _ => rfl, rfl⟩

theorem Enters.trans {s t u : State} (h : Enters s t) (k : Enters t u) : Enters s u := by
  refine ⟨?_, fun q hq => (k.places q hq).trans (h.places q hq), k.commands.trans h.commands⟩
  rw [k.frame, h.frame]

theorem Enters.of_ctl {s : State} {c : LineCtl} {r : Reports} (h : c.commands = s.ctl.commands) :
    Enters s { s with ctl := c, reports := r } := ⟨rfl, fun _ _ => rfl, h⟩

theorem Samples.enters {s t : State} (h : Samples s t) : Enters s t := by
  refine ⟨?_, h.places, ?_⟩
  · rw [h.frame]
  · rw [h.frame]

theorem enters_startTicking (s : State) : Enters s (startTicking s) := by
  have ticked (d : Dryer) : Enters s (s.setDryer d) := ⟨rfl, fun _ _ => rfl, rfl⟩
  exact (ticked _).trans (samples_askReads ..).enters

theorem startTicking_ticking (s : State) : (startTicking s).dryer.ticking = true := by
  rw [startTicking, (samples_askReads ..).frame]
  rfl

theorem enters_ensureTicking (s : State) : Enters s (ensureTicking s) := by
  unfold ensureTicking
  split
  · exact .refl s
  · exact enters_startTicking s

theorem ensureTicking_ticking (s : State) : (ensureTicking s).dryer.ticking = true := by
  unfold ensureTicking
  split
  · next h => exact h
  · exact startTicking_ticking s

theorem enters_askHome (s : State) : Enters s (askHome s) := by
  unfold askHome
  split
  · exact .refl s
  · exact ⟨rfl, fun _ _ => rfl, rfl⟩

theorem enters_enterWarming (s : State) : Enters s (enterWarming s) := by
  have timed : Enters s (s.setCtl { s.ctl with warmup := some (timerFrom s (s.config.warmupLimit * Config.ticksPerSecond)) }) := .of_ctl rfl
  unfold enterWarming
  dsimp only
  split
  · exact timed.trans ⟨rfl, fun _ _ => rfl, rfl⟩
  · exact timed.trans (enters_startTicking _)

theorem enterWarming_ctl (s : State) :
    (enterWarming s).ctl = { s.ctl with warmup := some { start := s.clock, limit := s.config.warmupLimit * 100000 } } := by
  unfold enterWarming
  dsimp only
  split
  · rfl
  · rw [(startTicking_frame _).2.2.2.2.2.1]
    rfl

theorem enterWarming_ticking (s : State) : (enterWarming s).dryer.ticking = true := by
  unfold enterWarming
  dsimp only
  split
  · next h => exact h
  · exact startTicking_ticking _

theorem enters_enterRun (s : State) : Enters s (enterRun s) := by
  have stopped : Enters s (stopWarmup s) := ⟨rfl, fun _ _ => rfl, rfl⟩
  have ticked := stopped.trans (enters_ensureTicking (stopWarmup s))
  unfold enterRun
  dsimp only
  split
  · exact ticked
  · exact ticked.trans (enters_askHome _)

theorem askHome_ctl (s : State) : (askHome s).ctl = s.ctl := by
  unfold askHome
  split <;> rfl

theorem askHome_dryer (s : State) : (askHome s).dryer = s.dryer := by
  unfold askHome
  split <;> rfl

theorem enterRun_ctl (s : State) : (enterRun s).ctl = { s.ctl with warmup := none } := by
  have ticked : (ensureTicking (stopWarmup s)).ctl = { s.ctl with warmup := none } := by
    unfold ensureTicking
    split
    · rfl
    · rw [(startTicking_frame _).2.2.2.2.2.1]
      rfl
  unfold enterRun
  dsimp only
  split
  · exact ticked
  · rw [askHome_ctl, ticked]

theorem enterRun_ticking (s : State) : (enterRun s).dryer.ticking = true := by
  unfold enterRun
  dsimp only
  split
  · exact ensureTicking_ticking _
  · rw [askHome_dryer, ensureTicking_ticking]

/-- A home is asked for at the entry to RUN of an unhomed carousel, unless one is in flight. -/
theorem enterRun_homeAsked {s : State} (unhomed : s.carousel.homed = false) (rest : s.carousel.op = .none) :
    (enterRun s).carousel.homeAsked = true := by
  have same : (ensureTicking (stopWarmup s)).carousel = { s.carousel with homeAsked := (ensureTicking (stopWarmup s)).carousel.homeAsked } := by
    rw [(enters_ensureTicking (stopWarmup s)).frame]
    rfl
  have still : (ensureTicking (stopWarmup s)).carousel.homed = false := by rw [same]; exact unhomed
  have quiet : homing (ensureTicking (stopWarmup s)) = false := by
    rw [homing, same]
    simp [rest]
  unfold enterRun
  dsimp only
  rw [still, askHome, quiet]
  rfl

/-! ## A request accepted -/

/-- The modules of a state that an entry to a mode leaves. -/
theorem Enters.moduleAt {s t : State} (h : Enters s t) (r : Role) : moduleAt t r = moduleAt s r := by
  unfold Machine.moduleAt
  rw [h.frame]

theorem enters_followModules {s : State} (h : ∀ r, (moduleAt s r).state ≠ .lost) : Enters s (followModules s) := by
  rw [followModules_of_reachable h]
  exact .of_ctl rfl

/-- What an accepted request leaves, no module being LOST. -/
structure RunAccepted (s t : State) : Prop where
  enters : Enters s t
  mode : t.ctl.mode = if s.ctl.warm then .run else .warming
  causes : t.ctl.causes = { s.ctl.causes with host := false, warmupTimeout := false, moduleLost := false }
  request : t.ctl.request = .absent
  drain : t.ctl.drain = false
  warmup : s.ctl.warm = false → t.ctl.warmup = some { start := s.clock, limit := s.config.warmupLimit * 100000 }
  ticking : t.dryer.ticking = true
  home : s.ctl.warm = true → s.carousel.homed = false → s.carousel.op = .none → t.carousel.homeAsked = true

/-- The request is taken and the drain flag cleared, with the mode and the causes of an acceptance. -/
def acceptedLine (m : Mode) (s : State) : State :=
  setLine m { s.ctl.causes with host := false, warmupTimeout := false } (s.setCtl { s.ctl with request := .absent, drain := false })

theorem acceptRun_eq {s : State} (hmode : s.ctl.mode = .idle ∨ s.ctl.mode = .hold) :
    acceptRun s = followModules (if s.ctl.warm then enterRun (acceptedLine .run s) else enterWarming (acceptedLine .warming s)) := by
  have other (m : Mode) (hm : m = .run ∨ m = .warming) (c : Causes) (u : State) (hu : u.ctl.mode = s.ctl.mode) :
      changeLine m c u = enterMode m (setLine m c u) := by
    refine if_neg ?_
    rw [hu]
    rcases hmode with h | h <;> rcases hm with rfl | rfl <;> rw [h] <;> decide
  unfold acceptRun moveLine
  cases s.ctl.warm with
  | true => exact congrArg followModules (other .run (.inl rfl) _ (s.setCtl { s.ctl with request := .absent, drain := false }) rfl)
  | false => exact congrArg followModules (other .warming (.inr rfl) _ (s.setCtl { s.ctl with request := .absent, drain := false }) rfl)

theorem acceptedLine_eq (m : Mode) (s : State) :
    acceptedLine m s =
      { s with
        ctl :=
          { s.ctl with
            request := .absent, drain := false, mode := m, causes := { s.ctl.causes with host := false, warmupTimeout := false } }
        reports := (acceptedLine m s).reports } := setLine_eq ..

theorem enters_acceptedLine (m : Mode) (s : State) : Enters s (acceptedLine m s) := by
  rw [acceptedLine_eq]
  exact .of_ctl rfl

/-- MODULE_LOST alone may leave the causes at the end. -/
theorem followed_running {s : State} (h : ∀ r, (moduleAt s r).state ≠ .lost) (hmode : s.ctl.mode = .run ∨ s.ctl.mode = .warming) :
    (followModules s).ctl = { s.ctl with causes := { s.ctl.causes with moduleLost := false } } ∧
      (followModules s).dryer = s.dryer ∧ (followModules s).carousel = s.carousel := by
  have busy : s.ctl.mode ≠ .idle := by rcases hmode with h | h <;> rw [h] <;> decide
  rw [followModules_of_reachable h, if_neg busy]
  exact ⟨rfl, rfl, rfl⟩

theorem runAccepted {s : State} (hmode : s.ctl.mode = .idle ∨ s.ctl.mode = .hold) (h : ∀ r, (moduleAt s r).state ≠ .lost) :
    RunAccepted s (acceptRun s) := by
  rw [acceptRun_eq hmode]
  cases warm : s.ctl.warm with
  | true =>
    have line := enters_acceptedLine .run s
    have lined := acceptedLine_eq .run s
    generalize acceptedLine .run s = u at line lined
    have entered := line.trans (enters_enterRun u)
    have ctl := enterRun_ctl u
    have ticking := enterRun_ticking u
    have home := enterRun_homeAsked (s := u)
    have reach (r : Role) : (moduleAt (enterRun u) r).state ≠ .lost := by rw [entered.moduleAt]; exact h r
    generalize enterRun u = v at entered ctl ticking home reach
    rw [if_pos rfl]
    have uctl : u.ctl = _ := congrArg State.ctl lined
    have ucar : u.carousel = s.carousel := by rw [lined]
    rw [uctl] at ctl
    obtain ⟨fctl, fdryer, fcar⟩ := followed_running reach (.inl (by rw [ctl]))
    refine ⟨entered.trans (enters_followModules reach), ?_, ?_, ?_, ?_, fun k => (by cases warm.symm.trans k), by rw [fdryer, ticking],
      fun _ unhomed rest => ?_⟩
    · rw [fctl, ctl, warm]; rfl
    · rw [fctl, ctl]
    · rw [fctl, ctl]
    · rw [fctl, ctl]
    · rw [fcar]
      exact home (by rw [ucar]; exact unhomed) (by rw [ucar]; exact rest)
  | false =>
    have line := enters_acceptedLine .warming s
    have lined := acceptedLine_eq .warming s
    generalize acceptedLine .warming s = u at line lined
    have entered := line.trans (enters_enterWarming u)
    have ctl := enterWarming_ctl u
    have ticking := enterWarming_ticking u
    have reach (r : Role) : (moduleAt (enterWarming u) r).state ≠ .lost := by rw [entered.moduleAt]; exact h r
    generalize enterWarming u = v at entered ctl ticking reach
    rw [if_neg Bool.false_ne_true]
    have uctl : u.ctl = _ := congrArg State.ctl lined
    have uclock : u.clock = s.clock := by rw [lined]
    have uconfig : u.config = s.config := by rw [lined]
    rw [uctl, uclock, uconfig] at ctl
    obtain ⟨fctl, fdryer, fcar⟩ := followed_running reach (.inr (by rw [ctl]))
    refine ⟨entered.trans (enters_followModules reach), ?_, ?_, ?_, ?_, fun _ => ?_, by rw [fdryer, ticking],
      fun k => (by cases warm.symm.trans k)⟩
    · rw [fctl, ctl, warm]; rfl
    · rw [fctl, ctl]
    · rw [fctl, ctl]
    · rw [fctl, ctl]
    · rw [fctl, ctl]

end Sys2Proof.Machine
end

section
/-! PROOFS. The accesses of the snapshot read, its checks, and what its request comes to (R174, R175). -/

namespace Sys2Proof.Machine

-- Elaborated all at once, the proofs of this text start more threads than the check's memory limit lets it.
set_option Elab.async false

/-! ## The accesses of the snapshot read -/

theorem exec_snapshotReadDone (r : ReadResult) (s : State) :
    exec (.snapshotReadDone r) s = readDone .snapshot r (snapshotOutcome r) s := rfl

theorem snapshotOutcome_of_snapshot {s : State} {got : List Byte} {dropped : Bool} (h : s.exch.activity = some (.snapshot got dropped))
    (r : ReadResult) : snapshotOutcome r s = snapshotRead got dropped r s := by
  rw [snapshotOutcome, h]

theorem snapshotRead_of_part {got bytes : List Byte} (h : got.length + bytes.length < 1984) (dropped : Bool) (s : State) :
    snapshotRead got dropped (.data bytes) s =
      askPort (readAccess .snapshot (snapshotAddr s (got ++ bytes).length) catalogEntryBytes)
        (putActivity (some (.snapshot (got ++ bytes) dropped)) s) := by
  refine if_pos ?_
  rw [List.length_append]
  exact h

theorem snapshotRead_of_whole {got bytes : List Byte} (h : 1984 ≤ (got ++ bytes).length) (dropped : Bool) (s : State) :
    snapshotRead got dropped (.data bytes) s = snapshotEnds dropped (.data (got ++ bytes)) s := if_neg (Nat.not_lt.mpr h)

theorem snapshotEnds_dropped (r : ReadResult) (s : State) : snapshotEnds true r (withPortFree s) = Claims.snapshotOver s := rfl

theorem snapshotEnds_judged (r : ReadResult) (s : State) :
    snapshotEnds false r (withPortFree s) = judgeRun r (Claims.snapshotOver s) := rfl

theorem snapshotDone {s : State} {a : Access} {got : List Byte} {dropped : Bool} (reads : Claims.snapshotInProgress s a got dropped)
    {r : ReadResult} (fits : readFits a r = true) :
    exec (.snapshotReadDone r) s = .next (snapshotRead got dropped r (withPortFree s)) := by
  obtain ⟨only, activity⟩ := reads
  rw [exec_snapshotReadDone, readDone_of_only only fits, snapshotOutcome_of_snapshot (by exact activity)]

theorem refuseRun_snapshotOver {s : State} (hmode : s.ctl.mode = .idle ∨ s.ctl.mode = .hold) (detail value : Nat) :
    refuseRun detail value true (Claims.snapshotOver s) = Claims.runRefused detail value s := by
  rw [refuseRun_config (by rcases hmode with h | h <;> simp [Claims.snapshotOver, h])]
  rfl

theorem judgeRun_of_reading {s : State} (h : s.ctl.request = .reading) (bytes : List Byte) :
    judgeRun (.data bytes) s = checkRun bytes s ∧ judgeRun .error s = refuseRun 1 0 true s := ⟨if_pos h, if_pos h⟩

theorem snapshotReadGoesOn : Claims.SnapshotReadGoesOn := by
  intro s a got dropped reads
  refine ⟨fun hd => ?_, fun hd hreq hmode => ?_, fun base bytes hb hlen => ⟨fun part => ?_, fun whole hd => ?_⟩⟩
  · rw [snapshotDone reads (by rfl), hd]
    rfl
  · have judged := (judgeRun_of_reading (s := Claims.snapshotOver s) hreq []).2
    rw [snapshotDone reads (by rfl), hd, snapshotRead, snapshotEnds_judged, judged, refuseRun_snapshotOver hmode]
  · rw [snapshotDone reads (readFits_data hlen), snapshotRead_of_part part, snapshotAddr, baseAddr_of (by exact hb), List.length_append,
      askPort_of_free (by rfl)]
    rfl
  · rw [snapshotDone reads (readFits_data hlen), snapshotRead_of_whole (by rw [List.length_append]; exact whole), hd, snapshotEnds_dropped]

/-! ## The checks -/

theorem snapshotJudged {s : State} {bytes all : List Byte} (whole : Claims.snapshotWhole s bytes all) :
    exec (.snapshotReadDone (.data bytes)) s = .next (checkRun all (Claims.snapshotOver s)) := by
  obtain ⟨a, got, reads, hlen, rfl, long, hreq⟩ := whole
  rw [snapshotDone reads (readFits_data hlen), snapshotRead_of_whole long, snapshotEnds_judged,
    (judgeRun_of_reading (s := Claims.snapshotOver s) hreq _).1]

theorem checkRun_of_missing {all : List Byte} {r : Role} (h : missingRole (parseSettings (all.take 960)) = some r) (s : State) :
    checkRun all s = refuseRun 2 (roleNum r).val true s := by
  unfold checkRun
  rw [show headerConfigBytes = 960 from rfl]
  simp only [h]

theorem checkRun_of_shared {all : List Byte} {b : Byte} (h : missingRole (parseSettings (all.take 960)) = none)
    (hb : sharedAddress (parseSettings (all.take 960)) = some b) (s : State) : checkRun all s = refuseRun 3 b.toNat true s := by
  unfold checkRun
  rw [show headerConfigBytes = 960 from rfl]
  simp only [h, hb]

theorem checkRun_of_passed {all : List Byte} (h : missingRole (parseSettings (all.take 960)) = none)
    (hb : sharedAddress (parseSettings (all.take 960)) = none) (s : State) : checkRun all s = passRun all s := by
  unfold checkRun
  rw [show headerConfigBytes = 960 from rfl]
  simp only [h, hb]

theorem missingRole_spec {c : LinkSettings} {r : Role} (h : missingRole c = some r) :
    requiredRole r = true ∧ Tbl.at c.roles (roleNum r) = none := by
  have found := List.find?_some h
  simpa using found

theorem sharedAddress_spec {c : LinkSettings} {b : Byte} (h : sharedAddress c = some b) :
    ∃ p q : Role, p ≠ q ∧ Tbl.at c.roles (roleNum p) = some b ∧ Tbl.at c.roles (roleNum q) = some b := by
  obtain ⟨p, hp, hb⟩ := Option.bind_eq_some_iff.mp h
  have shares : sharesAddress c p = true := List.find?_some hp
  obtain ⟨-, other⟩ := Bool.and_eq_true_iff.mp shares
  obtain ⟨q, -, hq⟩ := List.any_eq_true.mp other
  obtain ⟨hne, same⟩ := Bool.and_eq_true_iff.mp hq
  exact ⟨p, q, (bne_iff_ne.mp hne).symm, hb, (eq_of_beq same).trans hb⟩

theorem snapshotReadIsChecked : Claims.SnapshotReadIsChecked := by
  intro s bytes all whole hmode new
  refine ⟨fun r missing => ?_, fun b present shared => ⟨sharedAddress_spec shared, ?_⟩⟩
  · obtain ⟨required, absent⟩ := missingRole_spec missing
    exact ⟨required, absent, by rw [snapshotJudged whole, checkRun_of_missing missing, refuseRun_snapshotOver hmode]⟩
  · rw [snapshotJudged whole, checkRun_of_shared present shared, refuseRun_snapshotOver hmode]

/-! ## The snapshots taken -/

/-- With no transaction in any place none completes LOST. -/
theorem loseAll_of_rest {s : State} (h : ∀ q, (placeAt s q).now = none) (p : Txn → Bool) : loseAll p s = s := by
  have one (q : Requester) : loseQueued p s q = s := by rw [loseQueued, h q]
  unfold loseAll
  induction allRequesters with
  | nil => rfl
  | cons q l ih => rw [List.foldl_cons, one, ih]

/-- The link after new settings. -/
def resettledLink (new : LinkSettings) (s : State) : State :=
  s.setLink { s.link with settings := some new, modules := Vector.ofFn fun r : Fin 13 => resettledModule new s r }

theorem moduleAt_resettledLink (new : LinkSettings) (s : State) (r : Role) :
    moduleAt (resettledLink new s) r = resettledModule new s (roleNum r) := by
  simp [moduleAt, resettledLink, State.setLink, Tbl.at]

/-- New settings make no module LOST. -/
theorem resettledLink_reachable {s : State} (h : ∀ r, (moduleAt s r).state ≠ .lost) (new : LinkSettings) (r : Role) :
    (moduleAt (resettledLink new s) r).state ≠ .lost := by
  have entry : resettledModule new s (roleNum r) = moduleAt s r ∨
      resettledModule new s (roleNum r) = freshModule (Tbl.at new.roles (roleNum r)).isSome s :=
    (ite_eq_or_eq ..)
  rw [moduleAt_resettledLink]
  rcases entry with e | e
  · rw [e]
    exact h r
  · rw [e]
    exact ModuleState.noConfusion

theorem takeSettings_of_rest {s : State} (rest : Claims.linkAtRest s) (new : LinkSettings) :
    takeSettings new s = followModules (resettledLink new s) := by
  have quiet := loseAll_of_rest (s := resettledLink new s) rest.2
  unfold takeSettings
  exact congrArg followModules (quiet _)

/-- The state in which the enable values of a taken request stand. -/
def runEnabled (all : List Byte) (s : State) : State := takeEnables (parseConfig (all.take 960)).enables (runTaken all s)

/-- The state in which the run list of a taken request is put on. -/
def runSettled (all : List Byte) (s : State) : State := takeSettings (parseSettings (all.take 960)) (runEnabled all s)

theorem takeRun_of_settled (all : List Byte) (s : State) : takeRun all s = putCommands (runList (runSettled all s)) (runSettled all s) := rfl

theorem platenOf_runEnabled (all : List Byte) (s : State) (p : Fin 12) :
    platenOf (runEnabled all s) p = enablePlaten (Tbl.at (parseConfig (all.take 960)).enables p) (platenOf s p) := by
  simp [platenOf, runEnabled, takeEnables, State.setCarousel, runTaken, State.setConfig, State.setCatalog, Tbl.at]

theorem linkAtRest_congr {s t : State} (link : t.link = s.link) (h : Claims.linkAtRest s) : Claims.linkAtRest t := by
  unfold Claims.linkAtRest moduleAt placeAt at *
  rw [link]
  exact h

theorem takeSettings_eq {s : State} (rest : Claims.linkAtRest s) (new : LinkSettings) :
    ∃ reports, takeSettings new s =
      { s with
        link := (resettledLink new s).link
        ctl := { s.ctl with causes := if s.ctl.mode = .idle then s.ctl.causes else { s.ctl.causes with moduleLost := false } }
        reports := reports } :=
  ⟨_, (takeSettings_of_rest rest new).trans (followModules_of_reachable (resettledLink_reachable rest.1 new))⟩

theorem runEnabled_eq (all : List Byte) (s : State) :
    runEnabled all s =
      { s with
        config := parseConfig (all.take 960), catalog := some (parseCatalog (all.drop 960)), carousel := (runEnabled all s).carousel } :=
  rfl

/-- What the taken snapshots leave before the run list. -/
structure SettledRun (all : List Byte) (s u : State) : Prop where
  config : u.config = parseConfig (all.take 960)
  catalog : u.catalog = some (parseCatalog (all.drop 960))
  settings : u.link.settings = some (parseSettings (all.take 960))
  reach : ∀ r, (moduleAt u r).state ≠ .lost
  place : ∀ q, placeAt u q = placeAt s q
  exch : u.exch = s.exch
  clock : u.clock = s.clock
  dryer : u.dryer = s.dryer
  lines : u.lines = s.lines
  garments : u.garments = s.garments
  carousel : u.carousel = { s.carousel with platens := u.carousel.platens }
  platens : ∀ p, platenOf u p = enablePlaten (Tbl.at (parseConfig (all.take 960)).enables p) (platenOf s p)
  ctl :
    u.ctl = { s.ctl with causes := if s.ctl.mode = .idle then s.ctl.causes else { s.ctl.causes with moduleLost := false } }

theorem settledRun {s : State} (rest : Claims.linkAtRest s) (all : List Byte) : SettledRun all s (runSettled all s) := by
  have enabled := runEnabled_eq all s
  have platens := platenOf_runEnabled all s
  have carousel : (runEnabled all s).carousel = { s.carousel with platens := (runEnabled all s).carousel.platens } := rfl
  unfold runSettled
  generalize runEnabled all s = e at enabled platens carousel
  have link : e.link = s.link := by rw [enabled]
  have quiet : Claims.linkAtRest e := linkAtRest_congr link rest
  have reach := resettledLink_reachable quiet.1 (parseSettings (all.take 960))
  obtain ⟨reports, run⟩ := takeSettings_eq quiet (parseSettings (all.take 960))
  generalize takeSettings (parseSettings (all.take 960)) e = u at run
  have relinked : u.link = (resettledLink (parseSettings (all.take 960)) e).link := by rw [run]
  have moved : u.carousel = e.carousel := by rw [run]
  refine ⟨by rw [run, enabled], by rw [run, enabled], by rw [relinked]; rfl, fun r => ?_, fun q => ?_, by rw [run, enabled],
    by rw [run, enabled], by rw [run, enabled], by rw [run, enabled], by rw [run, enabled], by rw [moved, carousel], fun p => ?_,
    by rw [run, enabled]⟩
  · rw [moduleAt, relinked, ← moduleAt]
    exact reach r
  · rw [placeAt, relinked, placeAt, ← link]
    rfl
  · rw [platenOf_congr moved, platens]

/-- The state with the run list put on. -/
structure ListedRun (all : List Byte) (s u t : State) : Prop where
  settled : SettledRun all s u
  lists : ListsOnly u t
  rest : t = { u with ctl := t.ctl, link := t.link, reports := t.reports }
  ctl : t.ctl = { u.ctl with commands := t.ctl.commands }
  eq : t = putCommands (presentOnly u (Claims.runCommands u)) u

theorem putCommands_rest (l : List Txn) (s : State) :
    putCommands l s = { s with ctl := (putCommands l s).ctl, link := (putCommands l s).link, reports := (putCommands l s).reports } := by
  refine state_eq_iff.mpr ?_
  simp

theorem listedRun {s : State} (rest : Claims.linkAtRest s) (all : List Byte) : ListedRun all s (runSettled all s) (takeRun all s) := by
  rw [takeRun_of_settled, runList_eq]
  exact ⟨settledRun rest all, listsOnly_putCommands .., putCommands_rest .., putCommands_ctl .., rfl⟩

/-- The claim on the snapshots taken, whatever of the mode, the ticking and the home is set after the list. -/
theorem snapshotTaken_of_enters {all : List Byte} {s c u v t : State} (freed : c.exch = { s.exch with activity := none })
    (place : placeAt c .line = placeAt s .line) (clock : c.clock = s.clock) (lines : c.lines = s.lines) (garments : c.garments = s.garments)
    (carousel : c.carousel = s.carousel) (taken : ListedRun all c u v) (enters : Enters v t) : Claims.snapshotTaken s t all := by
  have settled := taken.settled
  have config : t.config = parseConfig (all.take 960) := by rw [enters.frame, taken.rest]; exact settled.config
  have texch : t.exch = u.exch := by rw [enters.frame, taken.rest]
  have run : Claims.runCommands t = Claims.runCommands u := by
    unfold Claims.runCommands
    rw [config, settled.config]
  refine ⟨config, ?_, ?_, ?_, fun p => ?_, ?_, ?_, ?_⟩
  · rw [enters.frame, taken.rest]
    exact settled.catalog
  · rw [enters.frame]
    exact (by rw [taken.lists.hands.link] : v.link.settings = u.link.settings).trans settled.settings
  · exact texch.trans (settled.exch.trans freed)
  · have same : platenOf t p = platenOf u p := by
      unfold platenOf
      rw [enters.frame, taken.rest]
    rw [same, settled.platens, platenOf_congr carousel, config]
    unfold enablePlaten
    split
    · next h => rw [h]
    · next g h => rw [h]
  · rw [run]
    refine listPut_of_after (u := u) ((settled.place _).trans place) (settled.clock.trans clock) ?_ ?_ texch
    · rw [enters.commands, taken.eq]
    · rw [← taken.eq]
      exact ⟨by rw [enters.frame], fun q hq => enters.places q fun e => by
        cases e
        exact hq Requester.noConfusion⟩
  · rw [enters.frame, taken.rest]
    exact settled.lines.trans lines
  · rw [enters.frame, taken.rest]
    exact settled.garments.trans garments

end Sys2Proof.Machine
end

section
/-! PROOFS. A RUN request whose snapshot passes the checks, in IDLE and in HOLD (R174, R175). -/

namespace Sys2Proof.Machine

-- Elaborated all at once, the proofs of this text start more threads than the check's memory limit lets it.
set_option Elab.async false

/-! ## CONFIG leaves the set -/

/-- The state after checks 1 to 3: the read is over, and CONFIG has left the hold-cause set. -/
def checkedState (s : State) : State := clearConfig (Claims.snapshotOver s)

theorem checkedState_eq (s : State) :
    checkedState s =
      { Claims.snapshotOver s with
        ctl := { s.ctl with causes := { s.ctl.causes with config := false } }, reports := (checkedState s).reports } := setLine_eq ..

theorem checkedState_reports (s : State) :
    (checkedState s).reports =
      if s.ctl.causes.config then Claims.lineModeRaised s.ctl.mode { s.ctl.causes with config := false } s else s.reports := by
  have same : s.ctl.causes = { s.ctl.causes with config := false } ↔ ¬s.ctl.causes.config = true := by
    cases s.ctl.causes with
    | mk host indexFault moduleLost warmupTimeout config => cases config <;> simp
  have line := setLine_causes { s.ctl.causes with config := false } (Claims.snapshotOver s)
  have reports : (checkedState s).reports =
      if s.ctl.causes = { s.ctl.causes with config := false } then s.reports
      else Claims.lineModeRaised s.ctl.mode { s.ctl.causes with config := false } s := congrArg State.reports line
  rw [reports]
  by_cases h : s.ctl.causes.config = true
  · rw [if_neg fun e => same.mp e h, if_pos h]
  · rw [if_pos (same.mpr h), if_neg h]

theorem passRun_of_idle {all : List Byte} {s : State} (h : s.ctl.mode = .idle) :
    passRun all (Claims.snapshotOver s) = acceptRun (takeRun all (checkedState s)) := by
  refine if_neg ?_
  rw [show clearConfig (Claims.snapshotOver s) = _ from checkedState_eq s]
  exact fun e => Mode.noConfusion (h.symm.trans e)

theorem passRun_of_hold {all : List Byte} {s : State} (h : s.ctl.mode = .hold) :
    passRun all (Claims.snapshotOver s) = answerHold all (checkedState s) := by
  refine if_pos ?_
  rw [show clearConfig (Claims.snapshotOver s) = _ from checkedState_eq s]
  exact h

theorem snapshotPassed {s : State} {bytes all : List Byte} (whole : Claims.snapshotWhole s bytes all)
    (present : missingRole (parseSettings (all.take 960)) = none) (distinct : sharedAddress (parseSettings (all.take 960)) = none) :
    exec (.snapshotReadDone (.data bytes)) s = .next (passRun all (Claims.snapshotOver s)) := by
  rw [snapshotJudged whole, checkRun_of_passed present distinct]

/-! ## The request taken -/

/-- The state with the run list put on, seen from the state in which the read ended. -/
structure TakenRun (all : List Byte) (s v : State) : Prop where
  taken : ∃ u, ListedRun all (checkedState s) u v
  reach : ∀ r, (moduleAt v r).state ≠ .lost
  ctl :
    v.ctl =
      { s.ctl with
        causes :=
          if s.ctl.mode = .idle then { s.ctl.causes with config := false }
          else { s.ctl.causes with config := false, moduleLost := false }
        commands := v.ctl.commands }
  clock : v.clock = s.clock
  config : v.config = parseConfig (all.take 960)
  dryer : v.dryer = s.dryer
  carousel : v.carousel = { s.carousel with platens := v.carousel.platens }

theorem takenRun {s : State} (rest : Claims.linkAtRest s) (all : List Byte) : TakenRun all s (takeRun all (checkedState s)) := by
  have checked := checkedState_eq s
  generalize hc : checkedState s = c at checked
  have link : c.link = s.link := by rw [checked]; rfl
  have quiet : Claims.linkAtRest c := linkAtRest_congr link rest
  have listed := listedRun quiet all
  generalize takeRun all c = v at listed
  generalize runSettled all c = u at listed
  have settled := listed.settled
  have lists := listed.lists
  have frame := listed.rest
  have carousel : v.carousel = u.carousel := by rw [frame]
  refine ⟨⟨u, hc.symm ▸ listed⟩, fun r => ?_, ?_, ?_, ?_, ?_, ?_⟩
  · have same : moduleAt v r = moduleAt u r := by
      unfold moduleAt
      rw [lists.hands.link]
    rw [same]
    exact settled.reach r
  · rw [listed.ctl, settled.ctl, checked]
  · rw [lists.clock, settled.clock, checked]
    rfl
  · rw [frame]
    exact settled.config
  · rw [frame]
    exact settled.dryer.trans (by rw [checked]; rfl)
  · rw [carousel, settled.carousel, checked]
    rfl

theorem snapshotTaken_of_takenRun {all : List Byte} {s v t : State} (taken : TakenRun all s v) (enters : Enters v t) :
    Claims.snapshotTaken s t all := by
  obtain ⟨u, listed⟩ := taken.taken
  have checked := checkedState_eq s
  refine snapshotTaken_of_enters (c := checkedState s) (by rw [checked]; rfl) ?_ (by rw [checked]; rfl) (by rw [checked]; rfl)
    (by rw [checked]; rfl) (by rw [checked]; rfl) listed enters
  rw [placeAt, checked]
  rfl

/-- What an accepted request leaves, seen from the state in which the read ended. -/
structure AnsweredRun (all : List Byte) (s t : State) : Prop where
  taken : Claims.snapshotTaken s t all
  mode : t.ctl.mode = if s.ctl.warm then .run else .warming
  causes : t.ctl.causes = { s.ctl.causes with host := false, warmupTimeout := false, config := false, moduleLost := false }
  request : t.ctl.request = .absent
  drain : t.ctl.drain = false
  warmup :
    s.ctl.warm = false → t.ctl.warmup = some { start := s.clock, limit := (parseConfig (all.take 960)).warmupLimit * 100000 }
  ticking : t.dryer.ticking = true
  homed : t.carousel.homed = s.carousel.homed
  home : s.ctl.warm = true → s.carousel.homed = false → s.carousel.op = .none → t.carousel.homeAsked = true

theorem answeredRun {s : State} (hmode : s.ctl.mode = .idle ∨ s.ctl.mode = .hold) (rest : Claims.linkAtRest s) (all : List Byte) :
    AnsweredRun all s (acceptRun (takeRun all (checkedState s))) := by
  have taken := takenRun rest all
  generalize takeRun all (checkedState s) = v at taken
  have ctl := taken.ctl
  have accepted := runAccepted (s := v) (by rw [ctl]; exact hmode) taken.reach
  have homed : (acceptRun v).carousel.homed = v.carousel.homed := by rw [accepted.enters.frame]
  generalize acceptRun v = t at accepted homed
  refine ⟨snapshotTaken_of_takenRun taken accepted.enters, by rw [accepted.mode, ctl], ?_, accepted.request, accepted.drain, fun cold => ?_,
    accepted.ticking, by rw [homed, taken.carousel], fun warm unhomed still => ?_⟩
  · rw [accepted.causes, ctl]
    rcases hmode with h | h <;> rw [h] <;> rfl
  · rw [accepted.warmup (by rw [ctl]; exact cold), taken.clock, taken.config]
  · exact accepted.home (by rw [ctl]; exact warm) (by rw [taken.carousel]; exact unhomed) (by rw [taken.carousel]; exact still)

theorem runIsAcceptedInIdle : Claims.RunIsAcceptedInIdle := by
  intro s bytes all whole present distinct idle cold rest
  have answered := answeredRun (.inl idle) rest all
  refine ⟨_, (snapshotPassed whole present distinct).trans (congrArg _ (passRun_of_idle idle)), answered.taken, ?_, answered.request,
    answered.drain, ?_, ?_, ?_, answered.warmup cold, answered.ticking⟩
  · rw [answered.mode, cold]
    rfl
  · rw [answered.causes]
  · rw [answered.causes]
  · rw [answered.causes]

/-! ## The answer in HOLD -/

/-- A cause that bars a RUN request in HOLD. -/
def barsRun (c : Causes) (homed : Bool) : Prop := c.moduleLost = true ∨ (c.indexFault = true ∧ (homed = true ∨ c.warmupTimeout = true))

theorem holdAnswer_of_barred {c : Causes} {homed : Bool} (h : barsRun c homed) : holdAnswer c homed = .refused := by
  obtain ⟨host, indexFault, moduleLost, warmupTimeout, config⟩ := c
  rcases h with h | ⟨h, k | k⟩
  · cases h
    cases homed <;> simp [holdAnswer, warmupOnly, homeOnly]
  · cases h
    cases k
    rfl
  · cases h
    cases k
    cases homed <;> rfl

theorem holdAnswer_of_accepted {c : Causes} {homed : Bool} (config : c.config = false) (h : ¬barsRun c homed)
    (ready : homed = true ∨ c.warmupTimeout = true) : holdAnswer c homed = .accepted ∧ c.indexFault = false ∧ c.moduleLost = false := by
  obtain ⟨fault, timeout⟩ := not_or.mp h
  have lost : c.moduleLost = false := Bool.eq_false_iff.mpr fault
  have index : c.indexFault = false := Bool.eq_false_iff.mpr fun e => timeout ⟨e, ready⟩
  refine ⟨?_, index, lost⟩
  have only : warmupOnly c = true := by simp [warmupOnly, lost, index, config]
  unfold holdAnswer
  rw [only]
  cases homed with
  | true => rfl
  | false =>
    rw [(ready.resolve_left Bool.false_ne_true : c.warmupTimeout = true)]
    rfl

theorem holdAnswer_of_pending {c : Causes} (config : c.config = false) (h : ¬barsRun c false) (timely : c.warmupTimeout = false) :
    holdAnswer c false = .pending ∧ c.moduleLost = false := by
  have lost : c.moduleLost = false := Bool.eq_false_iff.mpr (not_or.mp h).1
  refine ⟨?_, lost⟩
  simp [holdAnswer, homeOnly, timely, lost, config]

theorem answerHold_of_accepted {s : State} (h : holdAnswer s.ctl.causes s.carousel.homed = .accepted) (all : List Byte) :
    answerHold all s = acceptRun (takeRun all s) := by rw [answerHold, h]

theorem answerHold_of_pending {s : State} (h : holdAnswer s.ctl.causes s.carousel.homed = .pending) (all : List Byte) :
    answerHold all s = pendRun (takeRun all s) := by rw [answerHold, h]

theorem answerHold_of_refused {s : State} (h : holdAnswer s.ctl.causes s.carousel.homed = .refused) (all : List Byte) :
    answerHold all s = refuseRun 4 (causesCode s.ctl.causes) false s := by rw [answerHold, h]

theorem checkedState_causes (s : State) : (checkedState s).ctl.causes = { s.ctl.causes with config := false } := by rw [checkedState_eq]

theorem checkedState_homed (s : State) : (checkedState s).carousel.homed = s.carousel.homed := by
  rw [checkedState_eq]
  rfl

theorem snapshotAnswered {s : State} {bytes all : List Byte} (whole : Claims.snapshotWhole s bytes all)
    (present : missingRole (parseSettings (all.take 960)) = none) (distinct : sharedAddress (parseSettings (all.take 960)) = none)
    (hold : s.ctl.mode = .hold) : exec (.snapshotReadDone (.data bytes)) s = .next (answerHold all (checkedState s)) := by
  rw [snapshotPassed whole present distinct, passRun_of_hold hold]

theorem refusedInHold {s : State} (hold : s.ctl.mode = .hold) :
    refuseRun 4 (causesCode { s.ctl.causes with config := false }) false (checkedState s) =
      { Claims.snapshotOver s with
        ctl := { s.ctl with refused := true, request := .absent, causes := { s.ctl.causes with config := false } }
        reports :=
          pushIncident
            (if s.ctl.causes.config then Claims.lineModeRaised .hold { s.ctl.causes with config := false } s else s.reports)
            { incident .runRefused with
              detail := 4, value := causesCode { s.ctl.causes with config := false }, time := s.clock } } := by
  have reports := checkedState_reports s
  rw [hold] at reports
  rw [refuseRun_plain, Claims.raised, reports, checkedState_eq]
  rfl

/-- A request that is pending keeps the ticking and asks for a home unless one is in flight. -/
theorem pendedRun {s : State} (hold : s.ctl.mode = .hold) (lost : s.ctl.causes.moduleLost = false) (rest : Claims.linkAtRest s)
    (all : List Byte) :
    Claims.snapshotTaken s (pendRun (takeRun all (checkedState s))) all ∧
      (pendRun (takeRun all (checkedState s))).ctl =
        { s.ctl with
          request := .pendingHome, causes := { s.ctl.causes with config := false }
          commands := (pendRun (takeRun all (checkedState s))).ctl.commands } ∧
      (pendRun (takeRun all (checkedState s))).dryer = s.dryer ∧
      (pendRun (takeRun all (checkedState s))).carousel.homeAsked = (s.carousel.homeAsked || !homing s) := by
  have taken := takenRun rest all
  generalize takeRun all (checkedState s) = v at taken
  have pended : Enters v (v.setCtl { v.ctl with request := .pendingHome }) := ⟨rfl, fun _ _ => rfl, rfl⟩
  have home : homing v = homing s := by
    unfold homing
    rw [taken.carousel]
  refine ⟨snapshotTaken_of_takenRun taken (pended.trans (enters_askHome _)), ?_, ?_, ?_⟩
  · rw [pendRun, askHome_ctl]
    have ctl := taken.ctl
    rw [hold, if_neg (by decide)] at ctl
    have same : ({ s.ctl.causes with config := false, moduleLost := false } : Causes) = { s.ctl.causes with config := false } := by
      rw [← lost]
    rw [State.setCtl, ctl, same]
  · rw [pendRun, askHome_dryer]
    exact taken.dryer
  · have asked : v.carousel.homeAsked = s.carousel.homeAsked := by rw [taken.carousel]
    rw [pendRun, askHome, show homing (v.setCtl { v.ctl with request := .pendingHome }) = homing s from home]
    cases homing s with
    | true =>
      rw [if_pos rfl, Bool.not_true, Bool.or_false]
      exact asked
    | false =>
      rw [if_neg Bool.false_ne_true, Bool.not_false, Bool.or_true]
      rfl

theorem runIsAnsweredInHold : Claims.RunIsAnsweredInHold := by
  intro s bytes all whole present distinct hold left barred
  have passed := snapshotAnswered whole present distinct hold
  have causes := checkedState_causes s
  have homed := checkedState_homed s
  refine ⟨fun h => ?_, fun h rest ready => ?_, fun h rest unhomed timely => ?_⟩
  · rw [passed, answerHold_of_refused (by rw [causes, homed]; exact holdAnswer_of_barred h), causes, refusedInHold hold]
  · obtain ⟨answer, index, lost⟩ := holdAnswer_of_accepted (c := left) rfl h ready
    have answered := answeredRun (.inr hold) rest all
    rw [answerHold_of_accepted (by rw [causes, homed]; exact answer)] at passed
    generalize acceptRun (takeRun all (checkedState s)) = t at passed answered
    refine ⟨t, passed, answered.taken, answered.mode, answered.request, answered.drain, ?_, answered.homed, answered.home⟩
    rw [answered.causes, Causes.empty, ← index]
  · have open' : ¬barsRun left false := by
      rw [← unhomed]
      exact h
    obtain ⟨answer, lost⟩ := holdAnswer_of_pending (c := left) rfl open' timely
    rw [answerHold_of_pending (by rw [causes, homed, unhomed]; exact answer)] at passed
    have pended := pendedRun hold lost rest all
    generalize pendRun (takeRun all (checkedState s)) = t at passed pended
    exact ⟨t, passed, pended⟩

/-- Settles O44, by the accesses of the read, its checks, and its answers in IDLE and HOLD. -/
theorem snapshotReadJudgesTheRequest : Obligations.SnapshotReadJudgesTheRequest :=
  ⟨snapshotReadGoesOn, snapshotReadIsChecked, runIsAcceptedInIdle, runIsAnsweredInHold⟩

end Sys2Proof.Machine
end

section
/-! PROOFS. The dryer tick: zones, readiness, dose steps, odometer (R124 to R130, R135). -/

namespace Sys2Proof.Machine

-- Elaborated all at once, the proofs of this text start more threads than the check's memory limit lets it.
set_option Elab.async false

/-! ## The zones take their tick -/

/-- Of the whole state only the zones' sources change, and incidents are raised. -/
structure ZonesTick (s t : State) : Prop where
  frame : t = { s with dryer := { s.dryer with zones := t.dryer.zones }, reports := t.reports }

theorem ZonesTick.trans {s t u : State} (h : ZonesTick s t) (k : ZonesTick t u) : ZonesTick s u := ⟨by rw [k.frame, h.frame]⟩

theorem zoneIncident_eq (z : Fin 4) (old new : Source) (s : State) :
    zoneIncident z old new s = { s with reports := (zoneIncident z old new s).reports } := by
  unfold zoneIncident
  split
  · rw [raise_eq]
  · split
    · rw [raise_eq]
    · rfl

theorem zones_tickZone (s : State) (z : Fin 4) :
    (tickZone s z).dryer.zones = Tbl.put s.dryer.zones z (tickSource s.config.holdCount (zoneAt s z)) := by
  rw [tickZone, zoneIncident_eq]
  rfl

theorem zonesTick_tickZone (s : State) (z : Fin 4) : ZonesTick s (tickZone s z) := by
  refine ⟨?_⟩
  rw [tickZone, zoneIncident_eq]
  rfl

theorem zoneAt_tickZone (s : State) (z y : Fin 4) :
    zoneAt (tickZone s z) y = if z = y then tickSource s.config.holdCount (zoneAt s z) else zoneAt s y := by
  rw [zoneAt, zones_tickZone, Tbl.at_put]
  rfl

theorem zonesTick_foldl (l : List (Fin 4)) (s : State) : ZonesTick s (l.foldl tickZone s) := by
  induction l generalizing s with
  | nil => exact ⟨rfl⟩
  | cons z l ih => exact (zonesTick_tickZone s z).trans (ih _)

/-- Each zone of a list without repetition takes its tick once. -/
theorem zoneAt_foldl {l : List (Fin 4)} (once : l.Nodup) (s : State) (y : Fin 4) :
    zoneAt (l.foldl tickZone s) y = if y ∈ l then tickSource s.config.holdCount (zoneAt s y) else zoneAt s y := by
  induction l generalizing s with
  | nil => rfl
  | cons z l ih =>
    obtain ⟨fresh, rest⟩ := List.nodup_cons.mp once
    have config : (tickZone s z).config = s.config := by rw [(zonesTick_tickZone s z).frame]
    rw [List.foldl_cons, ih rest, config, zoneAt_tickZone]
    by_cases hz : z = y
    · subst hz
      rw [if_neg fresh, if_pos rfl, if_pos List.mem_cons_self]
    · rw [if_neg hz]
      simp only [List.mem_cons, Ne.symm hz, false_or]

/-- The state after step 1 of a tick. -/
def zonesTicked (s : State) : State := allZones.foldl tickZone (setNextTick s)

theorem zonesTicked_eq (s : State) :
    zonesTicked s =
      { s with
        dryer :=
          { s.dryer with
            periodMs := some s.config.periodMs, nextTick := s.dryer.nextTick + BitVec.ofNat 32 (s.config.periodMs * 100)
            zones := (zonesTicked s).dryer.zones }
        reports := (zonesTicked s).reports } := by
  have frame := (zonesTick_foldl allZones (setNextTick s)).frame
  unfold zonesTicked
  generalize allZones.foldl tickZone (setNextTick s) = u at frame
  rw [frame]
  rfl

theorem mem_allZones : ∀ z : Fin 4, z ∈ allZones := by decide

theorem zoneAt_zonesTicked (s : State) (z : Fin 4) : zoneAt (zonesTicked s) z = tickSource s.config.holdCount (zoneAt s z) := by
  have one := zoneAt_foldl (l := allZones) (by decide) (setNextTick s) z
  rw [if_pos (mem_allZones z)] at one
  exact one

/-! ## Readiness -/

theorem ensureTicking_of_ticking {s : State} (h : s.dryer.ticking = true) : ensureTicking s = s := if_pos h

/-- While the line ticks, MODULE_LOST concerns the mode, the causes and the warm-up timer alone. -/
theorem followModules_of_ticking {s : State} (h : s.dryer.ticking = true) :
    followModules s = { s with ctl := (followModules s).ctl, reports := (followModules s).reports } := by
  unfold followModules
  split
  · rfl
  · split
    · obtain ⟨warmup, held⟩ := holdWith_of_ticking h { s.ctl.causes with moduleLost := true }
      rw [held]
    · rw [setLine_eq]

theorem enterRun_of_ticking {s : State} (h : s.dryer.ticking = true) :
    enterRun s =
      { s with
        ctl := { s.ctl with warmup := none }
        carousel := { s.carousel with homeAsked := (enterRun s).carousel.homeAsked } } := by
  have quiet : ensureTicking (stopWarmup s) = stopWarmup s := ensureTicking_of_ticking h
  unfold enterRun askHome
  dsimp only
  rw [quiet]
  split
  · rfl
  · split <;> rfl

/-- A tick counts the readiness of the zones on a line that ticks. -/
def countedReady (s : State) : State := s.setDryer { s.dryer with ready := Vector.ofFn fun z : Fin 4 => readyAfter s z }

theorem tickReadiness_of_other {s : State} (h : s.ctl.mode ≠ .warming) : tickReadiness s = s := if_neg h

theorem tickReadiness_of_warming {s : State} (h : s.ctl.mode = .warming) :
    tickReadiness s = if zonesAreReady (countedReady s) then zonesReady (countedReady s) else countedReady s := if_pos h

theorem zonesReady_eq {s : State} (h : s.ctl.mode = .warming) :
    zonesReady s = followModules (enterRun (setLine .run s.ctl.causes (s.setCtl { s.ctl with warm := true }))) := by
  have other : ¬(s.setCtl { s.ctl with warm := true }).ctl.mode = .run := fun e => Mode.noConfusion (h.symm.trans e)
  rw [zonesReady, if_pos h, moveLine, changeLine, if_neg other]
  rfl

/-- RUN as a zones-ready notice enters it. -/
def warmedRun (s : State) : State := enterRun (setLine .run s.ctl.causes (s.setCtl { s.ctl with warm := true }))

theorem warmedRun_eq {s : State} (ticking : s.dryer.ticking = true) :
    warmedRun s =
      { s with
        ctl := { s.ctl with warm := true, mode := .run, warmup := none }
        carousel := { s.carousel with homeAsked := (warmedRun s).carousel.homeAsked }, reports := (warmedRun s).reports } := by
  have line := setLine_eq .run s.ctl.causes (s.setCtl { s.ctl with warm := true })
  unfold warmedRun
  generalize setLine .run s.ctl.causes (s.setCtl { s.ctl with warm := true }) = u at line
  have entered := enterRun_of_ticking (s := u) (by rw [line]; exact ticking)
  generalize enterRun u = v at entered
  rw [entered, line]
  rfl

/-- What a zones-ready notice changes of a line that ticks. -/
theorem zonesReady_frame_of_ticking {s : State} (ticking : s.dryer.ticking = true) (h : s.ctl.mode = .warming) :
    zonesReady s =
      { s with
        ctl := (zonesReady s).ctl, carousel := { s.carousel with homeAsked := (zonesReady s).carousel.homeAsked }
        reports := (zonesReady s).reports } := by
  have eq : zonesReady s = followModules (warmedRun s) := zonesReady_eq h
  have warmed := warmedRun_eq ticking
  rw [eq]
  generalize warmedRun s = u at warmed
  have followed := followModules_of_ticking (s := u) (by rw [warmed]; exact ticking)
  generalize followModules u = v at followed
  rw [followed, warmed]

theorem zonesReady_enters_run {s : State} (ticking : s.dryer.ticking = true) (h : s.ctl.mode = .warming) (reach : requiredLost s = false) :
    (zonesReady s).ctl.mode = .run ∧ (zonesReady s).ctl.warm = true ∧ (zonesReady s).ctl.warmup = none := by
  have eq : zonesReady s = followModules (warmedRun s) := zonesReady_eq h
  have warmed := warmedRun_eq ticking
  have lost : requiredLost (warmedRun s) = false := by
    rw [← reach]
    unfold requiredLost moduleAt
    rw [warmed]
  rw [eq]
  generalize warmedRun s = u at warmed lost
  have mode : u.ctl.mode = .run := by rw [warmed]
  have followed : followModules u = setLine u.ctl.mode { u.ctl.causes with moduleLost := false } u := by
    rw [followModules, if_neg (by rw [mode]; exact Mode.noConfusion), lost, if_neg Bool.false_ne_true]
  rw [followed, setLine_eq, mode, warmed]
  exact ⟨rfl, rfl, rfl⟩

/-- What step 2 of a tick changes. -/
theorem tickReadiness_eq {s : State} (ticking : s.dryer.ticking = true) :
    tickReadiness s =
      { s with
        ctl := (tickReadiness s).ctl, carousel := { s.carousel with homeAsked := (tickReadiness s).carousel.homeAsked }
        dryer := { s.dryer with ready := (tickReadiness s).dryer.ready }, reports := (tickReadiness s).reports } := by
  by_cases h : s.ctl.mode = .warming
  · rw [tickReadiness_of_warming h]
    split
    · have ready := zonesReady_frame_of_ticking (s := countedReady s) ticking h
      generalize zonesReady (countedReady s) = u at ready
      rw [ready]
      rfl
    · rfl
  · rw [tickReadiness_of_other h]

theorem zonesAreReady_iff (s : State) : zonesAreReady s = true ↔ ∀ z : Fin 4, Tbl.at s.dryer.ready z = 2 := by
  unfold zonesAreReady
  rw [List.all_eq_true]
  constructor
  · intro h z
    have := h (Tbl.at s.dryer.ready z) (by simp [Tbl.at])
    simpa using this
  · intro h n hn
    obtain ⟨i, hi, rfl⟩ := List.mem_iff_getElem.mp hn
    have := h ⟨i, by simpa using hi⟩
    simpa [Tbl.at] using this

theorem tickReadiness_enters_run {s : State} (ticking : s.dryer.ticking = true) (h : s.ctl.mode = .warming) (reach : requiredLost s = false)
    (ready : ∀ z, 1 ≤ Tbl.at s.dryer.ready z ∧ (zoneAt s z).state = .fresh ∧ s.config.readyTemp ≤ (zoneAt s z).lastGood.getD 0) :
    (tickReadiness s).ctl.mode = .run ∧ (tickReadiness s).ctl.warm = true ∧ (tickReadiness s).ctl.warmup = none := by
  have all : zonesAreReady (countedReady s) = true := by
    refine (zonesAreReady_iff _).mpr fun z => ?_
    obtain ⟨once, fresh, hot⟩ := ready z
    have count : Tbl.at (countedReady s).dryer.ready z = readyAfter s z := by simp [countedReady, State.setDryer, Tbl.at]
    rw [count, readyAfter, if_pos ⟨fresh, hot⟩]
    omega
  rw [tickReadiness_of_warming h, if_pos all]
  exact zonesReady_enters_run (s := countedReady s) ticking h reach

/-! ## The dose steps -/

/-- Of the whole state only garment records change. -/
structure DosesOnly (s t : State) : Prop where
  frame : t = { s with garments := t.garments }

theorem DosesOnly.refl (s : State) : DosesOnly s s := ⟨rfl⟩

theorem DosesOnly.trans {s t u : State} (h : DosesOnly s t) (k : DosesOnly t u) : DosesOnly s u := ⟨by rw [k.frame, h.frame]⟩

theorem dosesOnly_changeGarment (g : Fin 32) (f : Garment → Garment) (s : State) : DosesOnly s (changeGarment g f s) := by
  refine ⟨?_⟩
  unfold changeGarment
  split <;> rfl

theorem dosesOnly_stepEntry (period : Nat) (s : State) (e : BeltEntry) : DosesOnly s (stepEntry period s e) := by
  unfold stepEntry doseStep
  split
  · exact .refl s
  · split
    · split
      · exact .refl s
      · split
        · exact .refl s
        · exact dosesOnly_changeGarment ..
    · exact .refl s

theorem dosesOnly_foldl (period : Nat) (l : List BeltEntry) (s : State) : DosesOnly s (l.foldl (stepEntry period) s) := by
  induction l generalizing s with
  | nil => exact .refl s
  | cons e l ih => exact (dosesOnly_stepEntry period s e).trans (ih _)

/-- An entry of another garment leaves a record as it is. -/
theorem garmentAt_stepEntry_ne {g : Fin 32} {e : BeltEntry} (h : e.garment ≠ some g) (period : Nat) (s : State) :
    garmentAt (stepEntry period s e) g = garmentAt s g := by
  unfold stepEntry doseStep
  split
  · rfl
  · next o ho =>
    have other : o ≠ g := fun e' => h (by rw [ho, e'])
    split
    · split
      · rfl
      · split
        · rfl
        · rw [garmentAt_changeGarment, if_neg other]
    · rfl

theorem garmentAt_foldl_ne {g : Fin 32} {l : List BeltEntry} (h : ∀ e ∈ l, e.garment ≠ some g) (period : Nat) (s : State) :
    garmentAt (l.foldl (stepEntry period) s) g = garmentAt s g := by
  induction l generalizing s with
  | nil => rfl
  | cons e l ih =>
    rw [List.foldl_cons, ih fun x hx => h x (List.mem_cons_of_mem _ hx), garmentAt_stepEntry_ne (h e List.mem_cons_self)]

/-- The claim's place of a zone, and the zone that holds it. -/
theorem zoneStart_eq (s : State) (z : Fin 4) :
    zoneStart s z = (List.ofFn fun y : Fin 4 => if y < z then Tbl.at s.config.zoneLengths y else 0).sum := by
  unfold zoneStart allZones
  fin_cases z <;> simp [List.ofFn_succ]

theorem dryerLength_eq (s : State) :
    dryerLength s =
      Tbl.at s.config.zoneLengths 0 + Tbl.at s.config.zoneLengths 1 + Tbl.at s.config.zoneLengths 2 + Tbl.at s.config.zoneLengths 3 := by
  have list : s.config.zoneLengths.toList = List.ofFn fun z : Fin 4 => Tbl.at s.config.zoneLengths z := by
    refine List.ext_getElem (by rw [List.length_ofFn, Vector.length_toList]) fun i hi hj => ?_
    rw [List.getElem_ofFn, Vector.getElem_toList]
    rfl
  rw [dryerLength, list]
  simp [List.ofFn_succ]
  omega

theorem zoneStart_values (s : State) :
    zoneStart s 0 = 0 ∧ zoneStart s 1 = Tbl.at s.config.zoneLengths 0 ∧
      zoneStart s 2 = Tbl.at s.config.zoneLengths 0 + Tbl.at s.config.zoneLengths 1 ∧
      zoneStart s 3 = Tbl.at s.config.zoneLengths 0 + (Tbl.at s.config.zoneLengths 1 + Tbl.at s.config.zoneLengths 2) := by
  simp [zoneStart, allZones]

theorem zoneHolds_iff (s : State) (d : Nat) (z : Fin 4) :
    zoneHolds s d z = true ↔ zoneStart s z ≤ d ∧ d < zoneStart s z + Tbl.at s.config.zoneLengths z := by simp [zoneHolds]

theorem lt_dryerLength_of_zoneHolds {s : State} {d : Nat} {z : Fin 4} (h : zoneHolds s d z = true) : d < dryerLength s := by
  obtain ⟨-, below⟩ := (zoneHolds_iff ..).mp h
  obtain ⟨h0, h1, h2, h3⟩ := zoneStart_values s
  rw [dryerLength_eq]
  fin_cases z
  · replace below : d < zoneStart s 0 + Tbl.at s.config.zoneLengths 0 := below
    omega
  · replace below : d < zoneStart s 1 + Tbl.at s.config.zoneLengths 1 := below
    omega
  · replace below : d < zoneStart s 2 + Tbl.at s.config.zoneLengths 2 := below
    omega
  · replace below : d < zoneStart s 3 + Tbl.at s.config.zoneLengths 3 := below
    omega

/-- The zones do not overlap. -/
theorem zoneHolds_unique {s : State} {d : Nat} {y z : Fin 4} (hy : zoneHolds s d y = true) (hz : zoneHolds s d z = true) : y = z := by
  have apart {a b : Fin 4} (hab : a.val < b.val) (ha : zoneHolds s d a = true) (hb : zoneHolds s d b = true) : False := by
    obtain ⟨-, below⟩ := (zoneHolds_iff ..).mp ha
    obtain ⟨above, -⟩ := (zoneHolds_iff ..).mp hb
    have next : zoneStart s a + Tbl.at s.config.zoneLengths a ≤ zoneStart s b := by
      obtain ⟨h0, h1, h2, h3⟩ := zoneStart_values s
      fin_cases a <;> fin_cases b <;> simp at hab <;> simp only [Fin.zero_eta, Fin.mk_one, Fin.reduceFinMk, h0, h1, h2, h3] <;> omega
    omega
  rcases Nat.lt_trichotomy y.val z.val with h | h | h
  · exact (apart h hy hz).elim
  · exact Fin.ext h
  · exact (apart h hz hy).elim

theorem find?_zoneHolds {s : State} {d : Nat} {z : Fin 4} (h : zoneHolds s d z = true) : allZones.find? (zoneHolds s d) = some z := by
  cases found : allZones.find? (zoneHolds s d) with
  | none =>
    exact absurd h (List.find?_eq_none.mp found z (mem_allZones z))
  | some y => rw [zoneHolds_unique (List.find?_some found) h]

/-- A garment credited from a zone that yields a temperature or none. -/
theorem garmentAt_stepEntry_self {g : Fin 32} {r : Garment} {e : BeltEntry} {z : Fin 4} {s : State} (hr : garmentAt s g = some r)
    (he : e.garment = some g) (counted : e.counted = true) (inside : e.beyond = false)
    (holds : zoneHolds s (travelled s e.odo) z = true) (period : Nat) :
    garmentAt (stepEntry period s e) g = some (creditGarment s period (yielded (zoneAt s z)) r) := by
  have within : beyondAfter s e = false := by
    rw [beyondAfter, inside, Bool.false_or, decide_eq_false_iff_not]
    exact Nat.not_le.mpr (lt_dryerLength_of_zoneHolds holds)
  have stepped : stepEntry period s e = changeGarment g (creditGarment s period (yielded (zoneAt s z))) s := by
    simp only [stepEntry, he, counted, if_true, doseStep, within, find?_zoneHolds holds]
    rfl
  rw [stepped, garmentAt_changeGarment, if_pos rfl, hr]
  rfl

end Sys2Proof.Machine
end

section
/-! PROOFS. The dryer tick from end to end (R128): what it leaves of the tunnel, and a garment's dose. -/

namespace Sys2Proof.Machine

-- Elaborated all at once, the proofs of this text start more threads than the check's memory limit lets it.
set_option Elab.async false

/-! ## The overdue test -/

/-- Of the whole state only garment records change, in their OVERDUE flag alone, and incidents are raised. -/
structure MarksOverdue (s t : State) : Prop where
  frame : t = { s with garments := t.garments, reports := t.reports }
  record : ∀ g r, garmentAt s g = some r → ∃ overdue, garmentAt t g = some { r with overdue := overdue }

theorem MarksOverdue.refl (s : State) : MarksOverdue s s := ⟨rfl, fun _ r h => ⟨r.overdue, h⟩⟩

theorem MarksOverdue.trans {s t u : State} (h : MarksOverdue s t) (k : MarksOverdue t u) : MarksOverdue s u := by
  refine ⟨by rw [k.frame, h.frame], fun g r hr => ?_⟩
  obtain ⟨first, ht⟩ := h.record g r hr
  obtain ⟨second, hu⟩ := k.record g _ ht
  exact ⟨second, hu⟩

theorem marksOverdue_raiseOverdue (s : State) (e : BeltEntry) : MarksOverdue s (raiseOverdue s e) := by
  unfold raiseOverdue
  split
  · exact .refl s
  · next g _ =>
    split
    · exact .refl s
    · next r hr =>
      split
      · refine ⟨by rw [raise_eq]; rfl, fun h x hx => ?_⟩
        have same : garmentAt (raise { garmentIncident .overdue g r s with value := travelled s e.odo } (putGarment g { r with overdue := true } s)) h =
            if g = h then some { r with overdue := true } else garmentAt s h :=
          (garmentAt_congr (s := putGarment g { r with overdue := true } s) (by rw [raise_eq]) h).trans (garmentAt_putGarment ..)
        rw [same]
        by_cases hg : g = h
        · subst hg
          cases hr.symm.trans hx
          exact ⟨true, if_pos rfl⟩
        · exact ⟨x.overdue, by rw [if_neg hg]; exact hx⟩
      · exact .refl s

theorem marksOverdue_foldl (l : List BeltEntry) (s : State) : MarksOverdue s (l.foldl raiseOverdue s) := by
  induction l generalizing s with
  | nil => exact .refl s
  | cons e l ih => exact (marksOverdue_raiseOverdue s e).trans (ih _)

/-! ## The tunnel after a tick -/

theorem stepBelt_eq (period : Nat) (s : State) :
    stepBelt period s =
      { s with
        garments := (s.dryer.belt.foldl (stepEntry period) s).garments
        dryer := { s.dryer with belt := s.dryer.belt.map (steppedEntry s) } } := by
  have doses := (dosesOnly_foldl period s.dryer.belt s).frame
  unfold stepBelt
  generalize s.dryer.belt.foldl (stepEntry period) s = u at doses
  rw [doses]
  rfl

theorem testOverdue_eq (s : State) :
    testOverdue s =
      { s with
        garments := (s.dryer.belt.foldl raiseOverdue s).garments, reports := (s.dryer.belt.foldl raiseOverdue s).reports
        dryer := { s.dryer with belt := s.dryer.belt.map (markedEntry s) } } := by
  have marks := (marksOverdue_foldl s.dryer.belt s).frame
  unfold testOverdue
  generalize s.dryer.belt.foldl raiseOverdue s = u at marks
  rw [marks]
  rfl

theorem advance_eq (period : Nat) (s : State) :
    advance period s =
      { s with
        dryer :=
          { s.dryer with
            odometer :=
              if s.dryer.running then s.dryer.odometer + BitVec.ofNat 32 (s.config.beltSpeed * period) else s.dryer.odometer } } := by
  unfold advance
  split
  · rfl
  · rfl

/-- The state before the tunnel moves: the zones have taken their tick and the readiness counts theirs. -/
def readied (s : State) : State := tickReadiness (zonesTicked s)

/-- What steps 3 to 5 of a tick leave, from the state after step 2. -/
structure TunnelMoved (period : Nat) (u t : State) : Prop where
  ctl : t.ctl = u.ctl
  lines : t.lines = u.lines
  pack : t.pack = u.pack
  dryer :
    ∃ belt reads, t.dryer =
      { u.dryer with
        belt := belt, reads := reads
        odometer := if u.dryer.running then u.dryer.odometer + BitVec.ofNat 32 (u.config.beltSpeed * period) else u.dryer.odometer } ∧
      belt.map BeltEntry.garment = u.dryer.belt.map BeltEntry.garment ∧ ∀ e ∈ belt, e.counted = true
  record :
    ∀ g r, garmentAt (u.dryer.belt.foldl (stepEntry period) u) g = some r →
      ∃ overdue, garmentAt t g = some { r with overdue := overdue }

theorem counted_steppedEntry (s : State) (e : BeltEntry) : (steppedEntry s e).counted = true := by
  unfold steppedEntry
  split
  · next h => exact h.1
  · rfl

theorem garment_steppedEntry (s : State) (e : BeltEntry) : (steppedEntry s e).garment = e.garment := by
  unfold steppedEntry
  split <;> rfl

theorem tunnelMoved (period : Nat) (u : State) :
    TunnelMoved period u (askReads tickReads (testOverdue (advance period (stepBelt period u)))) := by
  have stepped := stepBelt_eq period u
  generalize stepBelt period u = a at stepped
  have moved := advance_eq period a
  generalize advance period a = b at moved
  have tested := testOverdue_eq b
  have marks := marksOverdue_foldl b.dryer.belt b
  have btested : (testOverdue b).garments = (b.dryer.belt.foldl raiseOverdue b).garments := by rw [tested]
  generalize testOverdue b = c at tested btested
  have reads := (samples_askReads tickReads c).frame
  generalize askReads tickReads c = t at reads
  have agarments : a.garments = (u.dryer.belt.foldl (stepEntry period) u).garments := by rw [stepped]
  have bgarments : b.garments = a.garments := by rw [moved]
  have tgarments : t.garments = c.garments := by rw [reads]
  have abelt : a.dryer.belt = u.dryer.belt.map (steppedEntry u) := by rw [stepped]
  have bbelt : b.dryer.belt = a.dryer.belt := by rw [moved]
  have adryer : a.dryer = { u.dryer with belt := a.dryer.belt } := by rw [stepped]
  have aconfig : a.config = u.config := by rw [stepped]
  have bdryer : b.dryer = _ := congrArg State.dryer moved
  have cdryer : c.dryer = { b.dryer with belt := b.dryer.belt.map (markedEntry b) } := by rw [tested]
  have tdryer : t.dryer = { c.dryer with reads := t.dryer.reads } := by rw [reads]
  refine ⟨by rw [reads, tested, moved, stepped], by rw [reads, tested, moved, stepped], by rw [reads, tested, moved, stepped],
    ⟨b.dryer.belt.map (markedEntry b), t.dryer.reads, ?_, ?_, fun e he => ?_⟩, fun g r hr => ?_⟩
  · rw [tdryer, cdryer, bdryer, adryer, aconfig]
  · rw [bbelt, abelt, List.map_map, List.map_map]
    refine List.map_congr_left fun e _ => ?_
    exact garment_steppedEntry u e
  · rw [bbelt, abelt, List.map_map] at he
    obtain ⟨x, -, rfl⟩ := List.mem_map.mp he
    exact counted_steppedEntry u x
  · have before : garmentAt b g = some r := by
      rw [garmentAt_congr (s := u.dryer.belt.foldl (stepEntry period) u) (bgarments.trans agarments), hr]
    obtain ⟨overdue, after⟩ := marks.record g r before
    exact ⟨overdue, (garmentAt_congr (tgarments.trans btested) g).trans after⟩

/-- What step 1 and step 2 leave of a tunnel that ticks. -/
structure Readied (s u : State) : Prop where
  dryer :
    u.dryer =
      { s.dryer with
        periodMs := some s.config.periodMs, nextTick := s.dryer.nextTick + BitVec.ofNat 32 (s.config.periodMs * 100)
        zones := u.dryer.zones, ready := u.dryer.ready }
  zones : ∀ z, zoneAt u z = tickSource s.config.holdCount (zoneAt s z)
  config : u.config = s.config
  lines : u.lines = s.lines
  pack : u.pack = s.pack
  garments : u.garments = s.garments
  other : s.ctl.mode ≠ .warming → u.ctl = s.ctl ∧ u.dryer.ready = s.dryer.ready

theorem readied_spec {s : State} (ticking : s.dryer.ticking = true) : Readied s (readied s) := by
  have ticked := zonesTicked_eq s
  have zones := zoneAt_zonesTicked s
  unfold readied
  generalize zonesTicked s = a at ticked zones
  have eq := tickReadiness_eq (s := a) (by rw [ticked]; exact ticking)
  have other := tickReadiness_of_other (s := a)
  generalize tickReadiness a = u at eq other
  have udryer : u.dryer = { a.dryer with ready := u.dryer.ready } := by rw [eq]
  have adryer : a.dryer = _ := congrArg State.dryer ticked
  have uzones : u.dryer.zones = a.dryer.zones := by rw [udryer]
  refine ⟨?_, fun z => ?_, by rw [eq, ticked], by rw [eq, ticked], by rw [eq, ticked], by rw [eq, ticked], fun hmode => ?_⟩
  · rw [udryer, adryer]
  · rw [zoneAt, uzones, ← zoneAt, zones]
  · rw [other (by rw [ticked]; exact hmode), ticked]
    exact ⟨rfl, rfl⟩

theorem readied_enters_run {s : State} (ticking : s.dryer.ticking = true) (warming : s.ctl.mode = .warming) (reach : requiredLost s = false)
    (ready : ∀ z, 1 ≤ Tbl.at s.dryer.ready z ∧ ∃ v, (zoneAt s z).received = some v ∧ s.config.readyTemp ≤ v) :
    (readied s).ctl.mode = .run ∧ (readied s).ctl.warm = true ∧ (readied s).ctl.warmup = none := by
  have ticked := zonesTicked_eq s
  have zones := zoneAt_zonesTicked s
  have lost : requiredLost (zonesTicked s) = false := by
    rw [← reach]
    unfold requiredLost moduleAt
    rw [ticked]
  unfold readied
  generalize zonesTicked s = a at ticked zones lost
  refine tickReadiness_enters_run (by rw [ticked]; exact ticking) (by rw [ticked]; exact warming) lost fun z => ?_
  obtain ⟨once, v, received, hot⟩ := ready z
  have aready : a.dryer.ready = s.dryer.ready := by rw [ticked]
  have aconfig : a.config = s.config := by rw [ticked]
  rw [aready, aconfig, zones, tickSource, received]
  exact ⟨once, rfl, hot⟩

/-! ## The tick -/

theorem exec_dryerPeriodTick (s : State) : exec .dryerPeriodTick s = whenDue (dryerTickDue s) dryerTick s := rfl

theorem dryerTickDue_iff (s : State) : dryerTickDue s = true ↔ s.dryer.ticking = true ∧ reached s s.dryer.nextTick = true :=
  Bool.and_eq_true_iff

theorem dryerTick_eq (s : State) :
    dryerTick s =
      askReads tickReads (testOverdue (advance (Claims.endedMs s) (stepBelt (Claims.endedMs s) (readied s)))) := rfl

theorem tickSource_of_received {hold v : Nat} {c : Source} (h : c.received = some v) :
    tickSource hold c = { received := none, lastGood := some v, age := 0, state := .fresh } := by rw [tickSource, h]

theorem tickSource_of_aged {hold v : Nat} {c : Source} (h : c.received = none) (hv : c.lastGood = some v) :
    tickSource hold c =
      { received := none, lastGood := some v, age := min 255 (c.age + 1), state := if c.age + 1 ≤ hold then .held else .stale } := by
  rw [tickSource, h]
  obtain ⟨received, lastGood, age, state⟩ := c
  cases h
  cases hv
  simp [ageSource, satAdd]

theorem dryerTickAdvancesTheTunnel : Claims.DryerTickAdvancesTheTunnel := by
  intro s
  rw [exec_dryerPeriodTick]
  refine ⟨fun early => whenDue_of_not_due (Bool.eq_false_iff.mpr fun d => early ((dryerTickDue_iff s).mp d)), fun ticking late =>
    ⟨dryerTick s, whenDue_of_due ((dryerTickDue_iff s).mpr ⟨ticking, late⟩), ?_⟩⟩
  have ready := readied_spec ticking
  have enters := readied_enters_run ticking
  have moved := tunnelMoved (Claims.endedMs s) (readied s)
  rw [dryerTick_eq]
  generalize readied s = u at ready enters moved
  generalize askReads tickReads (testOverdue (advance (Claims.endedMs s) (stepBelt (Claims.endedMs s) u))) = t at moved
  obtain ⟨belt, reads, dryer, same, counted⟩ := moved.dryer
  have udryer := ready.dryer
  have zones (z : Fin 4) : zoneAt t z = tickSource s.config.holdCount (zoneAt s z) := by
    rw [zoneAt, dryer]
    exact ready.zones z
  have running : u.dryer.running = s.dryer.running := by rw [udryer]
  have odometer : u.dryer.odometer = s.dryer.odometer := by rw [udryer]
  have ubelt : u.dryer.belt = s.dryer.belt := by rw [udryer]
  refine ⟨by rw [dryer, udryer]; exact ticking, by rw [dryer, udryer], by rw [dryer, udryer], ?_, ?_, ?_, by rw [dryer, udryer],
    moved.pack.trans ready.pack, moved.lines.trans ready.lines, fun z v hv => ?_, fun z v hn hv => ?_, fun hmode => ?_,
    fun hmode reach hot => ?_⟩
  · rw [dryer, ready.config, running, odometer]
  · rw [dryer]
    exact same.trans (by rw [ubelt])
  · rw [dryer]
    exact counted
  · rw [zones, tickSource_of_received hv]
  · rw [zones, tickSource_of_aged hn hv]
  · obtain ⟨ctl, counts⟩ := ready.other hmode
    exact ⟨moved.ctl.trans ctl, by rw [dryer]; exact counts⟩
  · rw [moved.ctl]
    exact enters hmode reach hot

/-! ## The dose of a garment -/

theorem creditGarment_dose (s : State) (period : Nat) (temp : Option Nat) (r : Garment) :
    (creditGarment s period temp r).dryerDose =
        Claims.doseAfter s.config.dryerBase s.config.dryerCeiling period r.dryerDose temp ∧
      (∀ v, temp = some v → (creditGarment s period temp r).peak = max r.peak v ∧ (creditGarment s period temp r).unverified = r.unverified) ∧
      (temp = none → (creditGarment s period temp r).peak = r.peak ∧ (creditGarment s period temp r).unverified = true) ∧
      (creditGarment s period temp r).flashDose = r.flashDose ∧ (creditGarment s period temp r).cond = r.cond ∧
      (creditGarment s period temp r).ink = r.ink := by
  cases temp with
  | none => exact ⟨rfl, nofun, fun _ => ⟨rfl, rfl⟩, rfl, rfl, rfl⟩
  | some t =>
    refine ⟨rfl, fun v hv => ?_, nofun, rfl, rfl, rfl⟩
    cases hv
    exact ⟨rfl, rfl⟩

/-- The record of a garment inside a zone after the dose steps of a whole belt. -/
theorem garmentAt_foldl_self {g : Fin 32} {r : Garment} {before after : List BeltEntry} {e : BeltEntry} {z : Fin 4} {u : State}
    (others : ∀ x ∈ before ++ after, x.garment ≠ some g) (he : e.garment = some g) (counted : e.counted = true)
    (inside : e.beyond = false) (hr : garmentAt u g = some r) (holds : zoneHolds u (travelled u e.odo) z = true) (period : Nat) :
    garmentAt ((before ++ e :: after).foldl (stepEntry period) u) g =
      some (creditGarment u period (yielded (zoneAt u z)) r) := by
  have doses := (dosesOnly_foldl period before u).frame
  have record := garmentAt_foldl_ne (fun x hx => others x (List.mem_append_left _ hx)) period u
  rw [List.foldl_append, List.foldl_cons, garmentAt_foldl_ne fun x hx => others x (List.mem_append_right _ hx)]
  generalize before.foldl (stepEntry period) u = b at doses record
  have zone : zoneAt b z = zoneAt u z := by rw [doses]; rfl
  have credit (temp : Option Nat) : creditGarment b period temp r = creditGarment u period temp r := by rw [doses]; rfl
  have there : zoneHolds b (travelled b e.odo) z = true := by rw [doses]; exact holds
  rw [garmentAt_stepEntry_self (record.trans hr) he counted inside there, zone, credit]

theorem dryerTickCreditsTheGarment : Claims.DryerTickCreditsTheGarment := by
  intro s before after e g r z ticking late hbelt others he counted inside hr above below
  have ready := readied_spec ticking
  have moved := tunnelMoved (Claims.endedMs s) (readied s)
  have run : exec .dryerPeriodTick s = .next (dryerTick s) :=
    whenDue_of_due ((dryerTickDue_iff s).mpr ⟨ticking, late⟩)
  rw [dryerTick_eq] at run
  generalize readied s = u at ready moved run
  generalize askReads tickReads (testOverdue (advance (Claims.endedMs s) (stepBelt (Claims.endedMs s) u))) = t at moved run
  have ubelt : u.dryer.belt = before ++ e :: after := by rw [ready.dryer]; exact hbelt
  have odometer : u.dryer.odometer = s.dryer.odometer := by rw [ready.dryer]
  have holds : zoneHolds u (travelled u e.odo) z = true := by
    rw [zoneHolds_iff, travelled, odometer, zoneStart_eq, ready.config]
    exact ⟨above, below⟩
  have record : garmentAt u g = some r := (garmentAt_congr ready.garments g).trans hr
  have dosed := garmentAt_foldl_self others he counted inside record holds (Claims.endedMs s)
  rw [← ubelt] at dosed
  obtain ⟨overdue, final⟩ := moved.record g _ dosed
  have temp : yielded (zoneAt u z) = Claims.tickTemp s.config.holdCount (zoneAt s z) := by rw [ready.zones, yielded_tickSource]
  rw [temp] at final
  obtain ⟨dose, hot, cold, kept⟩ := creditGarment_dose u (Claims.endedMs s) (Claims.tickTemp s.config.holdCount (zoneAt s z)) r
  rw [ready.config] at dose
  exact ⟨t, _, run, final, dose, hot, cold, kept⟩

/-- Settles O41, by the tunnel after a tick and the dose of a garment in it. -/
theorem dryerTickMovesAndDoses : Obligations.DryerTickMovesAndDoses := ⟨dryerTickAdvancesTheTunnel, dryerTickCreditsTheGarment⟩

end Sys2Proof.Machine
end

section
/-! PROOFS. The ends of a try: a display transaction accepted or silent, a probe, a declined transaction and a declined service (R158 to R167). -/

namespace Sys2Proof.Machine

-- Elaborated all at once, the proofs of this text start more threads than the check's memory limit lets it.
set_option Elab.async false

/-! ## What the end of a try runs -/

theorem exec_tryAccept (frame : List Byte) (s : State) : exec (.tryAccept frame) s = .next (endTry frame isAccept s) := rfl

theorem exec_tryDecline (frame : List Byte) (s : State) : exec (.tryDecline frame) s = .next (endTry frame isDecline s) := rfl

theorem exec_trySilence (frame : List Byte) (s : State) : exec (.trySilence frame) s = .next (endTry frame isSilence s) := rfl

theorem exec_tryAccept_of {s : State} {frame : List Byte} {o : OnLink} {word : Word} (ho : s.link.onLink = some o)
    (hc : classify o frame = .accept word) : exec (.tryAccept frame) s = .next (tryAccepted o word s) := by
  rw [exec_tryAccept, endTry, ho]
  simp only [hc]
  rfl

theorem exec_tryDecline_of {s : State} {frame : List Byte} {o : OnLink} (ho : s.link.onLink = some o)
    (hc : classify o frame = .decline) : exec (.tryDecline frame) s = .next (tryDeclined o s) := by
  rw [exec_tryDecline, endTry, ho]
  simp only [hc]
  rfl

theorem exec_trySilence_of {s : State} {frame : List Byte} {o : OnLink} (ho : s.link.onLink = some o)
    (hc : classify o frame = .silence) : exec (.trySilence frame) s = .next (trySilent o s) := by
  rw [exec_trySilence, endTry, ho]
  simp only [hc]
  rfl

theorem answersForRole_iff (s : State) (o : OnLink) : answersForRole s o = true ↔ roleAddr s o.role = some o.addr := beq_iff_eq

theorem onModule_of_answer {s : State} {o : OnLink} (h : roleAddr s o.role = some o.addr) (f : State → State) : onModule o f s = f s :=
  if_pos ((answersForRole_iff s o).mpr h)

theorem onModule_of_left {s : State} {o : OnLink} (h : roleAddr s o.role ≠ some o.addr) (f : State → State) : onModule o f s = s :=
  if_neg fun e => h ((answersForRole_iff s o).mp e)

/-! ## The link after an answer of a module that is PRESENT -/

/-- The link is free, and of the module table only silence counts of roles that answer may have changed. -/
structure Answered (o : OnLink) (s u : State) : Prop where
  frame : u = { s with link := { s.link with onLink := none, modules := u.link.modules } }
  states : ∀ r, (moduleAt u r).state = (moduleAt s r).state
  others : ∀ r, r ≠ o.role → moduleAt u r = moduleAt s r
  own : roleAddr s o.role = some o.addr → moduleAt u o.role = { moduleAt s o.role with silences := 0 }

theorem Answered.place {o : OnLink} {s u : State} (h : Answered o s u) (q : Requester) : placeAt u q = placeAt s q := by
  unfold placeAt
  rw [h.frame]

theorem Answered.unreachable {o : OnLink} {s u : State} (h : Answered o s u) (r : Role) : unreachable u r = unreachable s r := by
  unfold Machine.unreachable
  rw [h.states]
  unfold attached roleAddr
  rw [h.frame]

/-- The state in which an accepted try of a module goes to its carrier. -/
def answeredTry (o : OnLink) (s : State) : State := onModule o (moduleAccept o.role) (freeLink s)

theorem answered_of_present {o : OnLink} {s : State} (present : (moduleAt s o.role).state = .present) : Answered o s (answeredTry o s) := by
  have accepted : moduleAccept o.role (freeLink s) = putModule o.role { moduleAt s o.role with silences := 0 } (freeLink s) := by
    rw [moduleAccept, show (moduleAt (freeLink s) o.role).state = .present from present]
    rfl
  by_cases hr : roleAddr s o.role = some o.addr
  · have eq : answeredTry o s = putModule o.role { moduleAt s o.role with silences := 0 } (freeLink s) := by
      rw [answeredTry, onModule_of_answer (by exact hr), accepted]
    rw [eq]
    refine ⟨rfl, fun r => ?_, fun r h => ?_, fun _ => moduleAt_putModule_self ..⟩
    · rw [moduleAt_putModule]
      split
      · next h => rw [← h]
      · rfl
    · rw [moduleAt_putModule_ne _ _ h.symm]
      rfl
  · have eq : answeredTry o s = freeLink s := onModule_of_left (s := freeLink s) hr _
    rw [eq]
    exact ⟨rfl, fun _ => rfl, fun _ _ => rfl, fun h => absurd h hr⟩

theorem tryAccepted_of_requester {o : OnLink} {q : Requester} (ho : o.carrier = .requester q) {s : State} {w : Queued}
    (hw : (placeAt (answeredTry o s) q).now = some w) (word : Word) :
    tryAccepted o word s = complete q w.txn (.accept (acceptedFields o word)) (answeredTry o s) := by
  rw [tryAccepted, ho]
  simp only [show onModule o (moduleAccept o.role) (freeLink s) = answeredTry o s from rfl, hw]

/-- The state in which a requester takes its outcome: its place empty. -/
def placeEmptied (q : Requester) (u : State) : State := putPlace q { placeAt u q with now := none } u

theorem complete_eq (q : Requester) (x : Txn) (out : TxnOutcome) (u : State) :
    complete q x out u = drainKept q (placeAt u q).kept (deliver q x out (placeEmptied q u)) := rfl

/-! ## A display transaction -/

theorem deliver_display {q : Requester} (h : q = .load ∨ q = .pack) (x : Txn) (out : TxnOutcome) (s : State) : deliver q x out s = s := by
  rcases h with rfl | rfl <;> rfl

/-- The transactions a display requester kept change nothing but its place. -/
theorem drainKept_display {q : Requester} (h : q = .load ∨ q = .pack) (xs : List Txn) (s : State) :
    drainKept q xs s = { s with link := (drainKept q xs s).link } ∧ Hands (· = q) s (drainKept q xs s) := by
  induction xs generalizing s with
  | nil => exact ⟨rfl, .refl s⟩
  | cons x xs ih =>
    have kept : Hands (· = q) s (keep q xs s) := hands_putPlace (A := (· = q)) rfl ..
    unfold drainKept
    split
    · exact ⟨rfl, .refl s⟩
    · split
      · rw [deliver_display h]
        obtain ⟨frame, hands⟩ := ih (keep q xs s)
        exact ⟨frame.trans rfl, kept.trans hands⟩
      · exact ⟨rfl, kept.trans (hands_putPlace (A := (· = q)) rfl ..)⟩

theorem drainKept_head {q : Requester} {x : Txn} {xs : List Txn} {s : State} (hp : (placeAt s q).now = none)
    (hx : unreachable s x.role = false) :
    placeAt (drainKept q (x :: xs) s) q = { now := some (queuedNow x s), kept := xs } := by
  have empty : ¬(placeAt s q).now.isSome = true := by rw [hp]; exact Bool.false_ne_true
  have reach : ¬unreachable s x.role = true := by rw [hx]; exact Bool.false_ne_true
  rw [drainKept, if_neg empty, if_neg reach, enqueue, placeAt_putPlace_self, keep, placeAt_putPlace_self]
  rfl

/-- A display transaction that completes empties the place for what was kept. -/
structure DisplayDone (q : Requester) (u t : State) : Prop where
  frame : t = { u with link := { u.link with places := t.link.places } }
  others : ∀ p, p ≠ q → placeAt t p = placeAt u p
  empty : (placeAt u q).kept = [] → placeAt t q = { now := none, kept := [] }
  next : ∀ x xs, (placeAt u q).kept = x :: xs → unreachable u x.role = false → placeAt t q = { now := some (queuedNow x u), kept := xs }

theorem displayDone {q : Requester} (h : q = .load ∨ q = .pack) (x : Txn) (out : TxnOutcome) (u : State) :
    DisplayDone q u (complete q x out u) := by
  have cleared : placeAt (placeEmptied q u) q = { placeAt u q with now := none } := placeAt_putPlace_self ..
  obtain ⟨frame, hands⟩ := drainKept_display h (placeAt u q).kept (placeEmptied q u)
  have first : Hands (· = q) u (placeEmptied q u) := hands_putPlace (A := (· = q)) rfl ..
  have whole := first.trans hands
  rw [complete_eq, deliver_display h]
  refine ⟨?_, fun p hp => whole.places p hp, fun hk => ?_, fun y ys hk hy => ?_⟩
  · rw [← whole.link]
    exact frame
  · rw [hk, drainKept, cleared]
    simp only [hk]
  · rw [hk, drainKept_head (by rw [cleared]) (by rw [first.unreachable rfl]; exact hy)]
    rfl

theorem acceptCompletesTransaction : Claims.AcceptCompletesTransaction := by
  intro s frame o w q word ho hr hq display hc present hw
  have answered := answered_of_present (s := s) present
  refine ⟨_, exec_tryAccept_of ho hc, ?_⟩
  rw [tryAccepted_of_requester hq (by rw [answered.place]; exact hw)]
  generalize answeredTry o s = u at answered
  have done := displayDone display w.txn (.accept (acceptedFields o word)) u
  generalize complete q w.txn (.accept (acceptedFields o word)) u = t at done
  have modules (r : Role) : moduleAt t r = moduleAt u r := by
    unfold moduleAt
    rw [done.frame]
  refine ⟨by rw [done.frame, answered.frame], by rw [done.frame, answered.frame], by rw [done.frame, answered.frame], ?_, fun r h => ?_,
    fun p hp => ?_, fun hk => done.empty (by rw [answered.place]; exact hk), fun x xs hk hx => ?_⟩
  · rw [modules, answered.own hr, Claims.acceptedModule, if_pos present]
  · rw [modules, answered.others r h]
  · rw [done.others p hp, answered.place]
  · rw [done.next x xs (by rw [answered.place]; exact hk) (by rw [answered.unreachable]; exact hx), queuedNow]
    rw [show u.clock = s.clock by rw [answered.frame]]

/-! ## Probes -/

theorem tryAccepted_of_probe {o : OnLink} (ho : o.carrier = .probe) (word : Word) (s : State) : tryAccepted o word s = answeredTry o s := by
  rw [tryAccepted, ho]
  rfl

theorem followModules_of_idle {s : State} (h : s.ctl.mode = .idle) : followModules s = s := if_pos h

/-- A module comes back on a line in IDLE. -/
theorem moduleAccept_of_absent {r : Role} {s : State} (absent : (moduleAt s r).state ≠ .present) (idle : s.ctl.mode = .idle) :
    moduleAccept r s =
      raise { incident .moduleBack with detail := (roleNum r).val, value := if (moduleAt s r).state = .lost then 1 else 0 }
        (putModule r { state := .present, silences := 0, probe := none, probeReady := false } s) := by
  unfold moduleAccept
  split
  · next h => exact absurd h absent
  · next h =>
    rw [if_neg (by rw [h]; exact ModuleState.noConfusion)]
    exact followModules_of_idle (by rw [raise_eq]; exact idle)
  · next h =>
    rw [if_pos h]
    exact followModules_of_idle (by rw [raise_eq]; exact idle)

theorem acceptedProbeBringsModuleBack : Claims.AcceptedProbeBringsModuleBack := by
  intro s frame o word ho hr hq hc absent idle
  refine ⟨_, exec_tryAccept_of ho hc, ?_⟩
  rw [tryAccepted_of_probe hq, answeredTry, onModule_of_answer (by exact hr), moduleAccept_of_absent (by exact absent) (by exact idle),
    raise_eq]
  refine ⟨rfl, rfl, ?_, fun r h => ?_, rfl, rfl⟩
  · exact moduleAt_putModule_self ..
  · exact moduleAt_putModule_ne _ _ h.symm

theorem probeOfALeftAddressIsIdle : Claims.ProbeOfALeftAddressIsIdle := by
  intro s frame o ho hr hq freed
  have left (f : State → State) : onModule o f (freeLink s) = freeLink s := onModule_of_left (s := freeLink s) hr f
  refine ⟨fun word hc => ?_, fun hc => ?_, fun hc => ?_⟩
  · rw [exec_tryAccept_of ho hc, tryAccepted_of_probe hq, answeredTry, left]
    rfl
  · rw [exec_tryDecline_of ho hc, tryDeclined, hq]
    exact congrArg _ (left _)
  · have ended : silentEnd o (freeLink s) = freeLink s := by
      rw [silentEnd, hq]
      exact left _
    rw [exec_trySilence_of ho hc, trySilent, ended]
    exact congrArg _ (left _)

/-! ## Declines -/

theorem declineWaitsOutTheRetryGap : Claims.DeclineWaitsOutTheRetryGap := by
  intro s frame o w q ho hq hc hw tries kept reach
  have freed : placeAt (freeLink s) q = placeAt s q := rfl
  have waits : tryDeclined o s =
      putPlace q
        { placeAt s q with
          now := some { w with tries := w.tries + 1, state := .retryGap (s.clock + BitVec.ofNat 32 (o.settings.gap * 100)) } }
        (freeLink s) := by
    have reachable : ¬unreachable (freeLink s) w.txn.role = true := by
      rw [show unreachable (freeLink s) w.txn.role = unreachable s w.txn.role from rfl, reach]
      exact Bool.false_ne_true
    rw [tryDeclined, hq]
    simp only [freed, hw]
    rw [requesterDeclined, if_pos ⟨tries, kept⟩, if_neg reachable]
    rfl
  refine ⟨_, exec_tryDecline_of ho hc, ?_⟩
  rw [waits]
  exact ⟨rfl, rfl, rfl, rfl, placeAt_putPlace_self .., fun p hp => placeAt_putPlace_ne _ _ hp.symm⟩

theorem declinedServiceHoldsItsLine : Claims.DeclinedServiceHoldsItsLine := by
  intro s frame o v ho hq hc hv hstatus
  have ended : tryDeclined o s = endDeclined v (freeLink s) := by
    rw [tryDeclined, hq]
    simp only [show (freeLink s).link.service = some v from hv, serviceDeclined, hstatus]
  refine ⟨_, exec_tryDecline_of ho hc, ?_⟩
  rw [ended, endDeclined]
  have line (b : Fin 8) : attnAt (endService v (freeLink s)) b =
      if v.line = b then { attnAt s v.line with served := anyReady s } else attnAt s b := attnAt_putAttn ..
  refine ⟨rfl, rfl, rfl, ?_, ?_, fun b hb => ?_, rfl, rfl⟩
  · rw [attnAt_putAttn, if_pos rfl]
    rfl
  · rw [attnAt_putAttn, if_pos rfl, line, if_pos rfl]
  · rw [attnAt_putAttn, if_neg hb.symm, line, if_neg hb.symm]

/-! ## Silences -/

theorem loseAll_of_unpicked {p : Txn → Bool} {s : State} (h : ∀ q w, (placeAt s q).now = some w → p w.txn = false) : loseAll p s = s := by
  have one (q : Requester) : loseQueued p s q = s := by
    unfold loseQueued
    split
    · rfl
    · next w hw =>
      have unpicked : ¬p w.txn = true := by
        rw [h q w hw]
        exact Bool.false_ne_true
      split
      · rfl
      all_goals exact if_neg unpicked
  unfold loseAll
  induction allRequesters with
  | nil => rfl
  | cons q l ih => rw [List.foldl_cons, one, ih]

theorem lostReport_scanner {r : Role} (h : r = .loadScanner ∨ r = .packScanner) (s : State) : lostReport r s = s := by
  rcases h with rfl | rfl <;> rfl

/-- A scanner's module becomes LOST on a line in IDLE with no transaction for it. -/
theorem moduleLost_scanner {r : Role} {addr : Byte} {s : State} (scanner : r = .loadScanner ∨ r = .packScanner) (idle : s.ctl.mode = .idle)
    (unasked : ∀ q w, (placeAt s q).now = some w → w.txn.role ≠ r) :
    moduleLost r addr s =
      raise { incident .moduleLost with detail := (roleNum r).val, value := addr.toNat }
        (putModule r { state := .lost, silences := 3, probe := some (s.clock + 100000#32), probeReady := false } s) := by
  have told : moduleLost r addr s =
      loseAll (fun t => t.role == r)
        (raise { incident .moduleLost with detail := (roleNum r).val, value := addr.toNat }
          (putModule r { state := .lost, silences := 3, probe := some (s.clock + 100000#32), probeReady := false } s)) := by
    unfold moduleLost
    dsimp only
    rw [lostReport_scanner scanner, followModules_of_idle (by rw [raise_eq]; exact idle)]
    rfl
  rw [told]
  refine loseAll_of_unpicked fun q w hw => beq_eq_false_iff_ne.mpr (unasked q w ?_)
  rw [raise_eq] at hw
  exact hw

theorem trySilent_display {s : State} {o : OnLink} {q : Requester} {w : Queued} (hr : roleAddr s o.role = some o.addr)
    (hq : o.carrier = .requester q) (display : q = .load ∨ q = .pack) (hw : (placeAt s q).now = some w) (hk : (placeAt s q).kept = []) :
    trySilent o s = silence o.role o.addr (putPlace q { now := none, kept := [] } (freeLink s)) := by
  have ended : silentEnd o (freeLink s) = putPlace q { now := none, kept := [] } (freeLink s) := by
    rw [silentEnd, hq]
    simp only [show (placeAt (freeLink s) q).now = some w from hw]
    rw [complete_eq, deliver_display display, show (placeAt (freeLink s) q).kept = [] from hk, drainKept, placeEmptied,
      show placeAt (freeLink s) q = placeAt s q from rfl]
    simp only [hk]
  rw [trySilent, ended, onModule_of_answer (by exact hr)]

/-- The places once the silent transaction is complete. -/
theorem unasked_of_others {s : State} {q : Requester} {r : Role} {p : LinkPlace} (hp : p.now = none)
    (h : ∀ (p : Requester) (n : Queued), p ≠ q → (placeAt s p).now = some n → n.txn.role ≠ r) (x : Requester) (n : Queued)
    (hn : (placeAt (putPlace q p (freeLink s)) x).now = some n) : n.txn.role ≠ r := by
  by_cases hx : x = q
  · subst hx
    rw [placeAt_putPlace_self, hp] at hn
    cases hn
  · rw [placeAt_putPlace_ne _ _ (Ne.symm hx)] at hn
    exact h x n hx hn

theorem thirdSilenceLosesTheModule : Claims.ThirdSilenceLosesTheModule := by
  intro s frame o w q ho hr hq display hc scanner hw hk idle others
  refine ⟨_, exec_trySilence_of ho hc, ?_⟩
  rw [trySilent_display hr hq display hw hk]
  have unasked := unasked_of_others (s := s) (p := { now := none, kept := [] }) rfl others
  have entry : moduleAt (putPlace q { now := none, kept := [] } (freeLink s)) o.role = moduleAt s o.role := rfl
  have own : placeAt (putPlace q { now := none, kept := [] } (freeLink s)) q = { now := none, kept := [] } := placeAt_putPlace_self ..
  have rest (p : Requester) (hp : p ≠ q) : placeAt (putPlace q { now := none, kept := [] } (freeLink s)) p = placeAt s p :=
    placeAt_putPlace_ne _ _ hp.symm
  by_cases lost : (moduleAt s o.role).state = .lost
  · have same : silence o.role o.addr (putPlace q { now := none, kept := [] } (freeLink s)) = putPlace q { now := none, kept := [] } (freeLink s) :=
      if_pos (by exact lost)
    rw [same]
    exact ⟨rfl, rfl, own, rest, fun _ _ => rfl, fun _ => ⟨rfl, rfl⟩, fun h => absurd lost h, fun h => absurd lost h⟩
  · by_cases third : 2 ≤ (moduleAt s o.role).silences
    · have gone : silence o.role o.addr (putPlace q { now := none, kept := [] } (freeLink s)) =
          moduleLost o.role o.addr (putPlace q { now := none, kept := [] } (freeLink s)) :=
        (if_neg (by exact lost)).trans (if_pos (Nat.succ_le_succ third))
      rw [gone, moduleLost_scanner scanner (by exact idle) unasked, raise_eq]
      refine ⟨rfl, rfl, own, rest, fun r h => moduleAt_putModule_ne _ _ h.symm, fun h => absurd h lost, fun _ few => ?_, fun _ _ =>
        ⟨moduleAt_putModule_self .., rfl⟩⟩
      omega
    · have counted : silence o.role o.addr (putPlace q { now := none, kept := [] } (freeLink s)) =
          putModule o.role { moduleAt s o.role with silences := (moduleAt s o.role).silences + 1 }
            (putPlace q { now := none, kept := [] } (freeLink s)) :=
        (if_neg (by exact lost)).trans (if_neg fun h => third (Nat.le_of_succ_le_succ h))
      rw [counted]
      exact ⟨rfl, rfl, own, rest, fun r h => moduleAt_putModule_ne _ _ h.symm, fun h => absurd h lost, fun _ _ =>
        ⟨moduleAt_putModule_self .., rfl⟩, fun _ h => absurd h third⟩

/-- Settles O23, by the declines and the silences. -/
theorem declinedAndSilentTries : Obligations.DeclinedAndSilentTries :=
  ⟨declineWaitsOutTheRetryGap, declinedServiceHoldsItsLine, thirdSilenceLosesTheModule⟩

end Sys2Proof.Machine
end

section
/-! PROOFS. Accepted reads of the sampler: the read list, and what a status is to its owner (R112, R125 to R127). -/

namespace Sys2Proof.Machine

-- Elaborated all at once, the proofs of this text start more threads than the check's memory limit lets it.
set_option Elab.async false

/-! ## A requester's accepted try -/

/-- The state in which a requester takes the outcome of a try that its PRESENT module accepted: the link is free and its place empty. -/
structure TryFreed (q : Requester) (s v : State) : Prop where
  frame : v = { s with link := v.link }
  onLink : v.link.onLink = none
  service : v.link.service = s.link.service
  own : placeAt v q = { now := none, kept := [] }
  others : ∀ p, p ≠ q → placeAt v p = placeAt s p
  reach : ∀ r, unreachable v r = unreachable s r

theorem TryFreed.clock {q : Requester} {s v : State} (h : TryFreed q s v) : v.clock = s.clock := by rw [h.frame]

theorem tryFreed {s : State} {frame : List Byte} {o : OnLink} {w : Queued} {q : Requester} {word : Word} (ho : s.link.onLink = some o)
    (hq : o.carrier = .requester q) (hc : classify o frame = .accept word) (present : (moduleAt s o.role).state = .present)
    (hw : placeAt s q = { now := some w, kept := [] }) :
    ∃ v, TryFreed q s v ∧ exec (.tryAccept frame) s = .next (deliver q w.txn (.accept (acceptedFields o word)) v) := by
  have answered := answered_of_present (s := s) present
  have accepted := tryAccepted_of_requester hq (s := s) (w := w) (by rw [answered.place, hw]) word
  generalize answeredTry o s = u at answered accepted
  have kept : placeAt u q = { now := some w, kept := [] } := (answered.place q).trans hw
  have clear : placeEmptied q u = putPlace q { now := none, kept := [] } u := by rw [placeEmptied, kept]
  refine ⟨placeEmptied q u, ⟨?_, ?_, ?_, ?_, fun p hp => ?_, fun r => ?_⟩, ?_⟩
  · rw [clear, answered.frame]
    rfl
  · rw [clear, answered.frame]
    rfl
  · rw [clear, answered.frame]
    rfl
  · rw [clear, placeAt_putPlace_self]
  · rw [clear, placeAt_putPlace_ne _ _ hp.symm, answered.place]
  · rw [← answered.unreachable, clear]
    rfl
  · rw [exec_tryAccept_of ho hc, accepted, complete_eq, kept, drainKept]

/-! ## The read list served -/

/-- The read list served from its head with an empty place, the head being within reach: of the link only the SAMPLER place changes. -/
structure ServedReads (x t : State) : Prop where
  frame : t = { x with link := { x.link with places := t.link.places } }
  others : ∀ p, p ≠ .sampler → placeAt t p = placeAt x p
  empty : x.dryer.reads = [] → placeAt t .sampler = placeAt x .sampler
  next : ∀ r rs, x.dryer.reads = r :: rs → (placeAt t .sampler).now = some (queuedNow (getStatus r) x)

theorem servedReads {x : State} (free : (placeAt x .sampler).now = none)
    (reach : ∀ r rs, x.dryer.reads = r :: rs → unreachable x r = false) : ServedReads x (serveReads x) := by
  have serve : serveReads x = serveReadList x.dryer.reads x := by
    rw [serveReads, free]
    rfl
  cases hreads : x.dryer.reads with
  | nil =>
    have same : serveReads x = x := by
      rw [serve, hreads, serveReadList, ← hreads]
      rfl
    rw [same]
    exact ⟨rfl, fun _ _ => rfl, fun _ => rfl, fun r rs h => (by cases hreads.symm.trans h)⟩
  | cons r rs =>
    have unlost : ¬unreachable x r = true := by
      rw [reach r rs hreads]
      exact Bool.false_ne_true
    have queued : serveReads x = enqueue .sampler (getStatus r) x := by
      rw [serve, hreads, serveReadList, if_neg unlost, ← hreads]
      rfl
    rw [queued]
    refine ⟨rfl, fun p hp => placeAt_putPlace_ne _ _ hp.symm, fun h => (by cases hreads.symm.trans h), fun y ys h => ?_⟩
    cases hreads.symm.trans h
    rw [enqueue, placeAt_putPlace_self]

/-- What the claims ask of the read list and the link after a read. -/
def readsServed (s : State) (rest : List Role) (t : State) : Prop :=
  t.link.onLink = none ∧ t.link.service = s.link.service ∧
    (rest = [] → t.dryer.reads = [] ∧ placeAt t .sampler = { now := none, kept := [] }) ∧
    ∀ (x : Role) (xs : List Role), rest = x :: xs → unreachable s x = false →
      t.dryer.reads = rest ∧ (placeAt t .sampler).now = Claims.handed x .getStatus 0 s

/-- The state in which the next read is handed in: the outcome has reached its owner. -/
structure ReadTaken (s : State) (rest : List Role) (x : State) : Prop where
  onLink : x.link.onLink = none
  service : x.link.service = s.link.service
  own : placeAt x .sampler = { now := none, kept := [] }
  reads : x.dryer.reads = rest
  clock : x.clock = s.clock
  reach : ∀ r, unreachable x r = unreachable s r

theorem ReadTaken.serves {s x : State} {rest : List Role} (h : ReadTaken s rest x)
    (next : ∀ (r : Role) (rs : List Role), rest = r :: rs → unreachable s r = false) :
    ServedReads x (serveReads x) ∧ readsServed s rest (serveReads x) := by
  have served := servedReads (x := x) (by rw [h.own]) fun r rs hr => by
    rw [h.reach]
    exact next r rs (h.reads.symm.trans hr)
  refine ⟨served, ?_, ?_, fun hrest => ⟨?_, ?_⟩, fun r rs hrest _ => ⟨?_, ?_⟩⟩
  · rw [served.frame]
    exact h.onLink
  · rw [served.frame]
    exact h.service
  · rw [served.frame]
    exact h.reads.trans hrest
  · rw [served.empty (h.reads.trans hrest), h.own]
  · rw [served.frame]
    exact h.reads
  · rw [served.next r rs (h.reads.trans hrest), queuedNow, h.clock]
    rfl

/-- The read list without the target of a read that has ended. -/
def readsWithout (r : Role) (v : State) : State := v.setDryer { v.dryer with reads := v.dryer.reads.filter fun x => x != r }

theorem deliver_sampler (x : Txn) (f : StatusFields) (v : State) :
    deliver .sampler x (.accept f) v = serveReads (sampleOutcome x.role (.accept f) (readsWithout x.role v)) := rfl

theorem readTaken_of_freed {s v : State} (freed : TryFreed .sampler s v) (r : Role) :
    ReadTaken s (s.dryer.reads.filter fun x => x != r) (readsWithout r v) := by
  have dryer : v.dryer = s.dryer := by rw [freed.frame]
  refine ⟨freed.onLink, freed.service, freed.own, ?_, freed.clock, freed.reach⟩
  rw [← dryer]
  rfl

theorem ReadTaken.of_owner {s x y : State} {rest : List Role} (h : ReadTaken s rest x) (onLink : y.link.onLink = x.link.onLink)
    (service : y.link.service = x.link.service) (own : placeAt y .sampler = placeAt x .sampler) (reads : y.dryer.reads = x.dryer.reads)
    (clock : y.clock = x.clock) (reach : ∀ r, unreachable y r = unreachable x r) : ReadTaken s rest y :=
  ⟨onLink.trans h.onLink, service.trans h.service, own.trans h.own, reads.trans h.reads, clock.trans h.clock, fun r =>
    (reach r).trans (h.reach r)⟩

/-! ## Zones and the belt -/

/-- The zone of the claim's role. -/
theorem zoneOf_eq (z : Fin 4) : (match z with | 0 => Role.zone1 | 1 => .zone2 | 2 => .zone3 | 3 => .zone4) = zoneRole z := by
  fin_cases z <;> rfl

theorem roleZone_zoneRole (z : Fin 4) : roleZone (zoneRole z) = some z := by fin_cases z <;> rfl

theorem zoneRole_of_roleZone {r : Role} {z : Fin 4} (h : roleZone r = some z) : r = zoneRole z := by
  cases r <;> cases h <;> rfl

theorem sampleOutcome_of_dryer {r : Role} (h : r ≠ .flash) (f : StatusFields) (s : State) :
    sampleOutcome r (.accept f) s = dryerSample r f s := by
  unfold sampleOutcome
  rw [if_neg h]
  exact if_neg h

theorem dryerSample_of_still {s : State} (h : s.dryer.ticking = false) (r : Role) (f : StatusFields) : dryerSample r f s = s :=
  if_neg (by rw [h]; exact Bool.false_ne_true)

theorem dryerSample_of_zone {s : State} {z : Fin 4} {r : Role} (h : s.dryer.ticking = true) (hz : roleZone r = some z) (f : StatusFields) :
    dryerSample r f s = zoneStatus z f s := by
  rw [dryerSample, if_pos h, hz]

theorem dryerSample_of_other {s : State} {r : Role} (h : s.dryer.ticking = true) (hz : roleZone r = none) (f : StatusFields) :
    dryerSample r f s = beltStatus f s := by
  rw [dryerSample, if_pos h, hz]

/-- What a dryer read does to the dryer. -/
structure DryerRead (r : Role) (f : StatusFields) (s t : State) : Prop where
  frame : t = { s with dryer := { s.dryer with zones := t.dryer.zones, running := t.dryer.running } }
  zones : ∀ z, zoneAt t z = if s.dryer.ticking = true ∧ r = zoneRole z then takeReading f (zoneAt s z) else zoneAt s z
  belt : s.dryer.ticking = true → r = .beltDrive → t.dryer.running = (f.fault == 0 && f.ready != 0)
  kept : s.dryer.ticking = false ∨ r ≠ .beltDrive → (∃ z, r = zoneRole z) ∨ r = .beltDrive → t.dryer.running = s.dryer.running

theorem dryerRead (r : Role) (f : StatusFields) (s : State) : DryerRead r f s (dryerSample r f s) := by
  cases ticking : s.dryer.ticking with
  | false =>
    rw [dryerSample_of_still ticking]
    refine ⟨rfl, fun z => ?_, fun h => (by cases ticking.symm.trans h), fun _ _ => rfl⟩
    rw [if_neg fun h => by cases ticking.symm.trans h.1]
  | true =>
    cases hz : roleZone r with
    | some z =>
      have own := zoneRole_of_roleZone hz
      have apart (y : Fin 4) : r = zoneRole y ↔ z = y := by
        refine ⟨fun h => ?_, fun h => h ▸ own⟩
        rw [h, roleZone_zoneRole] at hz
        exact (Option.some.inj hz).symm
      rw [dryerSample_of_zone ticking hz]
      refine ⟨rfl, fun y => ?_, fun _ h => (by rw [h] at hz; cases hz), fun _ _ => rfl⟩
      rw [zoneStatus, zoneAt_putZone]
      by_cases hy : z = y
      · subst hy
        rw [if_pos rfl, if_pos ⟨ticking, own⟩]
      · rw [if_neg hy, if_neg fun h => hy ((apart y).mp h.2)]
    | none =>
      rw [dryerSample_of_other ticking hz]
      refine ⟨rfl, fun y => ?_, fun _ _ => rfl, fun h k => ?_⟩
      · rw [if_neg fun h => by rw [h.2, roleZone_zoneRole] at hz; cases hz]
        rfl
      · rcases h with h | h
        · cases ticking.symm.trans h
        · rcases k with ⟨y, hy⟩ | k
          · rw [hy, roleZone_zoneRole] at hz
            cases hz
          · exact absurd k h

/-! ## FLASH -/

theorem sampleOutcome_of_flash (f : StatusFields) (s : State) :
    sampleOutcome .flash (.accept f) s = flashStatus f (s.setFlash { s.flash with sampling := false }) := rfl

theorem flashStatus_of_quiet {f : StatusFields} {s : State} (h : s.flash.state ≠ .exposing ∨ f.fault = 0) :
    flashStatus f s =
      s.setFlash { s.flash with source := if s.flash.state = .exposing then takeReading f s.flash.source else s.flash.source } := by
  unfold flashStatus
  split
  · next hs =>
    have clear : f.fault = 0 := h.resolve_left fun k => k hs
    rw [if_pos hs, if_pos clear, takeReading, if_pos clear]
  all_goals
    next hs =>
      rw [if_neg (by rw [hs]; exact FlashState.noConfusion)]
      rfl

theorem flashStatus_of_fault {f : StatusFields} {s : State} (h : s.flash.state = .exposing) (fault : f.fault ≠ 0) :
    flashStatus f s = flashCut 4 s := by
  rw [flashStatus, h]
  exact if_neg fault

/-- A cut of an exposure touches the places of FLASH and of the print units alone, and reads none. -/
structure FlashCutBy (j : PrintJob) (r : Garment) (cause : Nat) (s t : State) : Prop where
  hands : Hands (fun q => q = .flash ∨ ofPrints q) s t
  exch : t.exch = s.exch
  clock : t.clock = s.clock
  dryer : t.dryer = s.dryer
  unit : t.flash = { s.flash with state := .ending, limit := none }
  place : (placeAt t .flash).now = some (queuedNow (putCmd .flash .heatOff 0) s)
  record : ∃ r', garmentAt t j.garment.index = some r' ∧ r'.cond = .failed ∧ r'.fault = some .gelShort ∧ r'.flash = .cut
  told : s.reports.fifo.length < 16 →
    { incident .flashCut with
      slot := some r.slot, garment := some j.garment.index, serial := r.serial, key := keyOf s r.slot
      detail := cause, value := r.flashDose / 10000, time := s.clock } ∈ t.reports.fifo

theorem flashCut_mem {s : State} {j : PrintJob} {r : Garment} (hr : garmentAt s j.garment.index = some r)
    (room : s.reports.fifo.length < 16) (cause : Nat) :
    { incident .flashCut with
      slot := some r.slot, garment := some j.garment.index, serial := r.serial, key := keyOf s r.slot
      detail := cause, value := r.flashDose / 10000, time := s.clock } ∈ (flashStopped j.garment.index cause s).reports.fifo := by
  have marked : garmentAt (markFlash j.garment.index .cut (enterEnding s)) j.garment.index = some { r with flash := .cut } := by
    have ending : garmentAt (enterEnding s) j.garment.index = some r := hr
    rw [markFlash, garmentAt_changeGarment, if_pos rfl, ending]
    rfl
  have reports : (markFlash j.garment.index .cut (enterEnding s)).reports = s.reports := by simp [markFlash]
  have clock : (markFlash j.garment.index .cut (enterEnding s)).clock = s.clock := by simp [markFlash]
  have lines : (markFlash j.garment.index .cut (enterEnding s)).lines = s.lines := by simp [markFlash]
  unfold flashStopped raiseFlashCut
  generalize markFlash j.garment.index .cut (enterEnding s) = m at marked reports clock lines
  have mem := raise_mem (s := m) (by rw [reports]; exact room)
    { garmentIncident .flashCut j.garment.index { r with flash := .cut } m with detail := cause, value := doseCU r.flashDose }
  have key : keyOf m r.slot = keyOf s r.slot := by unfold keyOf lineAt; rw [lines]
  have same : { incident .flashCut with
        slot := some r.slot, garment := some j.garment.index, serial := r.serial, key := keyOf s r.slot
        detail := cause, value := r.flashDose / 10000, time := s.clock } =
      { garmentIncident .flashCut j.garment.index { r with flash := .cut } m with
        detail := cause, value := doseCU r.flashDose, time := m.clock } := by
    rw [← key, ← clock]
    rfl
  simp only [marked]
  rw [same]
  exact mem

theorem flashCutBy {s : State} {j : PrintJob} {r : Garment} (hj : s.flash.job = some j) (hr : garmentAt s j.garment.index = some r)
    (good : r.cond = .good) (hp : (placeAt s .flash).now = none) (reach : unreachable s .flash = false) (cause : Nat) :
    FlashCutBy j r cause s (flashCut cause s) := by
  have hstopped := garmentAt_flashStopped hr cause
  obtain ⟨r', hr', noticed⟩ :=
    garmentAt_failCounted_self j.garment.index { r with flash := .cut } .gelShort (flashStopped j.garment.index cause s)
  rw [← failOp_of_counted hstopped (counted_iff.mpr (.inl good))] at hr'
  obtain ⟨unit, place⟩ := exposureFault_of_reachable hj hp reach cause
  have mem := fun room => flashCut_mem (s := s) (j := j) hr room cause
  have cut := flashCut_of_job hj cause
  have atRest := flashStopped_atRest j.garment.index cause s
  have first : (flashStopped j.garment.index cause s).link = s.link := by simp [flashStopped, markFlash]
  have exch : (flashStopped j.garment.index cause s).exch = s.exch := by simp [flashStopped, markFlash]
  generalize flashStopped j.garment.index cause s = a at hstopped hr' noticed mem cut atRest first exch
  have hands := hands_failOp atRest j.garment.index .gelShort
  have tells := tells_failOp j.garment.index .gelShort a
  have bexch : (failOp j.garment.index .gelShort a).exch = a.exch := by simp
  generalize failOp j.garment.index .gelShort a = b at hr' cut hands tells bexch
  have wide : Hands (fun q => q = .flash ∨ ofPrints q) s b := by
    refine (Hands.of_link first).trans ⟨hands.link, fun q hq => hands.places q fun h => hq (.inr h)⟩
  have breach : unreachable b .flash = false := by
    rw [wide.unreachable (bexch.trans exch)]
    exact reach
  have off : flashCut cause s = replaceTxn .flash (putCmd .flash .heatOff 0) b := by rw [cut, heatOff_of_reachable breach]
  have garments : (flashCut cause s).garments = b.garments := by rw [off, replaceTxn_eq]
  have reports : (flashCut cause s).reports = b.reports := by rw [off, replaceTxn_eq]
  refine ⟨?_, by simp, by simp, by simp, unit, place, ⟨r', (garmentAt_congr garments _).trans hr', by rw [noticed.rest],
    by rw [noticed.rest], noticed.flash.elim id id⟩, fun room => ?_⟩
  · rw [off]
    exact wide.trans (hands_replaceTxn (.inl rfl) ..)
  · rw [reports]
    exact tells.mem (mem room)

/-! ## The claims -/

/-- The fields an accepted read brings. -/
theorem readEnds {s : State} {frame : List Byte} {o : OnLink} {w : Queued} {word : Word} (ho : s.link.onLink = some o)
    (hq : o.carrier = .requester .sampler) (hc : classify o frame = .accept word) (present : (moduleAt s o.role).state = .present)
    (hw : placeAt s .sampler = { now := some w, kept := [] }) (hrole : w.txn.role = o.role) :
    ∃ v, TryFreed .sampler s v ∧
      exec (.tryAccept frame) s =
        .next (serveReads (sampleOutcome o.role
          (.accept (statusFields (Tbl.at o.settings.maps (roleNum o.role)) word)) (readsWithout o.role v))) := by
  obtain ⟨v, freed, run⟩ := tryFreed ho hq hc present hw
  rw [deliver_sampler, hrole] at run
  exact ⟨v, freed, run⟩

/-- A read of a zone, of the belt, or of another role but FLASH. -/
theorem acceptedDryerRead {s v : State} {r : Role} (freed : TryFreed .sampler s v) (hr : r ≠ .flash) (f : StatusFields)
    (next : ∀ (x : Role) (xs : List Role), (s.dryer.reads.filter fun x => x != r) = x :: xs → unreachable s x = false) :
    ∃ t, serveReads (sampleOutcome r (.accept f) (readsWithout r v)) = t ∧
      readsServed s (s.dryer.reads.filter fun x => x != r) t ∧ t = { s with link := t.link, dryer := t.dryer } ∧
      (∀ p, p ≠ .sampler → placeAt t p = placeAt s p) ∧
      t.dryer = { s.dryer with reads := t.dryer.reads, zones := t.dryer.zones, running := t.dryer.running } ∧
      (∀ z, zoneAt t z = if s.dryer.ticking = true ∧ r = zoneRole z then takeReading f (zoneAt s z) else zoneAt s z) ∧
      (s.dryer.ticking = true → r = .beltDrive → t.dryer.running = (f.fault == 0 && f.ready != 0)) ∧
      (s.dryer.ticking = false ∨ r ≠ .beltDrive → (∃ z, r = zoneRole z) ∨ r = .beltDrive → t.dryer.running = s.dryer.running) := by
  have taken := readTaken_of_freed freed r
  have cut : readsWithout r v = { v with dryer := { s.dryer with reads := (readsWithout r v).dryer.reads } } := by
    rw [readsWithout, freed.frame]
    rfl
  have vplaces (p : Requester) : placeAt (readsWithout r v) p = placeAt v p := rfl
  rw [sampleOutcome_of_dryer hr]
  generalize readsWithout r v = x at taken cut vplaces
  have read := dryerRead r f x
  generalize dryerSample r f x = y at read
  have xdryer : x.dryer = { s.dryer with reads := x.dryer.reads } := by rw [cut]
  have ydryer : y.dryer = { x.dryer with zones := y.dryer.zones, running := y.dryer.running } := by rw [read.frame]
  have ticking : x.dryer.ticking = s.dryer.ticking := by rw [xdryer]
  have zones (z : Fin 4) : zoneAt x z = zoneAt s z := by rw [zoneAt, xdryer]; rfl
  have yplaces (p : Requester) : placeAt y p = placeAt x p := by rw [placeAt, read.frame]; rfl
  obtain ⟨served, claims⟩ := (taken.of_owner (y := y) (by rw [read.frame]) (by rw [read.frame]) (yplaces _) (by rw [read.frame])
    (by rw [read.frame]) fun q => by rw [read.frame]; rfl).serves next
  have tdryer : (serveReads y).dryer = y.dryer := by rw [served.frame]
  refine ⟨serveReads y, rfl, claims, ?_, fun p hp => ?_, ?_, fun z => ?_, fun h k => ?_, fun h k => ?_⟩
  · rw [served.frame, read.frame, cut, freed.frame]
  · rw [served.others p hp, yplaces, vplaces, freed.others p hp]
  · rw [tdryer, ydryer, xdryer]
  · rw [zoneAt, tdryer, ← zoneAt, read.zones, ticking, zones]
  · rw [tdryer, read.belt (by rw [ticking]; exact h) k]
  · rw [tdryer, read.kept (by rw [ticking]; exact h) k, xdryer]

/-- A read of FLASH as its unit takes it: the sample flag is clear. -/
def sampledFlash (v : State) : State :=
  (readsWithout .flash v).setFlash { (readsWithout .flash v).flash with sampling := false }

/-- What FLASH's unit sees of the state in which its read ended. -/
structure FlashSampled (s x : State) : Prop where
  taken : ReadTaken s (s.dryer.reads.filter fun x => x != .flash) x
  frame : x = { s with link := x.link, dryer := { s.dryer with reads := x.dryer.reads }, flash := { s.flash with sampling := false } }
  others : ∀ p, p ≠ .sampler → placeAt x p = placeAt s p

theorem flashSampled {s v : State} (freed : TryFreed .sampler s v) : FlashSampled s (sampledFlash v) := by
  have taken := readTaken_of_freed freed .flash
  refine ⟨taken.of_owner rfl rfl rfl rfl rfl fun _ => rfl, ?_, fun p hp => ?_⟩
  · unfold sampledFlash readsWithout
    rw [freed.frame]
    rfl
  · exact freed.others p hp

theorem acceptedFlashRead {s x : State} (sampled : FlashSampled s x) {f : StatusFields} (h : s.flash.state ≠ .exposing ∨ f.fault = 0)
    (next : ∀ (r : Role) (rs : List Role), (s.dryer.reads.filter fun x => x != .flash) = r :: rs → unreachable s r = false) :
    ∃ t, serveReads (flashStatus f x) = t ∧ readsServed s (s.dryer.reads.filter fun x => x != .flash) t ∧
      t = { s with link := t.link, dryer := { s.dryer with reads := t.dryer.reads }, flash := t.flash } ∧
      (∀ p, p ≠ .sampler → placeAt t p = placeAt s p) ∧
      t.flash =
        { s.flash with
          sampling := false, source := if s.flash.state = .exposing then takeReading f s.flash.source else s.flash.source } := by
  have state : x.flash = { s.flash with sampling := false } := by rw [sampled.frame]
  have owner := flashStatus_of_quiet (f := f) (s := x) (by rw [state]; exact h)
  generalize flashStatus f x = y at owner
  obtain ⟨served, claims⟩ := (sampled.taken.of_owner (y := y) (by rw [owner]; rfl) (by rw [owner]; rfl) (by rw [owner]; rfl)
    (by rw [owner]; rfl) (by rw [owner]; rfl) fun q => by rw [owner]; rfl).serves next
  have yplaces (p : Requester) : placeAt y p = placeAt x p := by rw [owner]; rfl
  refine ⟨serveReads y, rfl, claims, ?_, fun p hp => ?_, ?_⟩
  · rw [served.frame, owner, sampled.frame]
    rfl
  · rw [served.others p hp, yplaces, sampled.others p hp]
  · have tflash : (serveReads y).flash = y.flash := by rw [served.frame]
    rw [tflash, owner, state]
    rfl

theorem acceptedFlashFault {s x : State} (sampled : FlashSampled s x) {f : StatusFields} {j : PrintJob} {r : Garment}
    (exposing : s.flash.state = .exposing) (fault : f.fault ≠ 0) (hj : s.flash.job = some j) (hr : garmentAt s j.garment.index = some r)
    (good : r.cond = .good) (hp : (placeAt s .flash).now = none) (reach : unreachable s .flash = false)
    (next : ∀ (r : Role) (rs : List Role), (s.dryer.reads.filter fun x => x != .flash) = r :: rs → unreachable s r = false) :
    ∃ t r', serveReads (flashStatus f x) = t ∧ readsServed s (s.dryer.reads.filter fun x => x != .flash) t ∧
      t.flash = { s.flash with state := .ending, limit := none, sampling := false } ∧
      (placeAt t .flash).now = Claims.handed .flash .putCmd 0x00000007#32 s ∧
      garmentAt t j.garment.index = some r' ∧ r'.cond = .failed ∧ r'.fault = some .gelShort ∧ r'.flash = .cut ∧
      (s.reports.fifo.length < 16 →
        { incident .flashCut with
          slot := some r.slot, garment := some j.garment.index, serial := r.serial, key := keyOf s r.slot
          detail := 4, value := r.flashDose / 10000, time := s.clock } ∈ t.reports.fifo) := by
  have state : x.flash = { s.flash with sampling := false } := by rw [sampled.frame]
  have garments : x.garments = s.garments := by rw [sampled.frame]
  have lines : x.lines = s.lines := by rw [sampled.frame]
  have reports : x.reports = s.reports := by rw [sampled.frame]
  have key (i : Fin 128) : keyOf x i = keyOf s i := by unfold keyOf lineAt; rw [lines]
  have cut := flashCutBy (s := x) (by rw [state]; exact hj) ((garmentAt_congr garments _).trans hr) good
    (by rw [sampled.others .flash (by decide)]; exact hp) (by rw [sampled.taken.reach]; exact reach) 4
  rw [flashStatus_of_fault (by rw [state]; exact exposing) fault]
  generalize flashCut 4 x = y at cut
  have quiet : ¬((Requester.sampler = .flash) ∨ ofPrints .sampler) := by unfold ofPrints; decide
  obtain ⟨served, claims⟩ := (sampled.taken.of_owner (y := y) (by rw [cut.hands.link]) (by rw [cut.hands.link])
    (cut.hands.places .sampler quiet) (by rw [cut.dryer]) cut.clock fun q => cut.hands.unreachable cut.exch q).serves next
  obtain ⟨r', hr', failed, code, mark⟩ := cut.record
  have tgarments : (serveReads y).garments = y.garments := by rw [served.frame]
  have treports : (serveReads y).reports = y.reports := by rw [served.frame]
  have tflash : (serveReads y).flash = y.flash := by rw [served.frame]
  refine ⟨serveReads y, r', rfl, claims, by rw [tflash, cut.unit, state], ?_, (garmentAt_congr tgarments _).trans hr', failed, code, mark,
    fun room => ?_⟩
  · rw [served.others .flash (by decide), cut.place, queuedNow, sampled.taken.clock]
    rfl
  · have told := cut.told (by rw [reports]; exact room)
    rw [treports]
    rw [key, sampled.taken.clock] at told
    exact told

theorem acceptedReads : Claims.AcceptedReads := by
  intro s frame o w word ho hq hc present hw hrole f rest read zoneOf served next
  obtain ⟨v, freed, run⟩ := readEnds ho hq hc present hw hrole
  have zone (z : Fin 4) : zoneOf z = zoneRole z := zoneOf_eq z
  refine ⟨fun hnext hr => ?_, fun hnext hr => ⟨fun quiet => ?_, fun j r exposing fault hj hgr good hp reach => ?_⟩⟩
  · obtain ⟨t, eq, claims, whole, others, dryer, zones, belt, kept⟩ := acceptedDryerRead freed hr f hnext
    refine ⟨t, run.trans (congrArg _ eq), claims, whole, others, dryer, fun z => ?_, belt, fun h k => kept h ?_⟩
    · rw [zone]
      exact zones z
    · exact k.imp_left fun ⟨z, hz⟩ => ⟨z, hz.trans (zone z)⟩
  · have reads : rest = s.dryer.reads.filter fun x => x != .flash := by rw [← hr]
    obtain ⟨t, eq, claims, whole, others, flash⟩ :=
      acceptedFlashRead (flashSampled freed) (f := f) quiet fun x xs h => hnext x xs (reads.trans h)
    rw [hr, sampleOutcome_of_flash] at run
    refine ⟨t, run.trans (congrArg _ (Eq.trans ?_ eq)), ?_, whole, others, flash⟩
    · simp only [f, hr]
      rfl
    · simp only [served, reads]
      exact claims
  · have reads : rest = s.dryer.reads.filter fun x => x != .flash := by rw [← hr]
    obtain ⟨t, r', eq, claims, facts⟩ :=
      acceptedFlashFault (flashSampled freed) (f := f) exposing fault hj hgr good hp reach fun x xs h => hnext x xs (reads.trans h)
    rw [hr, sampleOutcome_of_flash] at run
    refine ⟨t, r', run.trans (congrArg _ (Eq.trans ?_ eq)), ?_, facts⟩
    · simp only [f, hr]
      rfl
    · simp only [served, reads]
      exact claims

/-- Settles O22, by the display transactions, the reads, and the probes. -/
theorem acceptedTries : Obligations.AcceptedTries :=
  ⟨acceptCompletesTransaction, acceptedReads, acceptedProbeBringsModuleBack, probeOfALeftAddressIsIdle⟩

end Sys2Proof.Machine
end

section
/-! PROOFS. Station commands that a module accepts (R49, R61, R90, R111, R115). -/

namespace Sys2Proof.Machine

-- Elaborated all at once, the proofs of this text start more threads than the check's memory limit lets it.
set_option Elab.async false

/-! ## The outcome of an acted transaction -/

/-- A try that is taken reaches its requester, whose place is empty and whose link is free. -/
theorem tryTaken_freed {s : State} {frame : List Byte} {q : Requester} {r : Role} (h : Claims.tryTaken s frame q r) :
    ∃ (v : State) (x : Txn) (f : StatusFields),
      TryFreed q s v ∧ x.acted = true ∧ exec (.tryAccept frame) s = .next (deliver q x (.accept f) v) := by
  obtain ⟨o, w, word, ho, hq, rfl, hc, present, hw, acted⟩ := h
  obtain ⟨v, freed, run⟩ := tryFreed ho hq hc present hw
  exact ⟨v, w.txn, _, freed, acted, run⟩

theorem TryFreed.tryOver {q : Requester} {s v t : State} (h : TryFreed q s v) (onLink : t.link.onLink = v.link.onLink)
    (service : t.link.service = v.link.service) (places : ∀ p, p ≠ q → placeAt t p = placeAt v p) : Claims.tryOver s t q :=
  ⟨onLink.trans h.onLink, service.trans h.service, fun p hp => (places p hp).trans (h.others p hp)⟩

theorem TryFreed.tryOver_of_link {q : Requester} {s v t : State} (h : TryFreed q s v) (link : t.link = v.link) : Claims.tryOver s t q :=
  h.tryOver (by rw [link]) (by rw [link]) fun p _ => by unfold placeAt; rw [link]

theorem TryFreed.now_of_link {q : Requester} {s v t : State} (h : TryFreed q s v) (link : t.link = v.link) : (placeAt t q).now = none := by
  unfold placeAt
  rw [link, ← placeAt, h.own]

theorem ifActed_of_acted {x : Txn} (h : x.acted = true) (f : State → State) (s : State) : ifActed x f s = f s := if_pos h

/-! ## The press -/

theorem pressOutcome_setpoint {f : StatusFields} {s : State} {j : Job} {r : Garment} (h : s.press.state = .setpoint)
    (hj : s.press.job = some j) (hr : garmentAt s j.garment = some r) (reach : unreachable s .press = false) :
    pressOutcome (.accept f) s =
      handIn .press (putCmd .press .press (catalogAt s r.blank).dwell) (s.setPress { s.press with state := .command }) := by
  rw [pressOutcome, h]
  dsimp only [failCause]
  unfold commandPress
  split
  · next none => cases hj.symm.trans none
  · next i hi =>
    cases hj.symm.trans hi
    simp only [hr]
    exact if_neg (not_lostAtOnce (s := s.setPress { s.press with state := .command }) reach)

theorem pressOutcome_command {f : StatusFields} {s : State} (h : s.press.state = .command) :
    pressOutcome (.accept f) s = s.setPress { s.press with state := .pressing } := by
  rw [pressOutcome, h]
  rfl

theorem commandWord_press (dwell : Nat) : commandWord .press dwell = BitVec.ofNat 32 (5 + 256 * min 16777215 dwell) := rfl

theorem setpointAccepted {s : State} {frame : List Byte} {j : Job} {r : Garment} (taken : Claims.tryTaken s frame .press .press)
    (setpoint : s.press.state = .setpoint) (hj : s.press.job = some j) (hr : garmentAt s j.garment = some r)
    (reach : unreachable s .press = false) :
    ∃ t : State,
      exec (.tryAccept frame) s = .next t ∧ Claims.tryOver s t .press ∧
      t = { s with link := t.link, press := { s.press with state := .command } } ∧
      (placeAt t .press).now =
        Claims.handed .press .putCmd (BitVec.ofNat 32 (5 + 256 * min 16777215 (catalogAt s r.blank).dwell)) s := by
  obtain ⟨v, x, f, freed, acted, run⟩ := tryTaken_freed taken
  have press : v.press = s.press := by rw [freed.frame]
  have garments : v.garments = s.garments := by rw [freed.frame]
  have catalog : catalogAt v r.blank = catalogAt s r.blank := by unfold catalogAt; rw [freed.frame]
  have handed := handedIn_of_empty (x := putCmd .press .press (catalogAt s r.blank).dwell)
    (s := v.setPress { v.press with state := .command }) (q := .press)
    (by rw [show placeAt (v.setPress { v.press with state := .command }) .press = placeAt v .press from rfl, freed.own])
    ((freed.reach .press).trans reach)
  refine ⟨_, run, ?_⟩
  rw [show deliver .press x (.accept f) v = ifActed x (pressOutcome (.accept f)) v from rfl, ifActed_of_acted acted,
    pressOutcome_setpoint (by rw [press]; exact setpoint) (by rw [press]; exact hj) ((garmentAt_congr garments _).trans hr)
      ((freed.reach .press).trans reach), catalog]
  generalize handIn .press (putCmd .press .press (catalogAt s r.blank).dwell) (v.setPress { v.press with state := .command }) = t at handed
  refine ⟨freed.tryOver ?_ ?_ fun p hp => handed.others p hp, ?_, ?_⟩
  · rw [handed.frame]
    rfl
  · rw [handed.frame]
    rfl
  · rw [handed.frame, freed.frame]
    rfl
  · rw [handed.now, queuedNow, putCmd, commandWord_press]
    rw [show (v.setPress { v.press with state := .command }).clock = s.clock from freed.clock]
    rfl

theorem pressCommandAccepted {s : State} {frame : List Byte} (taken : Claims.tryTaken s frame .press .press) (command : s.press.state = .command) :
    ∃ t : State,
      exec (.tryAccept frame) s = .next t ∧ Claims.tryOver s t .press ∧
      t = { s with link := t.link, press := { s.press with state := .pressing } } ∧ (placeAt t .press).now = none := by
  obtain ⟨v, x, f, freed, acted, run⟩ := tryTaken_freed taken
  refine ⟨_, run, ?_⟩
  rw [show deliver .press x (.accept f) v = ifActed x (pressOutcome (.accept f)) v from rfl, ifActed_of_acted acted,
    pressOutcome_command (by rw [freed.frame]; exact command)]
  refine ⟨freed.tryOver_of_link rfl, ?_, freed.now_of_link rfl⟩
  rw [freed.frame]
  rfl

/-! ## The spray carriage and the end of a heating -/

theorem passAccepted {s : State} {frame : List Byte} (taken : Claims.tryTaken s frame .pretreat .sprayCarriage) :
    ∃ t : State,
      exec (.tryAccept frame) s = .next t ∧ Claims.tryOver s t .pretreat ∧ t = { s with link := t.link } ∧
      (placeAt t .pretreat).now = none := by
  obtain ⟨v, x, f, freed, acted, run⟩ := tryTaken_freed taken
  refine ⟨_, run, ?_⟩
  rw [show deliver .pretreat x (.accept f) v = ifActed x (pretreatOutcome (.accept f)) v from rfl, ifActed_of_acted acted]
  exact ⟨freed.tryOver_of_link rfl, freed.frame, freed.now_of_link rfl⟩

theorem flashOutcome_ending {s : State} {j : PrintJob} (h : s.flash.state = .ending) (hj : s.flash.job = some j) (o : TxnOutcome) :
    flashOutcome o s = idleFlash (releaseStation .flash j.platen s) := by
  rw [flashOutcome, h]
  dsimp only
  rw [flashOver, hj]
  rfl

theorem releaseStation_eq (st : Station) (p : Fin 12) (s : State) :
    releaseStation st p s = { s with carousel := { s.carousel with released := (releaseStation st p s).carousel.released } } := by
  rw [← releaseStation_carousel]
  refine state_eq_iff.mpr ?_
  simp

theorem heatOffAccepted {s : State} {frame : List Byte} {j : PrintJob} (taken : Claims.tryTaken s frame .flash .flash)
    (ending : s.flash.state = .ending) (hj : s.flash.job = some j) :
    ∃ t : State,
      exec (.tryAccept frame) s = .next t ∧ Claims.tryOver s t .flash ∧
      t = { s with link := t.link, flash := t.flash, carousel := { s.carousel with released := t.carousel.released } } ∧
      t.flash.state = .idle ∧ t.flash.job = none ∧ t.flash.limit = none ∧ t.flash.sampling = s.flash.sampling ∧
      (platenAt s 5 = j.platen → s.carousel.op = .none → released t .flash = true) ∧ (placeAt t .flash).now = none := by
  obtain ⟨v, x, f, freed, acted, run⟩ := tryTaken_freed taken
  have flash : v.flash = s.flash := by rw [freed.frame]
  have carousel : v.carousel = s.carousel := by rw [freed.frame]
  refine ⟨_, run, ?_⟩
  rw [show deliver .flash x (.accept f) v = ifActed x (flashOutcome (.accept f)) v from rfl, ifActed_of_acted acted,
    flashOutcome_ending (by rw [flash]; exact ending) (by rw [flash]; exact hj)]
  have link : (idleFlash (releaseStation .flash j.platen v)).link = v.link := by simp
  refine ⟨freed.tryOver_of_link link, ?_, rfl, rfl, rfl, ?_, fun hp rest => ?_, freed.now_of_link link⟩
  · have whole : idleFlash (releaseStation .flash j.platen v) =
        { v with
          flash := (idleFlash (releaseStation .flash j.platen v)).flash
          carousel := { v.carousel with released := (idleFlash (releaseStation .flash j.platen v)).carousel.released } } := by
      rw [releaseStation_eq]
      rfl
    rw [link]
    refine whole.trans ?_
    rw [← carousel]
    generalize idleFlash (releaseStation .flash j.platen v) = t
    rw [freed.frame]
  · rw [← flash]
    simp [idleFlash]
  · have shown : released (idleFlash (releaseStation .flash j.platen v)) .flash = released (releaseStation .flash j.platen v) .flash := rfl
    rw [shown]
    exact released_releaseStation (by rw [platenAt, carousel]; exact hp) (by rw [carousel]; exact rest)

theorem stationCommandAccepted : Claims.StationCommandAccepted :=
  fun _ _ => ⟨fun _ _ taken setpoint hj hr reach => setpointAccepted taken setpoint hj hr reach, pressCommandAccepted, passAccepted,
    fun _ taken ending hj => heatOffAccepted taken ending hj⟩

/-! ## The exposure begins -/

/-- The flash unit as it enters EXPOSING. -/
def exposingFlash (s : State) : Flash :=
  { s.flash with state := .exposing, nextTick := s.clock + BitVec.ofNat 32 (s.flash.periodMs * 100), sampling := true }

theorem withReads_of_new {reads : List Role} {r : Role} (h : r ∉ reads) : withReads reads [r] = reads ++ [r] := by
  simp [withReads, h]

/-- The read of FLASH asked for as an exposure begins. -/
def exposureBegun (s : State) : State :=
  { s with dryer := { s.dryer with reads := s.dryer.reads ++ [.flash] }, flash := exposingFlash s }

theorem flashOutcome_heating {f : StatusFields} {s : State} (h : s.flash.state = .heating) (sampling : s.flash.sampling = false)
    (new : .flash ∉ s.dryer.reads) : flashOutcome (.accept f) s = serveReads (exposureBegun s) := by
  rw [flashOutcome, h]
  dsimp only [failCause]
  rw [beginExposing, askSample, if_neg (by exact fun e => Bool.false_ne_true (sampling.symm.trans e)), askReads]
  have reads : withReads s.dryer.reads [.flash] = s.dryer.reads ++ [.flash] := withReads_of_new new
  rw [show exposureBegun s = { s with dryer := { s.dryer with reads := withReads s.dryer.reads [.flash] }, flash := exposingFlash s } by
    rw [reads]; rfl]
  rfl

theorem serveReads_of_busy {s : State} (h : (placeAt s .sampler).now ≠ none) : serveReads s = s := by
  rw [serveReads]
  exact if_neg fun e => h (by simpa using e)

theorem exposureBegun_eq {s v : State} (freed : TryFreed .flash s v) : exposureBegun v = { exposureBegun s with link := v.link } := by
  rw [freed.frame]
  rfl

theorem heatOnBeginsTheExposure : Claims.HeatOnBeginsTheExposure := by
  intro s frame taken heating sampling new
  obtain ⟨v, x, f, freed, acted, run⟩ := tryTaken_freed taken
  have flash : v.flash = s.flash := by rw [freed.frame]
  have dryer : v.dryer = s.dryer := by rw [freed.frame]
  have begun := exposureBegun_eq freed
  have out := flashOutcome_heating (f := f) (s := v) (by rw [flash]; exact heating) (by rw [flash]; exact sampling)
    (by rw [dryer]; exact new)
  rw [show deliver .flash x (.accept f) v = ifActed x (flashOutcome (.accept f)) v from rfl, ifActed_of_acted acted, out] at run
  have sampler : placeAt (exposureBegun v) .sampler = placeAt s .sampler := freed.others .sampler (by decide)
  refine ⟨fun free none reach => ⟨_, run, ?_⟩, fun busy => ⟨_, run, ?_⟩⟩
  · have served := servedReads (x := exposureBegun v) (by rw [sampler]; exact free) fun r rs h => by
      have : r = .flash := by
        rw [exposureBegun, dryer, none] at h
        cases h
        rfl
      rw [this]
      exact (freed.reach .flash).trans reach
    have reads : (exposureBegun v).dryer.reads = [.flash] := by
      rw [exposureBegun, dryer, none]
      rfl
    have next := served.next .flash [] reads
    refine ⟨?_, ?_, ?_, ?_⟩
    · rw [served.frame]
      exact freed.onLink
    · rw [served.frame, begun, exposureBegun, none]
      rfl
    · rw [served.others .flash (by decide)]
      exact congrArg LinkPlace.now freed.own
    · rw [next, queuedNow, show (exposureBegun v).clock = s.clock from freed.clock]
      rfl
  · rw [serveReads_of_busy (by rw [sampler]; exact busy)]
    refine ⟨freed.tryOver_of_link rfl, ?_, freed.now_of_link rfl⟩
    rw [begun]
    rfl

/-! ## A swath begins -/

/-- The lane with its pass begun from a bank, or stopped without one. -/
def begunLane (x : Option (Fin 8)) (l : Lane) : Lane :=
  match x with
  | none => { l with state := .stopped, bank := none }
  | some b => { l with state := .emitting, bank := some b }

theorem begunLane_begunLane (x : Option (Fin 8)) (l : Lane) : begunLane x (begunLane x l) = begunLane x l := by cases x <;> rfl

theorem laneAt_emitOrStop (c d : Fin 6) (x : Option (Fin 8)) (s : State) :
    laneAt (emitOrStop c x s) d = if c = d then begunLane x (laneAt s c) else laneAt s d := by
  cases x with
  | none => exact laneAt_putLane ..
  | some b => exact laneAt_putLane ..

theorem bankAt_emitOrStop (c : Fin 6) (b : Fin 8) (x : Option (Fin 8)) (s : State) :
    bankAt (emitOrStop c x s) b = if x = some b then { bankAt s b with state := .emitting } else bankAt s b := by
  cases x with
  | none => rfl
  | some y =>
    refine (bankAt_putBank ..).trans ?_
    by_cases h : y = b
    · rw [if_pos h, if_pos (congrArg some h), h]
    · rw [if_neg h, if_neg fun e => h (Option.some.inj e)]

/-- Passes begin on lanes from given banks. -/
def beginLanes (first : Fin 6 → Option (Fin 8)) (l : List (Fin 6)) (s : State) : State :=
  l.foldl (fun t c => emitOrStop c (first c) t) s

theorem swathBanks_emitOrStop (c d : Fin 6) (x : Option (Fin 8)) (g : GarmentId) (k : Nat) (s : State) :
    swathBanks (emitOrStop c x s) d g k = swathBanks s d g k := by
  have band (b : Fin 8) : (bankAt (emitOrStop c x s) b).band = (bankAt s b).band := by
    rw [bankAt_emitOrStop]
    split <;> rfl
  have bands (b : Fin 8) : bandOfSwath (emitOrStop c x s) g k (fun _ => true) b = bandOfSwath s g k (fun _ => true) b := by
    unfold bandOfSwath
    rw [band]
  have staged : stagedAt (emitOrStop c x s) d = stagedAt s d := by cases x <;> rfl
  unfold swathBanks
  rw [staged]
  exact List.filter_congr fun b _ => bands b

theorem beginPasses_eq (g : GarmentId) (k : Nat) (l : List (Fin 6)) (s : State) :
    l.foldl (beginPass g k) s = beginLanes (fun c => (swathBanks s c g k).head?) l s := by
  induction l generalizing s with
  | nil => rfl
  | cons c l ih =>
    rw [List.foldl_cons, ih, beginPass]
    simp only [swathBanks_emitOrStop]
    rfl

theorem laneAt_beginLanes (first : Fin 6 → Option (Fin 8)) (l : List (Fin 6)) (s : State) (c : Fin 6) :
    laneAt (beginLanes first l s) c = if c ∈ l then begunLane (first c) (laneAt s c) else laneAt s c := by
  induction l generalizing s with
  | nil => simp [beginLanes]
  | cons d l ih =>
    rw [beginLanes, List.foldl_cons, ← beginLanes, ih, laneAt_emitOrStop]
    by_cases h : d = c
    · subst h
      simp [begunLane_begunLane]
    · simp [h, Ne.symm h]

theorem bankAt_beginLanes (first : Fin 6 → Option (Fin 8)) (l : List (Fin 6)) (s : State) (b : Fin 8) :
    bankAt (beginLanes first l s) b =
      if ∃ c ∈ l, first c = some b then { bankAt s b with state := .emitting } else bankAt s b := by
  induction l generalizing s with
  | nil => simp [beginLanes]
  | cons d l ih =>
    rw [beginLanes, List.foldl_cons, ← beginLanes, ih, bankAt_emitOrStop]
    by_cases h : first d = some b
    · simp [h]
    · simp [h]

theorem beginLanes_eq (first : Fin 6 → Option (Fin 8)) (l : List (Fin 6)) (s : State) :
    beginLanes first l s =
      { s with lanes := (beginLanes first l s).lanes, engine := { s.engine with banks := (beginLanes first l s).engine.banks } } := by
  induction l generalizing s with
  | nil => rfl
  | cons d l ih =>
    have one (x : Option (Fin 8)) : emitOrStop d x s =
        { s with lanes := (emitOrStop d x s).lanes, engine := { s.engine with banks := (emitOrStop d x s).engine.banks } } := by
      cases x <;> rfl
    rw [beginLanes, List.foldl_cons, ← beginLanes, ih, one]

theorem printOutcome_command {u : Printer} {f : StatusFields} {s : State} {j : PrintJob} (h : (unitAt s u).state = .command)
    (hj : (unitAt s u).job = some j) : printOutcome u (.accept f) s = beginSwath u j s := by
  rw [printOutcome, h, hj]
  rfl

theorem deliver_print (u : Printer) (x : Txn) (o : TxnOutcome) (s : State) :
    deliver (printRequester u) x o s = ifActed x (printOutcome u o) s := by
  cases u <;> rfl

theorem passAcceptedBeginsTheSwath : Claims.PassAcceptedBeginsTheSwath := by
  intro s frame u j taken command hj first
  obtain ⟨v, x, f, freed, acted, run⟩ := tryTaken_freed taken
  have units (y : Printer) : unitAt v y = unitAt s y := unitAt_congr (by rw [freed.frame]) y
  have begun : deliver (printRequester u) x (.accept f) v =
      beginLanes first (unitAt s u).active (putUnit u { unitAt s u with state := .printing } v) := by
    rw [deliver_print, ifActed_of_acted acted, printOutcome_command (by rw [units]; exact command) (by rw [units]; exact hj), beginSwath,
      units, beginPasses_eq]
    have banks (c : Fin 6) : swathBanks (putUnit u { unitAt s u with state := .printing } v) c j.garment (unitAt s u).swath =
        swathBanks s c j.garment (unitAt s u).swath := by
      rw [freed.frame]
      rfl
    simp only [banks]
    rfl
  rw [begun] at run
  have lanes (c : Fin 6) := laneAt_beginLanes first (unitAt s u).active (putUnit u { unitAt s u with state := .printing } v) c
  have banks (b : Fin 8) := bankAt_beginLanes first (unitAt s u).active (putUnit u { unitAt s u with state := .printing } v) b
  have frame' := beginLanes_eq first (unitAt s u).active (putUnit u { unitAt s u with state := .printing } v)
  have lane (c : Fin 6) : laneAt (putUnit u { unitAt s u with state := .printing } v) c = laneAt s c := laneAt_congr (by rw [freed.frame]; rfl) c
  have bank (b : Fin 8) : bankAt (putUnit u { unitAt s u with state := .printing } v) b = bankAt s b := by
    rw [freed.frame]
    rfl
  refine ⟨_, run, ?_⟩
  generalize beginLanes first (unitAt s u).active (putUnit u { unitAt s u with state := .printing } v) = t at lanes banks frame'
  have link : t.link = v.link := by rw [frame']; rfl
  have prints (y : Printer) : unitAt t y = if u = y then { unitAt s u with state := .printing } else unitAt s y := by
    rw [unitAt_congr (s := putUnit u { unitAt s u with state := .printing } v) (by rw [frame']), unitAt_putUnit, units]
  refine ⟨freed.tryOver_of_link link, freed.now_of_link link, ?_, ?_, fun y hy => ?_, fun c hc b hb => ⟨?_, ?_⟩, fun c hc hb => ?_,
    fun c hc => ?_, fun b hb => ?_⟩
  · rw [frame', freed.frame]
    rfl
  · rw [prints, if_pos rfl]
  · rw [prints, if_neg hy.symm]
  · rw [lanes, if_pos hc, hb, lane]
    rfl
  · rw [banks, if_pos ⟨c, hc, hb⟩, bank]
  · rw [lanes, if_pos hc, hb, lane]
    rfl
  · rw [lanes, if_neg hc, lane]
  · rw [banks, if_neg (by rintro ⟨c, hc, h⟩; exact hb c hc h), bank]

end Sys2Proof.Machine
end

section
/-! PROOFS. The DONE statuses that end a swath, a press cycle and a spray pass (R53, R61, R93, R95). -/

namespace Sys2Proof.Machine

-- Elaborated all at once, the proofs of this text start more threads than the check's memory limit lets it.
set_option Elab.async false

/-! ## An attention service that brings a DONE status -/

/-- The state in which an owner block takes a status: the link is free and its service over. -/
structure ServiceFreed (s v : State) : Prop where
  frame : v = { s with link := v.link }
  onLink : v.link.onLink = none
  service : v.link.service = none
  places : v.link.places = s.link.places
  reach : ∀ r, unreachable v r = unreachable s r

theorem serviceAccepted_of_owner {v : Service} (h : isScanner v.role = false) (w : Word) (s : State) :
    serviceAccepted v w s = ownerStatus v.role (statusFields (Tbl.at v.settings.maps (roleNum v.role)) w) (endService v s) :=
  if_neg fun e => Bool.false_ne_true (h.symm.trans e)

theorem tryAccepted_of_attention {o : OnLink} (ho : o.carrier = .attention) {s : State} {v : Service}
    (hv : (answeredTry o s).link.service = some v) (word : Word) : tryAccepted o word s = serviceAccepted v word (answeredTry o s) := by
  rw [tryAccepted, ho]
  simp only [show onModule o (moduleAccept o.role) (freeLink s) = answeredTry o s from rfl, hv]

theorem statusDone_freed {s : State} {frame : List Byte} {role : Role} (h : Claims.statusDone s frame role) (owner : isScanner role = false) :
    ∃ (v : State) (f : StatusFields),
      ServiceFreed s v ∧ f.fault = 0 ∧ f.done ≠ 0 ∧ exec (.tryAccept frame) s = .next (ownerStatus role f v) := by
  obtain ⟨o, v, word, ho, hq, hc, hv, rfl, hr, present, fault, done⟩ := h
  have answered := answered_of_present (s := s) (o := o) (by rw [hr]; exact present)
  have accepted := tryAccepted_of_attention hq (s := s) (v := v) (by rw [answered.frame]; exact hv) word
  generalize answeredTry o s = u at answered accepted
  refine ⟨endService v u, _, ⟨?_, ?_, rfl, ?_, fun r => ?_⟩, fault, done, ?_⟩
  · rw [answered.frame]
    rfl
  · rw [answered.frame]
    rfl
  · rw [answered.frame]
    rfl
  · rw [← answered.unreachable]
    rfl
  · rw [exec_tryAccept_of ho hc, accepted, serviceAccepted_of_owner owner]

/-! ## The press and the spray carriage -/

theorem pressComplete_of_job {s : State} {j : Job} (hj : s.press.job = some j) :
    pressComplete s = idlePress (releaseStation .press j.platen (changeGarment j.garment (fun r => { r with press := .done }) s)) := by
  rw [pressComplete, hj]
  rfl

theorem pressStatus_done {f : StatusFields} {s : State} (h : s.press.state = .pressing) (fault : f.fault = 0) (done : f.done ≠ 0) :
    pressStatus f s = pressComplete s := by
  rw [pressStatus, if_pos h, if_neg (by exact fun e => e fault), if_pos done]

theorem sprayStatus_done {f : StatusFields} {s : State} (h : s.pretreat.state = .spraying) (fault : f.fault = 0) (done : f.done ≠ 0) :
    sprayStatus f s = passDone s := by
  rw [sprayStatus, if_pos h, if_neg (by exact fun e => e fault), if_pos done]

theorem changeGarment_of_some {g : Fin 32} {r : Garment} {s : State} (hr : garmentAt s g = some r) (f : Garment → Garment) :
    changeGarment g f s = { s with garments := Tbl.put s.garments g (some (f r)) } := by
  rw [changeGarment, hr]
  rfl

theorem pressDone {s : State} {frame : List Byte} {j : Job} {r : Garment} (hr : garmentAt s j.garment = some r)
    (status : Claims.statusDone s frame .press) (pressing : s.press.state = .pressing) (hj : s.press.job = some j) :
    ∃ t : State,
      exec (.tryAccept frame) s = .next t ∧
      t =
        { s with
          link := t.link, press := { state := .idle, job := none, guard := none }
          garments := Tbl.put s.garments j.garment (some { r with press := .done })
          carousel := { s.carousel with released := t.carousel.released } } ∧
      t.link.places = s.link.places ∧ (platenAt s 2 = j.platen → s.carousel.op = .none → released t .press = true) ∧
      (∀ st : Station, st ≠ .press → released t st = released s st) := by
  obtain ⟨v, f, freed, fault, done, run⟩ := statusDone_freed status rfl
  have press : v.press = s.press := by rw [freed.frame]
  have carousel : v.carousel = s.carousel := by rw [freed.frame]
  have garments : v.garments = s.garments := by rw [freed.frame]
  refine ⟨_, run, ?_⟩
  rw [show ownerStatus .press f v = pressStatus f v from rfl, pressStatus_done (by rw [press]; exact pressing) fault done,
    pressComplete_of_job (by rw [press]; exact hj), changeGarment_of_some ((garmentAt_congr garments _).trans hr), garments]
  generalize hx : { v with garments := Tbl.put s.garments j.garment (some { r with press := .done }) } = x
  have xcarousel : x.carousel = s.carousel := by rw [← hx]; exact carousel
  have link : (idlePress (releaseStation .press j.platen x)).link = v.link := by
    rw [releaseStation_eq, ← hx]
    rfl
  have shown (st : Station) : released (idlePress (releaseStation .press j.platen x)) st = released (releaseStation .press j.platen x) st := rfl
  refine ⟨?_, by rw [link, freed.places], fun hp rest => ?_, fun st hst => ?_⟩
  · rw [link]
    have whole : idlePress (releaseStation .press j.platen x) =
        { x with
          press := { state := .idle, job := none, guard := none }
          carousel := { x.carousel with released := (idlePress (releaseStation .press j.platen x)).carousel.released } } := by
      rw [releaseStation_eq]
      rfl
    refine whole.trans ?_
    generalize idlePress (releaseStation .press j.platen x) = t
    rw [← hx, freed.frame]
  · rw [shown]
    exact released_releaseStation (by rw [platenAt, xcarousel]; exact hp) (by rw [xcarousel]; exact rest)
  · rw [shown, released_releaseStation_ne hst, released, xcarousel]
    rfl

theorem passComplete_eq {s : State} {j : Job} {r : Garment} (hj : s.pretreat.job = some j) (hrow : s.pretreat.row = 16)
    (hr : garmentAt s j.garment = some r) :
    passComplete s =
      { s with
        pretreat := (passComplete s).pretreat, garments := Tbl.put s.garments j.garment (some { r with pretreat := .done })
        carousel := { s.carousel with released := (passComplete s).carousel.released } } := by
  have marked : markPretreat j.garment .done (idlePretreat s) =
      { idlePretreat s with garments := Tbl.put s.garments j.garment (some { r with pretreat := .done }) } :=
    changeGarment_of_some (s := idlePretreat s) hr _
  rw [passComplete_of_sixteen hj hrow, marked, releaseStation_eq]
  rfl

theorem passDoneEndsThePass {s : State} {frame : List Byte} {j : Job} {r : Garment} (hr : garmentAt s j.garment = some r)
    (status : Claims.statusDone s frame .sprayCarriage) (spraying : s.pretreat.state = .spraying) (hj : s.pretreat.job = some j) :
    (anyValve s = true →
      ∃ t : State,
        exec (.tryAccept frame) s = .next t ∧ t.link.places = s.link.places ∧
        t = { s with link := t.link, pretreat := { s.pretreat with state := .finishing } }) ∧
    (anyValve s = false → s.pretreat.row = 16 →
      ∃ t : State,
        exec (.tryAccept frame) s = .next t ∧
        t =
          { s with
            link := t.link, pretreat := t.pretreat
            garments := Tbl.put s.garments j.garment (some { r with pretreat := .done })
            carousel := { s.carousel with released := t.carousel.released } } ∧
        t.pretreat.state = .idle ∧ t.pretreat.job = none ∧ t.pretreat.guard = none ∧ t.pretreat.tank = s.pretreat.tank ∧
        t.link.places = s.link.places ∧ (platenAt s 1 = j.platen → s.carousel.op = .none → released t .pretreat = true) ∧
        (∀ st : Station, st ≠ .pretreat → released t st = released s st)) := by
  obtain ⟨v, f, freed, fault, done, run⟩ := statusDone_freed status rfl
  have pretreat : v.pretreat = s.pretreat := by rw [freed.frame]
  have carousel : v.carousel = s.carousel := by rw [freed.frame]
  have garments : v.garments = s.garments := by rw [freed.frame]
  have valves : anyValve v = anyValve s := by rw [freed.frame]; rfl
  rw [show ownerStatus .sprayCarriage f v = sprayStatus f v from rfl, sprayStatus_done (by rw [pretreat]; exact spraying) fault done] at run
  refine ⟨fun busy => ⟨_, run, ?_⟩, fun shut row => ⟨_, run, ?_⟩⟩
  · rw [passDone, if_pos (valves.trans busy)]
    refine ⟨freed.places, ?_⟩
    rw [freed.frame]
    rfl
  · have completed := passCompleted (s := v) (by rw [pretreat]; exact hj) (by rw [pretreat]; exact row)
    have whole := passComplete_eq (s := v) (by rw [pretreat]; exact hj) (by rw [pretreat]; exact row)
      ((garmentAt_congr garments _).trans hr)
    rw [passDone, if_neg (by exact fun e => Bool.false_ne_true ((valves.trans shut).symm.trans e))]
    generalize passComplete v = t at completed whole
    refine ⟨?_, by rw [completed.unit], by rw [completed.unit], by rw [completed.unit], by rw [completed.unit, pretreat],
      by rw [completed.link, freed.places], fun hp rest => ?_, fun st hst => ?_⟩
    · refine whole.trans ?_
      rw [completed.link, garments, carousel]
      generalize v.link = l at freed
      rw [freed.frame]
    · exact completed.releases (by rw [platenAt, carousel]; exact hp) (by rw [carousel]; exact rest)
    · rw [completed.flags st hst, released, carousel]
      rfl

theorem stationDoneEndsTheWork : Claims.StationDoneEndsTheWork :=
  fun _ _ _ _ hr => ⟨pressDone hr, passDoneEndsThePass hr⟩

/-! ## The ink of a swath -/

theorem inkedGarment_eq (s : State) (l : List (Fin 6)) (r : Garment) :
    inkedGarment s l r = { r with ink := (inkedGarment s l r).ink } := by
  induction l generalizing r with
  | nil => rfl
  | cons c l ih =>
    rw [inkedGarment, List.foldl_cons, ← inkedGarment, ih]
    rfl

theorem inkedGarment_ink (s : State) {l : List (Fin 6)} (nodup : l.Nodup) (r : Garment) (c : Fin 6) :
    Tbl.at (inkedGarment s l r).ink c =
      if c ∈ l then min 4294967295 (Tbl.at r.ink c + (laneAt s c).sum) else Tbl.at r.ink c := by
  induction l generalizing r with
  | nil => rfl
  | cons d l ih =>
    obtain ⟨hd, hl⟩ := List.nodup_cons.mp nodup
    have one : Tbl.at (inkedChannel s r d).ink c =
        if d = c then min 4294967295 (Tbl.at r.ink c + (laneAt s c).sum) else Tbl.at r.ink c := by
      by_cases h : d = c
      · subst h
        exact (Tbl.at_put_self ..).trans (if_pos rfl).symm
      · rw [if_neg h]
        exact Tbl.at_put_ne _ _ h
    rw [inkedGarment, List.foldl_cons, ← inkedGarment, ih hl, one]
    by_cases h : d = c
    · subst h
      simp [hd]
    · simp [h, Ne.symm h]

/-- The garment with the swath's ink, its mark of the unit as given. -/
theorem inked_withPrintMark {s : State} {u : Printer} (nodup : (unitAt s u).active.Nodup) (r : Garment) (m : Mark) :
    Claims.inked s u r (withPrintMark u m (inkedGarment s (unitAt s u).active r)) m := by
  have ink : (withPrintMark u m (inkedGarment s (unitAt s u).active r)).ink = (inkedGarment s (unitAt s u).active r).ink := by
    cases u <;> rfl
  refine ⟨?_, fun c hc => ?_, fun c hc => ?_⟩
  · rw [ink]
    conv => lhs; rw [inkedGarment_eq]
    cases u <;> rfl
  · rw [ink, inkedGarment_ink s nodup, if_pos hc]
  · rw [ink, inkedGarment_ink s nodup, if_neg hc]

theorem withPrintMark_self (u : Printer) (r : Garment) : withPrintMark u (printMark u r) r = r := by cases u <;> rfl

theorem printMark_inkedGarment (s : State) (l : List (Fin 6)) (u : Printer) (r : Garment) :
    printMark u (inkedGarment s l r) = printMark u r := by
  rw [inkedGarment_eq]
  cases u <;> rfl

theorem inked_inkedGarment {s : State} {u : Printer} (nodup : (unitAt s u).active.Nodup) (r : Garment) :
    Claims.inked s u r (inkedGarment s (unitAt s u).active r) (printMark u r) := by
  have h := inked_withPrintMark nodup r (printMark u r)
  have same : withPrintMark u (printMark u r) (inkedGarment s (unitAt s u).active r) = inkedGarment s (unitAt s u).active r := by
    rw [← printMark_inkedGarment s (unitAt s u).active, withPrintMark_self]
  rwa [same] at h

/-! ## A swath that succeeded -/

/-- The state with the swath's ink added and the unit's lanes OFF. -/
def swathInked (u : Printer) (g : Fin 32) (s : State) : State :=
  lanesOff u (changeGarment g (inkedGarment s (unitAt s u).active) s)

theorem swathInked_eq {u : Printer} {g : Fin 32} {s : State} {r : Garment} (hr : garmentAt s g = some r) :
    swathInked u g s =
      { s with
        garments := Tbl.put s.garments g (some (inkedGarment s (unitAt s u).active r)), lanes := (swathInked u g s).lanes } := by
  have off := lanesOff_eq u (changeGarment g (inkedGarment s (unitAt s u).active) s)
  rw [← swathInked] at off
  refine off.trans ?_
  generalize (swathInked u g s).lanes = l
  rw [changeGarment_of_some hr]

theorem laneAt_swathInked (u : Printer) (g : Fin 32) (s : State) (c : Fin 6) :
    laneAt (swathInked u g s) c = if channelUnit c = u then Lane.off else laneAt s c := by
  rw [swathInked, laneAt_lanesOff, laneAt_congr (s := s) (by simp)]

/-- The end of a print changes its unit, the tally and the release flags. -/
theorem printOver_eq (u : Printer) (j : PrintJob) (s : State) :
    printOver u j s =
      { s with
        prints := (printOver u j s).prints, engine := (printOver u j s).engine
        carousel := { s.carousel with released := (printOver u j s).carousel.released } } := by
  rw [printOver, leaveUnit, releaseStation_eq]
  rfl

theorem unitAt_printOver (u : Printer) (j : PrintJob) (s : State) (v : Printer) :
    unitAt (printOver u j s) v = if u = v then PrintUnit.reset else unitAt s v := by
  rw [printOver, leaveUnit, idleUnit, unitAt_putUnit, releaseStation_eq]
  rfl

theorem printIsOver_printOver {u : Printer} {j : PrintJob} {s t : State} (carousel : t.carousel = s.carousel) :
    Claims.printIsOver s (printOver u j t) u j := by
  have unit : unitAt (printOver u j t) u = PrintUnit.reset := (unitAt_printOver ..).trans (if_pos rfl)
  refine ⟨by rw [unit]; rfl, by rw [unit]; rfl, by rw [unit]; rfl, by rw [unit]; rfl, ?_, fun hp rest => ?_⟩
  · rw [tallyFor_congr (s := dropTally u j.garment t) (by simp [printOver, leaveUnit])]
    exact tallyFor_dropTally ..
  · have shown : released (printOver u j t) (printStation u) =
        released (releaseStation (printStation u) j.platen (dropTally u j.garment t)) (printStation u) := rfl
    have same : (dropTally u j.garment t).carousel = s.carousel := carousel
    have here : platenAt (dropTally u j.garment t) (stationPos (printStation u)) = j.platen := by
      rw [platenAt, same]
      cases u <;> exact hp
    rw [shown]
    exact released_releaseStation here (by rw [same]; exact rest)

theorem tallyFor_swathInked {u : Printer} {g : Fin 32} {s : State} {r : Garment} (hr : garmentAt s g = some r) (v : Printer)
    (i : GarmentId) : tallyFor (swathInked u g s) v i = tallyFor s v i := tallyFor_congr (by rw [swathInked_eq hr]) v i

theorem unitAt_swathInked {u : Printer} {g : Fin 32} {s : State} {r : Garment} (hr : garmentAt s g = some r) (v : Printer) :
    unitAt (swathInked u g s) v = unitAt s v := unitAt_congr (by rw [swathInked_eq hr]) v

theorem garmentAt_swathInked {u : Printer} {g : Fin 32} {s : State} {r : Garment} (hr : garmentAt s g = some r) (h : Fin 32) :
    garmentAt (swathInked u g s) h = if g = h then some (inkedGarment s (unitAt s u).active r) else garmentAt s h := by
  rw [swathInked_eq hr]
  exact Tbl.at_put ..

theorem swathDone_eq (u : Printer) (j : PrintJob) (s : State) :
    swathDone u j s =
      if (unitAt s u).graceful then printOver u j (swathInked u j.garment.index s)
      else if (tallyFor (swathInked u j.garment.index s) u j.garment).bind TallyPlace.count = some (unitAt s u).swath then
        printOver u j (changeGarment j.garment.index (withPrintMark u .done) (swathInked u j.garment.index s))
      else nextSwath u (swathInked u j.garment.index s) := rfl

/-- What every end of a swath that succeeded comes to. -/
structure SwathEnded (u : Printer) (g : Fin 32) (s t : State) (r' : Garment) : Prop where
  own : garmentAt t g = some r'
  others : ∀ h, h ≠ g → garmentAt t h = garmentAt s h
  off : ∀ c, channelUnit c = u → (laneAt t c).state = .off ∧ (laneAt t c).sum = 0 ∧ (laneAt t c).bank = none
  lanes : ∀ c, channelUnit c ≠ u → laneAt t c = laneAt s c
  units : ∀ v, v ≠ u → unitAt t v = unitAt s v
  link : t.link = s.link
  reports : t.reports = s.reports

theorem swathEnded {u : Printer} {g : Fin 32} {s x t : State} {r' : Garment}
    (hx : ∀ h, garmentAt x h = if g = h then some r' else garmentAt s h) (lanes : x.lanes = (swathInked u g s).lanes)
    (link : x.link = s.link) (reports : x.reports = s.reports) (prints : x.prints = s.prints) (tgarments : t.garments = x.garments)
    (tlanes : t.lanes = x.lanes) (tlink : t.link = x.link) (treports : t.reports = x.reports)
    (units : ∀ v, v ≠ u → unitAt t v = unitAt x v) : SwathEnded u g s t r' := by
  have lane (c : Fin 6) : laneAt t c = if channelUnit c = u then Lane.off else laneAt s c :=
    (laneAt_congr (tlanes.trans lanes) c).trans (laneAt_swathInked ..)
  refine ⟨?_, fun h hne => ?_, fun c hc => ?_, fun c hc => ?_, fun v hv => ?_, tlink.trans link, treports.trans reports⟩
  · rw [garmentAt_congr tgarments, hx, if_pos rfl]
  · rw [garmentAt_congr tgarments, hx, if_neg hne.symm]
  · rw [lane, if_pos hc]
    exact ⟨rfl, rfl, rfl⟩
  · rw [lane, if_neg hc]
  · rw [units v hv, unitAt_congr prints]

theorem swathEnded_printOver {u : Printer} {j : PrintJob} {s x : State} {r' : Garment}
    (hx : ∀ h, garmentAt x h = if j.garment.index = h then some r' else garmentAt s h)
    (lanes : x.lanes = (swathInked u j.garment.index s).lanes) (link : x.link = s.link) (reports : x.reports = s.reports)
    (prints : x.prints = s.prints) : SwathEnded u j.garment.index s (printOver u j x) r' := by
  refine swathEnded hx lanes link reports prints ?_ ?_ ?_ ?_ fun v hv => (unitAt_printOver ..).trans (if_neg hv.symm)
  all_goals rw [printOver_eq]

theorem nextSwath_eq (u : Printer) (s : State) : nextSwath u s = { s with prints := (nextSwath u s).prints } := rfl

theorem swathSucceeds {s : State} {u : Printer} {j : PrintJob} {r : Garment} (hr : garmentAt s j.garment.index = some r)
    (nodup : (unitAt s u).active.Nodup) :
    ∃ r', SwathEnded u j.garment.index s (swathDone u j s) r' ∧
      ((unitAt s u).graceful = true → Claims.inked s u r r' (printMark u r) ∧ Claims.printIsOver s (swathDone u j s) u j) ∧
      ((unitAt s u).graceful = false →
        (tallyFor s u j.garment).bind TallyPlace.count = some (unitAt s u).swath →
          Claims.inked s u r r' .done ∧ Claims.printIsOver s (swathDone u j s) u j) ∧
      ((unitAt s u).graceful = false →
        (tallyFor s u j.garment).bind TallyPlace.count ≠ some (unitAt s u).swath →
          Claims.inked s u r r' (printMark u r) ∧ swathDone u j s = nextSwath u (swathInked u j.garment.index s)) := by
  have inked := garmentAt_swathInked (u := u) hr
  have whole := swathInked_eq (u := u) hr
  rw [swathDone_eq, tallyFor_swathInked hr]
  by_cases graceful : (unitAt s u).graceful = true
  · rw [if_pos graceful]
    exact ⟨_, swathEnded_printOver inked rfl (by rw [whole]) (by rw [whole]) (by rw [whole]),
      fun _ => ⟨inked_inkedGarment nodup r, printIsOver_printOver (by rw [whole])⟩, fun h => (by cases graceful.symm.trans h),
      fun h => (by cases graceful.symm.trans h)⟩
  · rw [if_neg graceful]
    by_cases last : (tallyFor s u j.garment).bind TallyPlace.count = some (unitAt s u).swath
    · rw [if_pos last]
      have own := inked j.garment.index
      rw [if_pos rfl] at own
      have marked := changeGarment_of_some own (withPrintMark u .done)
      refine ⟨_, swathEnded_printOver (r' := withPrintMark u .done (inkedGarment s (unitAt s u).active r)) (fun h => ?_) ?_ ?_ ?_ ?_,
        fun h => absurd h graceful, fun _ _ => ⟨inked_withPrintMark nodup r .done, printIsOver_printOver ?_⟩, fun _ h => absurd last h⟩
      · rw [garmentAt_changeGarment, own, inked]
        split <;> rfl
      · rw [marked]
      · rw [marked, whole]
      · rw [marked, whole]
      · rw [marked, whole]
      · rw [marked, whole]
    · rw [if_neg last]
      exact ⟨_, swathEnded inked rfl (by rw [whole]) (by rw [whole]) (by rw [whole]) rfl rfl rfl rfl
          fun v hv => unitAt_putUnit_ne _ _ hv.symm,
        fun h => absurd h graceful, fun _ h => absurd h last, fun _ _ => ⟨inked_inkedGarment nodup r, rfl⟩⟩

/-! ## The carriage's DONE -/

theorem printStatus_done {u : Printer} {f : StatusFields} {s : State} (h : (unitAt s u).state = .printing) (fault : f.fault = 0)
    (done : f.done ≠ 0) : printStatus u f s = judgeSwath u s := by
  rw [printStatus, if_pos h, if_neg (by exact fun e => e fault), if_pos done]

theorem ownerStatus_print (u : Printer) (f : StatusFields) (s : State) : ownerStatus (printRole u) f s = printStatus u f s := by
  cases u <;> rfl

theorem judgeSwath_of_complete {u : Printer} {s : State} {j : PrintJob} (hj : (unitAt s u).job = some j)
    (complete : ∀ c ∈ (unitAt s u).active, (laneAt s c).state = .complete) : judgeSwath u s = swathDone u j s := by
  rw [judgeSwath, hj]
  exact if_pos (List.all_eq_true.mpr fun c hc => beq_iff_eq.mpr (complete c hc))

theorem judgeSwath_of_lacking {u : Printer} {s : State} {j : PrintJob} (hj : (unitAt s u).job = some j)
    (lacking : ∃ c ∈ (unitAt s u).active, (laneAt s c).state ≠ .complete) : judgeSwath u s = printCut u 5 s := by
  obtain ⟨c, hc, h⟩ := lacking
  rw [judgeSwath, hj]
  exact if_neg fun e => h (beq_iff_eq.mp (List.all_eq_true.mp e c hc))

/-- The PRINT_CUT of a cut stands in the report list while it has room. -/
theorem printCut_mem {u : Printer} {j : PrintJob} {r : Garment} {s : State} (hr : garmentAt s j.garment.index = some r)
    (room : s.reports.fifo.length < 16) (cause : Nat) :
    { incident .printCut with
      slot := some r.slot, garment := some j.garment.index, serial := r.serial, key := keyOf s r.slot
      detail := 16 * (printerNum u).val + cause, value := (unitAt s u).swath, time := s.clock } ∈
      (printHalted u j cause s).reports.fifo := by
  have halted : garmentAt (haltPrint u j s) j.garment.index = some (withPrintMark u .cut r) := by
    have raised : garmentAt (printHalted u j cause s) j.garment.index = garmentAt (haltPrint u j s) j.garment.index :=
      garmentAt_congr (by simp [printHalted]) _
    exact raised.symm.trans (garmentAt_printHalted hr cause)
  have reports : (haltPrint u j s).reports = s.reports := by simp [haltPrint]
  have clock : (haltPrint u j s).clock = s.clock := by simp [haltPrint]
  have lines : (haltPrint u j s).lines = s.lines := by simp [haltPrint]
  unfold printHalted raisePrintCut
  generalize haltPrint u j s = m at halted reports clock lines
  have mem := raise_mem (s := m) (by rw [reports]; exact room)
    { garmentIncident .printCut j.garment.index (withPrintMark u .cut r) m with
      detail := 16 * (printerNum u).val + cause, value := (unitAt s u).swath }
  have key : keyOf m r.slot = keyOf s r.slot := by unfold keyOf lineAt; rw [lines]
  simp only [halted]
  rw [← key, ← clock]
  cases u <;> exact mem

/-- A print cut keeps the garment's ink, tells PRINT_CUT and keeps the line's mode. -/
theorem printCut_tells {u : Printer} {j : PrintJob} {r : Garment} {s : State} (hj : (unitAt s u).job = some j)
    (hr : garmentAt s j.garment.index = some r) (good : r.cond = .good) (cause : Nat) :
    (garmentAt (printCut u cause s) j.garment.index).map Garment.ink = some r.ink ∧
      (s.reports.fifo.length < 16 →
        { incident .printCut with
          slot := some r.slot, garment := some j.garment.index, serial := r.serial, key := keyOf s r.slot
          detail := 16 * (printerNum u).val + cause, value := (unitAt s u).swath, time := s.clock } ∈
          (printCut u cause s).reports.fifo) := by
  have garments := (printCut_afterFail hj cause).2.2.1
  have halted := garmentAt_printHalted (u := u) hr cause
  obtain ⟨r', hr', noticed⟩ :=
    garmentAt_failCounted_self j.garment.index (withPrintMark u .cut r) (printFault cause) (printHalted u j cause s)
  rw [← failOp_of_counted halted (counted_iff.mpr (.inl ((cond_withPrintMark ..).trans good)))] at hr'
  have reports : (printCut u cause s).reports = (failOp j.garment.index (printFault cause) (printHalted u j cause s)).reports := by
    rw [printCut_of_job hj]
    simp only [releaseStation_frame]
    split <;> simp [dropPrint]
  refine ⟨?_, fun room => ?_⟩
  · rw [garmentAt_congr garments, hr']
    have ink : r'.ink = r.ink := by
      rw [noticed.rest]
      cases u <;> rfl
    exact congrArg some ink
  · rw [reports]
    exact (tells_failOp ..).mem (printCut_mem hr room cause)

theorem swathDoneIsJudged : Claims.SwathDoneIsJudged := by
  intro s frame u j r status printing hj hr nodup
  obtain ⟨v, f, freed, fault, done, run⟩ := statusDone_freed status (by cases u <;> rfl)
  have units (y : Printer) : unitAt v y = unitAt s y := unitAt_congr (by rw [freed.frame]) y
  have lanes (c : Fin 6) : laneAt v c = laneAt s c := laneAt_congr (by rw [freed.frame]) c
  have garments (h : Fin 32) : garmentAt v h = garmentAt s h := garmentAt_congr (by rw [freed.frame]) h
  have tally (y : Printer) (i : GarmentId) : tallyFor v y i = tallyFor s y i := tallyFor_congr (by rw [freed.frame]) y i
  have reports : v.reports = s.reports := by rw [freed.frame]
  have clock : v.clock = s.clock := by rw [freed.frame]
  have ctl : v.ctl = s.ctl := by rw [freed.frame]
  have carousel : v.carousel = s.carousel := by rw [freed.frame]
  have key (i : Fin 128) : keyOf v i = keyOf s i := by unfold keyOf lineAt; rw [freed.frame]
  rw [ownerStatus_print, printStatus_done (by rw [units]; exact printing) fault done] at run
  refine ⟨fun complete => ?_, fun lacking good => ?_⟩
  · rw [judgeSwath_of_complete (j := j) (by rw [units]; exact hj) (by simp only [units, lanes]; exact complete)] at run
    obtain ⟨r', ended, graceful, last, next⟩ := swathSucceeds (s := v) (u := u) (j := j) ((garments _).trans hr) (by rw [units]; exact nodup)
    have isOver (t : State) (h : Claims.printIsOver v t u j) : Claims.printIsOver s t u j := by
      unfold Claims.printIsOver platenAt at h ⊢
      rwa [carousel] at h
    have ink (m : Mark) (h : Claims.inked v u r r' m) : Claims.inked s u r r' m := by
      unfold Claims.inked at h ⊢
      simpa only [units, lanes] using h
    rw [units] at graceful last next
    rw [tally] at last next
    refine ⟨_, r', run, ended.own, fun h hne => (ended.others h hne).trans (garments h), ended.off,
      fun c hc => (ended.lanes c hc).trans (lanes c), fun y hy => (ended.units y hy).trans (units y), by rw [ended.link, freed.places],
      ended.reports.trans reports, fun h => ?_, fun h k => ?_, fun h k => ?_⟩
    · obtain ⟨i, o⟩ := graceful h
      exact ⟨ink _ i, isOver _ o⟩
    · obtain ⟨i, o⟩ := last h k
      exact ⟨ink _ i, isOver _ o⟩
    · obtain ⟨i, eq⟩ := next h k
      refine ⟨ink _ i, ?_, ?_⟩
      · have whole := swathInked_eq (u := u) ((garments j.garment.index).trans hr)
        rw [eq, nextSwath_eq, whole, freed.frame]
      · have unit : unitAt (nextSwath u (swathInked u j.garment.index v)) u =
            { unitAt s u with
              state := .waiting, swath := (unitAt s u).swath + 1, passes := 0, pass := 0, guard := none
              starve := some (starveTimer (swathInked u j.garment.index v) (unitAt s u).starveLimit) } := by
          rw [nextSwath, unitAt_putUnit_self, unitAt_swathInked ((garments j.garment.index).trans hr), units]
        have now : (swathInked u j.garment.index v).clock = s.clock := by
          rw [swathInked_eq ((garments j.garment.index).trans hr)]
          exact clock
        rw [eq, unit, starveTimer, timerFrom, now]
        rfl
  · have vj : (unitAt v u).job = some j := by rw [units]; exact hj
    have vr : garmentAt v j.garment.index = some r := (garments _).trans hr
    rw [judgeSwath_of_lacking vj (by simp only [units, lanes]; exact lacking)] at run
    obtain ⟨ink, told⟩ := printCut_tells vj vr good 5
    rw [key, units, reports, clock] at told
    exact ⟨_, run, printCut_cuts vj vr good 5, by rw [show (printCut u 5 v).ctl = v.ctl by simp, ctl], ink, told⟩

/-- Settles O40, by the station and what ends. -/
theorem stationTriesAdvanceTheirWork : Obligations.StationTriesAdvanceTheirWork :=
  ⟨stationCommandAccepted, heatOnBeginsTheExposure, passAcceptedBeginsTheSwath, swathDoneIsJudged, stationDoneEndsTheWork⟩

end Sys2Proof.Machine
end

section
/-! PROOFS. What goes on the station link (R158, R164 to R166, R200). -/

namespace Sys2Proof.Machine

-- Elaborated all at once, the proofs of this text start more threads than the check's memory limit lets it.
set_option Elab.async false

/-! ## The oldest work -/

/-- Of a list and what was held before, the fold keeps one that no other outwaits. -/
theorem foldl_olderWork {s : State} (l : List Work) (b : Work) :
    ∃ w, l.foldl (olderWork s) (some b) = some w ∧ (w = b ∨ w ∈ l) ∧ elapsed s b.rank ≤ elapsed s w.rank ∧
      ∀ v ∈ l, elapsed s v.rank ≤ elapsed s w.rank := by
  induction l generalizing b with
  | nil => exact ⟨b, rfl, .inl rfl, Nat.le_refl _, fun _ h => absurd h List.not_mem_nil⟩
  | cons x l ih =>
    by_cases h : elapsed s b.rank < elapsed s x.rank
    · obtain ⟨w, eq, mem, least, each⟩ := ih x
      refine ⟨w, ?_, .inr (List.mem_cons.mpr mem), (Nat.le_of_lt h).trans least, fun v hv => ?_⟩
      · rw [List.foldl_cons, show olderWork s (some b) x = some x from if_pos h, eq]
      · rcases List.mem_cons.mp hv with rfl | hv
        · exact least
        · exact each v hv
    · obtain ⟨w, eq, mem, least, each⟩ := ih b
      refine ⟨w, ?_, mem.imp_right (List.mem_cons_of_mem _), least, fun v hv => ?_⟩
      · rw [List.foldl_cons, show olderWork s (some b) x = some b from if_neg h, eq]
      · rcases List.mem_cons.mp hv with rfl | hv
        · exact (Nat.le_of_not_lt h).trans least
        · exact each v hv

theorem oldestWorkIsOldest : Claims.OldestWorkIsOldest := by
  intro s w h
  unfold oldestWork at h
  cases hl : readyWork s with
  | nil =>
    rw [hl] at h
    cases h
  | cons x l =>
    obtain ⟨v, eq, mem, least, each⟩ := foldl_olderWork (s := s) l x
    rw [hl, List.foldl_cons, olderWork, eq] at h
    cases h
    refine ⟨List.mem_cons.mpr mem, fun y hy => ?_⟩
    rcases List.mem_cons.mp hy with rfl | hy
    · exact least
    · exact each y hy

/-! ## A choice -/

theorem exec_linkChoice (s : State) : exec .linkChoice s = whenDue (choiceReady s) makeChoice s := rfl

theorem choiceReady_of {s : State} {c : LinkSettings} (att : attached s = true) (onLink : s.link.onLink = none)
    (service : s.link.service = none) (settings : s.link.settings = some c)
    (work : (chosenLine s c).isSome = true ∨ (oldestWork s).isSome = true) : choiceReady s = true := by
  simp [choiceReady, linkFree, att, onLink, service, settings, work]

theorem makeChoice_of {s : State} {c : LinkSettings} (settings : s.link.settings = some c) : makeChoice s = chooseWork c s := by
  rw [makeChoice, settings]

/-- The chosen line is the eligible one with no eligible line above it. -/
theorem chosenLine_of_highest {s : State} {c : LinkSettings} {a : Fin 8} (ha : lineEligible s c a = true)
    (above : ∀ b, a < b → lineEligible s c b = false) : chosenLine s c = some a := by
  have lines : linesDown = List.ofFn fun i : Fin 8 => (7 - i : Fin 8) := by decide
  have order : ∀ i j : Fin 8, i < j → (7 - j : Fin 8) < 7 - i := by decide
  have back : ∀ b : Fin 8, (7 - (7 - b) : Fin 8) = b := by decide
  rw [chosenLine, lines]
  refine List.find?_eq_some_iff_getElem.mpr ⟨ha, (7 - a : Fin 8).val, ?_, ?_, fun j hj => ?_⟩
  · rw [List.length_ofFn]
    exact (7 - a).isLt
  · rw [List.getElem_ofFn]
    exact back a
  · rw [List.getElem_ofFn, above _ ?_]
    · rfl
    · have := order ⟨j, hj.trans (7 - a).isLt⟩ (7 - a) hj
      rwa [back] at this

theorem chosenLine_of_none {s : State} {c : LinkSettings} (h : ∀ b, lineEligible s c b = false) : chosenLine s c = none :=
  List.find?_eq_none.mpr fun b _ => by rw [h b]; exact Bool.false_ne_true

theorem chooseWork_of_line {s : State} {c : LinkSettings} {a : Fin 8} (h : chosenLine s c = some a) : chooseWork c s = serveLine c a s := by
  rw [chooseWork, h]

theorem chooseWork_of_work {s : State} {c : LinkSettings} {w : Work} (h : chosenLine s c = none) (hw : oldestWork s = some w) :
    chooseWork c s = startWork c w s := by
  simp only [chooseWork, h, hw]

theorem serveLine_of {s : State} {c : LinkSettings} {a : Fin 8} {r : Role} {addr : Byte} (hr : (Tbl.at c.attention a).role = some r)
    (haddr : Tbl.at c.roles (roleNum r) = some addr) : serveLine c a s = startService c a r addr s := by
  simp only [serveLine, show attnRole c a = some r from hr, haddr]

theorem startWork_of {s : State} {c : LinkSettings} {w : Work} {addr : Byte} (haddr : Tbl.at c.roles (roleNum w.role) = some addr) :
    startWork c w s =
      putOnLink
        { carrier := w.carrier, role := w.role, addr := addr, kind := w.txn.kind, continued := false, word := w.txn.word, settings := c }
        (carrierStarts w s) := by
  rw [startWork, haddr]

theorem isScanner_eq (r : Role) : isScanner r = (r = .loadScanner || r = .packScanner : Bool) := by cases r <;> rfl

/-- What a piece of work holds: a requester's ready transaction, or a GET_STATUS of a due probe. -/
theorem mem_readyWork {s : State} {w : Work} (h : w ∈ readyWork s) :
    (∃ q n, readyTxn s q = some n ∧ w = { carrier := .requester q, role := n.txn.role, txn := n.txn, rank := n.rank }) ∨
      ∃ r t, w = { carrier := .probe, role := r, txn := getStatus r, rank := t } := by
  rcases List.mem_append.mp (List.mem_filter.mp h).1 with h | h
  · obtain ⟨q, -, hq⟩ := List.mem_filterMap.mp h
    obtain ⟨n, hn, rfl⟩ := Option.map_eq_some_iff.mp hq
    exact .inl ⟨q, n, hn, rfl⟩
  · obtain ⟨r, -, hr⟩ := List.mem_filterMap.mp h
    unfold probeWork at hr
    split at hr
    · cases hr
    · split at hr
      · cases hr
        exact .inr ⟨r, _, rfl⟩
      · cases hr

theorem readyTxn_eq {s : State} {q : Requester} {n : Queued} (h : readyTxn s q = some n) : (placeAt s q).now = some n := by
  unfold readyTxn at h
  split at h
  · cases h
  · next w hw =>
    split at h
    · rw [hw, h]
    · cases h

theorem placeOnLink_of_some {s : State} {q : Requester} {n : Queued} (h : (placeAt s q).now = some n) :
    placeOnLink q s = putPlace q { placeAt s q with now := some { n with state := .onLink } } s := by
  rw [placeOnLink, h]

theorem choiceServesAttentionFirst : Claims.ChoiceServesAttentionFirst := by
  intro s c att onLink service settings
  have chosen (h : (chosenLine s c).isSome = true ∨ (oldestWork s).isSome = true) : exec .linkChoice s = .next (chooseWork c s) := by
    rw [exec_linkChoice, whenDue_of_due (choiceReady_of att onLink service settings h), makeChoice_of settings]
  refine ⟨fun a r addr ha above hr haddr => ?_, fun w q n addr no hw hq hn haddr => ?_, fun w addr no hw hq haddr => ?_⟩
  · have line := chosenLine_of_highest ha above
    rw [chosen (.inl (by rw [line]; rfl)), chooseWork_of_line line, serveLine_of hr haddr, startService, isScanner_eq]
    rfl
  · rcases mem_readyWork (oldestWorkIsOldest s w hw).1 with ⟨p, m, hm, rfl⟩ | ⟨r, t, rfl⟩
    · cases hq
      cases hn.symm.trans (readyTxn_eq hm)
      refine ⟨_, chosen (.inr (by rw [hw]; rfl)), ?_⟩
      rw [chooseWork_of_work (chosenLine_of_none no) hw, startWork_of haddr]
      dsimp only [carrierStarts]
      rw [placeOnLink_of_some hn]
      refine ⟨rfl, rfl, service, ?_, fun p hp => ?_, fun a => ?_, rfl⟩
      · exact placeAt_putPlace_self q _ s
      · exact placeAt_putPlace_ne _ s hp.symm
      · exact congrArg AttnLine.served (Tbl.at_ofFn ..)
    · cases hq
  · rcases mem_readyWork (oldestWorkIsOldest s w hw).1 with ⟨p, m, hm, rfl⟩ | ⟨r, t, rfl⟩
    · cases hq
    · refine ⟨_, chosen (.inr (by rw [hw]; rfl)), ?_⟩
      rw [chooseWork_of_work (chosenLine_of_none no) hw, startWork_of haddr]
      exact ⟨rfl, rfl, rfl, rfl, moduleAt_putModule_self ..⟩

/-! ## The frame on the line -/

theorem length_linkCharacter (b : Byte) : (linkCharacter b).length = 10 := rfl

/-- Ten bit times to a byte. -/
theorem getElem?_characters (l : List Byte) {k i : Nat} (hi : i < 10) :
    (l.flatMap linkCharacter)[10 * k + i]? = (l[k]?).bind fun b => (linkCharacter b)[i]? := by
  induction l generalizing k with
  | nil => simp
  | cons b l ih =>
    rw [List.flatMap_cons]
    cases k with
    | zero =>
      rw [List.getElem?_append_left (by rw [length_linkCharacter]; omega)]
      simp
    | succ k =>
      rw [List.getElem?_append_right (by rw [length_linkCharacter]; omega), length_linkCharacter,
        show 10 * (k + 1) + i - 10 = 10 * k + i by omega, ih]
      rfl

theorem length_characters (l : List Byte) : (l.flatMap linkCharacter).length = 10 * l.length := by
  induction l with
  | nil => rfl
  | cons b l ih =>
    rw [List.flatMap_cons, List.length_append, length_linkCharacter, ih, List.length_cons]
    omega

theorem linkCharacter_data (b : Byte) (i : Fin 8) : (linkCharacter b)[1 + i.val]? = some (b.getLsbD i.val) := by
  fin_cases i <;> rfl

/-- The control byte of a request. -/
theorem controlByte (kind : TxnKind) (continued : Bool) :
    (BitVec.ofNat 8 (kindCode kind + 128 * continued.toNat)).toNat =
      (match kind with | .putData => 0 | .putCmd => 1 | .getStatus => 2 | .getData => 3) + 128 * continued.toNat := by
  cases kind <;> cases continued <;> rfl

theorem requestFrame_eq (o : OnLink) :
    requestFrame o =
      ([0xA5#8, o.addr] ++ leBytes 1 (kindCode o.kind + 128 * o.continued.toNat) ++ leBytes 4 o.word.toNat) ++
        leBytes 2 (frameCheck ([0xA5#8, o.addr] ++ leBytes 1 (kindCode o.kind + 128 * o.continued.toNat) ++ leBytes 4 o.word.toNat)).toNat :=
  rfl

theorem linkDriven_of {s : State} {o : OnLink} (ho : s.link.onLink = some o) (n : Nat) :
    linkDriven s n = ((requestFrame o).flatMap linkCharacter)[n]? := by
  rw [linkDriven, linkBits, frameOnLink, ho]

theorem requestFrameOnTheLine : Claims.RequestFrameOnTheLine := by
  refine ⟨fun s n h => ?_, fun s o ho => ?_⟩
  · rw [linkDriverEnable, linkBits, frameOnLink, h]
    exact decide_eq_false (Nat.not_lt_zero n)
  · have length : (requestFrame o).length = 9 := rfl
    have driven (k : Fin 9) {i : Nat} (hi : i < 10) : linkDriven s (10 * k.val + i) = (linkCharacter ((requestFrame o).getD k.val 0))[i]? := by
      rw [linkDriven_of ho, getElem?_characters _ hi, List.getElem?_eq_getElem (by rw [length]; exact k.isLt),
        List.getD_eq_getElem _ _ (by rw [length]; exact k.isLt)]
      rfl
    refine ⟨requestFrame o, length, rfl, rfl, controlByte .., fun k => ?_, ?_, fun n => ?_, fun k b => ?_, fun k => ⟨?_, ?_⟩⟩
    · have word : (requestFrame o).getD (3 + k.val) 0 = BitVec.ofNat 8 (o.word.toNat / 256 ^ k.val) := by
        fin_cases k
        · simp [requestFrame_eq, leBytes]
        · simp [requestFrame_eq, leBytes]
        · simp [requestFrame_eq, leBytes, Nat.div_div_eq_div_mul]
        · simp [requestFrame_eq, leBytes, Nat.div_div_eq_div_mul]
      rw [word, BitVec.toNat_ofNat]
    · have low : ((requestFrame o).getD 7 0).toNat = (frameCheck ((requestFrame o).take 7)).toNat % 256 := by
        rw [← BitVec.toNat_ofNat _ 8]
        rfl
      have high : ((requestFrame o).getD 8 0).toNat = (frameCheck ((requestFrame o).take 7)).toNat / 256 % 256 := by
        rw [← BitVec.toNat_ofNat _ 8]
        rfl
      have bound := (frameCheck ((requestFrame o).take 7)).isLt
      rw [low, high]
      omega
    · rw [linkDriverEnable, linkBits, length_characters, frameOnLink, ho]
      exact decide_eq_true_iff
    · rw [Nat.add_assoc, driven k (by omega), linkCharacter_data]
    · exact (driven k (i := 0) (by decide)).trans rfl
    · exact (driven k (i := 9) (by decide)).trans rfl

/-- Settles O21, by the order of the choice and by the characters of the frame. -/
theorem linkChoice : Obligations.LinkChoice := ⟨oldestWorkIsOldest, choiceServesAttentionFirst, requestFrameOnTheLine⟩

end Sys2Proof.Machine
end

section
/-! PROOFS. The base and post registers: the start of an attach, and nudges (R190, R194). -/

namespace Sys2Proof.Machine

-- Elaborated all at once, the proofs of this text start more threads than the check's memory limit lets it.
set_option Elab.async false

/-! ## No incident and no dirty slot touches the report in progress -/

@[simp] theorem job_raise (i : Incident) (s : State) : (raise i s).reports.job = s.reports.job := by
  rw [raise_eq]
  rcases pushIncident_cases s.reports { i with time := s.clock } with ⟨-, h⟩ | ⟨-, h⟩ <;> rw [h]

@[simp] theorem job_reportLine (i : Fin 128) (l : LineEntry) (s : State) : (reportLine i l s).reports.job = s.reports.job := rfl

@[simp] theorem job_judgeOrder (o : Order) (s : State) : (judgeOrder o s).reports.job = s.reports.job := by
  unfold judgeOrder
  repeat' split
  all_goals simp

@[simp] theorem job_finalOrder (i : Fin 128) (take : Byte) (key : Word) (s : State) :
    (finalOrder i take key s).reports.job = s.reports.job := by
  unfold finalOrder
  repeat' split
  all_goals simp

@[simp] theorem job_finishLine (i : Fin 128) (st : LineState) (r : Reason) (s : State) :
    (finishLine i st r s).reports.job = s.reports.job := by
  simp [finishLine]

@[simp] theorem job_settleCounts (i : Fin 128) (s : State) : (settleCounts i s).reports.job = s.reports.job := by
  unfold settleCounts
  dsimp only
  repeat' split
  all_goals simp

@[simp] theorem job_countFailed (i : Fin 128) (s : State) : (countFailed i s).reports.job = s.reports.job := by simp [countFailed]

@[simp] theorem job_failOp (g : Fin 32) (code : FaultCode) (s : State) : (failOp g code s).reports.job = s.reports.job := by
  unfold failOp failCounted ifCurrent
  repeat' split
  all_goals simp

@[simp] theorem job_useFluid (fluid : Nat) (s : State) : (useFluid fluid s).reports.job = s.reports.job := by
  unfold useFluid tankFall tankIncident
  dsimp only
  split <;> simp

@[simp] theorem job_closeValves (s : State) : (closeValves s).reports.job = s.reports.job := by
  unfold closeValves
  generalize allValves = l
  induction l generalizing s with
  | nil => rfl
  | cons z l ih =>
    rw [List.foldl_cons, ih, closeValve]
    split <;> simp

@[simp] theorem job_passCut (detail : Nat) (s : State) : (passCut detail s).reports.job = s.reports.job := by
  unfold passCut
  split <;> simp [failPass, raisePassCut, markPretreat]

@[simp] theorem job_pressCut (detail : Nat) (s : State) : (pressCut detail s).reports.job = s.reports.job := by
  unfold pressCut skipPress raisePressSkipped
  dsimp only
  repeat' split
  all_goals simp

@[simp] theorem job_printCut (u : Printer) (cause : Nat) (s : State) : (printCut u cause s).reports.job = s.reports.job := by
  unfold printCut dropPrint raisePrintCut
  dsimp only
  repeat' split
  all_goals simp [haltPrint]

@[simp] theorem job_flashCut (cause : Nat) (s : State) : (flashCut cause s).reports.job = s.reports.job := by
  unfold flashCut raiseFlashCut
  repeat' split
  all_goals simp [markFlash]

@[simp] theorem job_commandLost (x : Txn) (s : State) : (commandLost x s).reports.job = s.reports.job := by
  unfold commandLost commandFailed
  split <;> simp

@[simp] theorem job_serveCommandList (l : List Txn) (s : State) : (serveCommandList l s).reports.job = s.reports.job := by
  induction l generalizing s with
  | nil => rfl
  | cons x l ih =>
    rw [serveCommandList]
    split
    · rw [ih, job_commandLost]
    · simp

@[simp] theorem job_serveCommands (s : State) : (serveCommands s).reports.job = s.reports.job := by
  unfold serveCommands
  split <;> simp

/-! ## Transactions that complete LOST on a line in IDLE -/

/-- On a line in IDLE, no mode change, no touch of the report in progress, and a refused RUN request with its cause stays as it is. -/
structure Drops (s t : State) : Prop where
  quiet : s.ctl.mode = .idle → t.ctl.mode = .idle ∧ t.reports.job = s.reports.job
  refused : s.ctl.mode = .idle → s.ctl.request = .absent →
    t.ctl.request = .absent ∧ t.ctl.refused = s.ctl.refused ∧ (s.ctl.causes.config = true → t.ctl.causes.config = true)

theorem Drops.refl (s : State) : Drops s s := ⟨fun h => ⟨h, rfl⟩, fun _ h => ⟨h, rfl, id⟩⟩

theorem Drops.trans {s t u : State} (h : Drops s t) (k : Drops t u) : Drops s u := by
  refine ⟨fun idle => ?_, fun idle absent => ?_⟩
  · obtain ⟨mode, job⟩ := h.quiet idle
    obtain ⟨mode', job'⟩ := k.quiet mode
    exact ⟨mode', job'.trans job⟩
  · obtain ⟨request, refused, config⟩ := h.refused idle absent
    obtain ⟨request', refused', config'⟩ := k.refused (h.quiet idle).1 request
    exact ⟨request', refused'.trans refused, config' ∘ config⟩

theorem Drops.of_ctl {s t : State} (job : t.reports.job = s.reports.job := by simp) (ctl : t.ctl = s.ctl := by simp) : Drops s t :=
  ⟨fun h => ⟨by rw [ctl, h], job⟩, fun _ h => ⟨by rw [ctl, h], by rw [ctl], by rw [ctl]; exact id⟩⟩

theorem Drops.ite {p : Prop} [Decidable p] {s t u : State} (h : p → Drops s t) (k : ¬p → Drops s u) : Drops s (if p then t else u) := by
  split
  · next hp => exact h hp
  · next hp => exact k hp

theorem drops_holdWith {s : State} (h : s.ctl.mode = .idle) {c : Causes} (hc : s.ctl.causes.config = true → c.config = true) :
    Drops s (holdWith c s) := by
  have job : (setLine s.ctl.mode c s).reports.job = s.reports.job := by
    unfold setLine
    split <;> simp
  have ctl : (setLine s.ctl.mode c s).ctl = { s.ctl with causes := c } := by rw [setLine_causes]
  rw [holdWith_of_quiet (by rw [h]; decide)]
  exact ⟨fun _ => ⟨by rw [ctl]; exact h, job⟩, fun _ absent => ⟨by rw [ctl]; exact absent, by rw [ctl], by rw [ctl]; exact hc⟩⟩

theorem drops_serveCommands (s : State) : Drops s (serveCommands s) := by
  have ctl : (serveCommands s).ctl = { s.ctl with commands := (serveCommands s).ctl.commands } := by
    unfold serveCommands
    split
    · exact serveCommandList_ctl ..
    · rfl
  exact ⟨fun h => ⟨by rw [ctl]; exact h, by simp⟩, fun _ h => ⟨by rw [ctl]; exact h, by rw [ctl], by rw [ctl]; exact id⟩⟩

theorem drops_settleFaulted (s : State) : Drops s (settleFaulted s) := by
  refine .ite (fun pending => ⟨fun h => ⟨?_, ?_⟩, fun _ absent => ?_⟩) fun _ => .refl s
  · rw [refuseRun_plain]
    exact h
  · simp [refuseRun]
  · cases pending.symm.trans absent

theorem drops_indexFault (cause : Nat) (s : State) : Drops s (indexFault cause s) := by
  by_cases idle : s.ctl.mode = .idle
  · have ended : Drops s ((endOp s).setCarousel { (endOp s).carousel with homed := false }) := .of_ctl
    have held : Drops ((endOp s).setCarousel { (endOp s).carousel with homed := false })
        (holdWith { s.ctl.causes with indexFault := true } ((endOp s).setCarousel { (endOp s).carousel with homed := false })) :=
      drops_holdWith (s := (endOp s).setCarousel { (endOp s).carousel with homed := false }) idle id
    refine (ended.trans held).trans ?_
    have told (t : State) (i : Incident) (x : Txn) : Drops t (replaceTxn .carousel x (raise i t)) := .of_ctl
    unfold indexFault
    dsimp only
    split
    · exact (told ..).trans (drops_settleFaulted _)
    · exact told ..
  · exact ⟨fun h => absurd h idle, fun h => absurd h idle⟩

theorem drops_carouselOutcome (o : TxnOutcome) (s : State) : Drops s (carouselOutcome o s) := by
  unfold carouselOutcome
  split
  · exact .refl s
  · exact .ite (fun _ => drops_indexFault ..) fun _ => .refl s

theorem drops_ifActed {x : Txn} {f : State → State} {s : State} (h : Drops s (f s)) : Drops s (ifActed x f s) :=
  .ite (fun _ => h) fun _ => .refl s

theorem job_pressOutcome_lost (s : State) : (pressOutcome .lost s).reports.job = s.reports.job := by
  unfold pressOutcome failCause
  split <;> simp

theorem job_printOutcome_lost (u : Printer) (s : State) : (printOutcome u .lost s).reports.job = s.reports.job := by
  unfold printOutcome failCause
  split <;> simp

theorem job_flashOutcome_lost (s : State) : (flashOutcome .lost s).reports.job = s.reports.job := by
  unfold flashOutcome failCause
  split <;> simp

theorem job_pretreatOutcome_lost (s : State) : (pretreatOutcome .lost s).reports.job = s.reports.job := by
  unfold pretreatOutcome failCause
  dsimp only
  split <;> simp

theorem drops_deliver_lost (q : Requester) (x : Txn) (s : State) : Drops s (deliver q x .lost s) := by
  cases q with
  | carousel => exact drops_ifActed (drops_carouselOutcome ..)
  | pretreat => exact drops_ifActed (.of_ctl (job_pretreatOutcome_lost s))
  | press => exact drops_ifActed (.of_ctl (job_pressOutcome_lost s))
  | white => exact drops_ifActed (.of_ctl (job_printOutcome_lost .white s))
  | flash => exact drops_ifActed (.of_ctl (job_flashOutcome_lost s))
  | color => exact drops_ifActed (.of_ctl (job_printOutcome_lost .color s))
  | sampler =>
    refine .of_ctl ?_ (by simp [deliver])
    unfold deliver samplerOutcome sampleOutcome
    dsimp only
    split <;> simp
  | load | pack => exact .refl s
  | line => exact (drops_ifActed (f := lineOutcome x .lost) (.of_ctl (job_commandLost ..))).trans (drops_serveCommands _)

theorem drops_drainKept (q : Requester) (l : List Txn) (s : State) : Drops s (drainKept q l s) := by
  induction l generalizing s with
  | nil => exact .refl s
  | cons x l ih =>
    have kept : Drops s (keep q l s) := .of_ctl rfl rfl
    exact .ite (fun _ => .refl s) fun _ => .ite (fun _ => (kept.trans (drops_deliver_lost ..)).trans (ih _)) fun _ =>
      kept.trans (.of_ctl rfl rfl)

theorem drops_complete_lost (q : Requester) (x : Txn) (s : State) : Drops s (complete q x .lost s) :=
  ((Drops.of_ctl (s := s) (t := putPlace q { placeAt s q with now := none } s) rfl rfl).trans (drops_deliver_lost ..)).trans (drops_drainKept ..)

theorem drops_loseQueued (p : Txn → Bool) (s : State) (q : Requester) : Drops s (loseQueued p s q) := by
  unfold loseQueued
  split
  · exact .refl s
  · split
    · exact .refl s
    · exact .ite (fun _ => drops_complete_lost ..) fun _ => .refl s
    · exact .ite (fun _ => drops_complete_lost ..) fun _ => .refl s

theorem drops_loseAll (p : Txn → Bool) (s : State) : Drops s (loseAll p s) := by
  unfold loseAll
  generalize allRequesters = l
  induction l generalizing s with
  | nil => exact .refl s
  | cons q l ih => exact (drops_loseQueued p s q).trans (ih _)

/-! ## The start of an attach -/

theorem exec_exchBaseHiWrite (v : Word) (s : State) :
    exec (.exchBaseHiWrite v) s =
      .next (if s.ctl.mode = .idle then startAttach { s with exch := { s.exch with baseHi := v } }
        else { s with exch := { s.exch with baseHi := v } }) := rfl

/-- The exchange interface and the report writer stopped for an attach, before the RUN request's read is refused. -/
def attachBegun (s : State) : State :=
  { s with
    port :=
      { s.port with
        current := s.port.current.map (discardAccess exchAccesses), waiting := s.port.waiting.map (discardAccess exchAccesses) }
    exch := readingExch (stagedBase s) s.exch
    reports := { s.reports with job := none, headerWriting := false } }

theorem startAttach_eq (s : State) : startAttach s = askAttach (loseAll (fun _ => true) (refuseReading (attachBegun s))) := rfl

theorem refuseReading_of_reading {s : State} (idle : s.ctl.mode = .idle) (h : s.ctl.request = .reading) :
    refuseReading s =
      { s with
        ctl := { s.ctl with refused := true, request := .absent, causes := { s.ctl.causes with config := true } }
        reports := Claims.refusedWithConfig 0 0 s } :=
  (if_pos h).trans (refuseRun_config (by rw [idle]; decide) 0 0)

theorem stagedBase_toNat (s : State) :
    (stagedBase s).toNat = 4294967296 * s.exch.baseHi.toNat + (s.exch.baseLo.toNat - s.exch.baseLo.toNat % 4096) := by
  have low : (s.exch.baseLo &&& 0xFFFFF000#32).toNat = s.exch.baseLo.toNat - s.exch.baseLo.toNat % 4096 := by
    have clear : s.exch.baseLo &&& 0xFFFFF000#32 = s.exch.baseLo >>> 12 <<< 12 := by
      ext i hi
      simp only [BitVec.getElem_and, BitVec.getElem_shiftLeft, BitVec.getElem_ushiftRight]
      interval_cases i <;> simp
    rw [clear, BitVec.toNat_shiftLeft, BitVec.toNat_ushiftRight, Nat.shiftRight_eq_div_pow, Nat.shiftLeft_eq]
    have := s.exch.baseLo.isLt
    omega
  rw [stagedBase, BitVec.toNat_append, ← Nat.shiftLeft_add_eq_or_of_lt (BitVec.isLt _), low, Nat.shiftLeft_eq]
  omega

/-- The kinds of access that a new attach does not discard are those of the fetch engine. -/
theorem discardAccess_live {a : Access} (kind : (discardAccess exchAccesses a).kind ≠ .descriptor)
    (kind' : (discardAccess exchAccesses a).kind ≠ .burst) : (discardAccess exchAccesses a).discard = true := by
  unfold discardAccess at *
  split at kind
  · next h => rw [if_pos h]
  · next h => cases hk : a.kind <;> simp_all [exchAccesses]

/-- What stands at the port after an access is asked for. -/
theorem mem_askPort {a x : Access} {s : State} :
    x ∈ (askPort a s).port.current.toList ++ (askPort a s).port.waiting ↔ x = a ∨ x ∈ s.port.current.toList ++ s.port.waiting := by
  unfold askPort
  split
  · next h => simp [h]
  · next c h =>
    simp [h]
    tauto

theorem baseWriteStartsAttachInIdle : Claims.BaseWriteStartsAttachInIdle := by
  intro v s
  rw [exec_exchBaseHiWrite]
  refine ⟨fun h => by rw [if_neg h], fun idle => ?_⟩
  rw [if_pos idle, startAttach_eq]
  generalize hb : ({ s with exch := { s.exch with baseHi := v } } : State) = b
  have base : (stagedBase b).toNat = 4294967296 * v.toNat + (s.exch.baseLo.toNat - s.exch.baseLo.toNat % 4096) := by
    rw [stagedBase_toNat, ← hb]
  have refusedRest : (refuseReading (attachBegun b)).exch = (attachBegun b).exch ∧
      (refuseReading (attachBegun b)).port = (attachBegun b).port := by simp
  obtain ⟨rexch, rport⟩ := refusedRest
  have idleBegun : (attachBegun b).ctl.mode = .idle := by rw [← hb]; exact idle
  have request : (attachBegun b).ctl.request = s.ctl.request := by rw [← hb]; rfl
  have rjob : (refuseReading (attachBegun b)).reports.job = none ∧ (refuseReading (attachBegun b)).ctl.mode = .idle := by
    by_cases h : (attachBegun b).ctl.request = .reading
    · refine ⟨?_, by rw [refuseReading_of_reading idleBegun h]; exact idleBegun⟩
      have kept : (refuseReading (attachBegun b)).reports.job = (attachBegun b).reports.job := by
        rw [refuseReading, if_pos h]
        have plain : (refuseRun 0 0 false (attachBegun b)).reports.job = (attachBegun b).reports.job := by simp [refuseRun]
        have added := (drops_holdWith (s := refuseRun 0 0 false (attachBegun b)) (by rw [refuseRun_plain]; exact idleBegun)
          (c := { (refuseRun 0 0 false (attachBegun b)).ctl.causes with config := true }) fun _ => rfl).quiet
            (by rw [refuseRun_plain]; exact idleBegun)
        exact added.2.trans plain
      exact kept
    · rw [show refuseReading (attachBegun b) = attachBegun b from if_neg h]
      exact ⟨rfl, idleBegun⟩
  have drops := drops_loseAll (fun _ => true) (refuseReading (attachBegun b))
  have exch : (loseAll (fun _ => true) (refuseReading (attachBegun b))).exch = (attachBegun b).exch := by simp
  have port : (loseAll (fun _ => true) (refuseReading (attachBegun b))).port = (attachBegun b).port := by simp
  generalize loseAll (fun _ => true) (refuseReading (attachBegun b)) = x at drops exch port
  have access : askAttach x = askPort { kind := .attach, discard := false, addr := stagedBase b + 0x40, length := 960, writes := [] } x := by
    rw [askAttach, baseAddr, exch]
    rfl
  have whole := askPort_eq { kind := .attach, discard := false, addr := stagedBase b + 0x40, length := 960, writes := [] } x
  rw [← access] at whole
  refine ⟨_, stagedBase b, rfl, base, ?_, fun reading => ?_, ?_, fun a ha desc burst live => ?_, ?_⟩
  · rw [whole]
    change x.exch = _
    rw [exch, ← hb]
    rfl
  · have first := refuseReading_of_reading idleBegun (request.trans reading)
    obtain ⟨absent, refused, config⟩ := drops.refused rjob.2 (by rw [first])
    rw [whole]
    exact ⟨absent, by rw [refused, first], config (by rw [first])⟩
  · rw [access]
    exact mem_askPort.mpr (.inl rfl)
  · rw [access] at ha
    rcases mem_askPort.mp ha with rfl | ha
    · exact ⟨rfl, rfl⟩
    · rw [port] at ha
      have discarded : ∃ y, a = discardAccess exchAccesses y := by
        rcases List.mem_append.mp ha with ha | ha
        · rw [attachBegun, Option.mem_toList, Option.map_eq_some_iff] at ha
          obtain ⟨y, -, rfl⟩ := ha
          exact ⟨y, rfl⟩
        · obtain ⟨y, -, rfl⟩ := List.mem_map.mp ha
          exact ⟨y, rfl⟩
      obtain ⟨y, rfl⟩ := discarded
      cases (discardAccess_live desc burst).symm.trans live
  · rw [whole]
    exact (drops.quiet rjob.2).2.trans rjob.1

/-! ## Nudges -/

theorem exec_postWrite (v : Word) (s : State) :
    exec (.postWrite v) s =
      .next
        (if attached s then
          if isNudge (v.toNat % 256) && s.exch.nudges.length < 16 then pushNudge (v.toNat % 256) s else dropNudge (v.toNat % 256) s
        else s) := rfl

theorem isNudge_iff (n : Nat) : isNudge n = true ↔ n < 128 ∨ n = 0xFE ∨ n = 0xFF := by
  simp [isNudge, or_assoc]

theorem postWriteQueuesNudge : Claims.PostWriteQueuesNudge := by
  intro v s
  rw [exec_postWrite]
  refine ⟨fun h => by rw [h]; rfl, fun h => ?_⟩
  rw [if_pos h]
  have queued : (isNudge (v.toNat % 256) && decide (s.exch.nudges.length < 16)) = true ↔
      (v.toNat % 256 < 128 ∨ v.toNat % 256 = 0xFE ∨ v.toNat % 256 = 0xFF) ∧ s.exch.nudges.length < 16 := by
    rw [Bool.and_eq_true, isNudge_iff, decide_eq_true_iff]
  refine ⟨fun taken => ?_, fun dropped => ?_⟩
  · have byte : BitVec.ofNat 8 (v.toNat % 256) = v.setWidth 8 := BitVec.eq_of_toNat_eq (by simp)
    rw [if_pos (queued.mpr taken), pushNudge, byte]
    rfl
  · rw [if_neg fun e => dropped (queued.mp e), dropNudge]
    cases hd : s.exch.nudgeDrop with
    | true =>
      rw [if_pos rfl, if_pos rfl, ← hd]
    | false =>
      rw [if_neg Bool.false_ne_true, if_neg Bool.false_ne_true, raise_eq]
      rfl

/-- Settles O11, by the line mode and by the nudge FIFO. -/
theorem baseAndPostWrites : Obligations.BaseAndPostWrites := ⟨baseWriteStartsAttachInIdle, postWriteQueuesNudge⟩

end Sys2Proof.Machine
end

section
/-! PROOFS. A void request: by the state of its line, what it does to the garments, and the end of the line (R20 to R22). -/

namespace Sys2Proof.Machine

-- Elaborated all at once, the proofs of this text start more threads than the check's memory limit lets it.
set_option Elab.async false

/-! ## The look that finds a void request -/

/-- The state in which a void request reaches the line table. -/
def voidRead (slot : Fin 128) (s : State) : State :=
  { s with port := Claims.portFree s, exch := { s.exch with faults := Tbl.put s.exch.faults slot false } }

theorem foundNoPost_of_void {bytes : List Byte} (h : bytes.getD 1 0 ≠ 0) (slot : Fin 128) (ofSweep : Bool) (s : State) :
    foundNoPost slot ofSweep bytes s = endActivity ofSweep (voidLine slot s) := by
  have asked : slotVoid bytes = true := by
    rw [slotVoid, byteAt]
    exact bne_iff_ne.mpr fun e => h (BitVec.eq_of_toNat_eq e)
  rw [foundNoPost, if_pos asked]

theorem voidFound_exec {s : State} {slot : Fin 128} {ofSweep : Bool} {bytes : List Byte} (h : Claims.voidFound s slot ofSweep bytes) :
    exec (.handCountReadDone (.data bytes)) s = .next (endActivity ofSweep (voidLine slot (voidRead slot s))) := by
  obtain ⟨a, posting, ⟨only, look⟩, hlen, hhand, hvoid⟩ := h
  have read : exec (.handCountReadDone (.data bytes)) s = .next (lookOutcome (.data bytes) lookRead (withPortFree s)) :=
    readDone_of_only only (readFits_data hlen) _
  rw [read, lookOutcome_of_look (by exact look), lookRead_of_void (by exact hhand), foundNoPost_of_void hvoid]
  rfl

theorem lookOver_eq (slot : Fin 128) (ofSweep : Bool) (s : State) : endActivity ofSweep (voidRead slot s) = Claims.lookOver slot ofSweep s := by
  rw [endActivity_eq]
  rfl

/-! ## The line -/

theorem closeVoid_eq (slot : Fin 128) (s : State) :
    closeVoid slot s =
      { s with
        lines := Tbl.put s.lines slot { lineAt s slot with state := .closing, reason := .void }
        reports := { s.reports with dirty := Tbl.put s.reports.dirty slot true } } := rfl

theorem lineAt_closeVoid (slot o : Fin 128) (s : State) :
    lineAt (closeVoid slot s) o = if slot = o then { lineAt s slot with state := .closing, reason := .void } else lineAt s o :=
  lineAt_reportLine ..

theorem settleCounts_of_open {i : Fin 128} {s : State} (unmet : (lineAt s i).finished < quantityOf (lineAt s i))
    (bound : 1 ≤ (lineAt s i).bound) : settleCounts i s = s := by
  unfold settleCounts
  dsimp only
  rw [if_neg fun h => Nat.not_le.mpr unmet h.2, if_neg fun h => by omega]

theorem settleCounts_of_over {i : Fin 128} {s : State} (unmet : (lineAt s i).finished < quantityOf (lineAt s i))
    (closing : (lineAt s i).state = .closing) (bound : (lineAt s i).bound = 0) :
    settleCounts i s = finishLine i (finalOfReason (lineAt s i).reason) (lineAt s i).reason s := by
  unfold settleCounts
  dsimp only
  rw [if_neg fun h => Nat.not_le.mpr unmet h.2, if_pos ⟨closing, bound⟩]

theorem lines_put_put (t : Tbl 128 LineEntry) (i : Fin 128) (x y : LineEntry) : Tbl.put (Tbl.put t i x) i y = Tbl.put t i y :=
  Vector.set_set ..

/-- A line that becomes final: its entry, the acceptance list and its order change. -/
theorem finishLine_eq (i : Fin 128) (st : LineState) (r : Reason) (s : State) :
    finishLine i st r s =
      { s with
        lines := Tbl.put s.lines i { lineAt s i with state := st, reason := r }, accepted := s.accepted.filter fun x => x != i
        pack := { s.pack with orders := (finishLine i st r s).pack.orders }, reports := (finishLine i st r s).reports } := by
  have orders (o : Order) (t : State) : (judgeOrder o t).pack = { t.pack with orders := (judgeOrder o t).pack.orders } := by
    unfold judgeOrder
    repeat' split
    all_goals simp [putOrder, deleteOrder, raise]
  have final (take : Byte) (key : Word) (t : State) :
      (finalOrder i take key t).pack = { t.pack with orders := (finalOrder i take key t).pack.orders } := by
    unfold finalOrder
    repeat' split
    · rfl
    · rw [orders]
      rfl
    · rfl
  refine state_eq_iff.mpr ?_
  simp only [finishLine, finalOrder_frame]
  rw [final]
  simp [reportLine, putLine, markDirty]

theorem voidByLineState : Claims.VoidByLineState := by
  intro s slot ofSweep bytes found
  rw [voidFound_exec found]
  have line : lineAt (voidRead slot s) slot = lineAt s slot := rfl
  refine ⟨fun queued bound unmet => ⟨_, rfl, ?_⟩, fun closed => ?_⟩
  · have closedLine := lineAt_closeVoid slot slot (voidRead slot s)
    rw [if_pos rfl, line] at closedLine
    have ended : voidLine slot (voidRead slot s) = finishLine slot .voided .void (closeVoid slot (voidRead slot s)) := by
      have settled := settleCounts_of_over (i := slot) (s := closeVoid slot (voidRead slot s)) (by rw [closedLine]; exact unmet)
        (by rw [closedLine]) (by rw [closedLine]; exact bound)
      rw [closedLine] at settled
      unfold voidLine
      rw [line, queued]
      exact settled
    rw [ended]
    have whole := finishLine_eq slot .voided .void (closeVoid slot (voidRead slot s))
    have dirty : Tbl.at (finishLine slot .voided .void (closeVoid slot (voidRead slot s))).reports.dirty slot = true :=
      (tells_finishLine ..).dirty slot (dirty_reportLine ..)
    generalize finishLine slot .voided .void (closeVoid slot (voidRead slot s)) = t at whole dirty
    have own := endActivity_eq ofSweep t
    generalize endActivity ofSweep t = u at own
    refine ⟨?_, ?_, by rw [own]; exact dirty⟩
    · rw [own, whole, closedLine, closeVoid_eq]
      dsimp only
      rw [lines_put_put]
      rfl
    · rw [own, whole]
      rfl
  · have same : voidLine slot (voidRead slot s) = voidRead slot s := by
      unfold voidLine
      rw [line]
      rcases closed with h | h | h | h | h | ⟨h, reason⟩ <;> rw [h]
      simp only [reason]
      rfl
    rw [same, lookOver_eq]

/-! ## Notices of a void -/

/-- A notice of a void: STRIPPED or VOID_PRINTED. -/
def ofVoid (n : Notice) : Prop := n = .stripped ∨ n = .voidPrinted

theorem ofVoid.gentle {n : Notice} (h : ofVoid n) : abruptNotice n = false := by
  rcases h with rfl | rfl <;> rfl

theorem garments_noticePrint {n : Notice} (h : ofVoid n) (u : Printer) (g : GarmentId) (s : State) :
    (noticePrint u g n s).garments = s.garments := by
  have tallied : (noticeTallied u g n s).garments = s.garments := by simp
  have current (j : PrintJob) (t : State) : (noticeCurrent u j n t).garments = t.garments := by
    unfold noticeCurrent
    rw [h.gentle]
    repeat' split
    all_goals simp_all
  unfold noticePrint
  dsimp only
  split
  · exact tallied
  · split
    · exact (current ..).trans tallied
    · exact tallied

theorem garments_noticeFlash {n : Notice} (h : ofVoid n) (g : GarmentId) (s : State) : (noticeFlash g n s).garments = s.garments := by
  have exposure (t : State) : (noticeExposure g.index n t).garments = t.garments := by
    rcases h with rfl | rfl
    · rfl
    · simp [noticeExposure]
  unfold noticeFlash
  repeat' split
  all_goals simp [exposure]

theorem garments_noticeAll {n : Notice} (h : ofVoid n) (g : Fin 32) (r : Garment) (s : State) (i : Fin 32) :
    garmentAt (noticeAll g r n s) i = garmentAt s i ∨
      ∃ x d, i = g ∧ garmentAt s i = some x ∧ garmentAt (noticeAll g r n s) i = some { x with dest := d } := by
  have before : (noticePrint .color (garmentId g r) n (noticeFlash (garmentId g r) n (noticePrint .white (garmentId g r) n
      (noticePress g (noticePretreat g (noticeFetch (garmentId g r) n s)))))).garments = s.garments := by
    rw [garments_noticePrint h, garments_noticeFlash h, garments_noticePrint h]
    simp
  have unload (t : State) : garmentAt (noticeUnload g t) i = garmentAt t i ∨
      ∃ x d, i = g ∧ garmentAt t i = some x ∧ garmentAt (noticeUnload g t) i = some { x with dest := d } := by
    unfold noticeUnload
    split
    · next hpos =>
      unfold decideUnload
      rw [hpos]
      dsimp only
      split
      · exact .inl rfl
      · next x hx =>
        by_cases hi : i = g
        · subst hi
          exact .inr ⟨x, _, rfl, hx, garmentAt_putGarment_self ..⟩
        · refine .inl ?_
          exact (garmentAt_putGarment ..).trans (if_neg fun e => hi e.symm)
    · exact .inl rfl
  have same (i : Fin 32) := garmentAt_congr before i
  rcases unload _ with e | ⟨x, d, hi, hx, hd⟩
  · exact .inl (e.trans (same i))
  · exact .inr ⟨x, d, hi, (same i).symm.trans hx, hd⟩

/-! ## What a notice leaves of another garment's prints -/

/-- The unit works on the garment and has started a swath of it. -/
def swathOn (s : State) (g : GarmentId) (u : Printer) : Bool := unitHas s u g && unitSwathStarted (unitAt s u)

theorem swathOn_congr {s t : State} {u : Printer} (h : unitAt t u = unitAt s u) (g : GarmentId) : swathOn t g u = swathOn s g u := by
  unfold swathOn unitHas
  rw [h]

theorem swathOn_of_other {s : State} {g : GarmentId} {u : Printer} (h : ∀ j, (unitAt s u).job = some j → j.garment ≠ g) :
    swathOn s g u = false := by
  unfold swathOn unitHas
  split
  · rfl
  · next j hj => rw [beq_false_of_ne (h j hj), Bool.false_and]

theorem unitAt_leaveUnit (u v : Printer) (j : PrintJob) (s : State) :
    unitAt (leaveUnit u j s) v = if u = v then PrintUnit.reset else unitAt s v := by
  rw [leaveUnit, idleUnit, unitAt_putUnit, releaseStation_eq]
  rfl

/-- A notice of one garment leaves every unit as it is but that garment's, which is idle or goes on with the same print. -/
theorem unitAt_noticeCurrent {n : Notice} (h : ofVoid n) (u v : Printer) (j : PrintJob) (s : State) (hj : (unitAt s u).job = some j) :
    unitAt (noticeCurrent u j n s) v = unitAt s v ∨
      v = u ∧ ((unitAt (noticeCurrent u j n s) v).job = none ∨ (unitAt (noticeCurrent u j n s) v).job = some j) := by
  have idled (t : State) (prints : t.prints = s.prints) :
      unitAt (leaveUnit u j t) v = unitAt s v ∨ v = u ∧ ((unitAt (leaveUnit u j t) v).job = none ∨ (unitAt (leaveUnit u j t) v).job = some j) := by
    rw [unitAt_leaveUnit]
    by_cases hv : u = v
    · rw [if_pos hv]
      exact .inr ⟨hv.symm, .inl rfl⟩
    · rw [if_neg hv]
      exact .inl (unitAt_congr prints v)
  have after : unitAt (fadeAfter u j s) v = unitAt s v ∨
      v = u ∧ ((unitAt (fadeAfter u j s) v).job = none ∨ (unitAt (fadeAfter u j s) v).job = some j) := by
    have prints : unitAt (fadeAfter u j s) v = unitAt (putUnit u { unitAt s u with graceful := true } s) v :=
      unitAt_congr (by simp [fadeAfter]) v
    rw [prints, unitAt_putUnit]
    by_cases hv : u = v
    · rw [if_pos hv]
      exact .inr ⟨hv.symm, .inr hj⟩
    · rw [if_neg hv]
      exact .inl rfl
  unfold noticeCurrent
  rw [h.gentle]
  split
  · exact .inl rfl
  · split
    · exact .inl rfl
    · exact idled s rfl
  · exact idled _ (by simp)
  all_goals
    rw [if_neg Bool.false_ne_true]
    split
    · exact after
    · exact .inl rfl

theorem swathOn_noticePrint {n : Notice} (h : ofVoid n) {i g : GarmentId} (hne : i ≠ g) (u v : Printer) (s : State) :
    swathOn (noticePrint u i n s) g v = swathOn s g v := by
  have tallied (w : Printer) : unitAt (noticeTallied u i n s) w = unitAt s w := unitAt_congr (by simp) w
  unfold noticePrint
  dsimp only
  split
  · exact swathOn_congr (tallied v) g
  · next j hj =>
    split
    · next hg =>
      rcases unitAt_noticeCurrent h u v j (noticeTallied u i n s) ((congrArg PrintUnit.job (tallied u)).trans hj) with e | ⟨rfl, e⟩
      · exact swathOn_congr (e.trans (tallied v)) g
      · rw [swathOn_of_other (s := s) fun x hx => by cases hj.symm.trans hx; rwa [hg]]
        refine swathOn_of_other fun x hx => ?_
        rcases e with e | e
        · cases e.symm.trans hx
        · cases e.symm.trans hx
          rwa [hg]
    · exact swathOn_congr (tallied v) g

theorem swathOn_noticeAll {n : Notice} (h : ofVoid n) {i : Fin 32} {r : Garment} {g : GarmentId} (hne : i ≠ g.index) (v : Printer) (s : State) :
    swathOn (noticeAll i r n s) g v = swathOn s g v := by
  have other : garmentId i r ≠ g := fun e => hne (congrArg GarmentId.index e)
  have unload (t : State) : swathOn (noticeUnload i t) g v = swathOn t g v := swathOn_congr (unitAt_congr (by simp) v) g
  have flash (t : State) : swathOn (noticeFlash (garmentId i r) n t) g v = swathOn t g v := swathOn_congr (unitAt_congr (by simp) v) g
  unfold noticeAll
  dsimp only
  rw [unload, swathOn_noticePrint h other, flash, swathOn_noticePrint h other]
  exact swathOn_congr (unitAt_congr (by simp) v) g

theorem swathStarted_iff (s : State) (g : Fin 32) (r : Garment) :
    swathStarted s g r = true ↔ r.white = .done ∨ r.color = .done ∨ ∃ u, swathOn s (garmentId g r) u = true := by
  have units : (∃ u, swathOn s (garmentId g r) u = true) ↔
      swathOn s (garmentId g r) .white = true ∨ swathOn s (garmentId g r) .color = true :=
    ⟨fun ⟨u, hu⟩ => by cases u <;> simp [hu], fun h => h.elim (⟨_, ·⟩) (⟨_, ·⟩)⟩
  rw [units]
  simp only [swathStarted, swathStartedAtUnit, Bool.or_eq_true, beq_iff_eq, printMark, swathOn]
  tauto

theorem swathOn_iff (s : State) (g : GarmentId) (u : Printer) :
    swathOn s g u = true ↔
      ∃ j : PrintJob, (unitAt s u).job = some j ∧ j.garment = g ∧
        ((unitAt s u).state = .command ∨ (unitAt s u).state = .printing ∨ ((unitAt s u).state = .waiting ∧ 1 < (unitAt s u).swath)) := by
  have started : unitSwathStarted (unitAt s u) = true ↔
      (unitAt s u).state = .command ∨ (unitAt s u).state = .printing ∨ ((unitAt s u).state = .waiting ∧ 1 < (unitAt s u).swath) := by
    unfold unitSwathStarted
    split <;> simp_all
  rw [swathOn, Bool.and_eq_true, started, unitHas]
  cases (unitAt s u).job with
  | none => simp
  | some j => simp

theorem printStarted_iff (s : State) (g : Fin 32) (r : Garment) : Claims.printStarted s g r ↔ swathStarted s g r = true := by
  rw [swathStarted_iff]
  simp only [swathOn_iff, Claims.printStarted, garmentId]

theorem passStarted_iff (s : State) (g : Fin 32) (r : Garment) : Claims.passStarted s g r ↔ sprayStarted s g r = true := by
  have flight : passInFlight s = true ↔ s.pretreat.state = .spraying ∨ s.pretreat.state = .finishing := by
    unfold passInFlight
    split <;> simp_all
  simp only [sprayStarted, Bool.or_eq_true, Bool.and_eq_true, beq_iff_eq, flight, Claims.passStarted]
  cases s.pretreat.job with
  | none => simp
  | some j => simp [or_assoc]

/-! ## One garment -/

theorem skipPending_eq (m : Mark) : skipPending m = Claims.skipped m := by cases m <;> rfl

theorem skipped_ne (m : Mark) : Claims.skipped m ≠ .pending := by cases m <;> decide

/-- The garment as a void leaves it, with a condition and a destination. -/
def voidedGarment (r : Garment) (c : Condition) (d : Option Destination) : Garment := { skipMarks r with cond := c, dest := d }

/-- A strip before its notice. -/
def stripped (g : Fin 32) (r : Garment) (s : State) : State :=
  raise { shirtIncident .garmentStripped g r with detail := destinationCode (stripDestination s g r) }
    (ifCurrent r lowerBound (putGarment g { skipMarks r with cond := .stripped } s))

theorem stripGarment_eq (g : Fin 32) (r : Garment) (s : State) : stripGarment g r s = noticeAll g r .stripped (stripped g r s) := rfl

theorem garmentAt_stripped (g : Fin 32) (r : Garment) (s : State) (i : Fin 32) :
    garmentAt (stripped g r s) i = if g = i then some { skipMarks r with cond := .stripped } else garmentAt s i := by
  rw [garmentAt_congr (s := putGarment g { skipMarks r with cond := .stripped } s) (by unfold stripped ifCurrent; split <;> simp),
    garmentAt_putGarment]

theorem prints_stripped (g : Fin 32) (r : Garment) (s : State) : (stripped g r s).prints = s.prints := by
  unfold stripped ifCurrent
  split <;> simp

/-- A void of garment `i` touches its record alone, and another garment's swaths stay. -/
structure Voids (i : Fin 32) (s t : State) : Prop where
  others : ∀ g, g ≠ i → garmentAt t g = garmentAt s g
  empty : garmentAt s i = none → garmentAt t i = none
  swaths : ∀ (g : GarmentId) (u : Printer), g.index ≠ i → swathOn t g u = swathOn s g u

theorem Voids.refl (i : Fin 32) (s : State) : Voids i s s := ⟨fun _ _ => rfl, id, fun _ _ _ => rfl⟩

theorem noticeAll_voids {n : Notice} (h : ofVoid n) (i : Fin 32) (r : Garment) {s a : State} {x : Garment}
    (ha : ∀ g, garmentAt a g = if i = g then some x else garmentAt s g) (prints : a.prints = s.prints) (live : garmentAt s i ≠ none) :
    Voids i s (noticeAll i r n a) ∧ ∃ d, garmentAt (noticeAll i r n a) i = some { x with dest := d } := by
  refine ⟨⟨fun g hg => ?_, fun e => absurd e live, fun g u hg => ?_⟩, ?_⟩
  · rcases garments_noticeAll h i r a g with e | ⟨y, d, e, -, -⟩
    · rw [e, ha, if_neg hg.symm]
    · exact absurd e hg
  · rw [swathOn_noticeAll h hg.symm]
    exact swathOn_congr (unitAt_congr prints u) g
  · rcases garments_noticeAll h i r a i with e | ⟨y, d, -, hy, hd⟩
    · exact ⟨x.dest, by rw [e, ha, if_pos rfl]⟩
    · rw [ha, if_pos rfl] at hy
      cases hy
      exact ⟨d, hd⟩

theorem voidGarment_of_unvoided {slot : Fin 128} {take : Byte} {s : State} {g : Fin 32}
    (h : ∀ r, garmentAt s g = some r → ¬(r.slot = slot ∧ r.stamp = take ∧ r.cond = .good)) : voidGarment slot take s g = s := by
  unfold voidGarment
  split
  · rfl
  · next r hr => rw [if_neg (h r hr)]

theorem voidGarment_of_voided {slot : Fin 128} {take : Byte} {s : State} {g : Fin 32} {r : Garment} (hr : garmentAt s g = some r)
    (h : r.slot = slot ∧ r.stamp = take ∧ r.cond = .good) :
    voidGarment slot take s g = if swathStarted s g r then carryGarment g r s else stripGarment g r s := by
  unfold voidGarment
  rw [hr]
  exact if_pos h

theorem carryGarment_voids {g : Fin 32} {r : Garment} {s : State} (hr : garmentAt s g = some r) :
    Voids g s (carryGarment g r s) ∧ ∃ d, garmentAt (carryGarment g r s) g = some (voidedGarment r .voidPrinted d) :=
  noticeAll_voids (.inr rfl) g r (a := putGarment g { skipMarks r with cond := .voidPrinted } s) (fun i => garmentAt_putGarment ..) rfl
    (by rw [hr]; exact Option.some_ne_none r)

theorem stripGarment_voids {g : Fin 32} {r : Garment} {s : State} (hr : garmentAt s g = some r) :
    Voids g s (stripGarment g r s) ∧ ∃ d, garmentAt (stripGarment g r s) g = some (voidedGarment r .stripped d) :=
  noticeAll_voids (.inl rfl) g r (garmentAt_stripped g r s) (prints_stripped g r s) (by rw [hr]; exact Option.some_ne_none r)

theorem voidGarment_voids (slot : Fin 128) (take : Byte) (s : State) (g : Fin 32) : Voids g s (voidGarment slot take s g) := by
  unfold voidGarment
  split
  · exact .refl g s
  · next r hr =>
    split
    · split
      · exact (carryGarment_voids hr).1
      · exact (stripGarment_voids hr).1
    · exact .refl g s

/-! ## All garments -/

/-- Records out of a list stay, and so do their swaths. -/
theorem voidFold_others (slot : Fin 128) (take : Byte) (l : List (Fin 32)) (s : State) {g : Fin 32} (hg : g ∉ l) :
    garmentAt (l.foldl (voidGarment slot take) s) g = garmentAt s g ∧
      ∀ (i : GarmentId) (u : Printer), i.index = g → swathOn (l.foldl (voidGarment slot take) s) i u = swathOn s i u := by
  induction l generalizing s with
  | nil => exact ⟨rfl, fun _ _ _ => rfl⟩
  | cons x l ih =>
    obtain ⟨hx, hl⟩ := not_or.mp (mt List.mem_cons.mpr hg)
    obtain ⟨same, swaths⟩ := ih (voidGarment slot take s x) hl
    have one := voidGarment_voids slot take s x
    exact ⟨same.trans (one.others g hx), fun i u hi => (swaths i u hi).trans (one.swaths i u (hi ▸ hx))⟩

theorem swathStarted_congr {s t : State} {g : Fin 32} (h : ∀ (i : GarmentId) (u : Printer), i.index = g → swathOn t i u = swathOn s i u)
    (r : Garment) : swathStarted t g r = swathStarted s g r := by
  refine Bool.eq_iff_iff.mpr ?_
  rw [swathStarted_iff, swathStarted_iff]
  simp only [h (garmentId g r) _ rfl]

/-- Every garment of a list without repeats is handled as the void finds it. -/
theorem voidFold_own (slot : Fin 128) (take : Byte) {l : List (Fin 32)} (nodup : l.Nodup) (s : State) {g : Fin 32} (hg : g ∈ l) :
    (garmentAt s g = none → garmentAt (l.foldl (voidGarment slot take) s) g = none) ∧
      ∀ r, garmentAt s g = some r →
        (¬(r.slot = slot ∧ r.stamp = take ∧ r.cond = .good) → garmentAt (l.foldl (voidGarment slot take) s) g = some r) ∧
        ((r.slot = slot ∧ r.stamp = take ∧ r.cond = .good) →
          ∃ d, garmentAt (l.foldl (voidGarment slot take) s) g =
            some (voidedGarment r (if swathStarted s g r then .voidPrinted else .stripped) d)) := by
  obtain ⟨front, back, rfl⟩ := List.append_of_mem hg
  obtain ⟨-, hnodup, apart⟩ := List.nodup_append.mp nodup
  have notBack : g ∉ back := (List.nodup_cons.mp hnodup).1
  have notFront : g ∉ front := fun h => apart g h g List.mem_cons_self rfl
  rw [List.foldl_append, List.foldl_cons]
  obtain ⟨before, swaths⟩ := voidFold_others slot take front s notFront
  generalize front.foldl (voidGarment slot take) s = x at before swaths
  have started (r : Garment) := swathStarted_congr swaths r
  rw [(voidFold_others slot take back (voidGarment slot take x g) notBack).1]
  have one := voidGarment_voids slot take x g
  refine ⟨fun h => one.empty (before.trans h), fun r hr => ⟨fun unvoided => ?_, fun hv => ?_⟩⟩
  · rw [voidGarment_of_unvoided fun y hy => ?_]
    · exact before.trans hr
    · cases (before.trans hr).symm.trans hy
      exact unvoided
  · rw [voidGarment_of_voided (before.trans hr) hv, started]
    split
    · exact (carryGarment_voids (before.trans hr)).2
    · exact (stripGarment_voids (before.trans hr)).2

theorem mem_allGarments (g : Fin 32) : g ∈ allGarments := List.mem_ofFn.mpr ⟨g, rfl⟩

theorem nodup_allGarments : allGarments.Nodup := List.nodup_ofFn.mpr fun _ _ h => h

/-- The state in which a void handles the garments. -/
def voidClosed (slot : Fin 128) (s : State) : State :=
  if (lineAt s slot).state = .active then settleCounts slot (closeVoid slot s) else closeVoid slot s

theorem take_voidClosed (slot : Fin 128) (s : State) : (lineAt (voidClosed slot s) slot).take = (lineAt s slot).take := by
  have closed : (lineAt (closeVoid slot s) slot).take = (lineAt s slot).take := by rw [lineAt_closeVoid, if_pos rfl]
  unfold voidClosed
  split
  · rw [lineAt_settleCounts, if_pos rfl, ← closed]
    unfold Claims.countsSettled
    repeat' split
    all_goals rfl
  · exact closed

theorem voidClosed_unchanged (slot : Fin 128) (s : State) :
    (voidClosed slot s).garments = s.garments ∧ (voidClosed slot s).prints = s.prints ∧ (voidClosed slot s).pretreat = s.pretreat := by
  unfold voidClosed
  split <;> simp

theorem voidLine_of_open {s : State} {slot : Fin 128}
    (h : (lineAt s slot).state = .active ∨ ((lineAt s slot).state = .closing ∧ (lineAt s slot).reason = .failLimit)) :
    voidLine slot s = allGarments.foldl (voidGarment slot (lineAt s slot).take) (voidClosed slot s) := by
  have take := take_voidClosed slot s
  unfold voidLine
  rcases h with h | ⟨h, reason⟩
  · rw [h]
    dsimp only
    rw [voidGarments, ← take, voidClosed, if_pos h]
  · rw [h]
    dsimp only
    rw [if_pos reason, voidGarments, ← take, voidClosed, if_neg (by rw [h]; exact LineState.noConfusion)]

theorem voidHandlesTheGarments : Claims.VoidHandlesTheGarments := by
  intro s slot ofSweep bytes found running
  refine ⟨_, voidFound_exec found, ?_⟩
  have garments : ∀ i, garmentAt (endActivity ofSweep (voidLine slot (voidRead slot s))) i = garmentAt (voidLine slot (voidRead slot s)) i :=
    garmentAt_congr (by simp)
  simp only [garments]
  rw [voidLine_of_open (s := voidRead slot s) running]
  obtain ⟨closedGarments, closedPrints, -⟩ := voidClosed_unchanged slot (voidRead slot s)
  have before (i : Fin 32) : garmentAt (voidClosed slot (voidRead slot s)) i = garmentAt s i := garmentAt_congr closedGarments i
  have started (g : Fin 32) (r : Garment) : swathStarted (voidClosed slot (voidRead slot s)) g r = swathStarted s g r :=
    swathStarted_congr (fun i u _ => swathOn_congr (unitAt_congr closedPrints u) i) r
  have own (g : Fin 32) := voidFold_own slot (lineAt (voidRead slot s) slot).take nodup_allGarments (voidClosed slot (voidRead slot s))
    (mem_allGarments g)
  refine ⟨fun g h => (own g).1 ((before g).trans h), fun g r hr hv => ((own g).2 r ((before g).trans hr)).1 hv, fun g r hr hv => ?_⟩
  obtain ⟨d, hd⟩ := ((own g).2 r ((before g).trans hr)).2 hv
  rw [started] at hd
  refine ⟨_, hd, fun h => ?_, fun h => ?_, rfl, rfl, rfl, rfl, skipPending_eq _, skipPending_eq _, skipPending_eq _, ?_, ?_⟩
  · exact if_pos ((printStarted_iff s g r).mp h)
  · exact if_neg fun e => h ((printStarted_iff s g r).mpr e)
  · exact fun e => skipped_ne r.white ((skipPending_eq r.white).symm.trans e)
  · exact fun e => skipped_ne r.color ((skipPending_eq r.color).symm.trans e)

/-! ## The end of the line -/

theorem voidFold_of_one {slot : Fin 128} {take : Byte} {l : List (Fin 32)} (nodup : l.Nodup) {s : State} {g : Fin 32} (hg : g ∈ l)
    (only : ∀ h r, h ≠ g → garmentAt s h = some r → ¬(r.slot = slot ∧ r.stamp = take ∧ r.cond = .good)) :
    l.foldl (voidGarment slot take) s = voidGarment slot take s g := by
  have idle (m : List (Fin 32)) (hm : g ∉ m) (x : State) (hx : ∀ h, h ≠ g → garmentAt x h = garmentAt s h) :
      m.foldl (voidGarment slot take) x = x := by
    induction m with
    | nil => rfl
    | cons y m ih =>
      obtain ⟨hy, hm⟩ := not_or.mp (mt List.mem_cons.mpr hm)
      have apart : y ≠ g := fun e => hy e.symm
      rw [List.foldl_cons, voidGarment_of_unvoided fun r hr => only y r apart ((hx y apart).symm.trans hr), ih hm]
  obtain ⟨front, back, rfl⟩ := List.append_of_mem hg
  obtain ⟨-, hnodup, apart⟩ := List.nodup_append.mp nodup
  rw [List.foldl_append, List.foldl_cons, idle front (fun h => apart g h g List.mem_cons_self rfl) s fun _ _ => rfl]
  exact idle back (List.nodup_cons.mp hnodup).1 _ (voidGarment_voids slot take s g).others

/-- The line's entry and the acceptance list after a strip of one of its garments, its line CLOSING with VOID. -/
theorem stripGarment_line {s : State} {g : Fin 32} {r : Garment} (current : (lineAt s r.slot).take = r.stamp)
    (closing : (lineAt s r.slot).state = .closing) (reason : (lineAt s r.slot).reason = .void)
    (unmet : (lineAt s r.slot).finished < quantityOf (lineAt s r.slot)) (dirty : Tbl.at s.reports.dirty r.slot = true) :
    Tbl.at (stripGarment g r s).reports.dirty r.slot = true ∧
      (∀ o, o ≠ r.slot → lineAt (stripGarment g r s) o = lineAt s o) ∧
      lineAt (stripGarment g r s) r.slot =
        { lineAt s r.slot with
          state := if (lineAt s r.slot).bound - 1 = 0 then .voided else .closing, bound := (lineAt s r.slot).bound - 1 } ∧
      (stripGarment g r s).accepted =
        (if (lineAt s r.slot).bound - 1 = 0 then s.accepted.filter (fun x => x != r.slot) else s.accepted) ∧
      (s.reports.fifo.length + 2 ≤ 16 →
        { incident .garmentStripped with
          slot := some r.slot, garment := some g, serial := r.serial, detail := destinationCode (stripDestination s g r), time := s.clock } ∈
          (stripGarment g r s).reports.fifo) := by
  have lower : ifCurrent r lowerBound (putGarment g { skipMarks r with cond := .stripped } s) =
      lowerBound r.slot (putGarment g { skipMarks r with cond := .stripped } s) := if_pos (stampMatches_iff.mpr current)
  have lines : (stripGarment g r s).lines = (lowerBound r.slot (putGarment g { skipMarks r with cond := .stripped } s)).lines := by
    rw [stripGarment_eq, noticeAll_frame .. |>.2.2.2.2.2.2.2.2.1, stripped, lower]
    simp
  have accepted : (stripGarment g r s).accepted = (lowerBound r.slot (putGarment g { skipMarks r with cond := .stripped } s)).accepted := by
    rw [stripGarment_eq]
    simp [stripped, lower]
  have reports : (stripGarment g r s).reports = (stripped g r s).reports := by
    rw [stripGarment_eq]
    simp
  rw [stripped, lower] at reports
  have tells : Tells 1 s (lowerBound r.slot (putGarment g { skipMarks r with cond := .stripped } s)) :=
    ((Tells.of_reports (s := s) (t := putGarment g { skipMarks r with cond := .stripped } s) rfl).trans (tells_reportLine ..)).trans
      (tells_settleCounts ..)
  have clock : (lowerBound r.slot (putGarment g { skipMarks r with cond := .stripped } s)).clock = s.clock := by simp
  have settled (o : Fin 128) : lineAt (lowerBound r.slot (putGarment g { skipMarks r with cond := .stripped } s)) o =
      if r.slot = o then Claims.countsSettled { lineAt s r.slot with bound := (lineAt s r.slot).bound - 1 } else lineAt s o := by
    rw [lowerBound, lineAt_settleCounts, lineAt_reportLine, if_pos rfl, lineAt_reportLine]
    split <;> rfl
  have ended : (lowerBound r.slot (putGarment g { skipMarks r with cond := .stripped } s)).accepted =
      if (lineAt s r.slot).bound - 1 = 0 then s.accepted.filter (fun x => x != r.slot) else s.accepted := by
    have line : lineAt (reportLine r.slot { lineAt s r.slot with bound := (lineAt s r.slot).bound - 1 }
        (putGarment g { skipMarks r with cond := .stripped } s)) r.slot = { lineAt s r.slot with bound := (lineAt s r.slot).bound - 1 } :=
      (lineAt_reportLine ..).trans (if_pos rfl)
    have whole : lowerBound r.slot (putGarment g { skipMarks r with cond := .stripped } s) =
        settleCounts r.slot (reportLine r.slot { lineAt s r.slot with bound := (lineAt s r.slot).bound - 1 }
          (putGarment g { skipMarks r with cond := .stripped } s)) := rfl
    rw [whole]
    by_cases h : (lineAt s r.slot).bound - 1 = 0
    · rw [if_pos h, settleCounts_of_over (by rw [line]; exact unmet) (by rw [line]; exact closing) (by rw [line]; exact h), finishLine_eq]
      rfl
    · rw [if_neg h, settleCounts_of_open (by rw [line]; exact unmet) (by rw [line]; exact Nat.one_le_iff_ne_zero.mpr h)]
      rfl
  refine ⟨?_, fun o ho => ?_, ?_, accepted.trans ended, fun room => ?_⟩
  · rw [reports]
    exact (tells.trans (tells_raise ..)).dirty r.slot dirty
  · rw [lineAt_congr lines, settled, if_neg ho.symm]
  · rw [lineAt_congr lines, settled, if_pos rfl]
    unfold Claims.countsSettled
    rw [if_neg fun h => Nat.not_le.mpr unmet h.2]
    by_cases h : (lineAt s r.slot).bound - 1 = 0
    · rw [if_pos ⟨closing, h⟩, if_pos h]
      exact congrArg (fun x => ({ lineAt s r.slot with state := x, bound := (lineAt s r.slot).bound - 1 } : LineEntry)) (if_pos reason)
    · rw [if_neg fun e => h e.2, if_neg h, ← closing]
  · have mem := raise_mem (s := lowerBound r.slot (putGarment g { skipMarks r with cond := .stripped } s))
      (Nat.lt_of_le_of_lt tells.length (by omega))
      { shirtIncident .garmentStripped g r with detail := destinationCode (stripDestination s g r) }
    rw [clock] at mem
    rw [reports]
    exact mem

theorem carryGarment_line (g : Fin 32) (r : Garment) (s : State) :
    (carryGarment g r s).lines = s.lines ∧ (carryGarment g r s).accepted = s.accepted ∧ (carryGarment g r s).reports = s.reports := by
  simp [carryGarment]

theorem voidClosesTheLine : Claims.VoidClosesTheLine := by
  intro s slot ofSweep bytes g r found active bound unmet hr hv only
  refine ⟨_, voidFound_exec found, ?_⟩
  have closedLine (o : Fin 128) := lineAt_closeVoid slot o (voidRead slot s)
  have own := closedLine slot
  rw [if_pos rfl] at own
  have closed : voidClosed slot (voidRead slot s) = closeVoid slot (voidRead slot s) := by
    rw [voidClosed, if_pos (by exact active), settleCounts_of_open (by rw [own]; exact unmet) (by rw [own]; exact bound)]
  have swaths : swathStarted (closeVoid slot (voidRead slot s)) g r = swathStarted s g r := rfl
  have ended : voidLine slot (voidRead slot s) =
      if swathStarted s g r then carryGarment g r (closeVoid slot (voidRead slot s))
      else stripGarment g r (closeVoid slot (voidRead slot s)) := by
    rw [voidLine_of_open (.inl (by exact active)), closed,
      voidFold_of_one (take := (lineAt (voidRead slot s) slot).take) nodup_allGarments (mem_allGarments g)
        (s := closeVoid slot (voidRead slot s)) fun h x hne hx => only h x hne hx,
      voidGarment_of_voided (take := (lineAt (voidRead slot s) slot).take) (s := closeVoid slot (voidRead slot s)) (by exact hr) hv, swaths]
  have endedLines (t : State) : (endActivity ofSweep t).lines = t.lines ∧ (endActivity ofSweep t).accepted = t.accepted ∧
      (endActivity ofSweep t).reports = t.reports := by simp
  obtain ⟨linesKept, acceptedKept, reportsKept⟩ := endedLines (voidLine slot (voidRead slot s))
  generalize endActivity ofSweep (voidLine slot (voidRead slot s)) = u at linesKept acceptedKept reportsKept
  rw [ended] at linesKept acceptedKept reportsKept
  have dirty : Tbl.at (closeVoid slot (voidRead slot s)).reports.dirty slot = true := dirty_reportLine ..
  rw [reportsKept, acceptedKept]
  simp only [lineAt_congr linesKept]
  by_cases started : swathStarted s g r = true
  · rw [if_pos started]
    obtain ⟨lines, accepted, reports⟩ := carryGarment_line g r (closeVoid slot (voidRead slot s))
    generalize carryGarment g r (closeVoid slot (voidRead slot s)) = t at lines accepted reports
    refine ⟨by rw [reports]; exact dirty, fun o ho => ?_, fun _ => ⟨?_, accepted⟩,
      fun h => absurd ((printStarted_iff s g r).mpr started) h⟩
    · exact (lineAt_congr lines o).trans ((closedLine o).trans (if_neg ho.symm))
    · exact (lineAt_congr lines slot).trans own
  · rw [if_neg started]
    obtain ⟨rfl, current, good⟩ := hv
    obtain ⟨told, others, line, accepted, mem⟩ := stripGarment_line (g := g) (r := r) (s := closeVoid r.slot (voidRead r.slot s))
      (by rw [own]; exact current.symm) (by rw [own]) (by rw [own]) (by rw [own]; exact unmet) dirty
    rw [own] at line accepted
    have bounds : (lineAt (voidRead r.slot s) r.slot).bound - 1 = 0 ↔ (lineAt s r.slot).bound = 1 := by
      change (lineAt s r.slot).bound - 1 = 0 ↔ _
      omega
    simp only [bounds] at line accepted
    have spray : stripDestination (closeVoid r.slot (voidRead r.slot s)) g r = stripDestination s g r := rfl
    generalize stripGarment g r (closeVoid r.slot (voidRead r.slot s)) = t at told others line accepted mem
    refine ⟨told, fun o ho => ?_, fun h => absurd ((printStarted_iff s g r).mp h) started, fun _ => ⟨line, accepted, fun room => ?_⟩⟩
    · exact (others o ho).trans ((closedLine o).trans (if_neg ho.symm))
    · have mem := mem room
      rw [spray] at mem
      refine ⟨fun h => ?_, fun h => ?_⟩
      · rw [stripDestination, if_pos ((passStarted_iff s g r).mp h)] at mem
        exact mem
      · rw [stripDestination, if_neg fun e => h ((passStarted_iff s g r).mpr e)] at mem
        exact mem

/-- Settles O48, by the line's state, and by the garments in turn. -/
theorem voidRequestEndsTheLine : Obligations.VoidRequestEndsTheLine := ⟨voidByLineState, voidHandlesTheGarments, voidClosesTheLine⟩

end Sys2Proof.Machine
end

section
/-! PROOFS. The belt exit: the verdict, the pack queue and its full head (R131 to R133, R140, R141). -/

namespace Sys2Proof.Machine

-- Elaborated all at once, the proofs of this text start more threads than the check's memory limit lets it.
set_option Elab.async false

/-! ## The verdict -/

theorem scorched_iff (s : State) (r : Garment) :
    (peakScorched s r || doseScorched s r) = true ↔
      ((catalogAt s r.blank).scorchTemp ≠ 0 ∧ (catalogAt s r.blank).scorchTemp < r.peak) ∨
        (scorchLimit s r ≠ 0 ∧ scorchLimit s r * 10000 < r.dryerDose) := by
  rw [Bool.or_eq_true, peakScorched, doseScorched, Bool.and_eq_true, Bool.and_eq_true, bne_iff_ne, bne_iff_ne, decide_eq_true_iff, dosePasses,
    decide_eq_true_iff]
  rfl

/-- What the row of the table makes of a garment that gets a verdict. -/
def rowOutcome (s : State) (r : Garment) : Option Verdict × Bool × Condition × Option FaultCode :=
  match rowFault (exitRow s r) with
  | none => (rowVerdict (exitRow s r), exitRow s r == .refeed, r.cond, r.fault)
  | some code =>
    if r.cond = .good then (rowVerdict (exitRow s r), exitRow s r == .refeed, .failed, some code)
    else (rowVerdict (exitRow s r), exitRow s r == .refeed, r.cond, r.fault)

/-- The table with a scorch limit and a cure requirement of the line. -/
def tableVerdict (s : State) (r : Garment) (most need : Nat) : Option Verdict × Bool × Condition × Option FaultCode :=
  let judged (v : Option Verdict) (code : FaultCode) : Option Verdict × Bool × Condition × Option FaultCode :=
    if r.cond = .good then (v, false, .failed, some code) else (v, false, r.cond, r.fault)
  if r.cond = .failed ∨ r.cond = .stripped then (r.verdict, r.refeed, r.cond, r.fault)
  else if r.unverified then judged none .unverified
  else if ((catalogAt s r.blank).scorchTemp ≠ 0 ∧ (catalogAt s r.blank).scorchTemp < r.peak) ∨
      (most ≠ 0 ∧ most * 10000 < r.dryerDose) then judged none .scorched
  else if need * 10000 ≤ r.dryerDose then (some .cured, false, r.cond, r.fault)
  else if r.cond = .good ∧ r.refeeds < s.config.refeedLimit then (some .undercured, true, r.cond, r.fault)
  else judged (some .undercured) .undercured

theorem verdictOf_table (s : State) (r : Garment) : Claims.verdictOf s r = tableVerdict s r (scorchLimit s r) (cureNeed s r) := rfl

theorem verdictOf_eq {s : State} {r : Garment} (h : r.cond ≠ .failed ∧ r.cond ≠ .stripped) : Claims.verdictOf s r = rowOutcome s r := by
  have met : doseMeets r.dryerDose (cureNeed s r) = true ↔ cureNeed s r * 10000 ≤ r.dryerDose := decide_eq_true_iff
  have scorched := scorched_iff s r
  rw [verdictOf_table, tableVerdict]
  dsimp only
  rw [if_neg fun e => e.elim h.1 h.2]
  unfold rowOutcome exitRow
  by_cases unverified : r.unverified = true
  · rw [if_pos unverified, if_pos unverified]
    rfl
  · rw [if_neg unverified, if_neg unverified]
    by_cases scorches : (peakScorched s r || doseScorched s r) = true
    · rw [if_pos scorches, if_pos (scorched.mp scorches)]
      rfl
    · rw [if_neg scorches, if_neg (mt scorched.mpr scorches)]
      by_cases cured : cureNeed s r * 10000 ≤ r.dryerDose
      · rw [if_pos cured, if_pos (met.mpr cured)]
        rfl
      · rw [if_neg cured, if_neg (mt met.mp cured)]
        by_cases refed : r.cond = .good ∧ r.refeeds < s.config.refeedLimit
        · rw [if_pos refed, if_pos refed.symm]
          rfl
        · rw [if_neg refed, if_neg (mt And.symm refed)]
          rfl

theorem verdictOf_of_ended {s : State} {r : Garment} (h : r.cond = .failed ∨ r.cond = .stripped) :
    Claims.verdictOf s r = (r.verdict, r.refeed, r.cond, r.fault) := if_pos h

/-! ## What an exit leaves of the record -/

/-- The fields that a verdict and its fail request write. -/
def sameButVerdict (r r' : Garment) : Prop :=
  r' = { r with
    verdict := r'.verdict, refeed := r'.refeed, cond := r'.cond, fault := r'.fault, white := r'.white, flash := r'.flash
    color := r'.color, dest := r'.dest }

theorem take_countFailed (i j : Fin 128) (s : State) : (lineAt (countFailed i s) j).take = (lineAt s j).take := by
  rw [lineAt_countFailed]
  split
  · next h =>
    subst h
    unfold Claims.countsSettled Claims.failureCounted
    dsimp only
    repeat' split
    all_goals rfl
  · rfl

theorem take_failOp (g : Fin 32) (code : FaultCode) (s : State) (i : Fin 128) : (lineAt (failOp g code s) i).take = (lineAt s i).take := by
  unfold failOp
  split
  · rfl
  · next r hr =>
    split
    · rw [lineAt_congr (lines_failCounted ..)]
      unfold failedState ifCurrent
      split
      · exact take_countFailed ..
      · rfl
    · rfl

/-- A garment that reaches its verdict. -/
structure VerdictReached (g : Fin 32) (r : Garment) (s t : State) : Prop where
  own : ∃ r', garmentAt t g = some r' ∧ (r'.verdict, r'.refeed, r'.cond, r'.fault) = Claims.verdictOf s r ∧ sameButVerdict r r'
  others : ∀ h, h ≠ g → garmentAt t h = garmentAt s h
  take : ∀ i, (lineAt t i).take = (lineAt s i).take
  quiet : r.cond = .failed → t = s

theorem verdictReached {g : Fin 32} {r : Garment} {s : State} (hr : garmentAt s g = some r) :
    VerdictReached g r s (reachVerdict g s) := by
  have given (h : Fin 32) : garmentAt (putGarment g (withVerdict (exitRow s r) r) s) h =
      if g = h then some (withVerdict (exitRow s r) r) else garmentAt s h := garmentAt_putGarment ..
  cases hc : r.cond with
  | good =>
    have reached : reachVerdict g s = failByRow g (exitRow s r) (putGarment g (withVerdict (exitRow s r) r) s) := by
      unfold reachVerdict
      rw [hr]
      dsimp only
      rw [hc]
    have verdict := verdictOf_eq (s := s) (r := r) (by rw [hc]; decide)
    rw [reached]
    unfold rowOutcome at verdict
    unfold failByRow
    cases hf : rowFault (exitRow s r) with
    | none =>
      rw [hf] at verdict
      exact ⟨⟨_, (given g).trans (if_pos rfl), verdict.symm, rfl⟩, fun h hne => (given h).trans (if_neg hne.symm), fun _ => rfl,
        fun e => by cases hc.symm.trans e⟩
    | some code =>
      rw [hf] at verdict
      dsimp only at verdict ⊢
      rw [if_pos hc] at verdict
      obtain ⟨r', hr', noticed⟩ := garmentAt_failCounted_self g (withVerdict (exitRow s r) r) code (putGarment g (withVerdict (exitRow s r) r) s)
      rw [← failOp_of_counted ((given g).trans (if_pos rfl)) (counted_iff.mpr (.inl hc))] at hr'
      refine ⟨⟨r', hr', ?_, ?_⟩, fun h hne => (garmentAt_failOp_ne hne ..).trans ((given h).trans (if_neg hne.symm)),
        fun i => take_failOp .., fun e => by cases hc.symm.trans e⟩
      · rw [verdict, noticed.rest]
        rfl
      · unfold sameButVerdict
        conv => lhs; rw [noticed.rest]
        have verdict : r'.verdict = rowVerdict (exitRow s r) := by rw [noticed.rest]; rfl
        have refeed : r'.refeed = (exitRow s r == .refeed) := by rw [noticed.rest]; rfl
        have cond : r'.cond = .failed := by rw [noticed.rest]
        have fault : r'.fault = some code := by rw [noticed.rest]
        rw [verdict, refeed, cond, fault]
        rfl
  | voidPrinted =>
    have reached : reachVerdict g s = putGarment g (withVerdict (exitRow s r) r) s := by
      unfold reachVerdict
      rw [hr]
      dsimp only
      rw [hc]
    have verdict := verdictOf_eq (s := s) (r := r) (by rw [hc]; decide)
    have row : rowOutcome s r = (rowVerdict (exitRow s r), exitRow s r == .refeed, r.cond, r.fault) := by
      unfold rowOutcome
      split
      · rfl
      · exact if_neg (by rw [hc]; decide)
    rw [reached]
    exact ⟨⟨_, (given g).trans (if_pos rfl), (verdict.trans row).symm, rfl⟩, fun h hne => (given h).trans (if_neg hne.symm), fun _ => rfl,
      fun e => by cases hc.symm.trans e⟩
  | failed | stripped =>
    have reached : reachVerdict g s = s := by
      unfold reachVerdict
      rw [hr]
      dsimp only
      rw [hc]
    rw [reached]
    exact ⟨⟨r, hr, (verdictOf_of_ended (by simp [hc])).symm, rfl⟩, fun _ _ => rfl, fun _ => rfl, fun _ => rfl⟩

theorem keyOf_of_snap {s t : State} {i : Fin 128} (h : (lineAt t i).snap = (lineAt s i).snap) : keyOf t i = keyOf s i := by
  unfold keyOf
  rw [h]

theorem reportDose_of_some {g : Fin 32} {r : Garment} {s : State} (hr : garmentAt s g = some r) :
    reportDose g s = ifCurrent r (setLastDose (r.dryerDose / 10000)) s := by
  rw [reportDose, hr]
  rfl

theorem ifCurrent_of_current {r : Garment} {s : State} (h : (lineAt s r.slot).take = r.stamp) (f : Fin 128 → State → State) :
    ifCurrent r f s = f r.slot s := if_pos (stampMatches_iff.mpr h)

/-- The exit procedure up to the pack queue. -/
structure Exited (e : BeltEntry) (g : Fin 32) (edge : Clock) (r : Garment) (s t : State) : Prop where
  own : ∃ r', garmentAt t g = some r' ∧ (r'.verdict, r'.refeed, r'.cond, r'.fault) = Claims.verdictOf s r ∧
    sameButVerdict (withExit edge (exitsEarly s e) r) r'
  others : ∀ h, h ≠ g → garmentAt t h = garmentAt s h
  dose : (lineAt s r.slot).take = r.stamp → (lineAt t r.slot).lastDose = r.dryerDose / 10000 ∧ Tbl.at t.reports.dirty r.slot = true
  quiet : r.cond = .failed → t.reports.fifo = s.reports.fifo ∧ ∀ i, keyOf t i = keyOf s i

theorem exited {e : BeltEntry} {g : Fin 32} {edge : Clock} {r : Garment} {s : State} (hr : garmentAt s g = some r) :
    Exited e g edge r s (exitGarment e g edge s) := by
  have first := changeGarment_of_some hr (withExit edge (exitsEarly s e))
  have own : garmentAt (changeGarment g (withExit edge (exitsEarly s e)) s) g = some (withExit edge (exitsEarly s e) r) := by
    rw [garmentAt_changeGarment, if_pos rfl, hr]
    rfl
  have others (h : Fin 32) (hne : h ≠ g) : garmentAt (changeGarment g (withExit edge (exitsEarly s e)) s) h = garmentAt s h := by
    rw [garmentAt_changeGarment, if_neg hne.symm]
  have reached := verdictReached own
  have verdict : Claims.verdictOf (changeGarment g (withExit edge (exitsEarly s e)) s) (withExit edge (exitsEarly s e) r) =
      Claims.verdictOf s r := by
    rw [first]
    rfl
  have lines (i : Fin 128) : lineAt (changeGarment g (withExit edge (exitsEarly s e)) s) i = lineAt s i := lineAt_congr (by rw [first]) i
  have reports : (changeGarment g (withExit edge (exitsEarly s e)) s).reports = s.reports := by rw [first]
  unfold exitGarment
  generalize changeGarment g (withExit edge (exitsEarly s e)) s = a at own others reached lines reports verdict
  have take := reached.take
  obtain ⟨r', hr', outcome, same⟩ := reached.own
  rw [verdict] at outcome
  have slot : r'.slot = r.slot := by rw [same]; rfl
  have stamp : r'.stamp = r.stamp := by rw [same]; rfl
  have dose : r'.dryerDose = r.dryerDose := by rw [same]; rfl
  have reported := reportDose_of_some hr'
  have garments (h : Fin 32) : garmentAt (reportDose g (reachVerdict g a)) h = garmentAt (reachVerdict g a) h :=
    garmentAt_congr (by simp) h
  refine ⟨⟨r', (garments g).trans hr', outcome, same⟩, fun h hne => (garments h).trans ((reached.others h hne).trans (others h hne)),
    fun current => ?_, fun failed => ?_⟩
  · rw [reported, ifCurrent_of_current (by rw [take, slot, lines, stamp]; exact current), slot, dose, setLastDose]
    exact ⟨by rw [lineAt_reportLine, if_pos rfl], dirty_reportLine ..⟩
  · rw [reported, reached.quiet failed]
    have keys (i : Fin 128) : keyOf a i = keyOf s i := by unfold keyOf; rw [lines]
    unfold ifCurrent
    split
    · refine ⟨Eq.trans (b := a.reports.fifo) rfl (congrArg Reports.fifo reports), fun i => Eq.trans (keyOf_of_snap ?_) (keys i)⟩
      rw [setLastDose, lineAt_reportLine]
      split
      · next h => rw [h]
      · rfl
    · exact ⟨congrArg Reports.fifo reports, keys⟩

/-! ## The edge -/

theorem exec_beltExitEdge_of {s : State} {edge : Clock} (h : captureAt s .beltExit = some edge) :
    exec .beltExitEdge s = .next (beltExitAt edge (putCapture .beltExit none s)) := takeCapture_of_captured h beltExitAt

theorem beltExitAt_of_garment {s : State} {edge : Clock} {e : BeltEntry} {rest : List BeltEntry} {g : Fin 32}
    (hb : s.dryer.belt = e :: rest) (hg : e.garment = some g) : beltExitAt edge s = exitToPack e g edge (putBelt rest s) := by
  simp only [beltExitAt, hb, hg]

/-- The state in which a garment's exit begins. -/
def leftBelt (rest : List BeltEntry) (s : State) : State := putBelt rest (putCapture .beltExit none s)

theorem exec_beltExitEdge_of_garment {s : State} {edge : Clock} {e : BeltEntry} {rest : List BeltEntry} {g : Fin 32}
    (h : captureAt s .beltExit = some edge) (hb : s.dryer.belt = e :: rest) (hg : e.garment = some g) :
    exec .beltExitEdge s = .next (exitToPack e g edge (leftBelt rest s)) := by
  rw [exec_beltExitEdge_of h, beltExitAt_of_garment (s := putCapture .beltExit none s) hb hg]
  rfl

theorem queue_exitGarment (e : BeltEntry) (g : Fin 32) (edge : Clock) (s : State) :
    (exitGarment e g edge s).pack.queue = s.pack.queue := by
  have verdict (t : State) : (reachVerdict g t).pack.queue = t.pack.queue := by
    unfold reachVerdict failByRow
    repeat' split
    all_goals simp
  have dose (t : State) : (reportDose g t).pack = t.pack := by simp
  rw [exitGarment, dose, verdict]
  simp

/-- The record of a garment at the pack queue's tail. -/
def awaiting (r : Garment) : Garment := { r with place := .awaitingPack }

/-- The state as the pack unit takes a garment. -/
def handedToPack (e : BeltEntry) (g : Fin 32) (edge : Clock) (s : State) : State := changeGarment g awaiting (exitGarment e g edge s)

theorem exitToPack_eq (e : BeltEntry) (g : Fin 32) (edge : Clock) (s : State) :
    exitToPack e g edge s = packAppend g edge (handedToPack e g edge s) := rfl

theorem handedToPack_unchanged (e : BeltEntry) (g : Fin 32) (edge : Clock) (s : State) :
    (handedToPack e g edge s).pack.queue = s.pack.queue ∧ (handedToPack e g edge s).dryer = s.dryer ∧
      (handedToPack e g edge s).captures = s.captures ∧ (handedToPack e g edge s).clock = s.clock := by
  have pack : (handedToPack e g edge s).pack = (exitGarment e g edge s).pack := by simp [handedToPack]
  refine ⟨by rw [pack, queue_exitGarment], ?_⟩
  simp [handedToPack]

theorem packAppend_of_room {g : Fin 32} {edge : Clock} {s : State} (room : s.pack.queue.length < 4) :
    packAppend g edge s = { s with pack := { s.pack with queue := s.pack.queue ++ [{ garment := g, entry := edge }] } } := by
  have ready : makeRoom s = s := if_pos room
  rw [packAppend, ready]
  rfl

/-- A garment's exit with room in the pack queue. -/
structure ExitedToPack (e : BeltEntry) (g : Fin 32) (edge : Clock) (rest : List BeltEntry) (r : Garment) (s t : State) : Prop where
  queue : t.pack.queue = s.pack.queue ++ [{ garment := g, entry := edge }]
  dryer : t.dryer = { s.dryer with belt := rest }
  capture : captureAt t .beltExit = none
  own : ∃ r', garmentAt t g = some (awaiting r') ∧ (r'.verdict, r'.refeed, r'.cond, r'.fault) = Claims.verdictOf s r ∧
    sameButVerdict (withExit edge (exitsEarly s e) r) r'
  dose : (lineAt s r.slot).take = r.stamp → (lineAt t r.slot).lastDose = r.dryerDose / 10000 ∧ Tbl.at t.reports.dirty r.slot = true

theorem exitedToPack {s : State} {edge : Clock} {e : BeltEntry} {rest : List BeltEntry} {g : Fin 32} {r : Garment}
    (hr : garmentAt s g = some r) (room : s.pack.queue.length < 4) :
    ExitedToPack e g edge rest r s (exitToPack e g edge (leftBelt rest s)) := by
  have out := exited (e := e) (edge := edge) (s := leftBelt rest s) (g := g) (r := r) hr
  obtain ⟨queue, dryer, captures, -⟩ := handedToPack_unchanged e g edge (leftBelt rest s)
  obtain ⟨r', hr', outcome, same⟩ := out.own
  have own : garmentAt (handedToPack e g edge (leftBelt rest s)) g = some (awaiting r') := by
    rw [handedToPack, garmentAt_changeGarment, if_pos rfl, hr']
    rfl
  have lines : (handedToPack e g edge (leftBelt rest s)).lines = (exitGarment e g edge (leftBelt rest s)).lines := by simp [handedToPack]
  have reports : (handedToPack e g edge (leftBelt rest s)).reports = (exitGarment e g edge (leftBelt rest s)).reports := by
    simp [handedToPack]
  rw [exitToPack_eq]
  generalize handedToPack e g edge (leftBelt rest s) = x at queue dryer captures own lines reports
  have whole := packAppend_of_room (g := g) (edge := edge) (s := x) (by rw [queue]; exact room)
  generalize packAppend g edge x = t at whole
  refine ⟨by rw [whole, queue]; rfl, by rw [whole]; exact dryer, ?_, ⟨r', (garmentAt_congr (by rw [whole]) g).trans own, outcome, same⟩,
    fun current => ?_⟩
  · have taken : captureAt (leftBelt rest s) .beltExit = none := captureAt_putCapture_self ..
    rw [← taken]
    unfold captureAt
    rw [whole, captures]
  · obtain ⟨last, dirty⟩ := out.dose current
    rw [lineAt_congr (s := exitGarment e g edge (leftBelt rest s)) (by rw [whole]; exact lines)]
    refine ⟨last, ?_⟩
    rw [whole]
    exact (congrArg (fun p : Reports => Tbl.at p.dirty r.slot) reports).trans dirty

theorem beltExitTakesTheHead : Claims.BeltExitTakesTheHead := by
  intro s edge captured
  refine ⟨fun empty => ⟨_, exec_beltExitEdge_of captured, ?_⟩, fun e rest hb hg => ⟨_, exec_beltExitEdge_of captured, ?_⟩,
    fun e rest g r hb hg hr room => ?_⟩
  · have belt : (putCapture .beltExit none s).dryer.belt = [] := empty
    simp only [beltExitAt, belt]
    rw [raise_eq]
    exact ⟨rfl, captureAt_putCapture_self .., rfl⟩
  · have belt : (putCapture .beltExit none s).dryer.belt = e :: rest := hb
    simp only [beltExitAt, belt, hg]
    rw [raise_eq]
    exact ⟨rfl, captureAt_putCapture_self .., rfl⟩
  · have out := exitedToPack (e := e) (edge := edge) (rest := rest) hr room
    obtain ⟨r', hr', -, same⟩ := out.own
    refine ⟨_, _, exec_beltExitEdge_of_garment captured hb hg, out.capture, out.dryer, out.queue, hr', rfl, ?_, ?_, ?_⟩
    all_goals
      rw [same]
      rfl

theorem exitsEarly_eq (s : State) (e : BeltEntry) :
    exitsEarly s e = (!e.beyond &&
      decide ((s.dryer.odometer - e.odo).toNat + s.config.exitTolerance <
        (List.ofFn fun z : Fin 4 => Tbl.at s.config.zoneLengths z).sum)) := by
  have length : (List.ofFn fun z : Fin 4 => Tbl.at s.config.zoneLengths z).sum = dryerLength s := by
    rw [dryerLength_eq]
    simp [List.ofFn_succ, Nat.add_assoc]
  rw [exitsEarly, length]
  refine congrArg (!e.beyond && ·) (decide_eq_decide.mpr ?_)
  unfold travelled
  omega

theorem exitJudgesTheGarment : Claims.ExitJudgesTheGarment := by
  intro s edge e rest g r captured hb hg hr room
  have out := exitedToPack (e := e) (edge := edge) (rest := rest) hr room
  obtain ⟨r', hr', outcome, same⟩ := out.own
  refine ⟨_, _, exec_beltExitEdge_of_garment captured hb hg, hr', outcome, ?_, out.dose⟩
  rw [same, ← exitsEarly_eq]
  rfl

/-! ## A full pack queue -/

theorem makeRoom_of_full {s : State} {h : TimedEntry} {queue : List TimedEntry} (hq : s.pack.queue = h :: queue) (full : 3 ≤ queue.length) :
    makeRoom s = packMissing h.garment 1 s := by
  have length : ¬s.pack.queue.length < Config.packPlaces := by
    rw [hq, List.length_cons]
    exact Nat.not_lt.mpr (Nat.succ_le_succ full)
  rw [makeRoom, if_neg length, hq]

theorem withoutGarment_head (h : TimedEntry) (queue : List TimedEntry) :
    withoutGarment h.garment (h :: queue) = queue.filter fun x => x.garment != h.garment :=
  List.filter_cons_of_neg (by simp)

theorem fifo_deleteGarment (g : Fin 32) (s : State) : (deleteGarment g s).reports.fifo = s.reports.fifo := by
  have ink (c : Tbl 6 Nat) (i : Fin 128) (t : State) : (addInk c i t).reports.fifo = t.reports.fifo := by
    unfold addInk
    dsimp only
    split <;> rfl
  unfold deleteGarment ifCurrent
  repeat' split
  all_goals simp [ink]

/-- A FAILED garment that goes missing: PACK_MISSING is the only incident. -/
theorem fifo_packMissing_of_failed {s : State} {g : Fin 32} {r : Garment} (hr : garmentAt s g = some r) (failed : r.cond = .failed)
    (room : s.reports.fifo.length < 16) (detail : Nat) :
    (packMissing g detail s).reports.fifo =
      s.reports.fifo ++
        [{ incident .packMissing with
            slot := some r.slot, garment := some g, serial := r.serial, key := keyOf s r.slot, detail := detail
            value := r.dryerDose / 10000, time := s.clock }] := by
  have quiet : failOp g .missingAtPack (putQueue (withoutGarment g s.pack.queue) s) = putQueue (withoutGarment g s.pack.queue) s :=
    failOp_of_not_counted (r := r) (s := putQueue (withoutGarment g s.pack.queue) s) hr (not_counted_iff.mpr (.inl failed)) _
  have raised : raiseMissing g detail (putQueue (withoutGarment g s.pack.queue) s) =
      raise { garmentIncident .packMissing g r (putQueue (withoutGarment g s.pack.queue) s) with
        detail := detail, value := doseCU r.dryerDose } (putQueue (withoutGarment g s.pack.queue) s) := by
    rw [raiseMissing, show garmentAt (putQueue (withoutGarment g s.pack.queue) s) g = some r from hr]
  rw [packMissing, fifo_deleteGarment, quiet, raised, raise_eq]
  exact congrArg Reports.fifo (if_pos room)

theorem fullPackQueueLosesItsHead : Claims.FullPackQueueLosesItsHead := by
  intro s edge e rest h queue g r head captured hb hg hr hq full hne hhead
  have out := exited (e := e) (edge := edge) (s := leftBelt rest s) (g := g) (r := r) hr
  obtain ⟨queueSame, dryer, -, clock⟩ := handedToPack_unchanged e g edge (leftBelt rest s)
  obtain ⟨r', hr', -, -⟩ := out.own
  have own : garmentAt (handedToPack e g edge (leftBelt rest s)) g = some (awaiting r') := by
    rw [handedToPack, garmentAt_changeGarment, if_pos rfl, hr']
    rfl
  have other : garmentAt (handedToPack e g edge (leftBelt rest s)) h.garment = some head := by
    rw [handedToPack, garmentAt_changeGarment, if_neg hne.symm, out.others _ hne]
    exact hhead
  have quiet (failed : r.cond = .failed) : (handedToPack e g edge (leftBelt rest s)).reports.fifo = s.reports.fifo ∧
      ∀ i, keyOf (handedToPack e g edge (leftBelt rest s)) i = keyOf s i := by
    obtain ⟨fifo, keys⟩ := out.quiet failed
    have reports : (handedToPack e g edge (leftBelt rest s)).reports = (exitGarment e g edge (leftBelt rest s)).reports := by
      simp [handedToPack]
    have lines : (handedToPack e g edge (leftBelt rest s)).lines = (exitGarment e g edge (leftBelt rest s)).lines := by simp [handedToPack]
    refine ⟨(congrArg Reports.fifo reports).trans fifo, fun i => Eq.trans ?_ (keys i)⟩
    unfold keyOf
    rw [lineAt_congr lines]
  have run := exec_beltExitEdge_of_garment captured hb hg
  rw [exitToPack_eq] at run
  generalize handedToPack e g edge (leftBelt rest s) = x at queueSame dryer clock own other quiet run
  have ready := makeRoom_of_full (s := x) (queueSame.trans hq) full
  have missing (i : Fin 32) (hi : i ≠ h.garment) : garmentAt (packMissing h.garment 1 x) i = garmentAt x i := by
    refine (garmentAt_deleteGarment ..).trans ((if_neg hi.symm).trans ?_)
    exact (garmentAt_congr (by simp) i).trans (garmentAt_failOp_ne hi .missingAtPack (putQueue (withoutGarment h.garment x.pack.queue) x))
  have freed : garmentAt (packMissing h.garment 1 x) h.garment = none := (garmentAt_deleteGarment ..).trans (if_pos rfl)
  have left : (packMissing h.garment 1 x).pack.queue = queue.filter fun y => y.garment != h.garment := by
    rw [packMissing_queue, queueSame.trans hq, withoutGarment_head]
  have dryerSame : (packMissing h.garment 1 x).dryer = x.dryer := by simp
  have told (failed : head.cond = .failed) := fun room => fifo_packMissing_of_failed (s := x) other failed room 1
  rw [packAppend, ready] at run
  generalize packMissing h.garment 1 x = y at run missing freed left dryerSame told
  refine ⟨_, awaiting r', run, dryerSame.trans dryer, freed, (missing g hne.symm).trans own, rfl, ?_, fun failed headFailed room => ?_⟩
  · exact congrArg (· ++ [{ garment := g, entry := edge }]) left
  · obtain ⟨fifo, keys⟩ := quiet failed
    have told := told headFailed (by rw [fifo]; exact room)
    rw [fifo, keys, clock] at told
    exact told

/-- Settles O19, by the head of the belt and by the room in the pack queue. -/
theorem beltExitFeedsThePackQueue : Obligations.BeltExitFeedsThePackQueue :=
  ⟨beltExitTakesTheHead, exitJudgesTheGarment, fullPackQueueLosesItsHead⟩

end Sys2Proof.Machine
end

section
/-! PROOFS. Load scans: the screening, the match, the bind and the withdrawal (R8 to R16, R168). -/

namespace Sys2Proof.Machine

-- Elaborated all at once, the proofs of this text start more threads than the check's memory limit lets it.
set_option Elab.async false

/-! ## A scan that is whole -/

/-- A pair that is whole hands its scan to the owner of the scanner. -/
theorem pairFreed {s : State} {frame : List Byte} {o : OnLink} {v : Service} {status tag : Word} {role : Role}
    (ho : s.link.onLink = some o) (hq : o.carrier = .attention) (hr : o.role = role) (hc : classify o frame = .accept tag)
    (hv : s.link.service = some v) (hvr : v.role = role) (hstatus : v.status = some status) (ready : scanReady v status = true)
    (present : (moduleAt s role).state = .present) (scanner : isScanner role = true) :
    ∃ u, ServiceFreed s u ∧ exec (.tryAccept frame) s = .next (handScan role (tagFields v.settings.tags tag) u) := by
  subst hvr
  have answered := answered_of_present (s := s) (o := o) (by rw [hr]; exact present)
  have accepted := tryAccepted_of_attention hq (s := s) (v := v) (by rw [answered.frame]; exact hv) tag
  generalize answeredTry o s = u at answered accepted
  have whole : serviceAccepted v tag u = handScan v.role (tagFields v.settings.tags tag) (endService v u) := by
    rw [serviceAccepted, if_pos scanner, hstatus]
    exact if_pos ready
  refine ⟨endService v u, ⟨?_, ?_, rfl, ?_, fun r => ?_⟩, ?_⟩
  · rw [answered.frame]
    rfl
  · rw [answered.frame]
    rfl
  · rw [answered.frame]
    rfl
  · rw [← answered.unreachable]
    rfl
  · rw [exec_tryAccept_of ho hc, accepted, whole]

theorem ServiceFreed.keyOf {s u : State} (h : ServiceFreed s u) (i : Fin 128) : Machine.keyOf u i = Machine.keyOf s i := by
  rw [h.frame]
  rfl

theorem ServiceFreed.clock {s u : State} (h : ServiceFreed s u) : u.clock = s.clock := by rw [h.frame]

theorem ServiceFreed.lineAt {s u : State} (h : ServiceFreed s u) (i : Fin 128) : Machine.lineAt u i = Machine.lineAt s i := by
  rw [h.frame]
  rfl

theorem ServiceFreed.garmentAt {s u : State} (h : ServiceFreed s u) (g : Fin 32) : Machine.garmentAt u g = Machine.garmentAt s g := by
  rw [h.frame]
  rfl

theorem ServiceFreed.raised {s u : State} (h : ServiceFreed s u) (i : Incident) : Claims.raised i u = Claims.raised i s := by
  rw [h.frame]
  rfl

/-- A load scan on the LOAD platen goes to the checks of its kind. -/
theorem loadScan_exec {s : State} {frame : List Byte} {f : TagFields} (h : Claims.loadScan s frame f) {k : TagKind}
    (hk : tagClass f = match k with | .stock => .stock | .order => .order) :
    ∃ u, ServiceFreed s u ∧
      exec (.tryAccept frame) s =
        .next
          (match (platenOf s (platenAt s 0)).garment with
          | some g => occupied f g u
          | none => matchTag f k u) := by
  obtain ⟨o, v, status, tag, ho, hq, hr, hc, hv, hvr, hstatus, ready, present, rfl, mode, op, enabled⟩ := h
  obtain ⟨u, freed, run⟩ := pairFreed ho hq hr hc hv hvr hstatus ready present rfl
  refine ⟨u, freed, run.trans (congrArg _ ?_)⟩
  have scans : scanMode u.ctl.mode = true := by
    rw [freed.frame]
    rcases mode with h | h | h <;> rw [h] <;> rfl
  have still : opInFlight u = false := by
    rw [opInFlight, show u.carousel = s.carousel by rw [freed.frame], op]
    rfl
  have platen : platenOf u (platenAt u 0) = platenOf s (platenAt s 0) := by
    rw [freed.frame]
    rfl
  have screened : screenPlaten (tagFields v.settings.tags tag) k u =
      match (platenOf s (platenAt s 0)).garment with
      | some g => occupied (tagFields v.settings.tags tag) g u
      | none => matchTag (tagFields v.settings.tags tag) k u := by
    rw [screenPlaten, show platenOf u (platenAt u (stationPos .load)) = platenOf s (platenAt s 0) from platen,
      if_neg (by rw [enabled]; exact Bool.noConfusion)] <;> rfl
  rw [← screened]
  change loadScan _ u = _
  rw [loadScan, if_neg (by rw [scans]; exact Bool.noConfusion), if_neg (by rw [still]; exact Bool.false_ne_true), hk]
  cases k <;> rfl

theorem scanTold_of_raise {s u : State} {frame : List Byte} {i : Incident} (freed : ServiceFreed s u)
    (run : exec (.tryAccept frame) s = .next (raise i u)) : Claims.scanTold s frame i := by
  refine ⟨_, run, ?_⟩
  rw [raise_eq]
  refine ⟨?_, freed.onLink, freed.service, freed.places⟩
  rw [show pushIncident u.reports { i with time := u.clock } = Claims.raised i s from freed.raised i]
  dsimp only
  generalize hl : u.link = l
  rw [freed.frame, ← hl]

/-! ## The match -/

theorem takesBinds_iff (st : LineState) : takesBinds st = true ↔ st = .queued ∨ st = .active := by cases st <;> decide

theorem candidate_iff (s : State) (blank : Nat) (i : Fin 128) : candidate s blank i = true ↔ Claims.mayTake s blank i := by
  rw [candidate, Bool.and_eq_true, Bool.and_eq_true, takesBinds_iff, and_assoc, hasRoom, decide_eq_true_iff]
  refine and_congr_right fun _ => ?_
  unfold blankIs quantityOf
  cases (lineAt s i).snap with
  | none => simp
  | some p => simp

theorem isRush_iff (s : State) (i : Fin 128) : isRush (lineAt s i) = true ↔ Claims.rush s i := by
  unfold isRush Claims.rush
  cases (lineAt s i).snap with
  | none => simp
  | some p => simp

theorem rushing_iff (s : State) (blank : Nat) (i : Fin 128) :
    (candidate s blank i && isRush (lineAt s i)) = true ↔ Claims.mayTake s blank i ∧ Claims.rush s i := by
  rw [Bool.and_eq_true, candidate_iff, isRush_iff]

theorem matchRanksTheLines : Claims.MatchRanksTheLines := by
  intro s blank
  have ranks : (∃ i, s.accepted.find? (fun i => candidate s blank i && isRush (lineAt s i)) = some i ∧ stockMatch s blank = some i) ∨
      (∀ h ∈ s.accepted, ¬(Claims.mayTake s blank h ∧ Claims.rush s h)) ∧ stockMatch s blank = s.accepted.find? (candidate s blank) := by
    unfold stockMatch
    cases hr : s.accepted.find? fun i => candidate s blank i && isRush (lineAt s i) with
    | some i => exact .inl ⟨i, rfl, rfl⟩
    | none => exact .inr ⟨fun h hh both => List.find?_eq_none.mp hr h hh ((rushing_iff s blank h).mpr both), rfl⟩
  refine ⟨fun i hi => ?_, ?_⟩
  · rcases ranks with ⟨j, hj, hm⟩ | ⟨normal, hm⟩
    · cases hm.symm.trans hi
      obtain ⟨hp, before, rest, split, fails⟩ := List.find?_eq_some_iff_append.mp hj
      obtain ⟨may, rush⟩ := (rushing_iff s blank i).mp hp
      refine ⟨may, before, rest, split, fun h hh hmay => ⟨rush, fun hrush => ?_⟩, fun _ _ _ _ => rush⟩
      have := fails h hh
      rw [(rushing_iff s blank h).mpr ⟨hmay, hrush⟩] at this
      cases this
    · obtain ⟨hp, before, rest, split, fails⟩ := List.find?_eq_some_iff_append.mp (hm.symm.trans hi)
      refine ⟨(candidate_iff s blank i).mp hp, before, rest, split, fun h hh hmay => ?_, fun h hh hmay hrush => ?_⟩
      · have := fails h hh
        rw [(candidate_iff s blank h).mpr hmay] at this
        cases this
      · exact absurd ⟨hmay, hrush⟩ (normal h (by rw [split]; exact List.mem_append_right _ (List.mem_cons_of_mem _ hh)))
  · rcases ranks with ⟨j, hj, hm⟩ | ⟨-, hm⟩
    · rw [hm]
      have found := List.find?_some (p := fun i => candidate s blank i && isRush (lineAt s i)) hj
      have may := ((rushing_iff s blank j).mp found).1
      exact ⟨fun h => (by cases h), fun h => absurd may (h j (List.mem_of_find?_eq_some hj))⟩
    · rw [hm, List.find?_eq_none]
      simp only [candidate_iff]

theorem freeRecordIsLowest : Claims.FreeRecordIsLowest := by
  intro s
  have free (g : Fin 32) : (garmentAt s g).isNone = true ↔ garmentAt s g = none := Option.isNone_iff_eq_none
  refine ⟨fun g hg => ?_, ?_⟩
  · obtain ⟨hp, n, hn, eq, fails⟩ := List.find?_eq_some_iff_getElem.mp hg
    have get (j : Nat) (hj : j < allGarments.length) : allGarments[j].val = j := congrArg Fin.val (List.getElem_ofFn hj)
    refine ⟨(free g).mp hp, fun h hlt empty => ?_⟩
    have here : n = g.val := (get n hn).symm.trans (congrArg Fin.val eq)
    have below : h.val < n := by rw [here]; exact hlt
    have lower := fails h.val below
    rw [show allGarments[h.val] = h from Fin.ext (get h.val _), (free h).mpr empty] at lower
    cases lower
  · rw [freeRecord, List.find?_eq_none]
    exact ⟨fun h g e => h g (mem_allGarments g) ((free g).mpr e), fun h g _ e => h g ((free g).mp e)⟩

/-! ## The bind -/

theorem matchTag_stock_of_new {t : TagFields} {s : State} {g : Fin 32} (serial : findSerial s t.serial = none)
    (record : freeRecord s = some g) : matchTag t .stock s = matchStock t g s := by
  simp only [matchTag, serial, record]

theorem matchTag_order_of_new {t : TagFields} {s : State} {g : Fin 32} (serial : findSerial s t.serial = none)
    (record : freeRecord s = some g) : matchTag t .order s = matchOrder t g s := by
  simp only [matchTag, serial, record]

theorem ServiceFreed.findSerial {s u : State} (h : ServiceFreed s u) (n : Nat) : Machine.findSerial u n = Machine.findSerial s n := by
  rw [h.frame]
  rfl

theorem ServiceFreed.freeRecord {s u : State} (h : ServiceFreed s u) : Machine.freeRecord u = Machine.freeRecord s := by
  rw [h.frame]
  rfl

theorem ServiceFreed.stockMatch {s u : State} (h : ServiceFreed s u) (blank : Nat) : Machine.stockMatch u blank = Machine.stockMatch s blank := by
  rw [h.frame]
  rfl

/-- The state of a bind before SHOW is handed in. -/
def bindCounted (t : TagFields) (k : TagKind) (i : Fin 128) (g : Fin 32) (s : State) : State :=
  reportLine i (boundLine (lineAt s i)) (loadPlaten (platenAt s 0) g (putGarment g (boundGarment s t k i) s))

theorem lineNumber_boundLine (l : LineEntry) : lineNumber (boundLine l) = lineNumber l := rfl

theorem bind_eq (t : TagFields) (k : TagKind) (i : Fin 128) (g : Fin 32) (s : State) :
    bind t k i g s = raiseBound t i g (showLoad i (lineNumber (lineAt s i)) (bindCounted t k i g s)) := by
  have line : lineNumber (lineAt (bindCounted t k i g s) i) = lineNumber (lineAt s i) := by
    rw [bindCounted, lineAt_reportLine, if_pos rfl]
    rfl
  rw [← line]
  rfl

/-- An incident joins the reports whether or not a slot has become dirty. -/
theorem pushIncident_dirty (r : Reports) (d : Tbl 128 Bool) (i : Incident) :
    pushIncident { r with dirty := d } i = { pushIncident r i with dirty := d } := by
  unfold pushIncident
  split <;> rfl

/-- A bind joins the shirt and the line. -/
structure Bound (t : TagFields) (k : TagKind) (i : Fin 128) (g : Fin 32) (s u : State) : Prop where
  frame : u = { bindCounted t k i g s with link := { s.link with places := u.link.places }, reports := u.reports }
  now : (placeAt u .load).now =
    some (queuedNow (putCmd .loadScanner .show (16 * i.val + lineNumber (lineAt s i))) s)
  reports : u.reports =
    { Claims.raised
        { incident .bound with
          slot := some i, garment := some g, serial := t.serial, key := keyOf s i, detail := lineNumber (lineAt s i), value := t.blank } s with
      dirty := Tbl.put s.reports.dirty i true }

theorem bound_bind {t : TagFields} {k : TagKind} {i : Fin 128} {g : Fin 32} {s : State} (place : (placeAt s .load).now = none)
    (reach : unreachable s .loadScanner = false) : Bound t k i g s (bind t k i g s) := by
  have shown : showLoad i (lineNumber (lineAt s i)) (bindCounted t k i g s) =
      handIn .load (putCmd .loadScanner .show (16 * i.val + lineNumber (lineAt s i))) (bindCounted t k i g s) :=
    replaceTxn_of_empty (s := bindCounted t k i g s) place _
  have handed := handedIn_of_empty (q := .load) (x := putCmd .loadScanner .show (16 * i.val + lineNumber (lineAt s i)))
    (s := bindCounted t k i g s) place reach
  have line : lineAt (bindCounted t k i g s) i = boundLine (lineAt s i) := by
    rw [bindCounted, lineAt_reportLine, if_pos rfl]
  rw [bind_eq, shown]
  generalize handIn .load (putCmd .loadScanner .show (16 * i.val + lineNumber (lineAt s i))) (bindCounted t k i g s) = x at handed
  have xline : lineAt x i = boundLine (lineAt s i) := (lineAt_congr (by rw [handed.frame]) i).trans line
  have key : keyOf x i = keyOf s i := keyOf_of_snap (by rw [xline]; rfl)
  have told : raiseBound t i g x =
      { x with
        reports :=
          { Claims.raised
              { incident .bound with
                slot := some i, garment := some g, serial := t.serial, key := keyOf s i
                detail := lineNumber (lineAt s i), value := t.blank } s with
            dirty := Tbl.put s.reports.dirty i true } } := by
    have clock : x.clock = s.clock := by rw [handed.frame]; rfl
    have reports : x.reports = { s.reports with dirty := Tbl.put s.reports.dirty i true } := by rw [handed.frame]; rfl
    rw [raiseBound, raise_eq, slotScanIncident, key, xline, lineNumber_boundLine, clock, reports, pushIncident_dirty]
    rfl
  refine ⟨?_, ?_, by rw [told]⟩
  · rw [told]
    dsimp only
    generalize hl : x.link.places = l
    rw [handed.frame, ← hl]
    rfl
  · rw [told]
    exact handed.now

theorem boundTo_bind {s u : State} {f : TagFields} {k : TagKind} {i : Fin 128} {g : Fin 32} (freed : ServiceFreed s u)
    (count : (lineAt s i).bound < 255) (place : (placeAt s .load).now = none) (reach : unreachable s .loadScanner = false) :
    Claims.boundTo s (bind f k i g u) f k i g := by
  have upos : platenAt u 0 = platenAt s 0 := by rw [freed.frame]; rfl
  have uplaten (p : Fin 12) : platenOf u p = platenOf s p := by rw [freed.frame]; rfl
  have uplace : (placeAt u .load).now = none := by unfold placeAt; rw [freed.places]; exact place
  have bound := bound_bind (t := f) (k := k) (i := i) (g := g) (s := u) uplace ((freed.reach _).trans reach)
  generalize bind f k i g u = t at bound
  have lines (h : Fin 128) : lineAt t h = if i = h then boundLine (lineAt u i) else lineAt u h := by
    rw [bound.frame]
    exact lineAt_reportLine ..
  have garments (h : Fin 32) : garmentAt t h = if g = h then some (boundGarment u f k i) else garmentAt u h := by
    rw [bound.frame]
    exact garmentAt_putGarment ..
  have platens (p : Fin 12) : platenOf t p =
      if platenAt u 0 = p then { platenOf u (platenAt u 0) with garment := some g } else platenOf u p := by
    rw [bound.frame]
    exact platenOf_putPlaten ..
  refine ⟨?_, ?_, ?_, fun h hne => ?_, ?_, ⟨boundGarment u f k i, (garments g).trans (if_pos rfl), rfl, rfl, rfl, rfl, ?_, rfl, rfl, ?_, rfl, rfl,
      freed.clock⟩, fun h hne => ?_, ?_, fun p hne => ?_, ?_, ?_, ?_, ?_, ?_⟩
  · rw [bound.frame]
    exact freed.onLink
  · rw [bound.frame]
    exact freed.service
  · rw [lines, if_pos rfl, freed.lineAt, boundLine, satAdd, Nat.min_eq_right (by exact count)]
  · rw [lines, if_neg hne.symm, freed.lineAt]
  · rw [bound.reports, freed.raised, freed.keyOf, freed.lineAt, show u.reports = s.reports by rw [freed.frame]]
  · exact congrArg LineEntry.take (freed.lineAt i)
  · exact congrArg some upos
  · rw [garments, if_neg hne.symm, freed.garmentAt]
  · rw [platens, if_pos upos, upos, uplaten]
  · rw [platens, if_neg (by rw [upos]; exact hne.symm), uplaten]
  · rw [bound.now, freed.lineAt, queuedNow, freed.clock]
    rfl
  · rw [bound.frame, freed.frame]
    rfl
  · rw [bound.frame, freed.frame]
    rfl
  · rw [bound.frame, freed.frame]
    rfl
  · rw [bound.frame, freed.frame]
    rfl

theorem tagClass_of_stock {f : TagFields} (h : f.kind = 0) : tagClass f = .stock := by rw [tagClass, h]; rfl

theorem tagClass_of_order {f : TagFields} (h : f.kind = 1) : tagClass f = .order := by rw [tagClass, h]; rfl

theorem bindJoinsShirtAndLine : Claims.BindJoinsShirtAndLine := by
  intro s frame i g f scan kind empty serial record matched count place reach
  obtain ⟨u, freed, run⟩ := loadScan_exec scan (k := .stock) (tagClass_of_stock kind)
  rw [empty] at run
  refine ⟨_, run, ?_⟩
  have bound : matchTag f .stock u = bind f .stock i g u := by
    rw [matchTag_stock_of_new ((freed.findSerial _).trans serial) (freed.freeRecord.trans record), matchStock, freed.stockMatch, matched]
  rw [bound]
  exact boundTo_bind freed count place reach

/-- Settles O52, by the ranks of the match and by the parts of the bind. -/
theorem stockScanBindsTheShirt : Obligations.StockScanBindsTheShirt := ⟨bindJoinsShirtAndLine, matchRanksTheLines, freeRecordIsLowest⟩

/-! ## ORDER tags -/

theorem orderTagNamesItsLine : Claims.OrderTagNamesItsLine := by
  intro s frame f g scan kind empty serial record
  obtain ⟨u, freed, run⟩ := loadScan_exec scan (k := .order) (tagClass_of_order kind)
  rw [empty] at run
  dsimp only at run
  rw [matchTag_order_of_new ((freed.findSerial _).trans serial) (freed.freeRecord.trans record)] at run
  refine ⟨fun beyond => ?_, fun i hi => ?_⟩
  · have slot : slotOf f.slot = none := dif_neg (Nat.not_lt.mpr beyond)
    rw [matchOrder, slot] at run
    exact scanTold_of_raise freed run
  · have slot : slotOf f.slot = some i := by
      rw [← hi]
      exact dif_pos i.isLt
    rw [matchOrder, slot] at run
    dsimp only at run
    have told (detail : Nat) (h : exec (.tryAccept frame) s = .next (orderMismatch f detail i u)) :
        Claims.scanTold s frame
          { incident .tagMismatch with slot := some i, serial := f.serial, key := keyOf s i, detail := detail, value := f.slot } := by
      rw [orderMismatch, slotScanIncident, freed.keyOf] at h
      exact scanTold_of_raise freed h
    rw [freed.lineAt] at run
    dsimp only
    refine ⟨fun notQueued notActive => told 65537 ?_, fun p takes snap => ?_⟩
    · have closed : takesBinds (lineAt s i).state = false :=
        Bool.eq_false_iff.mpr fun h => ((takesBinds_iff _).mp h).elim notQueued notActive
      rw [run, if_pos closed]
    · have takes' : ¬takesBinds (lineAt s i).state = false := by
        rw [(takesBinds_iff _).mpr takes]
        exact Bool.noConfusion
      have blank : blankIs (lineAt s i) f.blank = true ↔ p.blank = f.blank := by
        rw [blankIs, snap]
        exact beq_iff_eq
      have room : hasRoom (lineAt s i) = true ↔ (lineAt s i).bound + (lineAt s i).finished < p.quantity := by
        rw [hasRoom, quantityOf, snap]
        exact decide_eq_true_iff
      rw [if_neg takes'] at run
      refine ⟨fun other => told 65538 ?_, fun same full => told 65539 ?_, fun same free count place reach => ⟨_, run, ?_⟩⟩
      · rw [run, if_pos (Bool.eq_false_iff.mpr fun h => other (blank.mp h))]
      · rw [run, if_neg (by rw [blank.mpr same]; exact Bool.noConfusion),
          if_pos (Bool.eq_false_iff.mpr fun h => Nat.not_lt.mpr full (room.mp h))]
      · rw [if_neg (by rw [blank.mpr same]; exact Bool.noConfusion), if_neg (by rw [room.mpr free]; exact Bool.noConfusion)]
        exact boundTo_bind freed count place reach

/-! ## The garment on the LOAD platen -/

theorem addedInk_at (totals counters : Tbl 6 Nat) (c : Fin 6) :
    Tbl.at (addedInk totals counters) c = min 4294967295 (Tbl.at totals c + Tbl.at counters c) := Tbl.at_ofFn ..

/-- The end-of-garment ink accounting: the line's totals, and the slot dirty when one changed. -/
structure Inked (counters : Tbl 6 Nat) (i : Fin 128) (s t : State) : Prop where
  frame : t = { s with lines := t.lines, reports := t.reports }
  fifo : t.reports.fifo = s.reports.fifo
  own : lineAt t i = { lineAt s i with ink := addedInk (lineAt s i).ink counters }
  others : ∀ o, o ≠ i → lineAt t o = lineAt s o

theorem inked_addInk (counters : Tbl 6 Nat) (i : Fin 128) (s : State) : Inked counters i s (addInk counters i s) := by
  unfold addInk
  dsimp only
  split
  · next h => exact ⟨rfl, rfl, by rw [h], fun _ _ => rfl⟩
  · exact ⟨rfl, rfl, by rw [lineAt_reportLine, if_pos rfl], fun o ho => by rw [lineAt_reportLine, if_neg ho.symm]⟩

theorem deleteGarment_of_current {g : Fin 32} {r : Garment} {s : State} {p : Fin 12} (hr : garmentAt s g = some r) (hp : r.platen = some p)
    (current : (lineAt s r.slot).take = r.stamp) : deleteGarment g s = emptyPlaten p (clearGarment g (addInk r.ink r.slot s)) := by
  rw [deleteGarment, hr]
  dsimp only
  rw [hp, ifCurrent_of_current current]

/-- A garment that leaves the LOAD platen for good. -/
structure Withdrawn (g : Fin 32) (r : Garment) (p : Fin 12) (s t : State) : Prop where
  frame : t =
    { s with
      garments := Tbl.put s.garments g none, lines := t.lines, reports := t.reports
      carousel := { s.carousel with platens := t.carousel.platens } }
  fifo : t.reports.fifo = s.reports.fifo
  platens : ∀ q, platenOf t q = if p = q then emptied (platenOf s p) else platenOf s q
  others : ∀ o, o ≠ r.slot → lineAt t o = lineAt s o
  own : lineAt t r.slot =
    { lineAt s r.slot with
      bound := if r.cond = .good then (lineAt s r.slot).bound - 1 else (lineAt s r.slot).bound
      ink := addedInk (lineAt s r.slot).ink r.ink }
  dirty : r.cond = .good → Tbl.at t.reports.dirty r.slot = true

theorem settleCounts_of_active {i : Fin 128} {s : State} (active : (lineAt s i).state = .active)
    (unmet : (lineAt s i).finished < quantityOf (lineAt s i)) : settleCounts i s = s := by
  unfold settleCounts
  dsimp only
  rw [if_neg fun h => Nat.not_le.mpr unmet h.2, if_neg fun h => by cases active.symm.trans h.1]

theorem withdrawn_of_delete {g : Fin 32} {r : Garment} {s : State} {p : Fin 12} (hr : garmentAt s g = some r) (hp : r.platen = some p)
    (current : (lineAt s r.slot).take = r.stamp) (active : (lineAt s r.slot).state = .active)
    (unmet : (lineAt s r.slot).finished < quantityOf (lineAt s r.slot)) :
    Withdrawn g r p s (withdrawnCount r (deleteGarment g s)) := by
  have inked := inked_addInk r.ink r.slot s
  rw [deleteGarment_of_current hr hp current]
  generalize addInk r.ink r.slot s = x at inked
  have xframe : emptyPlaten p (clearGarment g x) =
      { x with
        garments := Tbl.put x.garments g none
        carousel := { x.carousel with platens := Tbl.put x.carousel.platens p (emptied (platenOf x p)) } } := rfl
  have xplaten (q : Fin 12) : platenOf x q = platenOf s q := platenOf_congr (by rw [inked.frame]) q
  have platens (q : Fin 12) : platenOf (emptyPlaten p (clearGarment g x)) q = if p = q then emptied (platenOf s p) else platenOf s q := by
    rw [platenOf_emptyPlaten]
    exact congrArg₂ (fun a b => if p = q then emptied a else b) (xplaten p) (xplaten q)
  have lines (o : Fin 128) : lineAt (emptyPlaten p (clearGarment g x)) o = lineAt x o := rfl
  have fifo : (emptyPlaten p (clearGarment g x)).reports.fifo = s.reports.fifo := inked.fifo
  have garments : x.garments = s.garments := by rw [inked.frame]
  have carousel : x.carousel = s.carousel := by rw [inked.frame]
  have base : emptyPlaten p (clearGarment g x) =
      { s with
        garments := Tbl.put s.garments g none, lines := x.lines, reports := x.reports
        carousel := { s.carousel with platens := (emptyPlaten p (clearGarment g x)).carousel.platens } } := by
    rw [xframe, garments, carousel]
    dsimp only
    generalize x.lines = l, x.reports = m at inked
    generalize platenOf x p = e
    rw [inked.frame]
  generalize emptyPlaten p (clearGarment g x) = y at platens lines fifo base
  unfold withdrawnCount
  by_cases good : r.cond = .good
  · have yown : lineAt y r.slot = { lineAt s r.slot with ink := addedInk (lineAt s r.slot).ink r.ink } := (lines _).trans inked.own
    have reported : lineAt (reportLine r.slot { lineAt y r.slot with bound := (lineAt y r.slot).bound - 1 } y) r.slot =
        { lineAt y r.slot with bound := (lineAt y r.slot).bound - 1 } := by rw [lineAt_reportLine, if_pos rfl]
    have lowered : lowerBound r.slot y = reportLine r.slot { lineAt y r.slot with bound := (lineAt y r.slot).bound - 1 } y :=
      settleCounts_of_active (by rw [reported, yown]; exact active) (by rw [reported, yown]; exact unmet)
    rw [if_pos good, ifCurrent_of_current (by rw [yown]; exact current), lowered]
    refine ⟨?_, fifo, platens, fun o ho => ?_, ?_, fun _ => dirty_reportLine ..⟩
    · have whole : reportLine r.slot { lineAt y r.slot with bound := (lineAt y r.slot).bound - 1 } y =
          { y with
            lines := (reportLine r.slot { lineAt y r.slot with bound := (lineAt y r.slot).bound - 1 } y).lines
            reports := (reportLine r.slot { lineAt y r.slot with bound := (lineAt y r.slot).bound - 1 } y).reports } := rfl
      have platensKept : (reportLine r.slot { lineAt y r.slot with bound := (lineAt y r.slot).bound - 1 } y).carousel = y.carousel := rfl
      rw [platensKept]
      refine whole.trans ?_
      generalize reportLine r.slot { lineAt y r.slot with bound := (lineAt y r.slot).bound - 1 } y = z
      generalize hp : y.carousel.platens = q
      rw [base, ← hp]
    · rw [lineAt_reportLine, if_neg ho.symm, lines, inked.others o ho]
    · rw [reported, if_pos good, yown]
  · rw [if_neg good]
    refine ⟨?_, fifo, platens, fun o ho => (lines o).trans (inked.others o ho), ?_, fun h => absurd h good⟩
    · generalize hl : y.lines = l, hm : y.reports = m, hp : y.carousel.platens = q
      rw [base] at hl hm hp ⊢
      cases hl
      cases hm
      cases hp
      rfl
    · rw [if_neg good, lines, inked.own]

theorem scanOfTheLoadPlaten : Claims.ScanOfTheLoadPlaten := by
  intro s frame f g r scan kind held hr told
  obtain ⟨u, freed, run⟩ : ∃ u, ServiceFreed s u ∧ exec (.tryAccept frame) s = .next (occupied f g u) := by
    rcases kind with kind | kind
    · obtain ⟨u, freed, run⟩ := loadScan_exec scan (k := .stock) (tagClass_of_stock kind)
      rw [held] at run
      exact ⟨u, freed, run⟩
    · obtain ⟨u, freed, run⟩ := loadScan_exec scan (k := .order) (tagClass_of_order kind)
      rw [held] at run
      exact ⟨u, freed, run⟩
  have ur : garmentAt u g = some r := (freed.garmentAt g).trans hr
  have incident (k : IncidentKind) : garmentScanIncident k f g r u = told k := by
    rw [garmentScanIncident, slotScanIncident, freed.keyOf]
    rfl
  rw [occupied, ur] at run
  dsimp only at run
  refine ⟨fun other => ?_, fun same platen current active unmet => ⟨_, run, ?_⟩⟩
  · rw [if_neg other, incident] at run
    exact scanTold_of_raise freed run
  · rw [if_pos same, withdraw, incident]
    have gone := withdrawn_of_delete (g := g) (r := r) (s := u) ur platen (by rw [freed.lineAt]; exact current)
      (by rw [freed.lineAt]; exact active) (by rw [freed.lineAt]; exact unmet)
    generalize withdrawnCount r (deleteGarment g u) = x at gone
    have platens (q : Fin 12) : platenOf x q = if platenAt s 0 = q then emptied (platenOf s (platenAt s 0)) else platenOf s q := by
      have same (p : Fin 12) : platenOf u p = platenOf s p := platenOf_congr (by rw [freed.frame]) p
      rw [gone.platens, same, same]
    have enabled : (platenOf s (platenAt s 0)).enabled = true := by
      obtain ⟨_, _, _, _, _, _, _, _, _, _, _, _, _, _, _, _, enabled⟩ := scan
      exact enabled
    have link : x.link = u.link := by rw [gone.frame]
    rw [raise_eq]
    refine ⟨by rw [link]; exact freed.onLink, by rw [link]; exact freed.places, ?_, ?_, ?_, fun q hq => ?_, fun o ho => ?_, ?_, fun good => ?_,
      fun c => ?_⟩
    · dsimp only
      generalize pushIncident x.reports { told .withdrawn with time := x.clock } = m
      generalize hl : x.link = l, hn : x.lines = n, hp : x.carousel.platens = p
      rw [link] at hl
      rw [gone.frame, hn, hp, freed.frame]
    · have clock : x.clock = s.clock := by rw [gone.frame]; exact freed.clock
      have fifo : x.reports.fifo = s.reports.fifo := by rw [gone.fifo, freed.frame]
      rw [clock]
      unfold Claims.raised pushIncident
      rw [fifo]
      split <;> rfl
    · refine (platens (platenAt s 0)).trans ((if_pos rfl).trans ?_)
      rw [emptied, enabled]
    · exact (platens q).trans (if_neg hq.symm)
    · exact (gone.others o ho).trans (freed.lineAt o)
    · have own := gone.own
      rw [freed.lineAt] at own
      refine Eq.trans (b := lineAt x r.slot) rfl (own.trans ?_)
      exact congrArg
        (fun k => ({ lineAt s r.slot with
          bound := if r.cond = .good then (lineAt s r.slot).bound - 1 else (lineAt s r.slot).bound, ink := k } : LineEntry))
        (congrArg LineEntry.ink own).symm
    · have dirty := gone.dirty good
      unfold pushIncident
      split
      · exact dirty
      · exact dirty
    · have own := gone.own
      rw [freed.lineAt] at own
      change Tbl.at (lineAt x r.slot).ink c = _
      rw [own]
      exact addedInk_at ..

/-- Settles O53, by the tests of an ORDER tag, and by the serial on the LOAD platen. -/
theorem orderTagsAndWithdrawals : Obligations.OrderTagsAndWithdrawals := ⟨orderTagNamesItsLine, scanOfTheLoadPlaten⟩

end Sys2Proof.Machine
end

section
/-! PROOFS. Pack scans: the SHOW, BIN tags, strays and tags of no kind (R142, R143, R147, R152). -/

namespace Sys2Proof.Machine

-- Elaborated all at once, the proofs of this text start more threads than the check's memory limit lets it.
set_option Elab.async false

/-! ## The display -/

/-- A SHOW for the PACK requester goes to its place at once. -/
structure DisplayFree (s : State) : Prop where
  now : (placeAt s .pack).now = none
  reach : unreachable s .packScanner = false

/-- A destination is shown. -/
structure Shown (c : PackCode) (s t : State) : Prop where
  frame : t = { s with link := { s.link with places := t.link.places } }
  now : (placeAt t .pack).now = Claims.shows (packCodeNum c) s

theorem packCodeNum_le (c : PackCode) : packCodeNum c ≤ 16777215 := by
  unfold packCodeNum
  split <;> omega

theorem shown_showPack {s : State} (free : DisplayFree s) (c : PackCode) : Shown c s (showPack c s) := by
  have handed := handedIn_of_empty (q := .pack) (x := putCmd .packScanner .show (packCodeNum c)) free.now free.reach
  rw [showPack, replaceTxn_of_empty free.now]
  refine ⟨handed.frame, ?_⟩
  rw [handed.now, Claims.shows, queuedNow, putCmd, commandWord, Nat.min_eq_right (packCodeNum_le c)]
  rfl

/-- The packing changes nothing that a SHOW asks about. -/
theorem DisplayFree.congr {s t : State} (free : DisplayFree s) (link : t.link = s.link) (exch : t.exch = s.exch) : DisplayFree t := by
  refine ⟨?_, ?_⟩
  · unfold placeAt
    rw [link]
    exact free.now
  · rw [← free.reach]
    unfold unreachable attached roleAddr moduleAt
    rw [link, exch]

/-- A pack scan that is whole reaches the pack unit. -/
theorem packScan_exec {s : State} {frame : List Byte} {f : TagFields} (h : Claims.packScan s frame f) :
    ∃ u, ServiceFreed s u ∧ DisplayFree u ∧ exec (.tryAccept frame) s = .next (packScan f u) := by
  obtain ⟨o, v, status, tag, ho, hq, hr, hc, hv, hvr, hstatus, ready, rfl, present, place, reach⟩ := h
  obtain ⟨u, freed, run⟩ := pairFreed ho hq hr hc hv hvr hstatus ready present rfl
  refine ⟨u, freed, ⟨?_, (freed.reach _).trans reach⟩, run⟩
  unfold placeAt
  rw [freed.places]
  exact place

/-- A pack scan that is answered with an incident and a destination, and changes nothing else. -/
def answered (s : State) (frame : List Byte) (i : Incident) (code : Nat) : Prop :=
  ∃ t : State, exec (.tryAccept frame) s = .next t ∧ t = { s with link := t.link, reports := t.reports } ∧
    t.reports = Claims.raised i s ∧ (placeAt t .pack).now = Claims.shows code s

theorem answered_of_raise {s u : State} {frame : List Byte} {i : Incident} {c : PackCode} (freed : ServiceFreed s u) (free : DisplayFree u)
    (run : exec (.tryAccept frame) s = .next (showPack c (raise i u))) : answered s frame i (packCodeNum c) := by
  have shown := shown_showPack (s := raise i u) (free.congr (by rw [raise_eq]) (by rw [raise_eq])) c
  refine ⟨_, run, ?_⟩
  generalize showPack c (raise i u) = t at shown
  refine ⟨?_, ?_, ?_⟩
  · generalize hl : t.link = l, hm : t.reports = m
    rw [shown.frame, raise_eq] at hl hm ⊢
    rw [← hl, ← hm]
    generalize pushIncident u.reports _ = p
    dsimp only
    generalize hk : u.link = k
    rw [freed.frame, ← hk]
  · rw [← freed.raised i, shown.frame, raise_eq]
    rfl
  · rw [shown.now, raise_eq]
    have clock := freed.clock
    unfold Claims.shows Claims.handed
    rw [← clock]

/-! ## Tags that name no bin and no kind, and strays -/

theorem tagClass_of_bin {f : TagFields} (h : f.kind = 2) : tagClass f = .bin := by rw [tagClass, h]; rfl

theorem tagClass_of_other {f : TagFields} (h : 2 < f.kind) : tagClass f = .invalid := by
  unfold tagClass
  split <;> first | omega | rfl

theorem packScan_of_shirt {f : TagFields} (h : f.kind = 0 ∨ f.kind = 1) (s : State) : packScan f s = shirtScan f s := by
  unfold packScan
  rcases h with h | h
  · rw [tagClass_of_stock h]
  · rw [tagClass_of_order h]

theorem packScan_of_bin {f : TagFields} (h : f.kind = 2) (s : State) : packScan f s = binScan f s := by
  unfold packScan
  rw [tagClass_of_bin h]

theorem hasSerial_iff (s : State) (serial : Nat) (g : Fin 32) :
    hasSerial s serial g = true ↔ ∃ r, garmentAt s g = some r ∧ r.serial = serial := by
  unfold hasSerial
  cases garmentAt s g with
  | none => simp
  | some r => simp

/-- No record of the garment carries the serial. -/
theorem hasSerial_of_away {s : State} {serial : Nat} {g : Fin 32} (h : ∀ y, garmentAt s g = some y → y.serial ≠ serial) :
    hasSerial s serial g = false :=
  Bool.eq_false_iff.mpr fun e => by
    obtain ⟨r, hr, same⟩ := (hasSerial_iff s serial g).mp e
    exact h r hr same

theorem ServiceFreed.garments {s u : State} (h : ServiceFreed s u) : u.garments = s.garments := by rw [h.frame]

theorem packEntry_of_away {s : State} {serial : Nat}
    (h : ∀ x ∈ s.pack.queue, ∀ y, garmentAt s x.garment = some y → y.serial ≠ serial) : packEntry s serial = none :=
  List.find?_eq_none.mpr fun x hx => by
    rw [hasSerial_of_away (h x hx)]
    exact Bool.false_ne_true

theorem beltHas_of_garment {s : State} {e : BeltEntry} {g : Fin 32} (h : e.garment = some g) (serial : Nat) :
    beltHas s serial e = hasSerial s serial g := by
  rw [beltHas, h]

theorem beltHas_of_away {s : State} {serial : Nat} {e : BeltEntry}
    (h : ∀ g, e.garment = some g → ∀ y, garmentAt s g = some y → y.serial ≠ serial) : beltHas s serial e = false := by
  unfold beltHas
  split
  · rfl
  · next g hg => exact hasSerial_of_away (h g hg)

theorem ServiceFreed.packEntry {s u : State} (h : ServiceFreed s u) (serial : Nat) : Machine.packEntry u serial = Machine.packEntry s serial := by
  rw [h.frame]
  rfl

theorem ServiceFreed.beltHas {s u : State} (h : ServiceFreed s u) (serial : Nat) (e : BeltEntry) :
    Machine.beltHas u serial e = Machine.beltHas s serial e := by
  rw [h.frame]
  rfl

theorem findSerial_eq (s : State) (serial : Nat) : findSerial s serial = allGarments.find? (hasSerial s serial) := rfl

theorem findSerial_of_lowest {s : State} {serial : Nat} {g : Fin 32} (found : hasSerial s serial g = true)
    (lowest : ∀ h < g, hasSerial s serial h = false) : findSerial s serial = some g := by
  rw [findSerial_eq]
  refine List.find?_eq_some_iff_getElem.mpr ⟨found, g.val, by simp [allGarments], List.getElem_ofFn .., fun j hj => ?_⟩
  have here : allGarments[j]'(by simp [allGarments]; omega) = ⟨j, Nat.lt_trans hj g.isLt⟩ := List.getElem_ofFn _
  rw [here, lowest _ hj]
  rfl

theorem shirtScan_of_stray {f : TagFields} {s : State} (queue : packEntry s f.serial = none)
    (belt : ∀ x ∈ s.dryer.belt, beltHas s f.serial x = false) : shirtScan f s = strayScan f s := by
  have none : s.dryer.belt.find? (beltHas s f.serial) = .none :=
    List.find?_eq_none.mpr fun x hx => by
      rw [belt x hx]
      exact Bool.false_ne_true
  simp only [shirtScan, queue, none]

theorem binOf_of_other {n : Nat} (h : n = 0 ∨ 12 < n) : binOf n = none := dif_neg (by omega)

theorem otherPackScans : Claims.OtherPackScans := by
  intro s frame f scan
  obtain ⟨u, freed, free, run⟩ := packScan_exec scan
  refine ⟨fun kind bin => ?_, fun kind => ?_, fun kind queue belt => ?_⟩
  · rw [packScan_of_bin kind, binScan, binOf_of_other bin] at run
    exact answered_of_raise (c := .refused) freed free run
  · rw [packScan, tagClass_of_other kind] at run
    exact answered_of_raise (c := .refused) freed free run
  · have stray : exec (.tryAccept frame) s = .next (showPack .spare (raise (strayIncident s f) u)) := by
      have incident : strayIncident u f = strayIncident s f := by
        unfold strayIncident
        rw [freed.findSerial]
        simp only [freed.garmentAt]
      rw [run, packScan_of_shirt kind, shirtScan_of_stray, strayScan, incident]
      · rw [freed.packEntry]
        exact packEntry_of_away queue
      · intro x hx
        rw [freed.beltHas]
        exact beltHas_of_away (belt x (by rw [freed.frame] at hx; exact hx))
    refine ⟨fun away => ?_, fun g r hr same lowest => ?_⟩
    · have none : findSerial s f.serial = .none :=
        (findSerial_eq ..).trans (List.find?_eq_none.mpr fun x _ => by
          rw [hasSerial_of_away (away x)]
          exact Bool.false_ne_true)
      rw [strayIncident, none] at stray
      exact answered_of_raise (c := .spare) freed free stray
    · have found := findSerial_of_lowest ((hasSerial_iff s f.serial g).mpr ⟨r, hr, same⟩) fun h hlt => hasSerial_of_away (lowest h hlt)
      rw [strayIncident, found] at stray
      simp only [hr] at stray
      exact answered_of_raise (c := .spare) freed free stray

/-! ## BIN tags -/

theorem binOf_succ (b : Fin 12) : binOf (b.val + 1) = some b := dif_pos ⟨Nat.le_add_left .., b.isLt⟩

theorem packScan_of_bin_tag {f : TagFields} {b : Fin 12} (kind : f.kind = 2) (bin : f.bin = b.val + 1) (s : State) :
    packScan f s = binClear b s := by
  rw [packScan_of_bin kind, binScan, bin, binOf_succ]

theorem ServiceFreed.orderAt {s u : State} (h : ServiceFreed s u) (key : Word) : Machine.orderAt u key = Machine.orderAt s key := by
  rw [h.frame]
  rfl

theorem ServiceFreed.pack {s u : State} (h : ServiceFreed s u) : u.pack = s.pack := by rw [h.frame]

/-- A READY order's bin is free and its entry is deleted, with BIN_CLEARED told. -/
def binFreed (b : Fin 12) (o : Order) (s : State) : State :=
  { s with
    pack := { s.pack with bins := Tbl.put s.pack.bins b none, orders := s.pack.orders.filter fun x => x.key != o.key }
    reports := Claims.raised { incident .binCleared with key := o.key, detail := b.val + 1, value := o.packed } s }

theorem clearReady_eq (b : Fin 12) (o : Order) (s : State) : clearReady b o s = showPack .cleared (moveOverflow b (binFreed b o s)) := by
  rw [clearReady, raise_eq]
  rfl

theorem orderAt_filter (s : State) (key k : Word) :
    (s.pack.orders.filter fun x => x.key != key).find? (fun x => x.key == k) = if k = key then none else orderAt s k := by
  rw [List.find?_filter]
  split
  · next h =>
    subst h
    refine List.find?_eq_none.mpr fun x _ => ?_
    simp
  · next h =>
    rw [orderAt]
    congr 1
    funext x
    by_cases hx : x.key = k
    · simp [hx, h]
    · simp [hx]

theorem orderAt_binFreed {b : Fin 12} {o : Order} {s : State} (k : Word) :
    orderAt (binFreed b o s) k = if k = o.key then none else orderAt s k := orderAt_filter s o.key k

theorem find?_replace_other {l : List Order} {o : Order} {key : Word} (h : key ≠ o.key) :
    (l.map fun x => if x.key = o.key then o else x).find? (fun x => x.key == key) = l.find? (fun x => x.key == key) := by
  induction l with
  | nil => rfl
  | cons x xs ih =>
    rw [List.map_cons, List.find?_cons, List.find?_cons, ih]
    by_cases hx : x.key = o.key
    · rw [if_pos hx, beq_eq_false_iff_ne.mpr h.symm, beq_eq_false_iff_ne.mpr fun e => h (e.symm.trans hx)]
    · rw [if_neg hx]

theorem orderAt_putOrder_other {s : State} {o : Order} {key : Word} (h : key ≠ o.key) : orderAt (putOrder o s) key = orderAt s key :=
  find?_replace_other h

/-- An order that changes its bin: its entry and its slots' bin fields, and no other part of the packing. -/
theorem pack_changeBin (o : Order) (b : OrderBin) (s : State) : (changeBin o b s).pack = (putOrder { o with bin := b } s).pack := by
  simp [changeBin]

/-- A waiting order takes a bin that is freed. -/
structure MovedIn (b : Fin 12) (key : Word) (rest : List Word) (o : Order) (s t : State) : Prop where
  pack : t.pack =
    { s.pack with
      waiting := rest, bins := Tbl.put s.pack.bins b (some key)
      orders := s.pack.orders.map fun x => if x.key = o.key then { o with bin := .bin b } else x }
  garments : t.garments = s.garments
  link : t.link = s.link
  exch : t.exch = s.exch
  clock : t.clock = s.clock

theorem movedIn_moveOverflow {b : Fin 12} {key : Word} {rest : List Word} {o : Order} {s : State} (waiting : s.pack.waiting = key :: rest)
    (order : orderAt s key = some o) : MovedIn b key rest o s (moveOverflow b s) := by
  have moved := pack_changeBin o (.bin b) (putBin b (some key) (putWaiting rest s))
  simp only [moveOverflow, waiting, order]
  split
  all_goals exact ⟨by simp only [raise_eq]; exact moved, by simp [changeBin], by simp [changeBin], by simp [changeBin], by simp [changeBin]⟩

theorem moveOverflow_of_none {b : Fin 12} {s : State} (h : s.pack.waiting = []) : moveOverflow b s = s := by
  rw [moveOverflow, h]

theorem binTagActsOnItsBin : Claims.BinTagActsOnItsBin := by
  intro s frame f b scan kind bin
  obtain ⟨u, freed, free, run⟩ := packScan_exec scan
  rw [packScan_of_bin_tag kind bin, binClear, freed.pack] at run
  refine ⟨fun vacant => ?_, fun key ord held order => ?_⟩
  · rw [vacant] at run
    exact answered_of_raise (c := .refused) freed free run
  · have same : ord.key = key := key_of_orderAt order
    rw [held, Option.bind_some, (freed.orderAt key).trans order] at run
    dsimp only at run
    refine ⟨fun opened => ?_, fun ready none => ?_, fun next rest moved ready waiting apart hnext => ?_⟩
    · rw [if_neg (by rw [opened]; exact Bool.false_ne_true), same] at run
      exact answered_of_raise (c := .refused) freed free run
    · have waiting : (binFreed b ord u).pack.waiting = [] := by rw [← none, ← freed.pack]; rfl
      rw [if_pos ready, clearReady_eq, moveOverflow_of_none (s := binFreed b ord u) waiting] at run
      have shown := shown_showPack (s := binFreed b ord u) (free.congr rfl rfl) .cleared
      refine ⟨_, run, ?_⟩
      generalize showPack .cleared (binFreed b ord u) = t at shown
      have pack : t.pack = { s.pack with
          bins := Tbl.put s.pack.bins b .none, orders := s.pack.orders.filter fun x => x.key != key } := by
        rw [shown.frame, ← freed.pack, ← same]
        rfl
      have reports : t.reports = Claims.raised { incident .binCleared with key := key, detail := b.val + 1, value := ord.packed } s := by
        rw [shown.frame, ← freed.raised, ← same]
        rfl
      refine ⟨?_, pack, reports, ?_⟩
      · rw [pack, reports]
        generalize hl : t.link = l
        rw [shown.frame, binFreed, freed.raised, freed.pack, same] at hl ⊢
        rw [← hl]
        generalize Claims.raised _ _ = m
        dsimp only
        generalize u.link = k at hl freed
        rw [freed.frame]
      · rw [shown.now, Claims.shows, Claims.handed, show (binFreed b ord u).clock = s.clock from freed.clock]
        rfl
    · rw [if_pos ready, clearReady_eq] at run
      have kept : orderAt (binFreed b ord u) next = some moved :=
        (orderAt_binFreed next).trans ((if_neg (by rw [same]; exact apart)).trans ((freed.orderAt next).trans hnext))
      have moves := movedIn_moveOverflow (b := b) (key := next) (rest := rest) (o := moved) (s := binFreed b ord u)
        (by rw [← waiting, ← freed.pack]; rfl) kept
      have gone : orderAt (binFreed b ord u) key = none := (orderAt_binFreed key).trans (if_pos same.symm)
      have queue : (binFreed b ord u).pack.queue = s.pack.queue := by rw [← freed.pack]; rfl
      have garments : (binFreed b ord u).garments = s.garments := freed.garments
      have clock : (binFreed b ord u).clock = s.clock := freed.clock
      have free' : DisplayFree (binFreed b ord u) := free.congr rfl rfl
      generalize binFreed b ord u = x at moves gone kept queue garments clock free' run
      have shown := shown_showPack (s := moveOverflow b x) (free'.congr moves.link moves.exch) .cleared
      refine ⟨_, run, ?_⟩
      generalize moveOverflow b x = y at moves shown ⊢
      generalize showPack .cleared y = t at shown
      have pack : t.pack = y.pack := by rw [shown.frame]
      have key_moved : moved.key = next := key_of_orderAt kept
      have found (k : Word) : orderAt t k = (y.pack.orders.find? fun z => z.key == k) := by rw [orderAt, pack]
      refine ⟨?_, ?_, ?_, ?_, ?_, ?_, ?_⟩
      · rw [pack, moves.pack]
        exact Tbl.at_put_self ..
      · rw [pack, moves.pack]
      · rw [found, moves.pack]
        exact (find?_replace_other (o := { moved with bin := .bin b }) (by rw [key_moved]; exact apart.symm)).trans gone
      · rw [found, moves.pack]
        exact find?_replace (o := { moved with bin := .bin b }) kept key_moved
      · rw [pack, moves.pack]
        exact queue
      · rw [shown.frame]
        exact moves.garments.trans garments
      · rw [shown.now, Claims.shows, Claims.handed, moves.clock, clock]
        rfl

end Sys2Proof.Machine
end

section
/-! PROOFS. A garment of the pack queue leaves for its destination: shown, told, counted and deleted (R144, R145, R150). -/

namespace Sys2Proof.Machine

-- Elaborated all at once, the proofs of this text start more threads than the check's memory limit lets it.
set_option Elab.async false

/-! ## Steps 2 and 3: the SHOW and PACKED -/

/-- A destination is shown and told as PACKED. -/
structure PackShown (g : Fin 32) (r : Garment) (c : PackCode) (s t : State) : Prop where
  frame : t = { s with
    link := { s.link with places := t.link.places }, reports := Claims.packedRaised g r (packCodeNum c) s }
  now : (placeAt t .pack).now = Claims.shows (packCodeNum c) s

theorem packShown_of_some {g : Fin 32} {r : Garment} {s : State} (hr : garmentAt s g = some r) (free : DisplayFree s) (c : PackCode) :
    PackShown g r c s (raisePacked g c (showPack c s)) := by
  have shown := shown_showPack free c
  generalize showPack c s = x at shown
  have record : garmentAt x g = some r := (garmentAt_congr (by rw [shown.frame]) g).trans hr
  have key : keyOf x r.slot = keyOf s r.slot := keyOf_of_snap (congrArg LineEntry.snap (lineAt_congr (by rw [shown.frame]) r.slot))
  have clock : x.clock = s.clock := by rw [shown.frame]
  have reports : x.reports = s.reports := by rw [shown.frame]
  have told : raisePacked g c x = { x with reports := Claims.packedRaised g r (packCodeNum c) s } := by
    simp only [raisePacked, record]
    rw [raise_eq, garmentIncident, key, clock, reports]
    rfl
  rw [told]
  refine ⟨?_, shown.now⟩
  dsimp only
  generalize hl : x.link.places = l
  rw [shown.frame, ← hl]

/-! ## Step 4: the counts of the line -/

/-- The counts of a line change: its state, reason, bound and finished count, and what becoming final brings. -/
structure Accounted (i : Fin 128) (s t : State) : Prop where
  frame : t = { s with
    lines := t.lines, accepted := t.accepted, reports := t.reports, pack := { s.pack with orders := t.pack.orders } }
  others : ∀ j, j ≠ i → lineAt t j = lineAt s j
  own : ∃ st rs b n, lineAt t i = { lineAt s i with state := st, reason := rs, bound := b, finished := n }
  tells : Tells 1 s t

theorem Accounted.refl (i : Fin 128) (s : State) : Accounted i s s :=
  ⟨rfl, fun _ _ => rfl, ⟨_, _, _, _, rfl⟩, (Tells.refl s).mono (Nat.zero_le 1)⟩

theorem accounted_finishLine (i : Fin 128) (st : LineState) (r : Reason) (s : State) : Accounted i s (finishLine i st r s) := by
  have whole := finishLine_eq i st r s
  have line := lineAt_finishLine i
  refine ⟨?_, fun j hj => (line j st r s).trans (if_neg hj.symm), ⟨_, _, _, _, (line i st r s).trans (if_pos rfl)⟩, tells_finishLine ..⟩
  generalize finishLine i st r s = t at whole
  rw [whole]

theorem accounted_settleCounts (i : Fin 128) (s : State) : Accounted i s (settleCounts i s) := by
  unfold settleCounts
  dsimp only
  split
  · exact accounted_finishLine ..
  · split
    · exact accounted_finishLine ..
    · exact .refl i s

/-- New counts are reported and settled. -/
theorem accounted_counts (i : Fin 128) (b n : Nat) (s : State) :
    Accounted i s (settleCounts i (reportLine i { lineAt s i with bound := b, finished := n } s)) := by
  have settled := accounted_settleCounts i (reportLine i { lineAt s i with bound := b, finished := n } s)
  have line := lineAt_reportLine i (l := { lineAt s i with bound := b, finished := n }) (s := s)
  have tells := tells_reportLine i { lineAt s i with bound := b, finished := n } s
  have base : reportLine i { lineAt s i with bound := b, finished := n } s =
      { s with
        lines := (reportLine i { lineAt s i with bound := b, finished := n } s).lines
        reports := (reportLine i { lineAt s i with bound := b, finished := n } s).reports } := rfl
  generalize reportLine i { lineAt s i with bound := b, finished := n } s = x at settled line tells base
  obtain ⟨st, rs, b', n', own⟩ := settled.own
  refine ⟨?_, fun j hj => (settled.others j hj).trans ((line j).trans (if_neg hj.symm)), ⟨st, rs, b', n', ?_⟩, tells.trans settled.tells⟩
  · have frame := settled.frame
    generalize settleCounts i x = t at frame
    have accepted : x.accepted = s.accepted := by rw [base]
    rw [frame]
    generalize t.lines = a, t.accepted = c, t.reports = d, t.pack.orders = o
    rw [base]
  · rw [own, line, if_pos rfl]

theorem accounted_packCounts (r : Garment) (c : PackCode) (s : State) : Accounted r.slot s (packCounts r c s) := by
  have current {f : Fin 128 → State → State} (h : Accounted r.slot s (f r.slot s)) : Accounted r.slot s (ifCurrent r f s) := by
    unfold ifCurrent
    split
    · exact h
    · exact .refl ..
  unfold packCounts
  split
  · exact current (accounted_counts r.slot _ _ s)
  · exact current (accounted_counts r.slot _ _ s)
  · exact current (accounted_counts r.slot _ (lineAt s r.slot).finished s)
  all_goals exact .refl ..

/-! ## Step 5: the deletion -/

theorem tells_addInk (counters : Tbl 6 Nat) (i : Fin 128) (s : State) : Tells 0 s (addInk counters i s) :=
  .ite (fun _ => .refl s) fun _ => tells_reportLine ..

theorem tells_deleteGarment (g : Fin 32) (s : State) : Tells 0 s (deleteGarment g s) := by
  unfold deleteGarment
  split
  · exact .refl s
  · next r hr =>
    have inked : Tells 0 s (ifCurrent r (addInk r.ink) s) := tells_ifCurrent (tells_addInk ..)
    dsimp only
    split
    · exact inked.trans (.of_reports (t := clearGarment g _) rfl)
    · exact inked.trans (.of_reports (t := emptyPlaten _ (clearGarment g _)) rfl)

/-- A garment of the line, on no platen, is deleted. -/
structure DeletedLoose (g : Fin 32) (r : Garment) (s t : State) : Prop where
  frame : t = { s with garments := Tbl.put s.garments g none, lines := t.lines, reports := t.reports }
  own : lineAt t r.slot = { lineAt s r.slot with ink := addedInk (lineAt s r.slot).ink r.ink }
  others : ∀ o, o ≠ r.slot → lineAt t o = lineAt s o

theorem deletedLoose {g : Fin 32} {r : Garment} {s : State} (hr : garmentAt s g = some r) (loose : r.platen = none)
    (current : (lineAt s r.slot).take = r.stamp) : DeletedLoose g r s (deleteGarment g s) := by
  have inked := inked_addInk r.ink r.slot s
  have whole : deleteGarment g s = clearGarment g (addInk r.ink r.slot s) := by
    simp only [deleteGarment, hr, loose]
    rw [ifCurrent_of_current current]
  rw [whole]
  generalize addInk r.ink r.slot s = x at inked
  refine ⟨?_, inked.own, inked.others⟩
  have garments : x.garments = s.garments := by rw [inked.frame]
  change ({ x with garments := Tbl.put x.garments g none } : State) = { s with garments := Tbl.put s.garments g none, lines := x.lines, reports := x.reports }
  rw [garments]
  generalize Tbl.put s.garments g none = y
  generalize hl : x.lines = l, hm : x.reports = m
  rw [inked.frame, hl, hm]

/-! ## All the steps -/

/-- A garment has left for its destination. -/
structure PackedOut (g : Fin 32) (r : Garment) (c : PackCode) (s t : State) : Prop where
  gone : garmentAt t g = none
  others : ∀ h, h ≠ g → garmentAt t h = garmentAt s h
  now : (placeAt t .pack).now = Claims.shows (packCodeNum c) s
  pack : t.pack = { s.pack with orders := t.pack.orders }
  dryer : t.dryer = s.dryer
  clock : t.clock = s.clock
  tells : Tells 1 { s with reports := Claims.packedRaised g r (packCodeNum c) s } t
  bin : ∀ j, (lineAt t j).bin = (lineAt s j).bin
  dose : ∀ j, (lineAt t j).lastDose = (lineAt s j).lastDose

theorem addInk_kept (counters : Tbl 6 Nat) (i j : Fin 128) (s : State) :
    (lineAt (addInk counters i s) j).bin = (lineAt s j).bin ∧ (lineAt (addInk counters i s) j).lastDose = (lineAt s j).lastDose := by
  have inked := inked_addInk counters i s
  by_cases hj : j = i
  · rw [hj, inked.own]
    exact ⟨rfl, rfl⟩
  · rw [inked.others j hj]
    exact ⟨rfl, rfl⟩

theorem deleteGarment_kept (g : Fin 32) (j : Fin 128) (s : State) :
    (lineAt (deleteGarment g s) j).bin = (lineAt s j).bin ∧ (lineAt (deleteGarment g s) j).lastDose = (lineAt s j).lastDose := by
  unfold deleteGarment
  split
  · exact ⟨rfl, rfl⟩
  · next r hr =>
    have kept : (lineAt (ifCurrent r (addInk r.ink) s) j).bin = (lineAt s j).bin ∧
        (lineAt (ifCurrent r (addInk r.ink) s) j).lastDose = (lineAt s j).lastDose := by
      unfold ifCurrent
      split
      · exact addInk_kept ..
      · exact ⟨rfl, rfl⟩
    dsimp only
    split
    · exact kept
    · exact kept

theorem packedOut {g : Fin 32} {r' : Garment} {s : State} (hr : garmentAt s g = some r') (free : DisplayFree s) (r : Garment) (c : PackCode) :
    PackedOut g r' c s (packOut g r c s) := by
  have shown := packShown_of_some hr free c
  have counted := accounted_packCounts r c (raisePacked g c (showPack c s))
  have dryer : (packOut g r c s).dryer = s.dryer := by simp
  have clock : (packOut g r c s).clock = s.clock := by simp
  unfold packOut packTold at dryer clock ⊢
  generalize raisePacked g c (showPack c s) = y at shown counted dryer clock ⊢
  generalize packCounts r c y = z at counted dryer clock ⊢
  have link : (deleteGarment g z).link = y.link := Eq.trans (b := z.link) (by simp) (by rw [counted.frame])
  have packZ : (deleteGarment g z).pack = z.pack := by simp
  have line (j : Fin 128) : (lineAt z j).bin = (lineAt s j).bin ∧ (lineAt z j).lastDose = (lineAt s j).lastDose := by
    have first : lineAt y j = lineAt s j := lineAt_congr (by rw [shown.frame]) j
    obtain ⟨st, rs, b, n, own⟩ := counted.own
    by_cases hj : j = r.slot
    · rw [← first, hj, own]
      exact ⟨rfl, rfl⟩
    · rw [counted.others j hj, first]
      exact ⟨rfl, rfl⟩
  have garments : z.garments = s.garments := by rw [counted.frame, shown.frame]
  have told : Tells 0 { s with reports := Claims.packedRaised g r' (packCodeNum c) s } y := .of_reports (by rw [shown.frame])
  refine ⟨(garmentAt_deleteGarment ..).trans (if_pos rfl),
    fun h hne => (garmentAt_deleteGarment ..).trans ((if_neg hne.symm).trans (garmentAt_congr garments h)), ?_, ?_, dryer, clock,
    (told.trans counted.tells).trans (tells_deleteGarment g z), fun j => (deleteGarment_kept g j z).1.trans (line j).1,
    fun j => (deleteGarment_kept g j z).2.trans (line j).2⟩
  · rw [← shown.now]
    unfold placeAt
    rw [link]
  · rw [packZ]
    have frame := congrArg State.pack counted.frame
    dsimp only at frame
    rw [frame, show y.pack = s.pack by rw [shown.frame]]

/-- A garment of the line, on no platen, has left for its destination. -/
structure PackedAway (g : Fin 32) (r : Garment) (c : PackCode) (s z t : State) : Prop where
  others : ∀ o, o ≠ r.slot → lineAt t o = lineAt s o
  own : lineAt t r.slot = { lineAt z r.slot with ink := addedInk (lineAt s r.slot).ink r.ink }
  fifo : t.reports.fifo = z.reports.fifo
  dirty : ∀ i, Tbl.at z.reports.dirty i = true → Tbl.at t.reports.dirty i = true
  pack : t.pack = z.pack
  accepted : t.accepted = z.accepted
  carousel : t.carousel = s.carousel

theorem packedAway_of_loose {g : Fin 32} {r : Garment} {s : State} (hr : garmentAt s g = some r) (free : DisplayFree s) (c : PackCode)
    (loose : r.platen = none) (current : (lineAt s r.slot).take = r.stamp) :
    PackedAway g r c s (packTold g r c s) (packOut g r c s) := by
  have shown := packShown_of_some hr free c
  have counted := accounted_packCounts r c (raisePacked g c (showPack c s))
  unfold packOut packTold
  generalize raisePacked g c (showPack c s) = y at shown counted ⊢
  generalize packCounts r c y = z at counted ⊢
  have first (j : Fin 128) : lineAt y j = lineAt s j := lineAt_congr (by rw [shown.frame]) j
  obtain ⟨st, rs, b, n, own⟩ := counted.own
  have record : garmentAt z g = some r := (garmentAt_congr (by rw [counted.frame, shown.frame]) g).trans hr
  have deleted := deletedLoose record loose (by rw [own, first]; exact current)
  have fifo := fifo_deleteGarment g z
  have dirty := (tells_deleteGarment g z).dirty
  generalize deleteGarment g z = t at deleted fifo dirty
  refine ⟨fun o ho => (deleted.others o ho).trans ((counted.others o ho).trans (first o)), ?_, fifo, dirty, ?_, ?_, ?_⟩
  · rw [deleted.own, own, first]
  · rw [deleted.frame]
  · rw [deleted.frame]
  · rw [deleted.frame, counted.frame, shown.frame]

end Sys2Proof.Machine
end

section
/-! PROOFS. Pack scans that sort a garment of the pack queue, and the pack that finishes its line (R22, R23, R144, R145, R149, R150). -/

namespace Sys2Proof.Machine

-- Elaborated all at once, the proofs of this text start more threads than the check's memory limit lets it.
set_option Elab.async false

/-! ## The garment at the pack table -/

/-- A garment of the pack queue is at the pack table: its entry is gone from the queue, and only the orders may have changed besides. -/
structure AtTable (g : Fin 32) (s x : State) : Prop where
  frame : x = { s with
    link := x.link, pack := { s.pack with queue := withoutGarment g s.pack.queue, orders := x.pack.orders } }
  free : DisplayFree x

theorem AtTable.garmentAt {g : Fin 32} {s x : State} (h : AtTable g s x) (i : Fin 32) : Machine.garmentAt x i = Machine.garmentAt s i :=
  garmentAt_congr (by rw [h.frame]) i

theorem AtTable.lineAt {g : Fin 32} {s x : State} (h : AtTable g s x) (i : Fin 128) : Machine.lineAt x i = Machine.lineAt s i :=
  lineAt_congr (by rw [h.frame]) i

theorem AtTable.keyOf {g : Fin 32} {s x : State} (h : AtTable g s x) (i : Fin 128) : Machine.keyOf x i = Machine.keyOf s i :=
  keyOf_of_snap (congrArg LineEntry.snap (h.lineAt i))

theorem AtTable.clock {g : Fin 32} {s x : State} (h : AtTable g s x) : x.clock = s.clock := by rw [h.frame]

theorem AtTable.pack {g : Fin 32} {s x : State} (h : AtTable g s x) (orders : x.pack.orders = s.pack.orders) :
    x.pack = { s.pack with queue := withoutGarment g s.pack.queue } := by
  have pack := congrArg State.pack h.frame
  dsimp only at pack
  rw [pack, orders]

theorem AtTable.reports {g : Fin 32} {s x : State} (h : AtTable g s x) : x.reports = s.reports := by rw [h.frame]

theorem AtTable.shows {g : Fin 32} {s x : State} (h : AtTable g s x) (code : Nat) : Claims.shows code x = Claims.shows code s := by
  rw [Claims.shows, Claims.handed, h.clock]
  rfl

theorem AtTable.packedRaised {g : Fin 32} {s x : State} (h : AtTable g s x) (r : Garment) (code : Nat) :
    Claims.packedRaised g r code x = Claims.packedRaised g r code s := by
  rw [Claims.packedRaised, Claims.raised, h.keyOf, h.clock, h.reports]
  rfl

theorem AtTable.setOrders {g : Fin 32} {s x : State} (h : AtTable g s x) (orders : List Order) :
    AtTable g s { x with pack := { x.pack with orders := orders } } := by
  refine ⟨?_, h.free.congr rfl rfl⟩
  dsimp only
  generalize hl : x.link = l
  rw [h.frame, hl]

/-- A pack scan finds the entry of a garment. -/
theorem packFinds_exec {s : State} {frame : List Byte} {f : TagFields} {e : TimedEntry} {r : Garment} (h : Claims.packFinds s frame f e r) :
    ∃ x, AtTable e.garment s x ∧ x.pack.orders = s.pack.orders ∧ exec (.tryAccept frame) s = .next (packGarment e.garment x) := by
  obtain ⟨scan, kind, hr, serial, before, rest, queue, apart⟩ := h
  obtain ⟨u, freed, free, run⟩ := packScan_exec scan
  have entry : packEntry u f.serial = some e := by
    rw [freed.packEntry]
    refine List.find?_eq_some_iff_append.mpr ⟨(hasSerial_iff ..).mpr ⟨r, hr, serial⟩, before, rest, queue, fun x hx => ?_⟩
    rw [hasSerial_of_away (apart x hx)]
    rfl
  refine ⟨putQueue (withoutGarment e.garment u.pack.queue) u, ⟨?_, free.congr rfl rfl⟩, (by rw [← freed.pack]; rfl), ?_⟩
  · change ({ u with pack := { u.pack with queue := withoutGarment e.garment u.pack.queue } } : State) =
      { s with link := u.link, pack := { s.pack with queue := withoutGarment e.garment s.pack.queue, orders := u.pack.orders } }
    rw [freed.pack]
    generalize withoutGarment e.garment s.pack.queue = q
    generalize hl : u.link = l
    rw [freed.frame, hl]
  · rw [run, packScan_of_shirt kind]
    simp only [shirtScan, entry]

theorem packedAway_of_table {g : Fin 32} {r : Garment} {s x : State} (tabled : AtTable g s x) (hr : garmentAt s g = some r)
    (loose : r.platen = none) (current : (lineAt s r.slot).take = r.stamp) (c : PackCode) :
    Claims.packedAway s (packOut g r c x) g r (packCodeNum c) := by
  have record := (tabled.garmentAt g).trans hr
  have out := packedOut record tabled.free r c
  have away := packedAway_of_loose record tabled.free c loose (by rw [tabled.lineAt]; exact current)
  have ctl : (packOut g r c x).ctl = x.ctl := by simp
  generalize packTold g r c x = z at away
  generalize packOut g r c x = t at out away ctl ⊢
  refine ⟨out.gone, fun h hne => (out.others h hne).trans (tabled.garmentAt h), ?_, out.now.trans (tabled.shows _),
    fun h hne => (away.others h hne).trans (tabled.lineAt h), fun _ c => ?_, ?_, ?_, ?_⟩
  · rw [out.pack, tabled.frame]
    rfl
  · rw [away.own, tabled.lineAt]
    exact addedInk_at ..
  · rw [out.dryer, tabled.frame]
  · rw [ctl, tabled.frame]
  · rw [away.carousel, tabled.frame]

/-! ## FAILED and VOID_PRINTED -/

theorem packGarment_of_failed {g : Fin 32} {r : Garment} {s : State} (hr : garmentAt s g = some r) (hc : r.cond = .failed) :
    packGarment g s = packOut g r .reject s := by
  simp only [packGarment, hr, hc]

theorem packGarment_of_voidPrinted {g : Fin 32} {r : Garment} {s : State} (hr : garmentAt s g = some r) (hc : r.cond = .voidPrinted) :
    packGarment g s = packOut g r .spare s := by
  simp only [packGarment, hr, hc]

theorem packGarment_of_good {g : Fin 32} {r : Garment} {s : State} (hr : garmentAt s g = some r) (hc : r.cond = .good)
    (fed : r.refeed = false) : packGarment g s = packToOrder g r s := by
  simp only [packGarment, hr, hc]
  exact if_neg (by rw [fed]; exact Bool.false_ne_true)

theorem packGarment_of_refeed {g : Fin 32} {r : Garment} {s : State} (hr : garmentAt s g = some r) (hc : r.cond = .good)
    (fed : r.refeed = true) : packGarment g s = packRefeed g r s := by
  simp only [packGarment, hr, hc]
  exact if_pos fed

theorem packTold_reject (g : Fin 32) (r : Garment) (s : State) : packTold g r .reject s = raisePacked g .reject (showPack .reject s) := rfl

theorem packTold_spare {g : Fin 32} {r : Garment} {s : State} (hr : garmentAt s g = some r) (free : DisplayFree s)
    (current : (lineAt s r.slot).take = r.stamp) :
    packTold g r .spare s = lowerBound r.slot (raisePacked g .spare (showPack .spare s)) := by
  have shown := packShown_of_some hr free .spare
  exact ifCurrent_of_current (by rw [lineAt_congr (by rw [shown.frame])]; exact current) lowerBound

theorem packTold_order {g : Fin 32} {r : Garment} {s : State} {c : PackCode} (hr : garmentAt s g = some r) (free : DisplayFree s)
    (current : (lineAt s r.slot).take = r.stamp) (hc : (∃ b, c = .bin b) ∨ c = .overflow) :
    packTold g r c s = countFinished r.slot (raisePacked g c (showPack c s)) := by
  have shown := packShown_of_some hr free c
  have counted := ifCurrent_of_current (r := r) (s := raisePacked g c (showPack c s))
    (by rw [lineAt_congr (by rw [shown.frame])]; exact current) countFinished
  rcases hc with ⟨b, rfl⟩ | rfl
  · exact counted
  · exact counted

theorem failedGarmentIsRejected {s : State} {frame : List Byte} {f : TagFields} {e : TimedEntry} {r : Garment}
    (finds : Claims.packFinds s frame f e r) (loose : r.platen = none) (current : (lineAt s r.slot).take = r.stamp) (failed : r.cond = .failed) :
    ∃ t : State,
      exec (.tryAccept frame) s = .next t ∧ Claims.packedAway s t e.garment r 16 ∧
      t.reports.fifo = (Claims.packedRaised e.garment r 16 s).fifo ∧ t.pack = { s.pack with queue := t.pack.queue } ∧
      lineAt t r.slot = { lineAt s r.slot with ink := (lineAt t r.slot).ink } := by
  obtain ⟨x, tabled, orders, run⟩ := packFinds_exec finds
  have hr : garmentAt s e.garment = some r := finds.2.2.1
  have record := (tabled.garmentAt e.garment).trans hr
  rw [packGarment_of_failed record failed] at run
  refine ⟨_, run, packedAway_of_table tabled hr loose current .reject, ?_⟩
  have away := packedAway_of_loose record tabled.free .reject loose (by rw [tabled.lineAt]; exact current)
  rw [packTold_reject] at away
  have shown := packShown_of_some record tabled.free .reject
  dsimp only
  generalize raisePacked e.garment .reject (showPack .reject x) = y at away shown
  generalize packOut e.garment r .reject x = t at away
  refine ⟨?_, ?_, ?_⟩
  · rw [away.fifo, ← tabled.packedRaised, shown.frame]
    rfl
  · rw [away.pack, shown.frame]
    dsimp only
    rw [tabled.pack orders]
  · rw [away.own, ← tabled.lineAt, lineAt_congr (s := x) (by rw [shown.frame])]

theorem voidGarmentIsSpare {s : State} {frame : List Byte} {f : TagFields} {e : TimedEntry} {r : Garment}
    (finds : Claims.packFinds s frame f e r) (loose : r.platen = none) (current : (lineAt s r.slot).take = r.stamp)
    (voided : r.cond = .voidPrinted) (bound : 2 ≤ (lineAt s r.slot).bound)
    (unmet : (lineAt s r.slot).finished < quantityOf (lineAt s r.slot)) :
    ∃ t : State,
      exec (.tryAccept frame) s = .next t ∧ Claims.packedAway s t e.garment r 14 ∧
      t.reports.fifo = (Claims.packedRaised e.garment r 14 s).fifo ∧ t.pack = { s.pack with queue := t.pack.queue } ∧
      lineAt t r.slot = { lineAt s r.slot with bound := (lineAt s r.slot).bound - 1, ink := (lineAt t r.slot).ink } := by
  obtain ⟨x, tabled, orders, run⟩ := packFinds_exec finds
  have hr : garmentAt s e.garment = some r := finds.2.2.1
  have record := (tabled.garmentAt e.garment).trans hr
  have xcurrent : (lineAt x r.slot).take = r.stamp := by rw [tabled.lineAt]; exact current
  rw [packGarment_of_voidPrinted record voided] at run
  refine ⟨_, run, packedAway_of_table tabled hr loose current .spare, ?_⟩
  have away := packedAway_of_loose record tabled.free .spare loose xcurrent
  rw [packTold_spare record tabled.free xcurrent] at away
  have shown := packShown_of_some record tabled.free .spare
  dsimp only
  generalize raisePacked e.garment .spare (showPack .spare x) = y at away shown
  generalize packOut e.garment r .spare x = t at away
  have line : lineAt y r.slot = lineAt s r.slot := (lineAt_congr (by rw [shown.frame]) r.slot).trans (tabled.lineAt r.slot)
  have counted : lowerBound r.slot y = reportLine r.slot { lineAt s r.slot with bound := (lineAt s r.slot).bound - 1 } y := by
    rw [lowerBound, line]
    refine settleCounts_of_open ?_ ?_
    all_goals rw [lineAt_reportLine, if_pos rfl]
    · exact unmet
    · exact Nat.le_sub_of_add_le bound
  rw [counted] at away
  refine ⟨?_, ?_, ?_⟩
  · rw [away.fifo, ← tabled.packedRaised]
    change y.reports.fifo = _
    rw [shown.frame]
    rfl
  · have pack : t.pack = y.pack := away.pack
    rw [pack, shown.frame]
    dsimp only
    rw [tabled.pack orders]
  · rw [away.own, lineAt_reportLine, if_pos rfl]

/-! ## GOOD garments -/

/-- The destination of a garment whose order's bin is settled. -/
def binDestination : OrderBin → PackCode
  | .bin b => .bin b
  | .none => .overflow
  | .waiting => .overflow

/-- An order with a garment packed to it. -/
def packedOrder (o : Order) : Order :=
  { o with
    packed := min 65535 (o.packed + 1)
    overflow := if o.bin = .waiting then min 65535 (o.overflow + 1) else o.overflow }

theorem orderDestination_of_some {s : State} {key : Word} {o : Order} (h : orderAt s key = some o) :
    orderDestination s key = binDestination o.bin := by
  simp only [orderDestination, h]
  cases o.bin <;> rfl

theorem countPacked_of_binned {s : State} {key : Word} {o : Order} (h : orderAt s key = some o) (binned : o.bin ≠ .none) :
    countPacked key (binDestination o.bin) s = putOrder (packedOrder o) s := by
  simp only [countPacked, h]
  cases hb : o.bin with
  | none => exact absurd hb binned
  | bin b => simp [binDestination, packedOrder, packedToBin, hb, satAdd, Config.count16]
  | waiting => simp [binDestination, packedOrder, packedToOverflow, packedToBin, hb, satAdd, Config.count16]

theorem binDestination_order (b : OrderBin) : (∃ n, binDestination b = .bin n) ∨ binDestination b = .overflow := by
  cases b with
  | bin n => exact .inl ⟨n, rfl⟩
  | none | waiting => exact .inr rfl

theorem packToOrder_of_binned {g : Fin 32} {r : Garment} {s : State} {o : Order} (order : orderAt s (keyOf s r.slot) = some o)
    (binned : o.bin ≠ .none) : packToOrder g r s = packOut g r (binDestination o.bin) (putOrder (packedOrder o) s) := by
  have settled : ensureBin (keyOf s r.slot) s = s := by
    simp only [ensureBin, order]
    exact if_neg binned
  rw [packToOrder, settled, orderDestination_of_some order, countPacked_of_binned order binned]

/-- A GOOD garment goes to its order's bin, or to OVERFLOW. -/
structure PackedToOrder (g : Fin 32) (r : Garment) (o : Order) (s y t : State) : Prop where
  claim : Claims.packedAway s t g r (packCodeNum (binDestination o.bin))
  away : PackedAway g r (binDestination o.bin) s (countFinished r.slot y) t
  line : ∀ i, lineAt y i = lineAt s i
  reports : y.reports = Claims.packedRaised g r (packCodeNum (binDestination o.bin)) s
  accepted : y.accepted = s.accepted
  clock : y.clock = s.clock
  pack : y.pack =
    { s.pack with
      queue := withoutGarment g s.pack.queue
      orders := s.pack.orders.map fun x => if x.key = o.key then packedOrder o else x }

theorem packedToOrder {s : State} {frame : List Byte} {f : TagFields} {e : TimedEntry} {r : Garment} {o : Order}
    (finds : Claims.packFinds s frame f e r) (loose : r.platen = none) (current : (lineAt s r.slot).take = r.stamp)
    (good : r.cond = .good) (fed : r.refeed = false) (order : orderAt s (keyOf s r.slot) = some o) (binned : o.bin ≠ .none) :
    ∃ y t, exec (.tryAccept frame) s = .next t ∧ PackedToOrder e.garment r o s y t := by
  obtain ⟨x, tabled, orders, run⟩ := packFinds_exec finds
  have hr : garmentAt s e.garment = some r := finds.2.2.1
  have xorder : orderAt x (keyOf x r.slot) = some o := by
    rw [tabled.keyOf, orderAt, orders]
    exact order
  rw [packGarment_of_good ((tabled.garmentAt e.garment).trans hr) good fed, packToOrder_of_binned xorder binned] at run
  have counted : AtTable e.garment s (putOrder (packedOrder o) x) := tabled.setOrders _
  have xpack : (putOrder (packedOrder o) x).pack =
      { s.pack with
        queue := withoutGarment e.garment s.pack.queue
        orders := s.pack.orders.map fun x => if x.key = o.key then packedOrder o else x } := by
    rw [← orders, putOrder]
    change ({ x.pack with orders := _ } : Pack) = _
    rw [tabled.frame]
    rfl
  generalize putOrder (packedOrder o) x = w at counted xpack run
  have record := (counted.garmentAt e.garment).trans hr
  have wcurrent : (lineAt w r.slot).take = r.stamp := by rw [counted.lineAt]; exact current
  have away := packedAway_of_loose record counted.free (binDestination o.bin) loose wcurrent
  rw [packTold_order record counted.free wcurrent (binDestination_order o.bin)] at away
  have shown := packShown_of_some record counted.free (binDestination o.bin)
  refine ⟨raisePacked e.garment (binDestination o.bin) (showPack (binDestination o.bin) w), _, run, ?_⟩
  have claim := packedAway_of_table counted hr loose current (binDestination o.bin)
  generalize raisePacked e.garment (binDestination o.bin) (showPack (binDestination o.bin) w) = y at away shown ⊢
  generalize packOut e.garment r (binDestination o.bin) w = t at away claim ⊢
  have line (i : Fin 128) : lineAt y i = lineAt s i := (lineAt_congr (by rw [shown.frame]) i).trans (counted.lineAt i)
  refine ⟨claim, ⟨fun i hi => (away.others i hi).trans (counted.lineAt i), by rw [away.own, counted.lineAt], away.fifo, away.dirty, away.pack,
    away.accepted, ?_⟩, line, ?_, ?_, ?_, ?_⟩
  · rw [away.carousel, counted.frame]
  · rw [← counted.packedRaised, shown.frame]
  · rw [shown.frame, counted.frame]
  · rw [shown.frame, counted.frame]
  · rw [← xpack, shown.frame]

/-- The line of a garment packed to its order, before it is settled. -/
def packedLine (l : LineEntry) : LineEntry := { l with bound := l.bound - 1, finished := l.finished + 1 }

theorem countFinished_of_line {i : Fin 128} {l : LineEntry} {s : State} (line : lineAt s i = l) (count : l.finished < 255) :
    countFinished i s = settleCounts i (reportLine i (packedLine l) s) := by
  have more : satAdd Config.count8 l.finished 1 = l.finished + 1 := Nat.min_eq_right count
  simp only [countFinished, line, more, packedLine]

theorem packScanSortsTheGarment : Claims.PackScanSortsTheGarment := by
  intro s frame f e r finds loose current
  refine ⟨failedGarmentIsRejected finds loose current, fun voided _ bound unmet => voidGarmentIsSpare finds loose current voided bound unmet,
    fun o good fed order binned active unmet count => ?_⟩
  obtain ⟨y, t, run, packed⟩ := packedToOrder finds loose current good fed order binned
  have line := packed.line r.slot
  have counted : countFinished r.slot y = reportLine r.slot (packedLine (lineAt s r.slot)) y := by
    rw [countFinished_of_line line count]
    refine settleCounts_of_active ?_ ?_
    all_goals rw [lineAt_reportLine, if_pos rfl]
    · exact active
    · exact unmet
  have away := packed.away
  rw [counted] at away
  intro code
  have shown : packCodeNum (binDestination o.bin) = code := by
    unfold code
    split
    · next b h => rw [h]; rfl
    · next h => exact absurd h binned
    · next h => rw [h]; rfl
  clear_value code
  subst shown
  refine ⟨t, run, packed.claim, ?_, ?_, ?_⟩
  · rw [away.fifo, ← packed.reports]
    rfl
  · have pack : t.pack = y.pack := away.pack
    rw [pack, packed.pack]
    rfl
  · rw [away.own, lineAt_reportLine, if_pos rfl]
    rfl

/-- Settles O54, by the kind of the tag and by the condition of the garment. -/
theorem packScansSortAndClear : Obligations.PackScansSortAndClear := ⟨binTagActsOnItsBin, packScanSortsTheGarment⟩

/-! ## The last pack of a line -/

theorem finalItem_eq (slot : Fin 128) (take : Byte) (o : Order) :
    finalItem slot take o = { o with items := o.items.map (Claims.finalized slot take) } := by
  refine congrArg (fun l => ({ o with items := l } : Order)) (List.map_congr_left fun i _ => ?_)
  unfold isItem Claims.finalized
  simp

theorem settleCounts_of_met {i : Fin 128} {s : State} (live : (lineAt s i).state = .active ∨ (lineAt s i).state = .closing)
    (met : quantityOf (lineAt s i) ≤ (lineAt s i).finished) : settleCounts i s = finishLine i .finished .none s := by
  unfold settleCounts
  dsimp only
  rw [if_pos ⟨live, met⟩]

/-- An order with a bin, or that waits for one, and with a garment packed, is READY once every expected line is final. -/
theorem judgeOrder_of_packed {o : Order} {s : State} (binned : o.bin ≠ .none) (packed : 1 ≤ o.packed) :
    judgeOrder o s =
      if linesFinal o = o.expected then
        raise { orderIncident .orderReady o.key with detail := binDetail o.bin, value := o.overflow } (putOrder { o with ready := true } s)
      else s := by
  unfold judgeOrder
  have unbinned : (o.items.all (fun i => i.final) && o.bin == .none) = false := by
    rw [beq_eq_false_iff_ne.mpr binned, Bool.and_false]
  rw [if_pos packed, unbinned]
  simp

/-- What becomes of an order when a line of it is final. -/
structure OrderJudged (o : Order) (s t : State) : Prop where
  own : orderAt t o.key = some { o with ready := o.ready || decide (linesFinal o = o.expected) }
  others : ∀ k, k ≠ o.key → orderAt t k = orderAt s k
  rest : t.pack.bins = s.pack.bins ∧ t.pack.waiting = s.pack.waiting ∧ t.accepted = s.accepted
  lines : t.lines = s.lines
  still : linesFinal o ≠ o.expected → t.reports = s.reports
  ready : linesFinal o = o.expected →
    t.reports = Claims.raised { incident .orderReady with key := o.key, detail := binDetail o.bin, value := o.overflow } s

theorem orderJudged {o old : Order} {s : State} (present : orderAt s o.key = some old) (binned : o.bin ≠ .none) (packed : 1 ≤ o.packed) :
    OrderJudged o s (judgeOrder o (putOrder o s)) := by
  have first := orderAt_putOrder_self (s := s) present
  rw [judgeOrder_of_packed binned packed]
  by_cases all : linesFinal o = o.expected
  · rw [if_pos all]
    refine ⟨?_, fun k hk => ?_, ⟨rfl, rfl, rfl⟩, rfl, absurd all, fun _ => by rw [raise_eq]; rfl⟩
    · rw [orderAt_congr (s := putOrder { o with ready := true } (putOrder o s)) (by simp)]
      refine (orderAt_putOrder_self (o := { o with ready := true }) first).trans ?_
      rw [decide_eq_true all, Bool.or_true]
    · rw [orderAt_congr (s := putOrder { o with ready := true } (putOrder o s)) (by simp)]
      exact (orderAt_putOrder_other (o := { o with ready := true }) hk).trans (orderAt_putOrder_other hk)
  · rw [if_neg all]
    refine ⟨?_, fun k hk => orderAt_putOrder_other hk, ⟨rfl, rfl, rfl⟩, rfl, fun _ => rfl, fun h => absurd h all⟩
    rw [first, decide_eq_false all, Bool.or_false]

/-- The line of a garment whose pack brings the finished count to the quantity, and the acceptance list and the order with it. -/
structure LineFinished (i : Fin 128) (take : Byte) (o : Order) (s t : State) : Prop where
  own : lineAt t i = { lineAt s i with state := .finished, reason := .none }
  accepted : t.accepted = s.accepted.filter fun x => x != i
  judged : ∃ v, v.pack = s.pack ∧ v.clock = s.clock ∧ v.reports.fifo = s.reports.fifo ∧
    OrderJudged (finalItem i take o) v t

theorem lineFinished {i : Fin 128} {take : Byte} {o : Order} {x : OrderItem} {s : State} (order : orderAt s (keyOf s i) = some o)
    (same : (lineAt s i).take = take) (binned : o.bin ≠ .none) (packed : 1 ≤ o.packed) (mem : x ∈ o.items) (slot : x.slot = i)
    (stamp : x.take = take) : LineFinished i take o s (finishLine i .finished .none s) := by
  subst same
  have key : o.key = keyOf s i := key_of_orderAt order
  have has : o.items.any (isItem i (lineAt s i).take) = true :=
    List.any_eq_true.mpr ⟨x, mem, by rw [isItem, slot, stamp, beq_self_eq_true, beq_self_eq_true]; rfl⟩
  have line := lineAt_finishLine i i .finished .none s
  rw [if_pos rfl] at line
  refine ⟨line, by rw [finishLine_eq], reportLine i { lineAt s i with state := .finished, reason := .none }
    (s.setAccepted (s.accepted.filter fun j => j != i)), rfl, rfl, rfl, ?_⟩
  have found : orderAt (reportLine i { lineAt s i with state := .finished, reason := .none }
      (s.setAccepted (s.accepted.filter fun j => j != i))) (keyOf s i) = some o := order
  rw [finishLine]
  generalize reportLine i { lineAt s i with state := .finished, reason := .none }
    (s.setAccepted (s.accepted.filter fun j => j != i)) = v at found
  simp only [finalOrder, found, has, if_true]
  exact orderJudged (old := o) (by rw [show (finalItem i (lineAt s i).take o).key = keyOf s i from key]; exact found) binned packed

theorem fifo_raised_of_room {s : State} (room : s.reports.fifo.length < 16) (i : Incident) :
    (Claims.raised i s).fifo = s.reports.fifo ++ [{ i with time := s.clock }] := by
  rcases pushIncident_cases s.reports { i with time := s.clock } with ⟨-, h⟩ | ⟨full, -⟩
  · rw [Claims.raised, h]
  · exact absurd room (Nat.not_lt.mpr full)

/-- Settles O55, by the settling of the counts and by the judgement of the order. -/
theorem packThatFinishesALine : Obligations.PackThatFinishesALine := by
  intro s frame f e r o x finds loose current good fed order binned opened mem slot stamp live met count
  obtain ⟨y, t, run, packed⟩ := packedToOrder finds loose current good fed order binned
  have line := packed.line r.slot
  have key : o.key = keyOf s r.slot := key_of_orderAt order
  have counted := countFinished_of_line line count
  have away := packed.away
  have own := lineAt_reportLine r.slot r.slot (packedLine (lineAt s r.slot)) y
  rw [if_pos rfl] at own
  have base : (reportLine r.slot (packedLine (lineAt s r.slot)) y).pack = y.pack := rfl
  have accepted : (reportLine r.slot (packedLine (lineAt s r.slot)) y).accepted = s.accepted := packed.accepted
  have clock : (reportLine r.slot (packedLine (lineAt s r.slot)) y).clock = s.clock := packed.clock
  have fifo : (reportLine r.slot (packedLine (lineAt s r.slot)) y).reports.fifo =
      (Claims.packedRaised e.garment r (packCodeNum (binDestination o.bin)) s).fifo := by rw [← packed.reports]; rfl
  have dirty : Tbl.at (reportLine r.slot (packedLine (lineAt s r.slot)) y).reports.dirty r.slot = true := dirty_reportLine ..
  rw [counted] at away
  generalize reportLine r.slot (packedLine (lineAt s r.slot)) y = w at away own base accepted clock fifo dirty
  have settled : settleCounts r.slot w = finishLine r.slot .finished .none w :=
    settleCounts_of_met (by rw [own]; exact live) (by rw [own]; exact Nat.le_of_eq met.symm)
  have worder (k : Word) : orderAt w k = (s.pack.orders.map fun x => if x.key = o.key then packedOrder o else x).find? fun z => z.key == k := by
    rw [orderAt, base, packed.pack]
  have wkey : keyOf w r.slot = o.key := by
    rw [key]
    exact keyOf_of_snap (by rw [own]; rfl)
  have first : orderAt w (keyOf w r.slot) = some (packedOrder o) := by
    rw [worder, wkey]
    exact find?_replace (o := packedOrder o) (by rw [key]; exact order) rfl
  have ended := lineFinished first (by rw [own]; exact current) (o := packedOrder o) binned (Nat.le_min.mpr ⟨by decide, Nat.le_add_left ..⟩)
    mem slot stamp
  have zdirty := (tells_finishLine r.slot .finished .none w).dirty r.slot dirty
  have zpack := congrArg State.pack (finishLine_eq r.slot .finished .none w)
  dsimp only at zpack
  rw [settled] at away
  generalize finishLine r.slot .finished .none w = z at away ended zdirty zpack
  obtain ⟨v, vpack, vclock, vfifo, judged⟩ := ended.judged
  have final : finalItem r.slot r.stamp (packedOrder o) = { packedOrder o with items := o.items.map (Claims.finalized r.slot r.stamp) } :=
    finalItem_eq ..
  rw [final] at judged
  intro code items number overflow ready
  have shown : packCodeNum (binDestination o.bin) = code := by
    unfold code
    split
    · next b h => rw [h]; rfl
    · next h => exact absurd h binned
    · next h => rw [h]; rfl
  clear_value code
  subst shown
  have torder (k : Word) : orderAt t k = orderAt z k := orderAt_congr away.pack k
  refine ⟨t, run, packed.claim, ?_, away.accepted.trans (ended.accepted.trans (by rw [accepted])), away.dirty _ zdirty, ?_, fun k hk => ?_, ?_, ?_,
    fun notYet => ?_, fun all room => ?_⟩
  · rw [away.own, ended.own, own]
    rfl
  · refine (torder o.key).trans (judged.own.trans ?_)
    dsimp only
    rw [show (packedOrder o).ready = false from opened, Bool.false_or]
    rfl
  · refine (torder k).trans ((judged.others k hk).trans ?_)
    rw [orderAt_congr vpack, worder]
    exact find?_replace_other (o := packedOrder o) hk
  · rw [away.pack, zpack, base, packed.pack]
  · rw [away.pack, zpack, base, packed.pack]
  · rw [away.fifo, judged.still (of_decide_eq_false notYet), vfifo, fifo]
  · have space : v.reports.fifo.length < 16 := by
      rw [vfifo, fifo, Claims.packedRaised, fifo_raised_of_room (by omega), List.length_append, List.length_singleton]
      omega
    rw [away.fifo, judged.ready (of_decide_eq_true all), fifo_raised_of_room space, vfifo, fifo, vclock, clock]
    refine congrArg (_ ++ [·]) ?_
    cases hb : o.bin <;> simp [packedOrder, binDetail, hb, overflow]

end Sys2Proof.Machine
end

section
/-! PROOFS. Pack scans that give an order its first bin, and garments that go back to the belt (R146, R150, R151). -/

namespace Sys2Proof.Machine

-- Elaborated all at once, the proofs of this text start more threads than the check's memory limit lets it.
set_option Elab.async false

/-! ## The display through a failure -/

/-- The requesters of the units that a failure may stop. -/
def ofUnits (q : Requester) : Prop := ofPrints q ∨ q = .flash

theorem Hands.weaken {A B : Requester → Prop} {s t : State} (h : Hands A s t) (hAB : ∀ q, A q → B q) : Hands B s t :=
  ⟨h.link, fun q hq => h.places q (mt (hAB q) hq)⟩

theorem hands_endExposure (s : State) : Hands ofUnits s (endExposure s) :=
  (Hands.of_link (t := enterEnding s)).trans (.ite (fun _ => .of_link) fun _ => hands_replaceTxn (Or.inr rfl) ..)

theorem hands_noticeExposure (g : Fin 32) (n : Notice) (s : State) : Hands ofUnits s (noticeExposure g n s) := by
  unfold noticeExposure
  split
  · exact hands_endExposure s
  · exact (Hands.of_link (t := changeGarment g (fun r => { r with flash := .cut }) s)).trans (hands_endExposure _)
  · exact .refl s
  · exact .refl s

theorem hands_noticeFlash (g : GarmentId) (n : Notice) (s : State) : Hands ofUnits s (noticeFlash g n s) := by
  unfold noticeFlash
  split
  · exact .refl s
  · refine .ite (fun _ => ?_) fun _ => .refl s
    split
    · exact .of_link
    · exact hands_noticeExposure ..
    · exact hands_noticeExposure ..
    · exact .refl s
    · exact .refl s

theorem handsUnits_noticeAll (g : Fin 32) (r : Garment) (n : Notice) (s : State) : Hands ofUnits s (noticeAll g r n s) := by
  have stations : Hands ofUnits s (noticePress g (noticePretreat g (noticeFetch (garmentId g r) n s))) := .of_link
  have print (u : Printer) (t : State) : Hands ofUnits t (noticePrint u (garmentId g r) n t) :=
    (hands_noticePrint u (garmentId g r) n t).weaken fun _ => .inl
  exact (((stations.trans (print .white _)).trans (hands_noticeFlash (garmentId g r) n _)).trans (print .color _)).trans
    (.of_link (t := noticeAll g r n s) (by simp [noticeAll]))

theorem handsUnits_failOp (g : Fin 32) (code : FaultCode) (s : State) : Hands ofUnits s (failOp g code s) := by
  unfold failOp
  split
  · exact .refl s
  · next r _ => exact .ite (fun _ => (Hands.of_link (failureRaised_unchanged g r code s).2.2).trans (handsUnits_noticeAll ..)) fun _ => .refl s

theorem DisplayFree.handed {s t : State} (free : DisplayFree s) (hands : Hands ofUnits s t) (exch : t.exch = s.exch) : DisplayFree t :=
  ⟨(congrArg LinkPlace.now (hands.places .pack (by simp [ofUnits, ofPrints]))).trans free.now, (hands.unreachable exch _).trans free.reach⟩

/-! ## The bin fields of an order's slots -/

theorem take_writeItemBin (b : OrderBin) (s : State) (i : OrderItem) (j : Fin 128) :
    (lineAt (writeItemBin b s i) j).take = (lineAt s j).take := by
  rw [lineAt_writeItemBin]
  split <;> rfl

theorem bin_writeItemBin_kept {b : OrderBin} {s : State} {j : Fin 128} (h : (lineAt s j).bin = binField b) (i : OrderItem) :
    (lineAt (writeItemBin b s i) j).bin = binField b := by
  rw [lineAt_writeItemBin]
  split
  · rfl
  · exact h

theorem bin_writeItems_kept {b : OrderBin} (l : List OrderItem) {s : State} {j : Fin 128} (h : (lineAt s j).bin = binField b) :
    (lineAt (l.foldl (writeItemBin b) s) j).bin = binField b := by
  induction l generalizing s with
  | nil => exact h
  | cons x xs ih => exact ih (bin_writeItemBin_kept h x)

theorem bin_writeItems {b : OrderBin} {l : List OrderItem} {s : State} {i : OrderItem} (hi : i ∈ l) (same : (lineAt s i.slot).take = i.take) :
    (lineAt (l.foldl (writeItemBin b) s) i.slot).bin = binField b := by
  induction l generalizing s with
  | nil => cases hi
  | cons x xs ih =>
    rcases List.mem_cons.mp hi with rfl | hi
    · refine bin_writeItems_kept xs ?_
      rw [lineAt_writeItemBin, if_pos ⟨rfl, same⟩]
    · exact ih hi (by rw [take_writeItemBin]; exact same)

/-! ## The first garment of an order -/

theorem freeBin_of_lowest {s : State} {b : Fin 12} (free : Tbl.at s.pack.bins b = none)
    (lowest : ∀ x : Fin 12, x < b → Tbl.at s.pack.bins x ≠ none) : freeBin s = some b := by
  have get : ∀ x : Fin 12, ∃ h : x.val < allBins.length, allBins[x.val] = x := by decide
  obtain ⟨hb, here⟩ := get b
  refine List.find?_eq_some_iff_getElem.mpr ⟨by rw [free]; rfl, b.val, hb, here, fun j hj => ?_⟩
  have below := lowest ⟨j, Nat.lt_trans hj b.isLt⟩ hj
  obtain ⟨_, there⟩ := get ⟨j, Nat.lt_trans hj b.isLt⟩
  dsimp only at there
  rw [there]
  simpa [Option.isSome_iff_ne_none] using below

theorem freeBin_of_taken {s : State} (taken : ∀ x : Fin 12, Tbl.at s.pack.bins x ≠ none) : freeBin s = none :=
  List.find?_eq_none.mpr fun x _ => by simpa using taken x

/-- An order gets its bin, or its place in the waiting list. -/
structure BinAssigned (o : Order) (b : OrderBin) (s w t : State) : Prop where
  bins : t.pack.bins = w.pack.bins
  waiting : t.pack.waiting = w.pack.waiting
  order : orderAt t o.key = some { o with bin := b }
  written : ∀ i ∈ o.items, (lineAt s i.slot).take = i.take → (lineAt t i.slot).bin = binField b
  garments : t.garments = s.garments
  link : t.link = s.link
  exch : t.exch = s.exch
  clock : t.clock = s.clock

theorem binAssigned_changeBin {o : Order} {s w : State} (present : orderAt w o.key = some o) (lines : w.lines = s.lines)
    (garments : w.garments = s.garments) (link : w.link = s.link) (exch : w.exch = s.exch) (clock : w.clock = s.clock) (b : OrderBin) :
    BinAssigned o b s w (changeBin o b w) := by
  have pack := pack_changeBin o b w
  refine ⟨by rw [pack]; rfl, by rw [pack]; rfl, ?_, fun i hi same => ?_, by simp [garments], by simp [link], by simp [exch],
    by simp [clock]⟩
  · rw [orderAt_congr pack]
    exact orderAt_putOrder_self (o := { o with bin := b }) present
  · exact bin_writeItems (s := putOrder { o with bin := b } w) hi (by rw [← same, ← lineAt_congr lines]; rfl)

theorem ensureBin_of_unbinned {s : State} {key : Word} {o : Order} (order : orderAt s key = some o) (unbinned : o.bin = .none) :
    ensureBin key s = assignBin o s := by
  simp only [ensureBin, order]
  exact if_pos unbinned

theorem countPacked_kept (key : Word) (c : PackCode) (s : State) :
    (countPacked key c s).pack.bins = s.pack.bins ∧ (countPacked key c s).pack.waiting = s.pack.waiting ∧
      (countPacked key c s).pack.queue = s.pack.queue := by
  unfold countPacked
  split
  · exact ⟨rfl, rfl, rfl⟩
  · split <;> exact ⟨rfl, rfl, rfl⟩

/-- The first garment of an order has gone where the order's bin is. -/
theorem packToOrder_of_assigned {g : Fin 32} {r : Garment} {o : Order} {b : OrderBin} {s w : State} (hr : garmentAt s g = some r)
    (free : DisplayFree s) (order : orderAt s (keyOf s r.slot) = some o) (unbinned : o.bin = .none)
    (assigned : BinAssigned o b s w (assignBin o s)) :
    let t := packToOrder g r s
    t.pack.bins = w.pack.bins ∧ t.pack.waiting = w.pack.waiting ∧ garmentAt t g = none ∧
      (placeAt t .pack).now = Claims.shows (packCodeNum (binDestination b)) s ∧
      ∀ i ∈ o.items, (lineAt s i.slot).take = i.take → (lineAt t i.slot).bin = binField b := by
  have key : o.key = keyOf s r.slot := key_of_orderAt order
  have dest : orderDestination (assignBin o s) (keyOf s r.slot) = binDestination b :=
    orderDestination_of_some (o := { o with bin := b }) (by rw [← key]; exact assigned.order)
  intro t
  have whole : t = packOut g r (binDestination b) (countPacked (keyOf s r.slot) (binDestination b) (assignBin o s)) := by
    unfold t packToOrder
    dsimp only
    rw [ensureBin_of_unbinned order unbinned, dest]
  clear_value t
  obtain ⟨bins, waiting, -⟩ := countPacked_kept (keyOf s r.slot) (binDestination b) (assignBin o s)
  have garments : (countPacked (keyOf s r.slot) (binDestination b) (assignBin o s)).garments = s.garments := by simp
  have link : (countPacked (keyOf s r.slot) (binDestination b) (assignBin o s)).link = s.link := by simp
  have exch : (countPacked (keyOf s r.slot) (binDestination b) (assignBin o s)).exch = s.exch := by simp
  have clock : (countPacked (keyOf s r.slot) (binDestination b) (assignBin o s)).clock = s.clock := by simp
  have lines : (countPacked (keyOf s r.slot) (binDestination b) (assignBin o s)).lines = (assignBin o s).lines := by simp
  generalize countPacked (keyOf s r.slot) (binDestination b) (assignBin o s) = x at *
  have out := packedOut ((garmentAt_congr garments g).trans hr) (free.congr link exch) r (binDestination b)
  rw [← whole] at out
  refine ⟨?_, ?_, out.gone, ?_, fun i hi same => ?_⟩
  · rw [out.pack]
    exact bins.trans assigned.bins
  · rw [out.pack]
    exact waiting.trans assigned.waiting
  · rw [out.now, Claims.shows, Claims.handed, clock]
    rfl
  · rw [out.bin, lineAt_congr lines]
    exact assigned.written i hi same

theorem firstPackTakesABin : Claims.FirstPackTakesABin := by
  intro s frame f e r o finds loose current good fed order unbinned
  obtain ⟨x, tabled, orders, run⟩ := packFinds_exec finds
  have hr : garmentAt s e.garment = some r := finds.2.2.1
  have record := (tabled.garmentAt e.garment).trans hr
  have key : o.key = keyOf s r.slot := key_of_orderAt order
  have xorder (k : Word) : orderAt x k = orderAt s k := by rw [orderAt, orders, ← orderAt]
  have found : orderAt x (keyOf x r.slot) = some o := by rw [tabled.keyOf, xorder, order]
  have present : orderAt x o.key = some o := by rw [xorder, key, order]
  have pack := tabled.pack orders
  rw [packGarment_of_good record good fed] at run
  have bins : x.pack.bins = s.pack.bins := by rw [pack]
  have waiting : x.pack.waiting = s.pack.waiting := by rw [pack]
  refine ⟨fun b free lowest => ?_, fun taken => ?_⟩
  · have lowestBin : freeBin x = some b := freeBin_of_lowest (by rw [bins]; exact free) (by rw [bins]; exact lowest)
    have assigned : BinAssigned o (.bin b) x (putBin b (some o.key) x) (assignBin o x) := by
      simp only [assignBin, lowestBin]
      exact binAssigned_changeBin (s := x) (w := putBin b (some o.key) x) present rfl rfl rfl rfl rfl _
    obtain ⟨tbins, twaiting, gone, now, written⟩ := packToOrder_of_assigned record tabled.free found unbinned assigned
    refine ⟨_, run, ?_, fun y hy => ?_, ?_, now.trans (tabled.shows _), gone, fun i hi same => written i hi (by rw [tabled.lineAt]; exact same)⟩
    · rw [tbins]
      exact Tbl.at_put_self ..
    · rw [tbins, ← bins]
      exact Tbl.at_put_ne _ _ hy.symm
    · rw [twaiting, ← waiting]
      rfl
  · have noBin : freeBin x = none := freeBin_of_taken (by rw [bins]; exact taken)
    have assigned : BinAssigned o .waiting x (putWaiting (x.pack.waiting ++ [o.key]) x) (assignBin o x) := by
      simp only [assignBin, noBin]
      exact binAssigned_changeBin (s := x) (w := putWaiting (x.pack.waiting ++ [o.key]) x) present rfl rfl rfl rfl rfl _
    obtain ⟨tbins, twaiting, gone, now, written⟩ := packToOrder_of_assigned record tabled.free found unbinned assigned
    refine ⟨_, run, ?_, ?_, now.trans (tabled.shows _), gone, fun i hi same => written i hi (by rw [tabled.lineAt]; exact same)⟩
    · rw [tbins, ← bins]
      rfl
    · rw [twaiting, ← waiting]
      rfl

/-! ## Refeed -/

/-- The record of a garment that goes back to the transfer list. -/
def refedRecord (r : Garment) : Garment :=
  { r with
    refeeds := r.refeeds + 1, place := .inTransfer, early := false, overdue := false, refeed := false
    verdict := none, beltEntry := none, beltExit := none, entryOdo := none }

/-- The garment at the transfer list's tail again. -/
def refed (g : Fin 32) (s : State) : State := refeedAppend g (countRefeed g s)

/-- A garment has joined the transfer list's tail again. -/
structure Refed (g : Fin 32) (r : Garment) (s t : State) : Prop where
  frame : t = { s with
    garments := t.garments, dryer := { s.dryer with transfer := s.dryer.transfer ++ [{ garment := g, entry := s.clock }] } }
  own : garmentAt t g = some (refedRecord r)
  others : ∀ h, h ≠ g → garmentAt t h = garmentAt s h

theorem refed_of_room {g : Fin 32} {r : Garment} {s : State} (hr : garmentAt s g = some r) (room : s.dryer.transfer.length < 4) :
    Refed g r s (refed g s) := by
  have first : countRefeed g s = putGarment g { r with refeeds := r.refeeds + 1 } s := changeGarment_of_some hr _
  have second : changeGarment g refedGarment (countRefeed g s) = putGarment g (refedGarment { r with refeeds := r.refeeds + 1 }) (countRefeed g s) :=
    changeGarment_of_some (by rw [first]; exact garmentAt_putGarment_self ..) _
  have appended : refed g s = putGarment g (refedRecord r)
      { changeGarment g refedGarment (countRefeed g s) with
        dryer := { s.dryer with transfer := s.dryer.transfer ++ [{ garment := g, entry := s.clock }] } } := by
    have dryer : (changeGarment g refedGarment (countRefeed g s)).dryer = s.dryer := by rw [second, first]; rfl
    have clock : (changeGarment g refedGarment (countRefeed g s)).clock = s.clock := by rw [second, first]; rfl
    rw [refed, refeedAppend, appendTransfer_of_room (by rw [dryer]; exact room), dryer, clock]
    exact changeGarment_of_some (r := refedGarment { r with refeeds := r.refeeds + 1 })
      (by rw [second]; exact garmentAt_putGarment_self ..) fun r => { r with place := .inTransfer }
  rw [appended, second, first]
  refine ⟨rfl, garmentAt_putGarment_self .., fun h hne => ?_⟩
  refine (garmentAt_putGarment ..).trans ((if_neg hne.symm).trans ?_)
  refine (garmentAt_putGarment ..).trans ((if_neg hne.symm).trans ?_)
  exact (garmentAt_putGarment ..).trans (if_neg hne.symm)

theorem transferRoom_countRefeed {g : Fin 32} {s : State} : transferRoom (countRefeed g s) = decide (s.dryer.transfer.length < 4) := by
  rw [transferRoom, show (countRefeed g s).dryer = s.dryer by simp]
  rfl

theorem packRefeed_of_room {g : Fin 32} {s : State} (room : s.dryer.transfer.length < 4) (r : Garment) :
    packRefeed g r s = raisePacked g .refeed (showPack .refeed (refed g s)) := by
  unfold packRefeed
  dsimp only
  rw [transferRoom_countRefeed, if_pos (decide_eq_true room)]
  rfl

theorem packRefeed_of_full {g : Fin 32} {s : State} (full : 4 ≤ s.dryer.transfer.length) (r : Garment) :
    packRefeed g r s = packOut g r .reject (failOp g .undercured (countRefeed g s)) := by
  unfold packRefeed
  dsimp only
  rw [transferRoom_countRefeed, if_neg (by rw [decide_eq_true_iff]; exact Nat.not_lt.mpr full)]

theorem keyOf_failOp (g : Fin 32) (code : FaultCode) (s : State) (i : Fin 128) : keyOf (failOp g code s) i = keyOf s i := by
  unfold failOp
  split
  · rfl
  · next r _ =>
    split
    · exact (keyOf_of_snap (congrArg LineEntry.snap (lineAt_congr (lines_failCounted g r code s) i))).trans (keyOf_failedState ..)
    · rfl

theorem PackedOut.mem {g : Fin 32} {r : Garment} {c : PackCode} {s t : State} (h : PackedOut g r c s t) (room : s.reports.fifo.length < 16) :
    { incident .packed with
      slot := some r.slot, garment := some g, serial := r.serial, key := keyOf s r.slot, detail := packCodeNum c
      value := r.dryerDose / 10000, time := s.clock } ∈ t.reports.fifo := by
  refine h.tells.mem ?_
  dsimp only
  rw [Claims.packedRaised, fifo_raised_of_room room]
  exact List.mem_append_right _ (List.mem_singleton_self _)

/-- A refeed that finds the transfer list full: the garment has failed with UNDERCURED and goes to REJECT. -/
structure RefeedRefused (g : Fin 32) (r : Garment) (s t : State) : Prop where
  gone : garmentAt t g = none
  now : (placeAt t .pack).now = Claims.shows 16 s
  dryer : t.dryer = s.dryer
  queue : t.pack.queue = s.pack.queue
  told : s.reports.fifo.length + 4 ≤ 16 →
    { incident .garmentFailed with
      slot := some r.slot, garment := some g, serial := r.serial, key := keyOf s r.slot, detail := 9, time := s.clock } ∈ t.reports.fifo ∧
    { incident .packed with
      slot := some r.slot, garment := some g, serial := r.serial, key := keyOf s r.slot, detail := 16
      value := r.dryerDose / 10000, time := s.clock } ∈ t.reports.fifo

theorem refeedRefused {g : Fin 32} {r : Garment} {s : State} (hr : garmentAt s g = some r) (free : DisplayFree s) (good : r.cond = .good)
    (full : 4 ≤ s.dryer.transfer.length) : RefeedRefused g r s (packRefeed g r s) := by
  have raised : countRefeed g s = putGarment g { r with refeeds := r.refeeds + 1 } s := changeGarment_of_some hr _
  have record : garmentAt (countRefeed g s) g = some { r with refeeds := r.refeeds + 1 } := by rw [raised]; exact garmentAt_putGarment_self ..
  have failed := failOp_of_counted (code := .undercured) record (counted_iff.mpr (.inl good))
  obtain ⟨r', hr', noticed⟩ := garmentAt_failCounted_self g { r with refeeds := r.refeeds + 1 } .undercured (countRefeed g s)
  have mem (room : s.reports.fifo.length + 1 < 16) :
      { incident .garmentFailed with
        slot := some r.slot, garment := some g, serial := r.serial, key := keyOf s r.slot, detail := 9, time := s.clock } ∈
        (failOp g .undercured (countRefeed g s)).reports.fifo := by
    have told := garmentFailed_mem (s := countRefeed g s) (by simpa using room) g { r with refeeds := r.refeeds + 1 } .undercured
    rw [← failed, raised] at told
    rw [raised]
    exact told
  rw [← failed] at hr'
  have tells := tells_failOp g .undercured (countRefeed g s)
  have reports : (countRefeed g s).reports = s.reports := by simp
  have clock : (failOp g .undercured (countRefeed g s)).clock = s.clock := by simp
  have key (i : Fin 128) : keyOf (failOp g .undercured (countRefeed g s)) i = keyOf s i := by
    rw [keyOf_failOp, raised]
    rfl
  have displayed : DisplayFree (failOp g .undercured (countRefeed g s)) :=
    (free.congr (t := countRefeed g s) (by simp) (by simp)).handed (handsUnits_failOp ..) (by simp)
  have dryer : (failOp g .undercured (countRefeed g s)).dryer = s.dryer := by simp
  have queue : (failOp g .undercured (countRefeed g s)).pack.queue = s.pack.queue := by simp
  rw [packRefeed_of_full full]
  have out := packedOut hr' displayed r .reject
  have packed := out.mem
  have length := tells.length
  rw [reports] at length
  generalize failOp g .undercured (countRefeed g s) = v at *
  generalize packOut g r .reject v = t at *
  refine ⟨out.gone, ?_, out.dryer.trans dryer, by rw [out.pack]; exact queue, fun room => ⟨?_, ?_⟩⟩
  · rw [out.now, Claims.shows, Claims.handed, clock]
    rfl
  · refine out.tells.mem ?_
    dsimp only
    rw [Claims.packedRaised, fifo_raised_of_room (by omega)]
    exact List.mem_append_left _ (mem (by omega))
  · have told := packed (by omega)
    rw [key, clock, noticed.rest] at told
    exact told

theorem refeedGoesBackToTheBelt : Claims.RefeedGoesBackToTheBelt := by
  intro s frame f e r finds good fed
  obtain ⟨x, tabled, orders, run⟩ := packFinds_exec finds
  have hr : garmentAt s e.garment = some r := finds.2.2.1
  have record := (tabled.garmentAt e.garment).trans hr
  have pack := tabled.pack orders
  have dryer : x.dryer = s.dryer := by rw [tabled.frame]
  rw [packGarment_of_refeed record good fed] at run
  refine ⟨fun room => ?_, fun full => ?_⟩
  · have xroom : x.dryer.transfer.length < 4 := by rw [dryer]; exact room
    have back := refed_of_room record xroom
    rw [packRefeed_of_room xroom] at run
    generalize refed e.garment x = w at back run
    have free : DisplayFree w := tabled.free.congr (by rw [back.frame]) (by rw [back.frame])
    have shown := packShown_of_some back.own free .refeed
    generalize raisePacked e.garment .refeed (showPack .refeed w) = t at shown run
    have treports : t.reports = Claims.packedRaised e.garment r 15 s := by
      rw [← tabled.packedRaised, shown.frame]
      have line : keyOf w r.slot = keyOf x r.slot := by rw [back.frame]; rfl
      have clock : w.clock = x.clock := by rw [back.frame]
      have reports : w.reports = x.reports := by rw [back.frame]
      change pushIncident w.reports _ = pushIncident x.reports _
      rw [reports, show keyOf w (refedRecord r).slot = keyOf x r.slot from line, clock]
      rfl
    have tpack : t.pack = { s.pack with queue := s.pack.queue.filter fun y => y.garment != e.garment } := by
      refine Eq.trans ?_ pack
      rw [shown.frame]
      dsimp only
      rw [back.frame]
    have tdryer : t.dryer = { s.dryer with transfer := s.dryer.transfer ++ [{ garment := e.garment, entry := s.clock }] } := by
      rw [shown.frame, ← dryer, ← tabled.clock]
      dsimp only
      rw [back.frame]
    have tgarments : t.garments = w.garments := by rw [shown.frame]
    refine ⟨t, run, ?_, tdryer, tpack, (garmentAt_congr tgarments _).trans back.own,
      fun h hne => (garmentAt_congr tgarments h).trans ((back.others h hne).trans (tabled.garmentAt h)), treports, ?_⟩
    · have first : t = { w with link := t.link, reports := t.reports } := by
        generalize hl : t.link = l, hm : t.reports = m
        rw [shown.frame] at hl hm ⊢
        rw [← hl, ← hm]
      have second : w = { x with garments := w.garments, dryer := w.dryer } := by
        generalize hg : w.garments = y, hd : w.dryer = d
        rw [back.frame] at hg hd ⊢
        rw [← hg, ← hd]
      have third : x = { s with link := x.link, pack := x.pack } := by
        generalize hl : x.link = l, hp : x.pack = p
        rw [tabled.frame] at hl hp ⊢
        rw [← hl, ← hp]
      have dryerSame : t.dryer = w.dryer := by rw [shown.frame]
      have packSame : t.pack = x.pack := by rw [shown.frame, back.frame]
      refine first.trans ?_
      rw [tgarments, dryerSame, packSame]
      generalize t.link = l, t.reports = m
      generalize hg : w.garments = y, hd : w.dryer = d at second
      rw [second]
      generalize hl : x.link = k, hp : x.pack = p at third
      rw [third]
    · rw [shown.now, ← tabled.shows, Claims.shows, Claims.handed, show w.clock = x.clock by rw [back.frame]]
      rfl
  · have out := refeedRefused record tabled.free good (by rw [dryer]; exact full)
    rw [← tabled.shows, ← tabled.keyOf, ← tabled.clock, ← tabled.reports, ← dryer]
    refine ⟨_, run, out.gone, out.dryer ▸ rfl, ?_, out.now, out.told⟩
    rw [out.queue, pack]
    rfl

end Sys2Proof.Machine
end

section
/-! PROOFS. Early picks: the exit procedure at the pack table, and what every destination keeps (R143, R132, R133). -/

namespace Sys2Proof.Machine

-- Elaborated all at once, the proofs of this text start more threads than the check's memory limit lets it.
set_option Elab.async false

/-! ## What every destination keeps -/

/-- The pack queue, every last exit dose, the incidents told and the dirty slots stay. -/
structure PackKept (s t : State) : Prop where
  queue : t.pack.queue = s.pack.queue
  dose : ∀ j, (lineAt t j).lastDose = (lineAt s j).lastDose
  tells : ∃ n, Tells n s t

theorem PackKept.of_same {s t : State} (pack : t.pack = s.pack) (lines : t.lines = s.lines) (reports : t.reports = s.reports) : PackKept s t :=
  ⟨by rw [pack], fun j => by rw [lineAt_congr lines], 0, .of_reports reports⟩

theorem PackKept.refl (s : State) : PackKept s s := .of_same rfl rfl rfl

theorem PackKept.trans {s t u : State} (h : PackKept s t) (k : PackKept t u) : PackKept s u := by
  obtain ⟨n, hn⟩ := h.tells
  obtain ⟨m, hm⟩ := k.tells
  exact ⟨k.queue.trans h.queue, fun j => (k.dose j).trans (h.dose j), n + m, hn.trans hm⟩

theorem packKept_raisePacked (g : Fin 32) (c : PackCode) (s : State) : PackKept s (raisePacked g c s) := by
  unfold raisePacked
  split
  · exact .refl s
  · exact ⟨by simp, fun j => congrArg LineEntry.lastDose (lineAt_congr (by simp) j), 1, tells_raise ..⟩

theorem packKept_packCounts (r : Garment) (c : PackCode) (s : State) : PackKept s (packCounts r c s) := by
  have counted := accounted_packCounts r c s
  refine ⟨?_, fun j => ?_, 1, counted.tells⟩
  · have pack := congrArg State.pack counted.frame
    dsimp only at pack
    rw [pack]
  · by_cases hj : j = r.slot
    · obtain ⟨st, rs, b, n, own⟩ := counted.own
      rw [hj, own]
    · rw [counted.others j hj]

theorem packKept_packTold (g : Fin 32) (r : Garment) (c : PackCode) (s : State) : PackKept s (packTold g r c s) := by
  have shown : PackKept s (showPack c s) := .of_same (by simp) (by simp) (by simp)
  exact (shown.trans (packKept_raisePacked ..)).trans (packKept_packCounts ..)

theorem packKept_packOut (g : Fin 32) (r : Garment) (c : PackCode) (s : State) : PackKept s (packOut g r c s) :=
  (packKept_packTold g r c s).trans ⟨by simp [packOut], fun j => (deleteGarment_kept g j _).2, 0, tells_deleteGarment ..⟩

theorem packKept_writeItemBin (b : OrderBin) (s : State) (i : OrderItem) : PackKept s (writeItemBin b s i) := by
  refine ⟨by simp, fun j => ?_, 0, tells_writeItemBin ..⟩
  rw [lineAt_writeItemBin]
  split <;> rfl

theorem packKept_writeItems (b : OrderBin) (l : List OrderItem) (s : State) : PackKept s (l.foldl (writeItemBin b) s) := by
  induction l generalizing s with
  | nil => exact .refl s
  | cons x xs ih => exact (packKept_writeItemBin b s x).trans (ih _)

theorem packKept_changeBin (o : Order) (b : OrderBin) (s : State) : PackKept s (changeBin o b s) :=
  PackKept.trans (t := putOrder { o with bin := b } s) ⟨rfl, fun _ => rfl, 0, .of_reports rfl⟩ (packKept_writeItems ..)

theorem packKept_ensureBin (key : Word) (s : State) : PackKept s (ensureBin key s) := by
  unfold ensureBin assignBin
  split
  · exact .refl s
  · next o _ =>
    split
    · split
      · next b _ => exact PackKept.trans (t := putBin b (some o.key) s) ⟨rfl, fun _ => rfl, 0, .of_reports rfl⟩ (packKept_changeBin ..)
      · exact PackKept.trans (t := putWaiting (s.pack.waiting ++ [o.key]) s) ⟨rfl, fun _ => rfl, 0, .of_reports rfl⟩ (packKept_changeBin ..)
    · exact .refl s

theorem packKept_countPacked (key : Word) (c : PackCode) (s : State) : PackKept s (countPacked key c s) :=
  ⟨(countPacked_kept key c s).2.2, fun j => congrArg LineEntry.lastDose (lineAt_congr (by simp) j), 0, .of_reports⟩

theorem dose_failOp (g : Fin 32) (code : FaultCode) (s : State) (j : Fin 128) :
    (lineAt (failOp g code s) j).lastDose = (lineAt s j).lastDose := by
  unfold failOp
  split
  · rfl
  · next r _ =>
    split
    · rw [lineAt_congr (lines_failCounted ..)]
      unfold failedState ifCurrent
      split
      · rw [lineAt_countFailed]
        split
        · next h =>
          rw [h]
          unfold Claims.countsSettled Claims.failureCounted
          dsimp only
          repeat' split
          all_goals rfl
        · rfl
      · rfl
    · rfl

theorem packKept_failOp (g : Fin 32) (code : FaultCode) (s : State) : PackKept s (failOp g code s) :=
  ⟨queue_failOp g code s, dose_failOp g code s, 2, tells_failOp g code s⟩

theorem packKept_packRefeed (g : Fin 32) (r : Garment) (s : State) : PackKept s (packRefeed g r s) := by
  have raised : PackKept s (countRefeed g s) := .of_same (by simp) (by simp) (by simp)
  unfold packRefeed
  dsimp only
  split
  · exact (raised.trans (.of_same (t := refeedAppend g (countRefeed g s)) (by simp) (by simp) (by simp))).trans (packKept_packTold ..)
  · exact (raised.trans (packKept_failOp ..)).trans (packKept_packOut ..)

theorem packKept_packGarment (g : Fin 32) (s : State) : PackKept s (packGarment g s) := by
  unfold packGarment
  split
  · exact .refl s
  · next r _ =>
    split
    · exact packKept_packOut ..
    · exact packKept_packOut ..
    · split
      · exact packKept_packRefeed ..
      · exact ((packKept_ensureBin ..).trans (packKept_countPacked ..)).trans (packKept_packOut ..)
    · exact packKept_packOut ..

/-! ## The exit procedure -/

theorem exitGarment_eq (e : BeltEntry) (g : Fin 32) (edge : Clock) (s : State) :
    exitGarment e g edge s = reportDose g (reachVerdict g (changeGarment g (withExit edge (exitsEarly s e)) s)) := rfl

theorem handsUnits_exitGarment (e : BeltEntry) (g : Fin 32) (edge : Clock) (s : State) : Hands ofUnits s (exitGarment e g edge s) := by
  have verdict (t : State) : Hands ofUnits t (reachVerdict g t) := by
    unfold reachVerdict failByRow
    split
    · exact .refl t
    · next r _ =>
      split
      · split
        · exact .of_link
        · exact (Hands.of_link (t := putGarment g (withVerdict (exitRow t r) r) t)).trans (handsUnits_failOp ..)
      · exact .of_link
      · exact .refl t
      · exact .refl t
  exact ((Hands.of_link (t := changeGarment g (withExit edge (exitsEarly s e)) s)).trans (verdict _)).trans (.of_link (t := reportDose g _))

theorem keyOf_reportDose (g : Fin 32) (s : State) (i : Fin 128) : keyOf (reportDose g s) i = keyOf s i := by
  unfold reportDose ifCurrent
  split
  · rfl
  · split
    · refine keyOf_of_snap ?_
      rw [setLastDose, lineAt_reportLine]
      split
      · next h => rw [h]
      · rfl
    · rfl

theorem keyOf_exitGarment (e : BeltEntry) (g : Fin 32) (edge : Clock) (s : State) (i : Fin 128) :
    keyOf (exitGarment e g edge s) i = keyOf s i := by
  have verdict (t : State) : keyOf (reachVerdict g t) i = keyOf t i := by
    unfold reachVerdict failByRow
    repeat' split
    all_goals first | rfl | exact keyOf_failOp ..
  rw [exitGarment_eq, keyOf_reportDose, verdict]
  exact keyOf_of_snap (congrArg LineEntry.snap (lineAt_congr (by simp) i))

theorem fifo_reportDose (g : Fin 32) (s : State) : (reportDose g s).reports.fifo = s.reports.fifo := by
  unfold reportDose ifCurrent
  repeat' split
  all_goals rfl

theorem tells_reportDose (g : Fin 32) (s : State) : Tells 0 s (reportDose g s) := by
  unfold reportDose
  split
  · exact .refl s
  · exact tells_ifCurrent (tells_reportLine ..)

theorem tells_exitGarment (e : BeltEntry) (g : Fin 32) (edge : Clock) (s : State) : Tells 2 s (exitGarment e g edge s) := by
  have verdict (t : State) : Tells 2 t (reachVerdict g t) := by
    unfold reachVerdict failByRow
    split
    · exact (Tells.refl t).mono (Nat.zero_le _)
    · next r _ =>
      have written : Tells 0 t (putGarment g (withVerdict (exitRow t r) r) t) := .of_reports (s := t) rfl
      split
      · split
        · exact written.mono (Nat.zero_le _)
        · exact written.trans (tells_failOp ..)
      · exact written.mono (Nat.zero_le _)
      · exact (Tells.refl t).mono (Nat.zero_le _)
      · exact (Tells.refl t).mono (Nat.zero_le _)
  exact ((Tells.of_reports (t := changeGarment g (withExit edge (exitsEarly s e)) s)).trans (verdict _)).trans (tells_reportDose ..)

/-- What a garment's exit makes of it that is GOOD before. -/
theorem exitGarment_of_good {e : BeltEntry} {g : Fin 32} {edge : Clock} {r : Garment} {s : State} (hr : garmentAt s g = some r)
    (good : r.cond = .good) :
    ∃ x, x.reports = s.reports ∧ x.pack = s.pack ∧ x.clock = s.clock ∧ (∀ i, keyOf x i = keyOf s i) ∧
      garmentAt x g = some (withVerdict (exitRow s r) (withExit edge (exitsEarly s e) r)) ∧
      exitGarment e g edge s = reportDose g (failByRow g (exitRow s r) x) := by
  have first := changeGarment_of_some hr (withExit edge (exitsEarly s e))
  have own : garmentAt (changeGarment g (withExit edge (exitsEarly s e)) s) g = some (withExit edge (exitsEarly s e) r) := by
    rw [garmentAt_changeGarment, if_pos rfl, hr]
    rfl
  have row : exitRow (changeGarment g (withExit edge (exitsEarly s e)) s) (withExit edge (exitsEarly s e) r) = exitRow s r := by
    rw [first]
    rfl
  refine ⟨putGarment g (withVerdict (exitRow s r) (withExit edge (exitsEarly s e) r)) (changeGarment g (withExit edge (exitsEarly s e)) s),
    by rw [first]; rfl, by rw [first]; rfl, by rw [first]; rfl, fun i => by rw [first]; rfl, garmentAt_putGarment_self .., ?_⟩
  have cond : (withExit edge (exitsEarly s e) r).cond = .good := good
  rw [exitGarment_eq, reachVerdict, own]
  dsimp only
  rw [cond, row]

/-- A garment that gets no fail request at its exit: nothing is told, and no order is touched. -/
theorem exitGarment_quiet {e : BeltEntry} {g : Fin 32} {edge : Clock} {r : Garment} {s : State} (hr : garmentAt s g = some r)
    (unfailed : r.cond = .good → rowFault (exitRow s r) = none) :
    (exitGarment e g edge s).reports.fifo = s.reports.fifo ∧ (exitGarment e g edge s).pack = s.pack := by
  have dosed (t : State) : (reportDose g t).pack = t.pack := by simp
  by_cases good : r.cond = .good
  · obtain ⟨x, reports, pack, -, -, -, whole⟩ := exitGarment_of_good (e := e) (edge := edge) hr good
    rw [failByRow, unfailed good] at whole
    rw [whole, fifo_reportDose, dosed, reports, pack]
    exact ⟨rfl, rfl⟩
  · have first := changeGarment_of_some hr (withExit edge (exitsEarly s e))
    have own : garmentAt (changeGarment g (withExit edge (exitsEarly s e)) s) g = some (withExit edge (exitsEarly s e) r) := by
      rw [garmentAt_changeGarment, if_pos rfl, hr]
      rfl
    have verdict : (reachVerdict g (changeGarment g (withExit edge (exitsEarly s e)) s)).reports = s.reports ∧
        (reachVerdict g (changeGarment g (withExit edge (exitsEarly s e)) s)).pack = s.pack := by
      rw [reachVerdict, own]
      dsimp only
      split
      · next h => exact absurd h good
      · rw [first]
        exact ⟨rfl, rfl⟩
      · rw [first]
        exact ⟨rfl, rfl⟩
      · rw [first]
        exact ⟨rfl, rfl⟩
    rw [exitGarment_eq, fifo_reportDose, dosed, verdict.1, verdict.2]
    exact ⟨rfl, rfl⟩

/-- The record of a GOOD garment that gets no fail request at its exit. -/
theorem garmentAt_exitGarment_of_passed {e : BeltEntry} {g : Fin 32} {edge : Clock} {r : Garment} {s : State} (hr : garmentAt s g = some r)
    (good : r.cond = .good) (passed : rowFault (exitRow s r) = none) :
    garmentAt (exitGarment e g edge s) g = some (withVerdict (exitRow s r) (withExit edge (exitsEarly s e) r)) := by
  obtain ⟨x, -, -, -, -, own, whole⟩ := exitGarment_of_good (e := e) (edge := edge) hr good
  rw [failByRow, passed] at whole
  rw [whole]
  exact (garmentAt_congr (by simp) g).trans own

/-- GARMENT_FAILED of a GOOD garment that fails at its exit. -/
theorem garmentFailed_mem_exit {e : BeltEntry} {g : Fin 32} {edge : Clock} {r : Garment} {s : State} {code : FaultCode}
    (hr : garmentAt s g = some r) (good : r.cond = .good) (failed : rowFault (exitRow s r) = some code) (room : s.reports.fifo.length + 1 < 16) :
    { incident .garmentFailed with
      slot := some r.slot, garment := some g, serial := r.serial, key := keyOf s r.slot, detail := faultCode code
      time := s.clock } ∈ (exitGarment e g edge s).reports.fifo := by
  obtain ⟨x, reports, -, clock, key, own, whole⟩ := exitGarment_of_good (e := e) (edge := edge) hr good
  rw [failByRow, failed] at whole
  have told := garmentFailed_mem (s := x) (by rw [reports]; exact room) g
    (withVerdict (exitRow s r) (withExit edge (exitsEarly s e) r)) code
  rw [whole, fifo_reportDose]
  dsimp only
  rw [failOp_of_counted own (counted_iff.mpr (.inl good)), ← key, ← clock]
  exact told

/-! ## The verdict of a GOOD garment -/

theorem verdictOf_of_passed {s : State} {r : Garment} (good : r.cond = .good) (passed : rowFault (exitRow s r) = none) :
    Claims.verdictOf s r = (rowVerdict (exitRow s r), exitRow s r == .refeed, .good, r.fault) := by
  rw [verdictOf_eq (by rw [good]; decide), rowOutcome, passed]
  dsimp only
  rw [good]

theorem verdictOf_of_failed {s : State} {r : Garment} {code : FaultCode} (good : r.cond = .good) (failed : rowFault (exitRow s r) = some code) :
    Claims.verdictOf s r = (rowVerdict (exitRow s r), false, .failed, some code) := by
  rw [verdictOf_eq (by rw [good]; decide), rowOutcome, failed]
  dsimp only
  rw [if_pos good]
  have other : (exitRow s r == .refeed) = false := by
    cases h : exitRow s r <;> first | rfl | (rw [h] at failed; cases failed)
  rw [other]

theorem verdictOf_of_voidPrinted {s : State} {r : Garment} (void : r.cond = .voidPrinted) : (Claims.verdictOf s r).2.2.1 = .voidPrinted := by
  rw [verdictOf_eq (by rw [void]; decide), rowOutcome]
  split
  · exact void
  · rw [if_neg (by rw [void]; decide)]
    exact void

end Sys2Proof.Machine
end

section
/-! PROOFS. Early picks at the pack table, and the scans of other shirts (R143, R144). -/

namespace Sys2Proof.Machine

-- Elaborated all at once, the proofs of this text start more threads than the check's memory limit lets it.
set_option Elab.async false

/-! ## The garment that is picked early -/

/-- An incident of the garment, at the line clock. -/
def garmentTold (g : Fin 32) (r : Garment) (s : State) (k : IncidentKind) (detail value : Nat) : Incident :=
  { incident k with
    slot := some r.slot, garment := some g, serial := r.serial, key := keyOf s r.slot, detail := detail, value := value
    time := s.clock }

/-- EARLY_PICK is told and the entry has left the belt queue. -/
def pickedUp (e : BeltEntry) (g : Fin 32) (s : State) : State :=
  putBelt (withoutEntry g (raiseEarlyPick e g s).dryer.belt) (raiseEarlyPick e g s)

theorem pickedUp_eq {e : BeltEntry} {g : Fin 32} {r : Garment} {s : State} (hr : garmentAt s g = some r) :
    pickedUp e g s =
      { s with
        dryer := { s.dryer with belt := s.dryer.belt.filter fun x => x.garment != some g }
        reports := Claims.raised
          { incident .earlyPick with
            slot := some r.slot, garment := some g, serial := r.serial, key := keyOf s r.slot, value := (s.dryer.odometer - e.odo).toNat } s } := by
  have told : raiseEarlyPick e g s =
      raise { garmentIncident .earlyPick g r s with value := travelled s e.odo } s := by
    simp only [raiseEarlyPick, hr]
  rw [pickedUp, told, raise_eq]
  rfl

theorem earlyPick_eq (e : BeltEntry) (g : Fin 32) (s : State) :
    earlyPick e g s = packGarment g (exitGarment e g s.clock (pickedUp e g s)) := rfl

/-- A scan finds its garment on the belt. -/
theorem packScan_exec_of_belt {s : State} {frame : List Byte} {f : TagFields} {before rest : List BeltEntry} {e : BeltEntry} {g : Fin 32}
    {r : Garment} (scan : Claims.packScan s frame f) (kind : f.kind = 0 ∨ f.kind = 1)
    (queue : ∀ x ∈ s.pack.queue, ∀ y : Garment, garmentAt s x.garment = some y → y.serial ≠ f.serial)
    (belt : s.dryer.belt = before ++ e :: rest) (hg : e.garment = some g) (hr : garmentAt s g = some r) (serial : r.serial = f.serial)
    (apart : ∀ x ∈ before, ∀ (h : Fin 32) (y : Garment), x.garment = some h → garmentAt s h = some y → y.serial ≠ f.serial) :
    ∃ u, ServiceFreed s u ∧ DisplayFree u ∧
      exec (.tryAccept frame) s = .next (packGarment g (exitGarment e g s.clock (pickedUp e g u))) := by
  obtain ⟨u, freed, free, run⟩ := packScan_exec scan
  refine ⟨u, freed, free, ?_⟩
  have away : packEntry u f.serial = none := by
    rw [freed.packEntry]
    exact packEntry_of_away queue
  have found : u.dryer.belt.find? (beltHas u f.serial) = some e := by
    rw [show u.dryer = s.dryer by rw [freed.frame]]
    refine List.find?_eq_some_iff_append.mpr ⟨?_, before, rest, belt, fun x hx => ?_⟩
    · rw [freed.beltHas, beltHas_of_garment hg]
      exact (hasSerial_iff ..).mpr ⟨r, hr, serial⟩
    · rw [freed.beltHas, beltHas_of_away fun h hh y hy => apart x hx h y hh hy]
      rfl
  rw [run, packScan_of_shirt kind]
  simp only [shirtScan, away, found, hg]
  rw [earlyPick_eq, freed.clock]

theorem tells_of_raised {s t : State} {i : Incident} (h : t.reports = Claims.raised i s) : Tells 1 s t :=
  (tells_raise i s).trans (.of_reports (by rw [h, raise_eq]; rfl))

/-- The garment at the pack table after its exit. -/
structure PickedEarly (e : BeltEntry) (g : Fin 32) (r : Garment) (s w : State) : Prop where
  free : DisplayFree w
  clock : w.clock = s.clock
  dryer : w.dryer = { s.dryer with belt := s.dryer.belt.filter fun x => x.garment != some g }
  queue : w.pack.queue = s.pack.queue
  key : ∀ i, keyOf w i = keyOf s i
  own : ∃ r', garmentAt w g = some r' ∧ (r'.verdict, r'.refeed, r'.cond, r'.fault) = Claims.verdictOf s r ∧
    r'.slot = r.slot ∧ r'.serial = r.serial ∧ r'.dryerDose = r.dryerDose
  told : s.reports.fifo.length < 16 → garmentTold g r s .earlyPick 0 (s.dryer.odometer - e.odo).toNat ∈ w.reports.fifo
  length : w.reports.fifo.length ≤ s.reports.fifo.length + 3
  dose : (lineAt s r.slot).take = r.stamp → (lineAt w r.slot).lastDose = r.dryerDose / 10000 ∧ Tbl.at w.reports.dirty r.slot = true
  quiet : (r.cond = .good → rowFault (exitRow s r) = none) →
    w.pack = s.pack ∧ w.reports.fifo.length ≤ s.reports.fifo.length + 1 ∧
    (s.reports.fifo.length < 16 →
      w.reports.fifo = s.reports.fifo ++ [garmentTold g r s .earlyPick 0 (s.dryer.odometer - e.odo).toNat])
  passed : r.cond = .good → rowFault (exitRow s r) = none →
    ∃ b, garmentAt w g = some (withVerdict (exitRow s r) (withExit s.clock b r))
  failed : ∀ code, r.cond = .good → rowFault (exitRow s r) = some code → s.reports.fifo.length + 2 < 16 →
    garmentTold g r s .garmentFailed (faultCode code) 0 ∈ w.reports.fifo

theorem pickedEarly {e : BeltEntry} {g : Fin 32} {r : Garment} {s u : State} (freed : ServiceFreed s u) (free : DisplayFree u)
    (hr : garmentAt s g = some r) : PickedEarly e g r s (exitGarment e g s.clock (pickedUp e g u)) := by
  have picked := pickedUp_eq (e := e) ((freed.garmentAt g).trans hr)
  rw [freed.keyOf, freed.raised, show u.dryer = s.dryer by rw [freed.frame]] at picked
  generalize pickedUp e g u = v at picked
  have record : garmentAt v g = some r := (garmentAt_congr (by rw [picked]) g).trans ((freed.garmentAt g).trans hr)
  have vfree : DisplayFree v := free.congr (by rw [picked]) (by rw [picked])
  have vclock : v.clock = s.clock := by rw [picked]; exact freed.clock
  have vdryer : v.dryer = { s.dryer with belt := s.dryer.belt.filter fun x => x.garment != some g } := by rw [picked]
  have vpack : v.pack = s.pack := by rw [picked]; exact freed.pack
  have vline (i : Fin 128) : lineAt v i = lineAt s i := (lineAt_congr (by rw [picked]) i).trans (freed.lineAt i)
  have vkey (i : Fin 128) : keyOf v i = keyOf s i := keyOf_of_snap (congrArg LineEntry.snap (vline i))
  have vverdict : Claims.verdictOf v r = Claims.verdictOf s r := by
    rw [picked, freed.frame]
    rfl
  have vrow : exitRow v r = exitRow s r := by
    rw [picked, freed.frame]
    rfl
  have vreports : v.reports = Claims.raised
      { incident .earlyPick with
        slot := some r.slot, garment := some g, serial := r.serial, key := keyOf s r.slot, value := (s.dryer.odometer - e.odo).toNat } s := by
    rw [picked]
  have vtells : Tells 1 s v := tells_of_raised vreports
  have vfifo (room : s.reports.fifo.length < 16) :
      v.reports.fifo = s.reports.fifo ++ [garmentTold g r s .earlyPick 0 (s.dryer.odometer - e.odo).toNat] := by
    rw [vreports, fifo_raised_of_room room]
    rfl
  clear picked
  have out := exited (e := e) (edge := s.clock) record
  have tells := tells_exitGarment e g s.clock v
  have key := keyOf_exitGarment e g s.clock v
  have wfree := vfree.handed (handsUnits_exitGarment e g s.clock v) (by simp)
  have queue := queue_exitGarment e g s.clock v
  have dryer : (exitGarment e g s.clock v).dryer = v.dryer := by simp
  have clock : (exitGarment e g s.clock v).clock = v.clock := by simp
  have quiet := exitGarment_quiet (e := e) (edge := s.clock) record
  have passed := garmentAt_exitGarment_of_passed (e := e) (edge := s.clock) record
  have failed (code : FaultCode) := garmentFailed_mem_exit (e := e) (edge := s.clock) (code := code) record
  obtain ⟨r', hr', outcome, same⟩ := out.own
  have dose := out.dose
  have vlength := vtells.length
  have wlength := tells.length
  generalize exitGarment e g s.clock v = w at *
  rw [vrow] at quiet passed failed
  rw [vkey, vclock] at failed
  rw [vline] at dose
  refine ⟨wfree, clock.trans vclock, dryer.trans vdryer, queue.trans (by rw [vpack]), fun i => (key i).trans (vkey i),
    ⟨r', hr', outcome.trans vverdict, ?_, ?_, ?_⟩, fun room => tells.mem ?_, by omega, dose, fun unfailed => ?_,
    fun good ok => ⟨_, passed good ok⟩, fun code good bad room => failed code good bad (by omega)⟩
  · rw [same]; rfl
  · rw [same]; rfl
  · rw [same]; rfl
  · rw [vfifo room]
    exact List.mem_append_right _ (List.mem_singleton_self _)
  · obtain ⟨fifo, pack⟩ := quiet unfailed
    rw [fifo, pack]
    exact ⟨vpack, vlength, vfifo⟩

/-! ## Where it goes -/

theorem fifo_packOut_reject {g : Fin 32} {r' : Garment} {s : State} (hr : garmentAt s g = some r') (free : DisplayFree s)
    (room : s.reports.fifo.length < 16) (r : Garment) :
    (packOut g r .reject s).reports.fifo =
      s.reports.fifo ++
        [{ incident .packed with
            slot := some r'.slot, garment := some g, serial := r'.serial, key := keyOf s r'.slot, detail := 16
            value := r'.dryerDose / 10000, time := s.clock }] := by
  rw [packOut, fifo_deleteGarment, packTold_reject, (packShown_of_some hr free .reject).frame]
  exact fifo_raised_of_room room _

/-- A garment picked early has gone to a destination. -/
structure Gone (g : Fin 32) (s t : State) (code : Nat) : Prop where
  record : garmentAt t g = none
  dryer : t.dryer = { s.dryer with belt := s.dryer.belt.filter fun x => x.garment != some g }
  now : (placeAt t .pack).now = Claims.shows code s

theorem PickedEarly.shows {e : BeltEntry} {g : Fin 32} {r : Garment} {s w : State} (h : PickedEarly e g r s w) (code : Nat) :
    Claims.shows code w = Claims.shows code s := by
  rw [Claims.shows, Claims.handed, h.clock]
  rfl

theorem PickedEarly.gone {e : BeltEntry} {g : Fin 32} {r r' : Garment} {s w t : State} {c : PackCode} (h : PickedEarly e g r s w)
    (out : PackedOut g r' c w t) : Gone g s t (packCodeNum c) :=
  ⟨out.gone, out.dryer.trans h.dryer, out.now.trans (h.shows _)⟩

/-- PACKED of a garment picked early. -/
theorem PickedEarly.packed {e : BeltEntry} {g : Fin 32} {r r' : Garment} {s w t : State} {c : PackCode} (h : PickedEarly e g r s w)
    (out : PackedOut g r' c w t) (slot : r'.slot = r.slot) (serial : r'.serial = r.serial) (dose : r'.dryerDose = r.dryerDose)
    (room : w.reports.fifo.length < 16) : garmentTold g r s .packed (packCodeNum c) (r.dryerDose / 10000) ∈ t.reports.fifo := by
  have told := out.mem room
  rw [h.key, h.clock, slot, serial, dose] at told
  exact told

theorem PickedEarly.cond {e : BeltEntry} {g : Fin 32} {r : Garment} {s w : State} (h : PickedEarly e g r s w) :
    ∃ r', garmentAt w g = some r' ∧ r'.cond = (Claims.verdictOf s r).2.2.1 ∧ r'.refeed = (Claims.verdictOf s r).2.1 ∧
      r'.slot = r.slot ∧ r'.serial = r.serial ∧ r'.dryerDose = r.dryerDose := by
  obtain ⟨r', hr', outcome, rest⟩ := h.own
  rw [← outcome]
  exact ⟨r', hr', rfl, rfl, rest⟩

/-- A garment FAILED at the pack table goes to REJECT. -/
theorem PickedEarly.rejected {e : BeltEntry} {g : Fin 32} {r : Garment} {s w : State} (h : PickedEarly e g r s w)
    (failed : (Claims.verdictOf s r).2.2.1 = .failed) :
    Gone g s (packGarment g w) 16 ∧
      (w.reports.fifo.length < 16 →
        (packGarment g w).reports.fifo = w.reports.fifo ++ [garmentTold g r s .packed 16 (r.dryerDose / 10000)]) := by
  obtain ⟨r', hr', cond, -, slot, serial, dose⟩ := h.cond
  rw [packGarment_of_failed hr' (cond.trans failed)]
  refine ⟨h.gone (packedOut hr' h.free r' .reject), fun room => ?_⟩
  have told := fifo_packOut_reject hr' h.free room r'
  rw [h.key, h.clock, slot, serial, dose] at told
  exact told

/-- A VOID_PRINTED garment goes to SPARE. -/
theorem PickedEarly.spared {e : BeltEntry} {g : Fin 32} {r : Garment} {s w : State} (h : PickedEarly e g r s w) (void : r.cond = .voidPrinted) :
    Gone g s (packGarment g w) 14 ∧
      (w.reports.fifo.length < 16 → garmentTold g r s .packed 14 (r.dryerDose / 10000) ∈ (packGarment g w).reports.fifo) := by
  obtain ⟨r', hr', cond, -, slot, serial, dose⟩ := h.cond
  rw [packGarment_of_voidPrinted hr' (cond.trans (verdictOf_of_voidPrinted void))]
  have out := packedOut hr' h.free r' .spare
  exact ⟨h.gone out, h.packed out slot serial dose⟩

/-- A GOOD garment that is not for refeed goes to its order's bin, or to OVERFLOW. -/
theorem PickedEarly.sorted {e : BeltEntry} {g : Fin 32} {r : Garment} {s w : State} {o : Order} (h : PickedEarly e g r s w)
    (good : (Claims.verdictOf s r).2.2.1 = .good) (kept : (Claims.verdictOf s r).2.1 = false) (pack : w.pack = s.pack)
    (order : orderAt s (keyOf s r.slot) = some o) (binned : o.bin ≠ .none) :
    Gone g s (packGarment g w) (packCodeNum (binDestination o.bin)) ∧
      (w.reports.fifo.length < 16 →
        garmentTold g r s .packed (packCodeNum (binDestination o.bin)) (r.dryerDose / 10000) ∈ (packGarment g w).reports.fifo) := by
  obtain ⟨r', hr', cond, refeed, slot, serial, dose⟩ := h.cond
  have found : orderAt w (keyOf w r'.slot) = some o := by
    rw [slot, h.key, orderAt_congr pack]
    exact order
  rw [packGarment_of_good hr' (cond.trans good) (refeed.trans kept), packToOrder_of_binned found binned]
  have out := packedOut (s := putOrder (packedOrder o) w) hr' (h.free.congr rfl rfl) r' (binDestination o.bin)
  refine ⟨⟨out.gone, out.dryer.trans h.dryer, out.now.trans (h.shows _)⟩, fun room => ?_⟩
  have told := out.mem room
  rw [show keyOf (putOrder (packedOrder o) w) r'.slot = keyOf s r'.slot from h.key _,
    show (putOrder (packedOrder o) w).clock = s.clock from h.clock, slot, serial, dose] at told
  exact told

/-- A garment for refeed with room in the transfer list. -/
theorem PickedEarly.backToBelt {e : BeltEntry} {g : Fin 32} {r : Garment} {s w : State} (h : PickedEarly e g r s w) (good : r.cond = .good)
    (passed : rowFault (exitRow s r) = none) (refeed : (exitRow s r == .refeed) = true) (room : s.dryer.transfer.length < 4) :
    garmentAt (packGarment g w) g = some (refedRecord r) ∧
      (packGarment g w).dryer =
        { s.dryer with
          belt := s.dryer.belt.filter fun x => x.garment != some g
          transfer := s.dryer.transfer ++ [{ garment := g, entry := s.clock }] } ∧
      (placeAt (packGarment g w) .pack).now = Claims.shows 15 s ∧
      (w.reports.fifo.length < 16 → garmentTold g r s .packed 15 (r.dryerDose / 10000) ∈ (packGarment g w).reports.fifo) := by
  obtain ⟨b, record⟩ := h.passed good passed
  have wroom : w.dryer.transfer.length < 4 := by rw [h.dryer]; exact room
  have back := refed_of_room record wroom
  rw [packGarment_of_refeed record good refeed, packRefeed_of_room wroom]
  generalize refed g w = x at back
  have shown := packShown_of_some back.own (h.free.congr (by rw [back.frame]) (by rw [back.frame])) .refeed
  generalize raisePacked g .refeed (showPack .refeed x) = t at shown
  have clock : x.clock = s.clock := by rw [back.frame]; exact h.clock
  have key : keyOf x r.slot = keyOf s r.slot := by rw [back.frame]; exact h.key _
  have reports : x.reports = w.reports := by rw [back.frame]
  refine ⟨(garmentAt_congr (by rw [shown.frame]) g).trans back.own, ?_, ?_, fun space => ?_⟩
  · rw [shown.frame]
    dsimp only
    rw [back.frame]
    dsimp only
    rw [h.dryer, h.clock]
  · rw [shown.now, Claims.shows, Claims.handed, clock]
    rfl
  · rw [shown.frame]
    dsimp only
    rw [Claims.packedRaised, fifo_raised_of_room (by rw [reports]; exact space), clock,
      show keyOf x (refedRecord (withVerdict (exitRow s r) (withExit s.clock b r))).slot = keyOf s r.slot from key]
    exact List.mem_append_right _ (List.mem_singleton_self _)

/-- A garment for refeed that finds the transfer list full goes to REJECT. -/
theorem PickedEarly.refused {e : BeltEntry} {g : Fin 32} {r : Garment} {s w : State} (h : PickedEarly e g r s w) (good : r.cond = .good)
    (passed : rowFault (exitRow s r) = none) (refeed : (exitRow s r == .refeed) = true) (full : 4 ≤ s.dryer.transfer.length) :
    Gone g s (packGarment g w) 16 := by
  obtain ⟨b, record⟩ := h.passed good passed
  rw [packGarment_of_refeed record good refeed]
  have out := refeedRefused record h.free good (by rw [h.dryer]; exact full)
  exact ⟨out.gone, out.dryer.trans h.dryer, out.now.trans (h.shows _)⟩

theorem rowFault_of_good {s : State} {r : Garment} (good : r.cond = .good) (passed : (Claims.verdictOf s r).2.2.1 = .good) :
    rowFault (exitRow s r) = none := by
  cases row : rowFault (exitRow s r) with
  | none => rfl
  | some code =>
    rw [verdictOf_of_failed good row] at passed
    cases passed

theorem refeed_of_verdict {s : State} {r : Garment} (good : r.cond = .good) (again : (Claims.verdictOf s r).2.1 = true) :
    rowFault (exitRow s r) = none ∧ (exitRow s r == .refeed) = true := by
  cases row : rowFault (exitRow s r) with
  | none =>
    rw [verdictOf_of_passed good row] at again
    exact ⟨rfl, again⟩
  | some code =>
    rw [verdictOf_of_failed good row] at again
    cases again

theorem earlyPackScans : Claims.EarlyPackScans := by
  intro s frame f before rest e g r scan kind queue belt hg hr serial apart v told gone
  obtain ⟨u, freed, free, run⟩ := packScan_exec_of_belt scan kind queue belt hg hr serial apart
  have picked := pickedEarly (e := e) freed free hr
  generalize exitGarment e g s.clock (pickedUp e g u) = w at run picked
  have kept := packKept_packGarment g w
  have clock : (packGarment g w).clock = s.clock := Eq.trans (b := w.clock) (by simp) picked.clock
  obtain ⟨n, tells⟩ := kept.tells
  have length := picked.length
  refine ⟨_, run, kept.queue.trans picked.queue, clock, fun room => tells.mem (picked.told room), fun current => ?_, fun failed => ?_,
    fun void => ?_, fun good => ⟨fun code bad hcode => ?_, fun passed cured fresh o order => ?_, fun again room => ?_, fun again full => ?_⟩⟩
  · obtain ⟨dose, dirty⟩ := picked.dose current
    exact ⟨(kept.dose _).trans dose, tells.dirty _ dirty⟩
  · obtain ⟨⟨record, dryer, now⟩, packed⟩ := picked.rejected (by rw [verdictOf_of_ended (.inl failed)]; exact failed)
    obtain ⟨-, most, fifo⟩ := picked.quiet fun h => by cases h.symm.trans failed
    refine ⟨⟨record, dryer, now⟩, fun room => ?_⟩
    rw [packed (by omega), fifo (by omega), List.append_assoc]
    rfl
  · obtain ⟨⟨record, dryer, now⟩, packed⟩ := picked.spared void
    obtain ⟨-, most, -⟩ := picked.quiet fun h => by cases h.symm.trans void
    exact ⟨⟨record, dryer, now⟩, fun room => packed (by omega)⟩
  · cases row : rowFault (exitRow s r) with
    | none =>
      have verdict : v = _ := verdictOf_of_passed good row
      rw [verdict] at bad
      cases bad
    | some other =>
      have verdict : v = _ := verdictOf_of_failed good row
      have same : other = code := by
        rw [verdict] at hcode
        exact Option.some.inj hcode
      subst same
      obtain ⟨⟨record, dryer, now⟩, packed⟩ := picked.rejected bad
      refine ⟨⟨record, dryer, now⟩, fun room => ⟨tells.mem (picked.failed other good row (by omega)), ?_⟩⟩
      rw [packed (by omega)]
      exact List.mem_append_right _ (List.mem_singleton_self _)
  · have row : rowFault (exitRow s r) = none := rowFault_of_good good passed
    obtain ⟨pack, most, -⟩ := picked.quiet fun _ => row
    refine ⟨fun b hb => ?_, fun hb => ?_⟩
    all_goals
      obtain ⟨⟨record, dryer, now⟩, packed⟩ := picked.sorted passed fresh pack order (by rw [hb]; exact fun h => by cases h)
      rw [hb] at now packed
      exact ⟨⟨record, dryer, now⟩, fun room => packed (by omega)⟩
  · obtain ⟨row, refeed⟩ := refeed_of_verdict good again
    obtain ⟨-, most, -⟩ := picked.quiet fun _ => row
    obtain ⟨record, dryer, now, packed⟩ := picked.backToBelt good row refeed room
    exact ⟨record, dryer, now, fun space => packed (by omega)⟩
  · obtain ⟨row, refeed⟩ := refeed_of_verdict good again
    obtain ⟨record, dryer, now⟩ := picked.refused good row refeed full
    exact ⟨record, dryer, now⟩

/-- Settles O56, by what a scan finds at the pack table, on the belt, or nowhere. -/
theorem packScansOfOtherShirts : Obligations.PackScansOfOtherShirts :=
  ⟨firstPackTakesABin, refeedGoesBackToTheBelt, otherPackScans, earlyPackScans⟩

end Sys2Proof.Machine
end

section
/-! PROOFS. The end of a home that a RUN request waits for starts the ticking, whose reads drop a sample asked of an absent FLASH (R112, R124, R125, R175). -/

namespace Sys2Proof.Machine

-- Elaborated all at once, the proofs of this text start more threads than the check's memory limit lets it.
set_option Elab.async false

/-! ## A home that ends with a flash sample in the read list

The acceptance of the pending request enters WARMING, which starts the ticking. The tick's reads join the read list behind the sample of FLASH, a role
with no address: that read completes LOST at once and clears the sample flag of a FLASH unit at which no garment arrives. -/

/-- Link settings in which INDEX_DRIVE alone has an address, DONE being bit 0 of its status and FAULT bit 1. -/
def driveAlone : LinkSettings :=
  { LinkSettings.blank with
    roles := Tbl.put (Tbl.all none) (roleNum .indexDrive) (some 10)
    maps :=
      Tbl.put LinkSettings.blank.maps (roleNum .indexDrive)
        { ready := noMap, done := { width := 1, pos := 0 }, fault := { width := 1, pos := 1 }, value := noMap } }

/-- The status of INDEX_DRIVE is asked for, as an attention. -/
def driveTry : OnLink :=
  { carrier := .attention, role := .indexDrive, addr := 10, kind := .getStatus, continued := false, word := 0, settings := driveAlone }

/-- The service of that attention. -/
def driveService : Service :=
  { line := 0, role := .indexDrive, addr := 10, settings := driveAlone, status := none, tries := 0, retryAt := none }

/-- In HOLD a home that a RUN request waits for is SETTLING, and a sample of FLASH, which has no address, stands in the read list. -/
def sampleAsked : State :=
  { State.reset with
    ctl := { State.reset.ctl with mode := .hold, request := .pendingHome }
    carousel := { State.reset.carousel with op := .settling true }
    flash := { State.reset.flash with sampling := true }
    dryer := { State.reset.dryer with reads := [.flash] }
    exch := { Exch.reset with attach := .attached, base := some 0x10000#64 }
    link :=
      { Link.reset with
        settings := some driveAlone
        modules := Tbl.all { state := .present, silences := 0, probe := none, probeReady := false }
        onLink := some driveTry
        service := some driveService } }

/-- The response of INDEX_DRIVE with DONE set. -/
def driveDone : List Byte := withCheck ([0x5A#8, 10#8, 0x22#8] ++ leBytes 4 1)

theorem statusDone_sampleAsked : Claims.statusDone sampleAsked driveDone .indexDrive :=
  ⟨driveTry, driveService, 1, rfl, rfl, by decide +kernel, rfl, rfl, rfl, by decide +kernel, by decide +kernel, by decide +kernel⟩

/-- The sample flag that an outcome leaves. -/
def sampleFlag : Host.Outcome State Fault Refusal → Option Bool
  | .next t => some t.flash.sampling
  | .fault _ => none
  | .refused _ => none

theorem sampleFlag_driveDone : sampleFlag (exec (.tryAccept driveDone) sampleAsked) = some false := by decide +kernel

theorem workAt_sampleAsked : Claims.workAt sampleAsked .flash = none := by decide +kernel

/-- Refutes O26: with no garment come to FLASH its unit is to stay as it is, but the end of the home clears the flag of the sample that it waits for. -/
theorem not_indexAndHomeEnd : ¬Obligations.IndexAndHomeEnd := by
  rintro ⟨-, -, -, -, arrivals⟩
  obtain ⟨t, run, -, -, -, -, -, -, flash, -⟩ := arrivals sampleAsked driveDone true statusDone_sampleAsked rfl
  have cleared := sampleFlag_driveDone
  rw [run] at cleared
  have kept : t.flash = sampleAsked.flash := by
    rw [flash, workAt_sampleAsked]
  have still : sampleFlag (.next t) = some true := by
    rw [sampleFlag, kept]
    rfl
  cases still.symm.trans cleared

end Sys2Proof.Machine
end
